-- ==== Sys2Proof/Word.lean ====
section
/-! DEFINITION. Word.lean: the byte type and byte strings. -/
namespace Sys2Proof

/-- One byte of a frame, a record or a memory. -/
abbrev Byte := BitVec 8

/-- A byte string, first byte first. -/
abbrev Bytes := List Byte

end Sys2Proof
end

