-- ==== Sys2Proof/Machine/Types.lean ====
section
/-! DEFINITION. Types.lean: the named alternatives of the specification (variants, roles, lane types, lane
states, causes, pilot states, control-pilot levels, pilot toggles) and the codes the specification gives them. -/
namespace Sys2Proof.Machine

/-- Ordering codes of R1. -/
inductive Variant where
  | fx | sx32 | sx16
deriving DecidableEq, Repr

/-- Roles of R10; codes of R63. -/
inductive Role where
  | pub | reader | operator | admin | metrology | service
deriving DecidableEq, Repr

/-- Lane types of R34. -/
inductive LaneType where
  | none | dcx | dcb | ac1 | ac3 | meter | paired
deriving DecidableEq, Repr

/-- Lane states of R83. -/
inductive LState where
  | offline | idle | plugged | identify | authorise | negotiate | isolationTest | precharge | energy | rampDown
  | openCheck | unlock | fault | degraded | suspended
deriving DecidableEq, Repr

/-- Measured pilot states of R106 as LN_STATE.PILOT codes them (R103), with missing diode apart from invalid. -/
inductive Pilot where
  | a | b | c | d | e | f | none | invalid | diode
deriving DecidableEq, Repr

/-- Control-pilot levels of R90. -/
inductive CpMode where
  | v0 | f | s12 | s5 | pwm
deriving DecidableEq, Repr

/-- Causes of R99. -/
inductive Cause where
  | none | vehicleStop | hostStop | credit | hostloss | authRefused | authTimeout | hlcTimeout | unplug | cable
  | lockFault | energyGuard | cablecheckTimeout | prechargeTimeout | ventilation | degradedExpiry | permitLost
  | suspendExpiry | disagree | stipple | hlcFailure
  | pilotFault | isolation | overcurrent | residual | overtemp | estop | guardOpen | xtrip | weld | dieFault | output
deriving DecidableEq, Repr

/-- Source classes of R21, in their order of priority. -/
inductive EvClass where
  | safety | metering | external | timer | host | diag
deriving DecidableEq, Repr

/-- R1: the variant code. -/
def Variant.code : Variant → Nat
  | .fx => 0x40 | .sx32 => 0x20 | .sx16 => 0x10

/-- R1: the number of lanes (slots present). -/
def Variant.lanes : Variant → Nat
  | .fx => 64 | .sx32 => 32 | .sx16 => 16

/-- R63: the role code. -/
def Role.code : Role → Nat
  | .pub => 0 | .reader => 1 | .operator => 2 | .admin => 3 | .metrology => 4 | .service => 5

/-- R63: the role of a code. -/
def Role.ofCode : Nat → Option Role
  | 0 => some .pub | 1 => some .reader | 2 => some .operator | 3 => some .admin | 4 => some .metrology
  | 5 => some .service | _ => none

/-- R34: the lane type code. -/
def LaneType.code : LaneType → Nat
  | .none => 0 | .dcx => 1 | .dcb => 2 | .ac1 => 3 | .ac3 => 4 | .meter => 5 | .paired => 6

/-- R34: the lane type of a code. -/
def LaneType.ofCode : Nat → Option LaneType
  | 0 => some .none | 1 => some .dcx | 2 => some .dcb | 3 => some .ac1 | 4 => some .ac3 | 5 => some .meter
  | 6 => some .paired | _ => Option.none

/-- DC lanes: types DCX and DCB (R34). -/
def LaneType.isDc : LaneType → Bool
  | .dcx | .dcb => true
  | .none | .ac1 | .ac3 | .meter | .paired => false

/-- AC lanes: types AC1 and AC3 (R34). -/
def LaneType.isAc : LaneType → Bool
  | .ac1 | .ac3 => true
  | .none | .dcx | .dcb | .meter | .paired => false

/-- Types 1-4: lanes that charge (R34). -/
def LaneType.charges (t : LaneType) : Bool := t.isDc || t.isAc

/-- Types 1-5 (R34). -/
def LaneType.isLane (t : LaneType) : Bool := t.charges || t == .meter

/-- R83: the state code. -/
def LState.code : LState → Nat
  | .offline => 0 | .idle => 1 | .plugged => 2 | .identify => 3 | .authorise => 4 | .negotiate => 5
  | .isolationTest => 6 | .precharge => 7 | .energy => 8 | .rampDown => 9 | .openCheck => 10 | .unlock => 11
  | .fault => 12 | .degraded => 13 | .suspended => 14

/-- R541: the place of a state in the order of the ranges; none for OFFLINE, IDLE and FAULT. -/
def LState.order : LState → Option Nat
  | .plugged => some 0 | .identify => some 1 | .authorise => some 2 | .negotiate => some 3
  | .isolationTest => some 4 | .precharge => some 5 | .energy => some 6 | .degraded => some 7
  | .suspended => some 8 | .rampDown => some 9 | .openCheck => some 10 | .unlock => some 11
  | .offline | .idle | .fault => none

/-- R541: whether a state lies in the range "X to Y". -/
def LState.between (x y s : LState) : Bool :=
  match x.order, y.order, s.order with
  | some a, some b, some k => a ≤ k && k ≤ b
  | _, _, _ => false

/-- R103: the code of LN_STATE.PILOT. -/
def Pilot.code : Pilot → Nat
  | .a => 0 | .b => 1 | .c => 2 | .d => 3 | .e => 4 | .f => 5 | .none => 6 | .invalid => 7 | .diode => 7

/-- R107: pilot faults: E, missing diode, invalid. -/
def Pilot.isFault : Pilot → Bool
  | .e | .invalid | .diode => true
  | .a | .b | .c | .d | .f | .none => false

/-- R99: the cause code. -/
def Cause.code : Cause → Nat
  | .none => 0 | .vehicleStop => 1 | .hostStop => 2 | .credit => 3 | .hostloss => 4 | .authRefused => 5
  | .authTimeout => 6 | .hlcTimeout => 7 | .unplug => 8 | .cable => 9 | .lockFault => 0xA | .energyGuard => 0xB
  | .cablecheckTimeout => 0xC | .prechargeTimeout => 0xD | .ventilation => 0xE | .degradedExpiry => 0xF
  | .permitLost => 0x10 | .suspendExpiry => 0x11 | .disagree => 0x12 | .stipple => 0x13 | .hlcFailure => 0x14
  | .pilotFault => 0x20 | .isolation => 0x21 | .overcurrent => 0x22 | .residual => 0x23 | .overtemp => 0x24
  | .estop => 0x25 | .guardOpen => 0x26 | .xtrip => 0x27 | .weld => 0x28 | .dieFault => 0x29 | .output => 0x2A

/-- R99: codes 0x20-0x3F are fault-class causes. -/
def Cause.isFaultClass (c : Cause) : Bool := decide (0x20 ≤ c.code)

/-- R99: the latching causes. -/
def Cause.latching : Cause → Bool
  | .overcurrent | .residual | .weld => true
  | .none | .vehicleStop | .hostStop | .credit | .hostloss | .authRefused | .authTimeout | .hlcTimeout | .unplug
  | .cable | .lockFault | .energyGuard | .cablecheckTimeout | .prechargeTimeout | .ventilation | .degradedExpiry
  | .permitLost | .suspendExpiry | .disagree | .stipple | .hlcFailure | .pilotFault | .isolation | .overtemp
  | .estop | .guardOpen | .xtrip | .dieFault | .output => false

/-- R254: the cause a COMPARATOR entry may carry. -/
def Cause.ofCompCode : Nat → Option Cause
  | 0x21 => some .isolation | 0x22 => some .overcurrent | 0x23 => some .residual | _ => Option.none

/-- R21: SOURCE[15:13] of a class. -/
def EvClass.code : EvClass → Nat
  | .safety => 0 | .metering => 1 | .external => 2 | .timer => 3 | .host => 4 | .diag => 5

/-- R542, R115: the V2G requests that reach a lane, with the values the module takes from them (0.1 V, 0.1 A, 100 W); the
requests of SUPPORTED_APP_PROTOCOL and CERTIFICATE_REQUEST have rows of their own. -/
inductive V2gReq where
  | sessionSetup
  | serviceDiscovery
  | serviceDetail
  /-- Payment or authorisation service selection of DIN SPEC 70121 and ISO 15118-2. -/
  | payment (pnc : Bool)
  /-- ServiceSelection of ISO 15118-20: service code of R128 and the control mode. -/
  | service (code : Nat) (dynamic : Bool)
  /-- PaymentDetails: the contract identifier and whether its chain verifies (R117). -/
  | paymentDetails (emaid : Bytes) (chainOk : Bool)
  | authorizationSetup
  /-- Authorization, with the contract it carries under ISO 15118-20 Plug and Charge. -/
  | authorization (contract : Option (Bytes × Bool))
  | chargeParameters (maxU maxI maxP disI disP : Nat)
  | scheduleExchange
  | cableCheck
  | preCharge (targetU : Nat)
  | powerStart
  | powerStop
  /-- The pause of ISO 15118-20 (R97). -/
  | powerStandby
  | currentDemand (targetI : Int) (maxU maxP disI disP targetP : Nat)
  /-- A protocol without a target current carries none (R156). -/
  | chargingStatus (targetI : Option Int) (maxP targetP : Nat)
  | weldingDetection
  | sessionStop
  /-- Any other request, or one that could not be decoded. -/
  | other
deriving DecidableEq, Repr

/-- R542: the code of a request. -/
def V2gReq.code : V2gReq → Nat
  | .sessionSetup => 2 | .serviceDiscovery => 3 | .serviceDetail => 4 | .payment _ => 5 | .service _ _ => 5
  | .paymentDetails _ _ => 6 | .authorizationSetup => 7 | .authorization _ => 8 | .chargeParameters _ _ _ _ _ => 11
  | .scheduleExchange => 12 | .cableCheck => 13 | .preCharge _ => 14 | .powerStart => 15 | .powerStop => 15
  | .powerStandby => 15 | .currentDemand _ _ _ _ _ _ => 16 | .chargingStatus _ _ _ => 17 | .weldingDetection => 18
  | .sessionStop => 19 | .other => 20

/-- R177, R186, R187: what the fit of a group's last eight chips gives at a chip boundary. -/
structure ChipFit where
  group : Nat
  /-- g_est in pS. -/
  gEst : Nat
  /-- c_est in nF. -/
  cNf : Nat
  /-- The driver read-back of the chip lies within ±5 %. -/
  driverOk : Bool
  /-- Lanes with a fluxgate and their g_n in pS. -/
  lanes : List (Nat × Nat)
  /-- Lane, foreign code and the correlated current in µA. -/
  foreign : List (Nat × Nat × Nat)
deriving DecidableEq, Repr

/-- R197, R207, R222: what a Tracer channel gives at one sample instant: the raw sample interpolated at its DELAY (after the
integrator on coil channels), whether the input is beyond full scale, whether the activity check over the sample passes (R204), and
on a voltage channel of an AC lane the corrected sample interpolated a quarter period earlier. -/
structure ChanIn where
  chan : Nat
  raw : Int := 0
  clip : Bool := false
  act : Bool := true
  lag : Int := 0
deriving DecidableEq, Repr

/-- R368: selective access to a profile: all of it, a range of capture times (legal seconds), or a range of entries from 1. -/
inductive CosemSel where
  | all
  | range (first last : Nat)
  | entry (first last : Nat)
deriving DecidableEq, Repr

/-- R366-R369: an attribute of a logical name a.b.c.d.e.255. -/
structure CosemRef where
  cls : Nat
  a : Nat
  b : Nat
  c : Nat
  d : Nat
  e : Nat
  attr : Nat
  sel : CosemSel := .all
deriving DecidableEq, Repr

/-- R372: a GET: a list of references whose reply may carry `room` bytes (0 without a limit), or the next block. -/
inductive GetReq where
  | refs (l : List CosemRef) (room : Nat)
  | next (room : Nat)
deriving DecidableEq, Repr

/-- A Kryuz frame as it arrives at the receiver (R395, R396, R407): what its demodulation gave, who sent it, and its body after
COUNTER. `tagOk` says whether the tag of R407 verifies under the hub key. -/
structure KzFrame where
  /-- DEST. -/
  dest : Nat
  /-- SRC. -/
  src : Nat
  /-- The sender's EUI-64. -/
  eui : Nat
  /-- COUNTER. -/
  counter : Nat
  /-- MODE of the payload. -/
  mode : Nat
  /-- SNR of the frame in 0.25 dB. -/
  snr : Nat
  /-- Payload symbols erased. -/
  erased : Nat
  /-- The header's CRC is good. -/
  hdrOk : Bool
  /-- The tag is good. -/
  tagOk : Bool
  /-- The body after COUNTER (R408). -/
  body : Bytes
deriving DecidableEq, Repr

/-- What the reader hears in a slot of a round or of an access to a tag (R421, R422, R426, R427). -/
inductive TagReply where
  /-- Nothing. -/
  | empty
  /-- Energy without a decodable RN16. -/
  | collision
  /-- A singulated tag's EPC, and whether its CRC-16 passes. -/
  | epc (epc : Bytes) (crcOk : Bool)
  /-- The handle a Req_RN asked for. -/
  | handle (h : Nat)
  /-- Success of a Write. -/
  | written
  /-- An error reply to a Write: 0 memory locked, 1 memory overrun, 2 insufficient power. -/
  | error (code : Nat)
  /-- The words of a Read. -/
  | words (data : List Nat)
deriving DecidableEq, Repr

/-- An error a memory's code finds (R445, R452, R454, R456): memory (0 work, 1 plate, 2 safety SRAM, 3 LPDDR-4X, 4 MRAM, 5 NOR), offset,
whether it is corrected, and, for the LPDDR-4X, its region: 0 lane fabric or host sessions, 1 credential index, 2 display frame memory,
3 other. -/
structure MemErr where
  mem : Nat
  offset : Nat
  corrected : Bool
  region : Nat
deriving DecidableEq, Repr

/-- A host frame as it arrives on a port (R58-R60): whether its MAGIC, VERSION, TYPE and LENGTH are good, its SESSION and COUNTER, its payload
(decrypted on HP0 and HP1), and whether its trailer is good. On HP2 the frames come from the inbound buffer instead (R61). -/
structure HostFrame where
  /-- The header's form is good. -/
  form : Bool := true
  /-- SESSION. -/
  sid : Nat := 0
  /-- COUNTER. -/
  counter : Nat := 0
  /-- The payload. -/
  payload : Bytes := []
  /-- The trailer is good. -/
  ok : Bool := true
deriving DecidableEq, Repr

/-- What a start-up phase finds (R521): phases 2 and 3, whether LOADER and the checks of MAIN's own pass, the LPDDR-4X and NOR; phase 4, the
register copies and vault nodes whose CRC fails, the calendar store and the safety parameter block; phase 5, the channels that fail their proof
cycle, those above 4.0 V in its off-state check, and the results of the panels' proof cycles. -/
structure BootRes where
  /-- LOADER passes its check (R479). -/
  ok : Bool := true
  /-- The LPDDR-4X is present, of a known size and trained (R451). -/
  dram : Bool := true
  /-- Its size code (R460). -/
  size : Nat := 1
  /-- The NOR is accepted (R454). -/
  nor : Bool := true
  /-- Register copies whose CRC-32 fails (R239): 0 A, 1 B. -/
  badCopies : List Nat := []
  /-- Vault nodes whose record fails its CRC (R387). -/
  badNodes : List Nat := []
  /-- The calendar store is good (R318). -/
  calendar : Bool := true
  /-- A copy of the safety parameter block is good (R269). -/
  block : Bool := true
  /-- Channels that fail their proof cycle (R289). -/
  badChans : List Nat := []
  /-- Channels above 4.0 V in the off-state check (R284). -/
  above : List Nat := []
  /-- Results of the panels' proof cycles (R441). -/
  panels : List Nat := []
deriving DecidableEq, Repr

end Sys2Proof.Machine
end

