-- ==== Sys2Proof/Syntax.lean ====
section
/-! DEFINITION. Syntax.lean: the commands of the module: one constructor per row of the opcode table, with the operands the
surroundings give it. `tk` is the ticket of an accepted request, `n` a lane, `stamp` the TIME at the source of an arrival. -/
namespace Sys2Proof
open Sys2Proof.Machine

/-- The commands of the YG6440 (one row of the table each). -/
inductive Instr where
  /-- R9: A write to a control-block register that has no row of its own is applied under the access codes and role
  rules. -/
  | registerWrite (role : Machine.Role) (addr v : Nat)
  /-- R20: The active sequencer admits a waiting event by class priority and gives it the next SEQ. -/
  | eventAdmit
  /-- R18: Each source domain realigns its TIME replica to the counter every 1 µs. -/
  | timeReplicaRealign
  /-- R19: Every 1 s the plate cores take a TIME and legal time anchor pair. -/
  | legalAnchor (drift : Int)
  /-- R26: The 200 ns hold after a lane timer expiry ends without an in-time arrival, and the lane acts on the
  timeout. -/
  | timeoutHoldEnd (n k : Nat) (carried : Bool)
  /-- R62: On a port without a session the module sends HELLO every 1 s. -/
  | hello (p : Nat)
  /-- R63: A host BIND frame arrives, and the module answers with CHALLENGE, BUSY or a lockout. -/
  | bind (p : Nat) (f : HostFrame)
  /-- R63: A host PROOF arrives, is verified, and the session binds or fails. -/
  | proof (p : Nat) (f : HostFrame)
  /-- R65: No PROOF arrives within 5 s of CHALLENGE, and the bind fails. -/
  | proofLate (p : Nat)
  /-- R65: The 60 s bind lockout of a port ends. -/
  | bindLockoutEnd (p : Nat)
  /-- R69: A REQUEST frame or part arrives and is checked for acceptance. -/
  | request (p : Nat) (f : HostFrame)
  /-- R69: The parts of a multi-part request are not all in within 1 s, and it is refused BAD_REQUEST. -/
  | requestPartsTimeout (p tag : Nat)
  /-- R67: A host KEEPALIVE carrying ACK_SEQ arrives. -/
  | keepalive (p : Nat) (f : HostFrame)
  /-- R67: The module sends KEEPALIVE after 1 s without other traffic. -/
  | keepaliveSend (p : Nat)
  /-- R67: No valid frame has come from a session for 3 s, and it is declared lost. -/
  | hostLost (p : Nat)
  /-- R67: A CLOSE frame ends a session. -/
  | close (p : Nat) (f : HostFrame)
  /-- R76: The module sends pending events to a session in an EVENTS frame. -/
  | events (p : Nat)
  /-- R76: No acknowledgement advances for 250 ms, and delivery resumes from ACK_SEQ + 1. -/
  | eventResend (p : Nat)
  /-- R74: Returns the status of a ticket. -/
  | ticketQuery (tk : Nat)
  /-- R77: Moves the session's delivery point back to FROM_SEQ. -/
  | eventReplay (tk : Nat)
  /-- R74: Sets the session's family and lane event filter. -/
  | eventFilter (tk : Nat)
  /-- R74: Reads 1 to 128 control-block registers. -/
  | regRead (tk : Nat)
  /-- R74: Writes 1 to 16 control-block registers under R9. -/
  | regWrite (tk : Nat)
  /-- R61: An HP2 transaction with command 0x0B reads registers. -/
  | hp2RegisterRead (addr clocked : Nat)
  /-- R61: An HP2 transaction with command 0x02 writes one register. -/
  | hp2RegisterWrite (addr v : Nat) (complete : Bool)
  /-- R61: An HP2 transaction with command 0x05 returns the status byte. -/
  | hp2Status
  /-- R61: An HP2 transaction with command 0x0A delivers one inbound frame. -/
  | hp2MessageWrite (b : Bytes)
  /-- R61: An HP2 transaction with command 0x0C takes the oldest outbound frame. -/
  | hp2MessageRead (clocked : Nat)
  /-- R47: Loads a whole matrix through the checks of R48. -/
  | matrixLoad (tk : Nat)
  /-- R51: Loads a lane delta through the checks of R48. -/
  | matrixLaneLoad (tk : Nat)
  /-- R48: Checks a matrix or delta without applying it. -/
  | matrixCheck (tk : Nat)
  /-- R47: Returns the active copy, GENERATION, BODY_HASH and sealed flag. -/
  | matrixInfo (tk : Nat)
  /-- R47: Applies the other stored copy as a whole load. -/
  | matrixRevert (tk : Nat)
  /-- R52: A load finishes writing and verifying the NOR copy and commits the active-copy pointer, and changed lanes
  are reconfigured. -/
  | matrixCommit (verified : Bool)
  /-- R107: A pilot plateau falls in a new band and the change is stamped. -/
  | pilotStateChange (n : Nat) (pos neg : Option Int)
  /-- R107: A pilot change holds for 1 ms, is confirmed and reaches the lane. -/
  | pilotConfirm (n : Nat)
  /-- R87: The 10 ms PLUG timer expires and confirms a pilot change for the lane. -/
  | plugExpiry (n : Nat)
  /-- R87: SETTLE expires in PLUGGED, and the lane goes to UNLOCK. -/
  | settleExpiry (n : Nat)
  /-- R87: HOST_AUTH expires in AUTHORISE, and this counts as a refusal. -/
  | hostAuthExpiry (n : Nat)
  /-- R89: GUARD_WAIT expires while the energy guard is false. -/
  | guardWaitExpiry (n : Nat)
  /-- R87: CABLE_CHECK expires in ISOLATION_TEST. -/
  | cableCheckExpiry (n : Nat)
  /-- R87: PRECHARGE expires, and the lane goes to OPEN_CHECK. -/
  | prechargeExpiry (n : Nat)
  /-- R91: RAMP expires, and the lane opens its contactors with RAMP_FORCED. -/
  | rampExpiry (n : Nat)
  /-- R139: WELD expires, the suspect is recorded and the lane enters FAULT. -/
  | weldExpiry (n : Nat)
  /-- R98: The DEGRADED timer expires and the lane ramps down. -/
  | degradedExpiry (n : Nat)
  /-- R87: SUSPEND expires, and the lane goes to OPEN_CHECK. -/
  | suspendExpiry (n : Nat)
  /-- R93: PREAUTH expires and the held credential is dropped. -/
  | preauthExpiry (n : Nat)
  /-- R141: A 300 ms lock or unlock pulse ends. -/
  | lockPulseExpiry (n : Nat) (carried : Bool)
  /-- R97: 3 s after SUSPENDED entry, an AC lane whose pilot stayed in C opens AC_MAIN. -/
  | suspendAcOpenTimer (n : Nat)
  /-- R89: A lane held by a false energy guard sees the guard turn true and proceeds. -/
  | energyGuardTrue (n : Nat)
  /-- R100: The exit conditions of FAULT are all met and the lane enters IDLE. -/
  | faultExit (n : Nat)
  /-- R543: All FAULT exit conditions except the pilot hold, and the lane drives S12 in place of F. -/
  | faultPilotRelease (n : Nat)
  /-- R101: Presents a host token to a lane. -/
  | laneStart (tk : Nat)
  /-- R101: Gives a lane a stop trigger. -/
  | laneStop (tk : Nat)
  /-- R95: The host's answer to an authorisation request. -/
  | laneAuthorise (tk : Nat)
  /-- R101: Sets the host suspension bit of a lane. -/
  | laneSuspend (tk : Nat)
  /-- R101: Clears the host suspension bit of a lane. -/
  | laneResume (tk : Nat)
  /-- R101: Clears the latching causes of a lane in FAULT. -/
  | laneClear (tk : Nat)
  /-- R101: Takes a lane to OFFLINE and clears ENABLE. -/
  | laneDisable (tk : Nat)
  /-- R101: Sets ENABLE and takes an OFFLINE lane to IDLE. -/
  | laneEnable (tk : Nat)
  /-- R101: Returns the four lane registers. -/
  | laneInfo (tk : Nat)
  /-- R105: A CP generator carries 11 mA or more for 100 ms and is folded back. -/
  | pilotFoldback (n : Nat)
  /-- R105: Once per second a folded-back pilot drives for 1 ms to test the line. -/
  | foldbackTest (n : Nat) (below10mA : Bool)
  /-- R109: A new pilot duty or level takes effect at a period boundary. -/
  | dutyChange (n : Nat)
  /-- R110: The Pilot die averages 8 readings over 4 ms and decodes the PP code. -/
  | ppMeasurement (n : Nat) (ohm : Option Nat)
  /-- R112: A changed PP code holds for 20 ms and takes effect. -/
  | ppCodeHold (n : Nat)
  /-- R121: A Green PHY preamble is detected and a demodulation engine is allocated or the frame is missed. -/
  | preambleDetected (die : Nat) (heard : List (Nat × Nat))
  /-- R122: A decoded frame ends and is delivered to the lane whose AVLN it belongs to. -/
  | hpavFrameReceived (e : Nat)
  /-- R123: A SLAC request opens a run and every candidate lane answers CNF. -/
  | cmSlacParmReq (id mac : Nat) (heard : List Nat)
  /-- R124: A vehicle starts the sounding of its run. -/
  | cmStartAttenCharInd (id : Nat)
  /-- R124: A sound arrives and its attenuation is measured on every lane. -/
  | cmMnbcSound (id : Nat) (att : List Nat)
  /-- R124: Sounding ends at the tenth sound or 600 ms and the run is decided. -/
  | soundingEnd (id : Nat)
  /-- R124: A vehicle validates the chosen lane by pilot toggle counting. -/
  | cmValidate (id n vehicle counted : Nat)
  /-- R124: The vehicle's match request creates the association on the lane. -/
  | cmSlacMatchReq (id n : Nat)
  /-- R126: A lane's association window ends without an association, giving an HLC timeout or AC fallback. -/
  | associationWindowEnd (n : Nat)
  /-- R126: The 3 s at S12 of an AC fallback ends and the lane continues as a basic lane. -/
  | acFallbackEnd (n : Nat)
  /-- R114: A vehicle's SECC discovery request is answered with the security it asks for. -/
  | seccDiscovery (n : Nat) (tls : Bool)
  /-- R114: The module chooses a protocol namespace or answers Failed_NoNegotiation. -/
  | supportedAppProtocol (n : Nat) (offers : List Nat)
  /-- R127: A vehicle opens a TLS handshake served with vault keys. -/
  | tlsHandshake (n version node : Nat) (failure : Option (Nat × Nat))
  /-- R115: A V2G request arrives and is answered according to the lane state. -/
  | v2gRequest (n stamp : Nat) (r : V2gReq)
  /-- R119: A CertificateInstallation or CertificateUpdate request arrives and is passed to the host. -/
  | certificateRequest (n kind : Nat) (exi : Bytes)
  /-- R119: No host answer comes within 4 s and the standard's failure code is sent. -/
  | certAnswerTimeout (ref : Nat)
  /-- R116: No SessionSetupReq comes within 20 s of CM_SLAC_MATCH.CNF. -/
  | communicationSetupTimeout (n : Nat)
  /-- R116: No next request comes within 60 s of a response. -/
  | sequenceTimeout (n : Nat)
  /-- R129: Returns the handshake registers of a lane. -/
  | hsLaneRead (tk : Nat)
  /-- R129: Clears a lane's handshake counters. -/
  | hsCountClear (tk : Nat)
  /-- R129: Returns the EXI certificate request of a reference. -/
  | hsCertFetch (tk : Nat)
  /-- R119: The host answers a certificate request. -/
  | hsCertAnswer (tk : Nat)
  /-- R134: A timed phase of the cable check ends and the next phase starts. -/
  | cableCheckPhaseEnd (n : Nat)
  /-- R134: The outlet stays below 20 V for 200 ms at the 2 A limit and the lane faults with ISOLATION. -/
  | outletShort (n : Nat)
  /-- R133: The voltage channels confirm a contactor closing. -/
  | contactorConfirmed (n : Nat)
  /-- R133: A contactor command is not confirmed within its limit and the lane faults with OUTPUT. -/
  | contactorConfirmTimeout (n : Nat)
  /-- R136: 20 ms after DCPOS confirmation, PRECHARGE opens and the power module goes to current mode. -/
  | prechargeOpenDelay (n : Nat)
  /-- R136: A held power-delivery request is not matched within 150 ms and is answered FAILED. -/
  | powerDeliveryHoldExpiry (n : Nat)
  /-- R137: 40 ms after OPEN_CHECK entry, DCNEG is commanded open. -/
  | dcnegOpenDelay (n : Nat)
  /-- R139: The outlet falls below 60 V and the weld check passes. -/
  | weldCheckPass (n : Nat)
  /-- R140: The unlock guard turns true and a pending unlock pulse is given. -/
  | unlockGuardTrue (n : Nat)
  /-- R141: 200 ms after a pulse end the lock or unlock is decided confirmed or not. -/
  | lockConfirmWindow (n : Nat)
  /-- R141: An unconfirmed lock is retried 1 s after the first pulse. -/
  | lockRetry (n : Nat)
  /-- R141: An unconfirmed unlock is retried every 30 s in UNLOCK. -/
  | unlockRetry (n : Nat)
  /-- R141: The lock feedback input opens during a session, and a further lock pulse is given. -/
  | lockFeedbackLost (n : Nat)
  /-- R144: The 100 ms hold at zero ends and the other direction ramps up. -/
  | directionHoldEnd (n : Nat)
  /-- R149: A lane sends its setpoint each PERIOD, or at once on a change. -/
  | setpointSend (n : Nat)
  /-- R148: A power-module feedback message arrives and is accepted or refused. -/
  | feedbackReceived (n : Nat) (b : Bytes)
  /-- R149: TIMEOUT passes without an accepted feedback. -/
  | feedbackTimeout (n : Nat)
  /-- R145: A bus-off controller recovers after 128 × 11 recessive bits. -/
  | canBusOffRecovery (k : Nat)
  /-- R153: A deferred PP_CANk setting takes effect once no lane using the controller is in ISOLATION_TEST to
  RAMP_DOWN. -/
  | ppCanApply (k : Nat)
  /-- R152: Returns the power-path registers of a lane. -/
  | ppLaneRead (tk : Nat)
  /-- R152: Clears a lane's power-path counters. -/
  | ppCountClear (tk : Nat)
  /-- R158: Every 100 ms the module allocates power to lanes within every budget. -/
  | allocationRound
  /-- R162: A GLIM level change that has held for 1 ms changes the module budget. -/
  | glimChange (k : Nat) (high : Bool) (stamp : Nat)
  /-- R164: RELEASE_S passes without a new lowering and the budget is raised. -/
  | releaseHoldEnd (src scope : Nat)
  /-- R162: A request curtailment reaches its end in legal time. -/
  | curtailExpiry (scope : Nat)
  /-- R165: An export dispatch reaches its duration and ends. -/
  | dispatchExpiry
  /-- R166: A lane's phase sector is measured within 200 ms of AC_MAIN confirmation. -/
  | phaseSectorMeasure (n edge : Nat)
  /-- R168: The hub master runs a hub round every 1 s and sends grants. -/
  | hubRound
  /-- R169: A hub member receives no grant for 3 s and takes FALLBACK_W. -/
  | grantLoss
  /-- R169: The master hears no report from a module for 3 s and treats it as absent. -/
  | moduleReportLoss (addr : Nat)
  /-- R170: Sets a group or module curtailment. -/
  | psCurtail (tk : Nat)
  /-- R170: Clears a curtailment, releasing it under R164. -/
  | psCurtailClear (tk : Nat)
  /-- R165: Sets an export dispatch of DCB lanes. -/
  | psDispatch (tk : Nat)
  /-- R170: Sets a host cap on a lane. -/
  | psLaneCap (tk : Nat)
  /-- R170: Sets the hub limit on the master. -/
  | psHubLimit (tk : Nat)
  /-- R170: Returns the sharing status and allocations. -/
  | psRead (tk : Nat)
  /-- R177: At each 40 ms chip boundary the safety cores fit every group's last eight chips and update states. -/
  | chipBoundary (fits : List ChipFit)
  /-- R183: No good group update comes within 480 ms of isolating a located lane, and the group reaction follows. -/
  | isolationVerifyDeadline (g : Nat)
  /-- R185: 10 s after a lane's contactors are confirmed open, its ISOLATION cause clears. -/
  | isolationCauseClear (n : Nat)
  /-- R187: A current-sense self-test of a group's injection driver starts when due. -/
  | currentSenseTest (g : Nat)
  /-- R187: The two-symbol current-sense test ends with pass or INVALID. -/
  | currentSenseTestEnd (g nA : Nat)
  /-- R192: The safety cores evaluate residual stages 0–3 every 1 ms and every mains period. -/
  | residualEval (n : Nat) (period : Bool) (mp m5 m200 : Int) (rms : Nat)
  /-- R190: A fluxgate fault is detected and acts as a residual trip or withdraws the lane estimate. -/
  | fluxgateFault (n : Nat)
  /-- R194: Returns a group's earth-fault registers. -/
  | efRead (tk : Nat)
  /-- R194: Runs a group's injection self-test. -/
  | efSelftest (tk : Nat)
  /-- R185: Ends the LOCKED state of a group. -/
  | efGroupClear (tk : Nat)
  /-- R194: Clears EF_COUNT. -/
  | efCountClear (tk : Nat)
  /-- R222: At each sample instant the corrected samples give power and energy per lane. -/
  | tracerSample (t : Nat) (xs : List ChanIn) (flux : List (Nat × Int))
  /-- R205: A modulator fails its activity check and the lane faults with DIE_FAULT. -/
  | activityCheckFail (c : Nat)
  /-- R204: Every 1 s each Tracer die compares its two references. -/
  | referenceCheck (k : Nat) (ok : Bool)
  /-- R205: A channel clipped for 10 ms stops delivering valid samples. -/
  | clipTimeout (c : Nat)
  /-- R205: A faulted channel delivers valid samples for 1 s and its fault clears. -/
  | channelFaultClear (c : Nat)
  /-- R203: A coil channel's integrator settles 5 s after its first sample or a calibration change. -/
  | coilSettled (c : Nat)
  /-- R206: Every 10 ms a PT1000 reading is taken and evaluated. -/
  | pt1000Reading (n ohm : Nat) (temp : Int)
  /-- R212: Every 100 ms the creep gate evaluates the lane's current. -/
  | creepGateEval (n : Nat)
  /-- R213: Test mode ends after 24 h. -/
  | testModeExpiry (n : Nat)
  /-- R214: A pulse input level holds for FILTER and a pulse is counted. -/
  | pulseLevelAccepted (i : Nat) (on : Bool) (stamp dur : Nat)
  /-- R218: Every 1 ms the plate cores take the count changes and enter each pulse. -/
  | pulseCollect
  /-- R218: Each second each input's pulse count is compared with MAX_RATE. -/
  | pulseRateCheck
  /-- R216: A NAMUR line break or short, or a VSWk supply below 9 V, faults a pulse input. -/
  | pulseInputFault (i kind : Nat)
  /-- R216: An input free of faults for 1 s clears its fault. -/
  | pulseFaultClear (i : Nat)
  /-- R530: An input in current limit for 100 ms folds its source back to 2 mA. -/
  | pulseFoldback (i : Nat)
  /-- R530: The ball stays above 6 V for 1 ms and the full source returns. -/
  | pulseFoldbackRestore (i : Nat)
  /-- R208: Writes calibration coefficients of a lane's channels. -/
  | mtCalWrite (tk : Nat)
  /-- R219: Returns a lane's calibration. -/
  | mtCalRead (tk : Nat)
  /-- R213: Starts or stops test mode on a lane. -/
  | mtTest (tk : Nat)
  /-- R219: Returns the test registers. -/
  | mtTestRead (tk : Nat)
  /-- R219: Returns MT_PLS of all inputs. -/
  | mtPulseRead (tk : Nat)
  /-- R219: Clears MT_COUNT. -/
  | mtCountClear (tk : Nat)
  /-- R230: Every 1 ms accumulators are mirrored to the standby side. -/
  | accumulatorMirror
  /-- R231: Every 100 ms accumulators and session state are committed to MRAM. -/
  | registerCommit
  /-- R238: PFW or a VMAIN trip starts the power-fail save. -/
  | powerFailWarning (low : Bool)
  /-- R238: Supplies are still valid 50 ms after the save and the module resets itself. -/
  | saveSelfReset
  /-- R513: A warning before restore clears for 100 ms and the module resets with POWER_FAIL. -/
  | powerFailClearWait
  /-- R235: Reverse flow on a non-bidirectional lane or channel is detected and latched. -/
  | reverseFlow (cust : Bool) (n : Nat)
  /-- R236: A current mismatch held for 10 s sets the BYPASS tamper bit. -/
  | bypass (n mis larger : Nat)
  /-- R236: V_NPE above 50 V for 1 s sets the MISSING_NEUTRAL bit. -/
  | missingNeutral (n vnpe vphase : Nat)
  /-- R236: TAMPER open for 50 ms sets COVER_OPEN. -/
  | coverOpen
  /-- R243: A closed session record is signed and stored, and SESSION_RECORD is raised. -/
  | sessionRecord
  /-- R245: Returns a lane's or channel's energy registers. -/
  | enRead (tk : Nat)
  /-- R245: Returns a session record. -/
  | enRecordRead (tk : Nat)
  /-- R245: Returns impressions from the ring. -/
  | enImpressionRead (tk : Nat)
  /-- R233: Sets a lane's cable resistance. -/
  | enCableWrite (tk : Nat)
  /-- R237: Clears latched tamper bits. -/
  | enTamperClear (tk : Nat)
  /-- R245: Takes impressions on request. -/
  | enImpress (tk : Nat)
  /-- R250: Every 1 ms the safety cores write the grant word to the Graver. -/
  | grantWord (ctr : Nat) (crcOk : Bool)
  /-- R250: No valid grant word is taken for 8 ms and every grant is withdrawn. -/
  | grantWatchdogExpiry
  /-- R251: VGRV rises and the Graver starts with permits low. -/
  | vgrvRise
  /-- R252: A Graver self-check fails and every permit and lane gate closes until reset. -/
  | graverSelfCheckFail
  /-- R270: The Graver reloads its part of the safety parameter block within 10 ms of a commit. -/
  | graverBlockReload
  /-- R256: An armed comparator threshold is crossed and its trip latch removes the group PERMIT. -/
  | comparatorCrossing (k edge : Nat) (sample : Int)
  /-- R256: The watched input stays in the watch window for 100 ms and the latch clears. -/
  | tripLatchClear (k : Nat)
  /-- R258: An emergency-stop, guard or external-trip input opens or asserts for 50 µs. -/
  | safetyInputOpen (i : Nat)
  /-- R258: A safety input closes or de-asserts for 10 ms. -/
  | safetyInputClose (i : Nat)
  /-- R259: The second channel of a pair does not follow within DISC_TIME and a dual-channel fault latches. -/
  | dualChannelFault (p : Nat)
  /-- R260: A Pilot die reports a confirmed pilot fault to the Graver, which closes the lane gate. -/
  | pilotFaultLine (n : Nat) (bad : Bool)
  /-- R262: Every 1 ms the safety cores compare each comparator's watch report with their samples. -/
  | watchComparison (k : Nat) (inside : Bool) (lo hi : Int)
  /-- R265: A scheduled stipple pulse is given on an output or PERMIT ball and read back. -/
  | stipplePulse (kind i mv : Nat)
  /-- R267: A suspect channel held off for 100 ms below threshold is cleared. -/
  | suspectClearHold (kind i : Nat)
  /-- R268: The guard held open or closed for 100 ms advances the guard test. -/
  | guardTestHold
  /-- R273: Returns the safety registers. -/
  | sfRead (tk : Nat)
  /-- R273: Returns safety parameters. -/
  | spRead (tk : Nat)
  /-- R270: Writes safety parameters atomically under the password. -/
  | spWrite (tk : Nat)
  /-- R271: Sets or replaces the block password. -/
  | spPasswordSet (tk : Nat)
  /-- R273: Returns change-log entries. -/
  | spLogRead (tk : Nat)
  /-- R271: The 300 s password lock ends. -/
  | passwordLockEnd
  /-- R271: The 300 s for the second half of a password replacement passes. -/
  | passwordReplaceWindowEnd
  /-- R279: A channel's inrush blanking window ends and deferred stipple pulses are placed. -/
  | blankingEnd (k : Nat)
  /-- R280: A channel in current limit for 5 ms outside blanking trips. -/
  | overloadTrip (k : Nat)
  /-- R280: A channel crosses its short threshold and trips. -/
  | shortTrip (k cur : Nat)
  /-- R282: A channel junction reaches shutdown and trips thermally. -/
  | thermalShutdown (k tj : Nat)
  /-- R282: RETRY_DELAY ends and the channel restarts if thermally allowed. -/
  | retryDelayEnd (k : Nat) (cool : Bool)
  /-- R282: A channel junction falls below the restart threshold and a pending restart proceeds. -/
  | thermalRestart (k : Nat)
  /-- R282: A channel that conducts 10 s without a trip returns USED to 0. -/
  | usedReset (k : Nat)
  /-- R281: Every 100 µs a switch die sums its currents and lowers or restores limits. -/
  | dieLimiterTick (d : Nat) (cur tj : List Nat) (lim vsw : Nat)
  /-- R281: A channel held at a lowered limit for 50 ms trips with overload. -/
  | loweredLimitTrip (k : Nat)
  /-- R284: An open-load or short-to-supply condition holds 10 ms and is reported. -/
  | openLoadCheck (k cur : Nat) (high : Bool)
  /-- R284: Every 100 ms an off channel with OFF_DIAG gets its 1 ms test current. -/
  | offStateTest (k : Nat) (above : Bool)
  /-- R285: A turn-off below −20 V counts as a clamp event, and three in 60 s trip the channel. -/
  | clampEvent (k : Nat)
  /-- R287: VSWk below 8.0 V for 1 ms switches every channel of the die off. -/
  | vswUndervoltage (d vsw : Nat)
  /-- R287: VSWk above 8.5 V for 10 ms returns channels to their commanded state. -/
  | vswRestored (d vsw : Nat)
  /-- R288: VSWk rises and every channel of the die starts off and unlatched. -/
  | vswRise (d vsw : Nat)
  /-- R290: Switches a GENERAL channel on or off. -/
  | poSet (tk : Nat)
  /-- R290: Clears channel latches and USED and runs proof cycles. -/
  | poClear (tk : Nat) (bad above : List Nat)
  /-- R290: Runs proof cycles on request. -/
  | poProof (tk : Nat) (bad above : List Nat)
  /-- R290: Returns the channel registers of a switch die. -/
  | poRead (tk : Nat)
  /-- R294: Every 1 ms the active side sends a heartbeat on both paths. -/
  | heartbeat (a b : Bool)
  /-- R294: 3 ms without a heartbeat makes the standby declare the active side failed. -/
  | heartbeatLoss
  /-- R295: A side reports one of its own faults. -/
  | sideFaultReport (side kind mem offset : Nat)
  /-- R294: A heartbeat is lost on one path only. -/
  | linkFault (path : Nat)
  /-- R293: A side finds the latch naming the other side, stops writing and restarts as standby. -/
  | holderLatchLost (refused : Nat)
  /-- R298: 10 ms after take-over the failed side is released to boot as standby. -/
  | failedSideRelease
  /-- R300: The standby completes its mirror and becomes synchronised. -/
  | standbySynchronised
  /-- R303: CP_INTERVAL passes and a counterproof swap falls due. -/
  | counterproofDue
  /-- R303: A due swap not taken within 600 s is postponed by 1 h. -/
  | swapPostpone
  /-- R304: The preferred side has stayed synchronised for the revert delay. -/
  | revertDelayEnd
  /-- R301: A waiting planned swap finds its conditions met and starts its drain. -/
  | swapConditionsMet
  /-- R301: The wait of up to 60 s for protected tickets ends. -/
  | protectedTicketWaitEnd
  /-- R301: The drain completes and the holder latch is handed over. -/
  | drainEnd
  /-- R306: Returns the redundancy registers. -/
  | rdRead (tk : Nat)
  /-- R306: Requests a planned swap. -/
  | rdSwap (tk : Nat)
  /-- R306: An RD_SWAP not begun within 10 s completes TIMEOUT. -/
  | rdSwapTimeout
  /-- R306: Restarts the standby side. -/
  | rdStandbyRestart (tk : Nat)
  /-- R306: Releases a held side. -/
  | rdRelease (tk : Nat)
  /-- R316: A demand lattice boundary closes the interval and takes impressions. -/
  | demandClose
  /-- R314: A switch point changes the rate in force and takes impressions. -/
  | tariffSwitch
  /-- R317: The billing period closes with impressions, rate blocks and history. -/
  | billingPeriodClose
  /-- R320: The passive calendar becomes active at its activation instant. -/
  | calendarActivation
  /-- R327: A 60 s slew of legal time ends. -/
  | slewEnd
  /-- R319: Loads a passive calendar table. -/
  | calLoad (tk : Nat)
  /-- R333: Drops the passive table. -/
  | calCancel (tk : Nat)
  /-- R333: Returns the active or passive table. -/
  | calRead (tk : Nat)
  /-- R326: Corrects legal time. -/
  | tmSet (tk : Nat)
  /-- R333: Returns legal time and TIME. -/
  | tmRead (tk : Nat)
  /-- R333: Returns a period history entry. -/
  | blHistoryRead (tk : Nat)
  /-- R333: Returns the rate registers. -/
  | blRateRead (tk : Nat)
  /-- R347: Every 100 ms prepaid sessions are checked for low and exhausted credit. -/
  | creditCheck
  /-- R346: Every 1 s the cell is debited by the whole credit units accrued. -/
  | accountDebit
  /-- R349: A span of friendly time begins. -/
  | friendlyStart
  /-- R350: A span of friendly time ends and deferred credit actions are taken. -/
  | friendlyEnd
  /-- R343: A passive price table becomes active at its instant. -/
  | priceActivation
  /-- R354: A bulk load finishes staging and commits the new store generation. -/
  | bulkCommit
  /-- R354: The copy of staged cells into the account region finishes. -/
  | bulkApplyEnd
  /-- R353: Loads accounts and credentials from a transfer. -/
  | acBulkLoad (tk : Nat)
  /-- R352: Replaces the fields of one cell. -/
  | acCellWrite (tk : Nat)
  /-- R356: Returns a cell. -/
  | acCellRead (tk : Nat)
  /-- R351: Adds a signed amount to a cell's balance. -/
  | acCredit (tk : Nat)
  /-- R352: Adds, replaces, blocks or removes a credential entry. -/
  | acCredWrite (tk : Nat)
  /-- R355: Returns the identifier of a credential reference where allowed. -/
  | acCredFetch (tk : Nat)
  /-- R341: Sets an account class's parameters. -/
  | acClassWrite (tk : Nat)
  /-- R343: Loads a passive price table. -/
  | acPriceLoad (tk : Nat)
  /-- R349: Writes friendly windows and special days. -/
  | acFriendlyWrite (tk : Nat)
  /-- R356: Returns account store status. -/
  | acStatus (tk : Nat)
  /-- R357: Binds a custody channel to a cell. -/
  | acCustodyBind (tk : Nat)
  /-- R360: An SNRM sets up the HDLC link on MP. -/
  | hdlcSnrm (info : Nat)
  /-- R360: The HDLC link is released after 120 s without a valid frame. -/
  | hdlcLinkTimeout
  /-- R362: A COSEM association request is authenticated and accepted or rejected. -/
  | aarq (transport client sap mech prot : Nat) (authOk : Bool)
  /-- R372: A COSEM GET returns coherent values. -/
  | get (transport client ctr : Nat) (ok : Bool) (req : GetReq)
  /-- R373: A COSEM SET, accepted only on the clock time attribute. -/
  | set (transport client ctr : Nat) (ok signed : Bool) (r : CosemRef) (value : Nat)
  /-- R373: A COSEM ACTION, accepted only as shift_time. -/
  | action (transport client ctr : Nat) (ok signed : Bool) (r : CosemRef) (value : Int)
  /-- R375: A client releases its association. -/
  | releaseRequest (transport client : Nat)
  /-- R361: An association without an APDU for 120 s is released. -/
  | associationInactivity (transport client : Nat)
  /-- R364: The 60 s COSEM lockout on a transport ends. -/
  | cosemLockoutEnd
  /-- R388: Creates a vault node. -/
  | kvNodeCreate (tk : Nat)
  /-- R381: Raises a node's GEN and orphans its descendants. -/
  | kvNodeInvalidate (tk : Nat)
  /-- R381: Renews an orphaned node. -/
  | kvNodeRenew (tk : Nat)
  /-- R388: Deletes a childless node. -/
  | kvNodeDelete (tk : Nat)
  /-- R388: Returns a node record and public key. -/
  | kvNodeRead (tk : Nat)
  /-- R384: Returns a certificate request for a node. -/
  | kvCsr (tk : Nat)
  /-- R384: Stores a certificate chain against a node. -/
  | kvCertStore (tk : Nat)
  /-- R388: Returns a node's chain. -/
  | kvCertRead (tk : Nat)
  /-- R385: Writes an anchor slot. -/
  | kvAnchorSet (tk : Nat)
  /-- R383: One half of the dual root retirement. -/
  | kvRootRetire (tk : Nat)
  /-- R383: 300 s pass without the second half of a root retirement. -/
  | rootRetireWindowEnd
  /-- R388: Signs a digest with a HOST_USE node. -/
  | kvSign (tk : Nat)
  /-- R388: Stores a wrapped object under an AES_GCM node. -/
  | kvObjectStore (tk : Nat)
  /-- R380: The DRBG is reseeded every 1 s. -/
  | drbgReseed
  /-- R380: An entropy health test runs, and failure or recovery changes RNG_FAIL. -/
  | healthTest (test : Nat) (pass : Bool)
  /-- R386: Every 1 s the vault SRAM mask is rotated. -/
  | maskRotation (late : Bool)
  /-- R400: The master sends a BEACON every 200 ms. -/
  | beaconSend
  /-- R400: A received beacon gives time, phase reference and master election input. -/
  | beacon (f : KzFrame)
  /-- R401: 1 s without a beacon starts the election listening period. -/
  | beaconLoss
  /-- R401: A module that hears no beacon while listening starts beaconing as master. -/
  | masterListenEnd
  /-- R398: An ACK frame acknowledges a unicast frame. -/
  | ack (fsn : Nat)
  /-- R398: No acknowledgement comes within 14.6 ms, and the frame is retried or fails. -/
  | ackTimeout (fsn : Nat)
  /-- R402: The master receives a join request and assigns an address. -/
  | joinReq (f : KzFrame)
  /-- R402: A node receives its join confirmation. -/
  | joinCnf (f : KzFrame)
  /-- R402: The 60 s wait after a key-failure refusal ends. -/
  | joinRetryWaitEnd
  /-- R403: The master receives a node's PRESENCE. -/
  | presence (f : KzFrame)
  /-- R403: A node sends PRESENCE after 10 s without a frame. -/
  | presenceSend
  /-- R403: The master declares a node departed after 30 s without a frame. -/
  | nodeDeparture (eui : Nat)
  /-- R404: A BIND frame binds a node as post head or power cabinet. -/
  | kryuzBind (k : Nat)
  /-- R408: A FEEDBACK frame carries power-module feedbacks for a group. -/
  | kryuzFeedback (f : KzFrame)
  /-- R168: Each module sends its SHARE_REPORT every 1 s. -/
  | shareReportSend
  /-- R168: The master receives a module's share report. -/
  | shareReport (f : KzFrame)
  /-- R168: A module receives the master's GRANT and applies its grant. -/
  | grant (f : KzFrame)
  /-- R404: A post head's card read arrives and is presented to its lanes. -/
  | card (f : KzFrame)
  /-- R406: The wake logic detects a Kryuz wake preamble. -/
  | wakePreamble (ua : Nat)
  /-- R409: Every 10 s the busy fraction of the medium is measured. -/
  | kryuzLoadMeasure (busy own : Nat)
  /-- R410: A target opens a transfer announced by the master. -/
  | distAnnounce (f : KzFrame)
  /-- R410: A target receives a segment of a distributed fragment. -/
  | distSegment (f : KzFrame)
  /-- R410: A target answers a master poll with DIST_STATUS. -/
  | distPoll (f : KzFrame)
  /-- R410: The master receives a target's fragment status. -/
  | distStatus (f : KzFrame)
  /-- R410: A distribution pass ends and the next pass or completion follows. -/
  | distPassEnd
  /-- R412: Returns the Kryuz registers. -/
  | kzRead (tk : Nat)
  /-- R412: Returns node table entries. -/
  | kzNodeRead (tk : Nat)
  /-- R404: Binds a post head or power cabinet. -/
  | kzPeerBind (tk : Nat)
  /-- R406: Sends a wake preamble. -/
  | kzWake (tk : Nat)
  /-- R410: Distributes a transfer to target modules. -/
  | kzDistribute (tk : Nat)
  /-- R412: Clears the Kryuz counters. -/
  | kzCountClear (tk : Nat)
  /-- R421: A tag reply in an inventory slot is acknowledged or counted as a collision. -/
  | tagReply (r : TagReply) (rssi fwd refl : Int)
  /-- R423: A 40 ms dwell ends and the distinct EPCs decide the presentation. -/
  | tagDwellEnd
  /-- R420: The 2 ms carrier-off gap ends and the next dwell starts. -/
  | carrierOffEnd
  /-- R416: A transceiver port fault is detected. -/
  | tagPortFault (kind : Nat)
  /-- R416: A faulty port is read again after 60 s. -/
  | portFaultEnd (p : Nat)
  /-- R426: The 20 ms Write reply window ends without a reply and the word is unknown. -/
  | writeReplyWindow
  /-- R428: Inventories a port. -/
  | tgInventory (tk : Nat)
  /-- R424: Writes words to a named tag with verification. -/
  | tgWrite (tk : Nat)
  /-- R428: Returns the tag registers. -/
  | tgRead (tk : Nat)
  /-- R428: Clears the tag counters. -/
  | tgCountClear (tk : Nat)
  /-- R432: Every 11.765 ms the engine scans the panels with rectangles in flight. -/
  | displayFrame (results : List Nat)
  /-- R433: 100 ms after the last rectangle the rails are lowered. -/
  | railOffDelay
  /-- R435: Each panel temperature is read every 1 s. -/
  | ntcRead (p : Nat) (temp : Option Int)
  /-- R437: A lane's legal field is re-rendered when a shown value changes, at most once per 1 s. -/
  | legalFieldRedraw (n : Nat)
  /-- R440: Every 10 s the legal-field frame memory CRC is checked. -/
  | frameCrcCheck (p found : Nat)
  /-- R436: Draws a rectangle on a panel. -/
  | dsDraw (tk : Nat)
  /-- R434: Replaces the waveform table. -/
  | dsWaveLoad (tk : Nat)
  /-- R441: Runs a proof cycle of panels. -/
  | dsProof (tk : Nat) (results : List Nat)
  /-- R442: Returns the display registers. -/
  | dsRead (tk : Nat)
  /-- R448: Every 1 ms a burnish engine tests the next SRAM region. -/
  | burnishRegion (side mem : Nat) (errs : List MemErr) (late : Bool) (fail : Option Nat) (waits : List Nat)
  /-- R452: Affected credential index buckets finish rebuilding from NOR. -/
  | credentialIndexRebuild
  /-- R458: Returns the memory registers. -/
  | mmRead (tk : Nat)
  /-- R458: Clears the memory counters. -/
  | mmCountClear (tk : Nat)
  /-- R462: Requests a power state. -/
  | pwRequest (tk : Nat)
  /-- R464: The 10 ms quiet window ends without abort and the entry commits. -/
  | quietWindowEnd
  /-- R462: Every charging lane has rested for PARK_S and PARK is requested. -/
  | automaticPark
  /-- R466: An enabled wake source returns the module to RUN. -/
  | wakeSource (src lane ua : Nat)
  /-- R465: Legal time reaches the armed alarm and it fires. -/
  | rtcAlarm (ua : Nat)
  /-- R467: A 1 written to a PW_PADHOLD bit releases that pad group. -/
  | padholdRelease (mask : Nat)
  /-- R469: Returns the power-state registers. -/
  | pwRead (tk : Nat)
  /-- R465: Arms or disarms the RTC alarm. -/
  | pwAlarmSet (tk : Nat)
  /-- R469: Clears the refuser counters. -/
  | pwCountClear (tk : Nat)
  /-- R473: Opens a transfer. -/
  | upOpen (tk : Nat)
  /-- R474: Delivers one fragment of a transfer. -/
  | upFragment (tk : Nat)
  /-- R475: A side copies missing fragments from the other side. -/
  | fragmentBackgroundCopy (side num k : Nat)
  /-- R477: A transfer reaches EXPIRY_D days and is closed. -/
  | transferExpiry (num : Nat)
  /-- R483: Returns a transfer's status. -/
  | upStatus (tk : Nat)
  /-- R477: Cancels a transfer. -/
  | upCancel (tk : Nat)
  /-- R480: Installs an image on a side by DIRECT or STAGED. -/
  | upApply (tk : Nat) (room : Bool)
  /-- R480: A timed phase of an installation ends and the next starts or the commit follows. -/
  | applyPhaseEnd (side : Nat)
  /-- R481: Writes a side's archive back over MAIN. -/
  | upRestore (tk : Nat)
  /-- R479: Raises the anti-rollback counter. -/
  | upCommit (tk : Nat)
  /-- R490: Monitor command listing the commands of the present role. -/
  | help (side len : Nat)
  /-- R490: Monitor command showing identity, status, side, role and lock level. -/
  | status (side len : Nat)
  /-- R488: Monitor command raising the session role against a monitor password. -/
  | login (side len : Nat) (role : Machine.Role) (password : Bytes)
  /-- R490: Monitor command returning the session to PUBLIC. -/
  | logout (side len : Nat)
  /-- R490: Monitor command reading registers. -/
  | rd (side len addr count : Nat)
  /-- R490: Monitor command writing a register under R9. -/
  | wr (side len addr v : Nat)
  /-- R490: Monitor command showing the newest events. -/
  | ev (side len count : Nat)
  /-- R490: Monitor command showing a lane's registers. -/
  | lane (side len n : Nat)
  /-- R490: Monitor command issuing a host request on port 3. -/
  | req (side len op : Nat) (arg : Bytes)
  /-- R489: Monitor command dumping work SRAM or LPDDR-4X bytes. -/
  | mem (side len addr count : Nat) (readable : Bool)
  /-- R491: Monitor command starting trace capture. -/
  | traceStart (side len fam lanes : Nat) (can trig : Option Nat) (post : Nat)
  /-- R491: Monitor command stopping trace capture. -/
  | traceStop (side len : Nat)
  /-- R491: Monitor command printing the trace ring. -/
  | traceDump (side len : Nat)
  /-- R491: Monitor command emptying the trace ring. -/
  | traceClear (side len : Nat)
  /-- R488: 600 s without input returns a monitor session to PUBLIC. -/
  | monitorIdleTimeout (side : Nat)
  /-- R488: The 300 s login lockout on a monitor ends. -/
  | loginLockoutEnd (side : Nat)
  /-- R492: Sets the monitor lock level. -/
  | monLock (tk : Nat)
  /-- R493: Sets or removes a monitor password. -/
  | monPasswordSet (tk : Nat)
  /-- R493: Returns the monitor state. -/
  | monRead (tk : Nat)
  /-- R519: VAON rises through 2.90 V and the module takes a power-on reset. -/
  | vaonPowerOn
  /-- R509: A rail meets its trip condition or returns good. -/
  | supplyTrip (rail : Nat) (good : Bool) (mv : Int)
  /-- R468: The VAON draw in DORMANT exceeds 10 mA and the module resets. -/
  | borLp (ua : Nat)
  /-- R520: RSTN held low for 10 µs resets the module. -/
  | rstn (low : Bool)
  /-- R521: The module leaves reset, samples straps and sets the holder latch. -/
  | resetRelease (straps : Nat)
  /-- R521: A start-up phase completes and the next phase starts. -/
  | startupPhaseComplete (side : Nat) (r : Machine.BootRes)
  /-- R522: The named side has not reached phase 4 within 5 s and the other side claims the latch. -/
  | holderLatchClaim
  /-- R519: No heartbeat reaches the holder latch for 50 ms and the module resets. -/
  | heartbeatWatchdogReset
  /-- R517: XIN is absent or off by more than 1 % for 10 µs. -/
  | xinLoss (clk : Nat)
  /-- R517: The real-time clock oscillator stops for 2 s. -/
  | rtcOscillatorStop
  /-- R515: The plate store die measures its temperature and corrects the real-time clock. -/
  | temperatureMeasurement (t : Int)
  /-- R523: Resets the module on request. -/
  | rsReset (tk : Nat)
  /-- R523: Returns the reset, supply and clock registers. -/
  | rsRead (tk : Nat)
  /-- R236: The TAMPER ball returns to closed, COVER_NOW clears and COVER_OPEN is raised with state 0. -/
  | coverClosed
  /-- R82: The SGMII link of HP0 or HP1 goes up or down, changing HPx_LINK, and in DOZE it is a wake source. -/
  | sgmiiLinkChange (p : Nat) (up : Bool)
  /-- R126: A lane loses its Green PHY link or association, which is a session failure or restarts its association
  window. -/
  | hlcLinkLoss (n : Nat) (link : Bool)
  /-- R13: A fault is detected in a Pilot, switch or plate store die, and lanes react under R13 and R85 with
  DIE_FAULT bits set. -/
  | sharedDieFault (d : Nat)
  /-- R451: The LPDDR-4X temperature register crosses 85 °C, and the controller doubles refresh and sets or clears
  HOT. -/
  | dramHot (side : Nat) (hot : Bool)
  /-- R300: A side restarted on its own finishes its boot check and self-test, or fails and stays in its loader. -/
  | sideBootEnd
  /-- R416: Valid receive frames from the tag transceiver return after a loss of the interface, and reading resumes. -/
  | receiveFramesReturn
  /-- R424: A TG_WRITE time limit runs out: 1 s without the named tag, 1 s of failed margin, or 2 s without a
  read-back. -/
  | tagWriteTimeLimit
  /-- R428: The duration of a TG_INVENTORY runs out and the request completes with its tag list. -/
  | inventoryDurationEnd (tk : Nat)
  /-- R412: KZ_PEER_BIND finds its BIND unacknowledged after 10 s and completes TIMEOUT without effect. -/
  | peerBindTimeout
  /-- R306: RD_STANDBY_RESTART completes TIMEOUT 30 s after acceptance when the standby has not synchronised. -/
  | standbyRestartTimeout
  /-- R145: A CAN controller enters bus-off, counted in PP_CANk.BUS_OFF, and starts automatic recovery. -/
  | canBusOff (k : Nat)
  /-- R310: Legal time reaches DST_START or DST_END, tariff time jumps, BL_STATUS.DST changes and skipped or
  repeated switch points are handled. -/
  | daylightSavingChange
  /-- R517: The stopped real-time clock oscillator runs again, X32_OK sets and CLOCK_FAULT reports it restored. -/
  | rtcOscillatorRestart
  /-- R391: A rising edge on ZC is stamped, updating the mains period and ZC validity used for phase sectors and
  residual timing. -/
  | zcEdge
  /-- R543: A lane in FAULT at S12 sees its pilot read A, B or C for 1 s without a break, and its PILOT_FAULT cause
  clears. -/
  | pilotFaultClear (n : Nat)
deriving DecidableEq, Repr

end Sys2Proof
end

