-- ==== Sys2Proof/Decode.lean ====
section
/-! DEFINITION. Decode.lean: the command a word spells. The rows of the opcode table give no bits: none does. -/
namespace Sys2Proof

/-- The command that a word of the opcode table's bits spells: the table gives no row any bits. -/
def decodeTableWord (_nbits _w : Nat) : Option Instr := none

end Sys2Proof
end

