-- ==== Sys2Proof/Config.lean ====
section
/-! DEFINITION. Config.lean: the free values: what the specification leaves open although the module goes on. None of
these constants has a body, so nothing can be proved of the value it gives (log entry 1). -/
namespace Sys2Proof.Config

/-- A number the specification leaves open: drawn at random, or in an order or a rounding it does not fix. It is applied
to `State.draws`, which every use advances. -/
opaque freeValue : Nat → Nat

/-- The root secret (R376) of an epoch: drawn from the random source at manufacture and at every retirement, and known to
nobody. -/
opaque rootSecret : Nat → Bytes

/-- R542: the index of a response code in the schema of a protocol (1 DIN SPEC 70121, 2 ISO 15118-2, 3 ISO 15118-20), a
constant of those standards that the specification does not repeat: 0 OK, 1 sequence error, 2 failed, 3 no negotiation,
4 no certificate available. -/
opaque responseCode : Nat → Nat → Nat

/-- R269, R275: the CRC-32 of a safety parameter block, over a layout in MRAM the specification does not give: of the values of
its parameters in the order of their keys. -/
opaque blockCrc : List Nat → Nat

/-- R212: where the start threshold of the creep gate lies within its tolerance, a constant of the module. -/
opaque creepStart : Nat

/-- R366: the unit code of DLMS for kg (2) and t (3) of a PULSE entry, constants of that standard the specification does not repeat. -/
opaque dlmsUnit : Nat → Nat

/-- R479: the plate digest fused in the plate store die: SHA-256 of the plate software of manufacture. -/
opaque plateDigest : Bytes

/-- R434: the frame count of a mode and band (place 8 x mode + band, 0 for none) in a waveform table, whose layout the specification does
not give. -/
opaque waveCounts : Bytes → List Nat

/-- R434: the seven band boundaries in °C of a waveform table, whose layout the specification does not give. -/
opaque waveBounds : Bytes → List Int

/-- R440: the CRC-32 of frame memory over the legal fields of a panel, as the plate cores render them: lanes and values shown. -/
opaque fieldsCrc : List (Nat × Bytes) → Nat

/-- R146: the time in ns a CAN frame of a setpoint entry takes: extended identifier, DLC_BYTES, BRS, and the nominal and data bit rate codes of
PP_CANk; the frame lengths of ISO 11898-1 are not repeated. -/
opaque canFrameNs : Bool → Nat → Bool → Nat → Nat → Nat

/-- R515: the factory correction of the real-time clock at a temperature of the plate store die in 0.1 °C, in 0.01 ppm. -/
opaque rtcFactory : Int → Int

end Sys2Proof.Config
end

