-- ==== Sys2Proof/Machine/Crypto.lean ====
section
/-! DEFINITION. Crypto.lean: the checks the specification names by a public standard and uses on what arrives from
outside: CRC-32 of IEEE 802.3, CRC-16/CCITT-FALSE, SHA-256, HMAC-SHA-256, the key derivation of SP 800-108 (R378) and
the verification of ECDSA P-256 signatures (R29, R63, R384, R385). -/
namespace Sys2Proof.Machine

/-- The byte of a number. -/
def byteOf (n : Nat) : Byte := BitVec.ofNat 8 n

/-- `k` bytes of a number, least significant first (R58, R75: little-endian). -/
def leBytes (k n : Nat) : Bytes := (List.range k).map fun i => byteOf (n >>> (8 * i))

/-- `k` bytes of a number, most significant first. -/
def beBytes (k n : Nat) : Bytes := (leBytes k n).reverse

/-- The number a little-endian byte string holds. -/
def leNat (b : Bytes) : Nat := b.foldr (fun x acc => x.toNat + 256 * acc) 0

/-- The number a big-endian byte string holds. -/
def beNat (b : Bytes) : Nat := b.foldl (fun acc x => acc * 256 + x.toNat) 0

/-- The bytes of a piece of a byte string. -/
def sub (b : Bytes) (off len : Nat) : Bytes := (b.drop off).take len

/-- `len` bytes, cut or padded with zeros. -/
def padTo (len : Nat) (b : Bytes) : Bytes := (b ++ List.replicate (len - b.length) 0).take len

/-- One bit of a CRC with reflected polynomial `poly`. -/
def crcBitR (poly c : Nat) : Nat := if c % 2 = 1 then (c >>> 1) ^^^ poly else c >>> 1

/-- CRC-32 of IEEE 802.3 (R60). -/
def crc32 (b : Bytes) : Nat :=
  (b.foldl (fun c x => (List.range 8).foldl (fun c _ => crcBitR 0xEDB88320 c) (c ^^^ x.toNat)) 0xFFFFFFFF)
    ^^^ 0xFFFFFFFF

/-- One bit of CRC-16/CCITT-FALSE. -/
def crcBit16 (c : Nat) : Nat :=
  if c ≥ 0x8000 then ((c <<< 1) % 0x10000) ^^^ 0x1021 else (c <<< 1) % 0x10000

/-- CRC-16/CCITT-FALSE: polynomial 0x1021, start 0xFFFF. -/
def crc16 (b : Bytes) : Nat :=
  b.foldl (fun c x => (List.range 8).foldl (fun c _ => crcBit16 c) (c ^^^ (x.toNat <<< 8))) 0xFFFF

namespace Sha

/-- Modulus of the words. -/
def m32 : Nat := 0x100000000

/-- Rotation of a 32-bit word to the right. -/
def rotr (x n : Nat) : Nat := (x >>> n) ||| ((x <<< (32 - n)) % m32)

/-- The 64 round constants. -/
def k : List Nat :=
  [0x428a2f98, 0x71374491, 0xb5c0fbcf, 0xe9b5dba5, 0x3956c25b, 0x59f111f1, 0x923f82a4, 0xab1c5ed5,
   0xd807aa98, 0x12835b01, 0x243185be, 0x550c7dc3, 0x72be5d74, 0x80deb1fe, 0x9bdc06a7, 0xc19bf174,
   0xe49b69c1, 0xefbe4786, 0x0fc19dc6, 0x240ca1cc, 0x2de92c6f, 0x4a7484aa, 0x5cb0a9dc, 0x76f988da,
   0x983e5152, 0xa831c66d, 0xb00327c8, 0xbf597fc7, 0xc6e00bf3, 0xd5a79147, 0x06ca6351, 0x14292967] ++
  [0x27b70a85, 0x2e1b2138, 0x4d2c6dfc, 0x53380d13, 0x650a7354, 0x766a0abb, 0x81c2c92e, 0x92722c85,
   0xa2bfe8a1, 0xa81a664b, 0xc24b8b70, 0xc76c51a3, 0xd192e819, 0xd6990624, 0xf40e3585, 0x106aa070,
   0x19a4c116, 0x1e376c08, 0x2748774c, 0x34b0bcb5, 0x391c0cb3, 0x4ed8aa4a, 0x5b9cca4f, 0x682e6ff3,
   0x748f82ee, 0x78a5636f, 0x84c87814, 0x8cc70208, 0x90befffa, 0xa4506ceb, 0xbef9a3f7, 0xc67178f2]

/-- The hash in progress. -/
structure St where
  a : Nat := 0x6a09e667
  b : Nat := 0xbb67ae85
  c : Nat := 0x3c6ef372
  d : Nat := 0xa54ff53a
  e : Nat := 0x510e527f
  f : Nat := 0x9b05688c
  g : Nat := 0x1f83d9ab
  h : Nat := 0x5be0cd19
deriving DecidableEq, Repr

/-- `n` more words of the schedule; the list holds the words so far, newest first. -/
def extend : Nat → List Nat → List Nat
  | 0, w => w
  | n + 1, w =>
    let x := w.getD 14 0
    let y := w.getD 1 0
    let s0 := rotr x 7 ^^^ rotr x 18 ^^^ (x >>> 3)
    let s1 := rotr y 17 ^^^ rotr y 19 ^^^ (y >>> 10)
    extend n (((w.getD 15 0 + s0 + w.getD 6 0 + s1) % m32) :: w)

/-- One round with the sum of its constant and its word. -/
def round (s : St) (kw : Nat) : St :=
  let s1 := rotr s.e 6 ^^^ rotr s.e 11 ^^^ rotr s.e 25
  let ch := (s.e &&& s.f) ^^^ ((0xFFFFFFFF ^^^ s.e) &&& s.g)
  let t1 := s.h + s1 + ch + kw
  let s0 := rotr s.a 2 ^^^ rotr s.a 13 ^^^ rotr s.a 22
  let maj := (s.a &&& s.b) ^^^ (s.a &&& s.c) ^^^ (s.b &&& s.c)
  { a := (t1 + s0 + maj) % m32, b := s.a, c := s.b, d := s.c, e := (s.d + t1) % m32, f := s.e, g := s.f, h := s.g }

/-- One block of 64 bytes. -/
def block (s : St) (b : Bytes) : St :=
  let w := (extend 48 ((List.range 16).map fun i => beNat (sub b (4 * i) 4)).reverse).reverse
  let t := (List.zipWith (· + ·) k w).foldl round s
  { a := (s.a + t.a) % m32, b := (s.b + t.b) % m32, c := (s.c + t.c) % m32, d := (s.d + t.d) % m32,
    e := (s.e + t.e) % m32, f := (s.f + t.f) % m32, g := (s.g + t.g) % m32, h := (s.h + t.h) % m32 }

end Sha

/-- SHA-256. -/
def sha256 (m : Bytes) : Bytes :=
  let p := m ++ [0x80] ++ List.replicate ((119 - m.length % 64) % 64) 0 ++ beBytes 8 (8 * m.length)
  let t := (List.range (p.length / 64)).foldl (fun s i => Sha.block s (sub p (64 * i) 64)) ({} : Sha.St)
  beBytes 4 t.a ++ beBytes 4 t.b ++ beBytes 4 t.c ++ beBytes 4 t.d ++ beBytes 4 t.e ++ beBytes 4 t.f ++ beBytes 4 t.g
    ++ beBytes 4 t.h

/-- HMAC-SHA-256. -/
def hmac256 (key m : Bytes) : Bytes :=
  let k0 := padTo 64 (if key.length > 64 then sha256 key else key)
  sha256 (k0.map (· ^^^ 0x5c) ++ sha256 (k0.map (· ^^^ 0x36) ++ m))

/-- R378: the key derivation in counter mode, `bits` bits. -/
def kdf108 (key label ctx : Bytes) (bits : Nat) : Bytes :=
  ((List.range ((bits + 255) / 256)).flatMap fun i =>
    hmac256 key (beBytes 4 (i + 1) ++ label ++ [0] ++ ctx ++ beBytes 4 bits)).take (bits / 8)

namespace P256

/-- The field's prime. -/
def p : Nat := 0xffffffff00000001000000000000000000000000ffffffffffffffffffffffff
/-- The order of the base point. -/
def n : Nat := 0xffffffff00000000ffffffffffffffffbce6faada7179e84f3b9cac2fc632551
/-- The curve's constant. -/
def b : Nat := 0x5ac635d8aa3a93e7b3ebbd55769886bc651d06b0cc53b0f63bce3c3e27d2604b
/-- The base point. -/
def gx : Nat := 0x6b17d1f2e12c4247f8bce6e563a440f277037d812deb33a0f4a13945d898c296
/-- The base point. -/
def gy : Nat := 0x4fe342e2fe1a7f9b8ee7eb4a7c0f9e162bce33576b315ececbb6406837bf51f5

/-- A point in Jacobian coordinates; `z = 0` is the point at infinity. -/
structure Pt where
  x : Nat := 1
  y : Nat := 1
  z : Nat := 0
deriving DecidableEq, Repr

/-- Power modulo `m`, `k` bits of the exponent from the top. -/
def powMod (m base e : Nat) : Nat → Nat
  | 0 => 1
  | k + 1 =>
    let r := powMod m base (e >>> 1) k
    let r2 := r * r % m
    if e % 2 = 1 then r2 * base % m else r2

/-- Doubling on a curve with constant -3. -/
def dbl (q : Pt) : Pt :=
  let d := q.z * q.z % p
  let g := q.y * q.y % p
  let be := q.x * g % p
  let al := 3 * (q.x + p - d) * (q.x + d) % p
  let x3 := (al * al + 8 * p - 8 * be) % p
  let z3 := ((q.y + q.z) * (q.y + q.z) + 2 * p - g - d) % p
  let y3 := (al * (4 * be + p - x3) + 8 * p * p - 8 * g * g) % p
  { x := x3, y := y3, z := z3 }

/-- Addition. -/
def add (q r : Pt) : Pt :=
  if q.z = 0 then r else if r.z = 0 then q else
  let z1 := q.z * q.z % p
  let z2 := r.z * r.z % p
  let u1 := q.x * z2 % p
  let u2 := r.x * z1 % p
  let s1 := q.y * (r.z * z2 % p) % p
  let s2 := r.y * (q.z * z1 % p) % p
  if u1 = u2 then (if s1 = s2 then dbl q else {}) else
  let h := (u2 + p - u1) % p
  let rr := (s2 + p - s1) % p
  let h2 := h * h % p
  let h3 := h * h2 % p
  let v := u1 * h2 % p
  let x3 := (rr * rr + 3 * p - h3 - 2 * v) % p
  let y3 := (rr * (v + p - x3) + p * p - s1 * h3) % p
  { x := x3, y := y3, z := q.z * r.z % p * h % p }

/-- `u1 * G + u2 * q`, `k` bits of both scalars. -/
def mul2 (u1 u2 : Nat) (g q gq : Pt) : Nat → Pt
  | 0 => {}
  | k + 1 =>
    let d := dbl (mul2 (u1 >>> 1) (u2 >>> 1) g q gq k)
    if u1 % 2 = 1 then (if u2 % 2 = 1 then add d gq else add d g) else if u2 % 2 = 1 then add d q else d

/-- Whether 64 bytes x, y name a point of the curve. -/
def onCurve (key : Bytes) : Bool :=
  let x := beNat (sub key 0 32)
  let y := beNat (sub key 32 32)
  key.length == 64 && decide (x < p) && decide (y < p) && decide (y * y % p = (x * x % p * x + 3 * (p - x) + b) % p)

/-- ECDSA P-256: whether `sig` (r, s, 32 bytes each) over the 32-byte digest verifies under the key x, y. -/
def verify (key digest sig : Bytes) : Bool :=
  let r := beNat (sub sig 0 32)
  let s := beNat (sub sig 32 32)
  let z := beNat (sub digest 0 32)
  if sig.length == 64 && onCurve key && decide (0 < r) && decide (r < n) && decide (0 < s) && decide (s < n) then
    let w := powMod n s (n - 2) 256
    let g : Pt := { x := gx, y := gy, z := 1 }
    let q : Pt := { x := beNat (sub key 0 32), y := beNat (sub key 32 32), z := 1 }
    let t := mul2 (z * w % n) (r * w % n) g q (add g q) 256
    t.z != 0 &&
      decide ((t.x % p = r * (t.z * t.z % p) % p) ∨ (r + n < p ∧ t.x % p = (r + n) * (t.z * t.z % p) % p))
  else false

/-- The point `k * G` as 64 bytes x, y. -/
def publicOf (d : Nat) : Bytes :=
  let t := mul2 d 0 { x := gx, y := gy, z := 1 } {} {} 256
  let zi := powMod p t.z (p - 2) 256
  let z2 := zi * zi % p
  beBytes 32 (t.x * z2 % p) ++ beBytes 32 (t.y * (z2 * zi % p) % p)

/-- The nonce of RFC 6979 from the generator's key and value, at most `fuel` candidates. -/
def nonce : Nat → Bytes → Bytes → Nat
  | 0, _, _ => 1
  | fuel + 1, k, v =>
    let v := hmac256 k v
    if 0 < beNat v ∧ beNat v < n then beNat v
    else
      let k := hmac256 k (v ++ [0])
      nonce fuel k (hmac256 k v)

/-- RFC 6979 with additional data: the nonce of a signature by the scalar `d` over a digest. -/
def detNonce (d : Nat) (digest extra : Bytes) : Nat :=
  let seed := beBytes 32 d ++ beBytes 32 (beNat digest % n) ++ extra
  let v : Bytes := List.replicate 32 1
  let k := hmac256 (List.replicate 32 0) (v ++ [0] ++ seed)
  let v := hmac256 k v
  let k := hmac256 k (v ++ [1] ++ seed)
  nonce 64 k (hmac256 k v)

/-- R379: ECDSA P-256 signature r, s by the scalar `d` over a SHA-256 digest, with additional data to the nonce. -/
def sign (d : Nat) (digest extra : Bytes) : Bytes :=
  let k := detNonce d digest extra
  let r := beNat (sub (publicOf k) 0 32) % n
  let s := powMod n k (n - 2) 256 * (beNat digest + r * d) % n
  beBytes 32 r ++ beBytes 32 s

end P256

end Sys2Proof.Machine
end

