-- ==== Sys2Proof/Machine/State.lean ====
section
/-! DEFINITION. State.lean: the state of the module as the specification gives it, chapter by chapter, as plain data,
the reasons a step can stop, and the state right after reset. Each field's docstring names what it is and the rule
that gives it; INVENTORY.md gives its width and where its reset value comes from. -/
namespace Sys2Proof.Machine

/-- Why a step can stop with a fault. No meaning of this model faults: the specification gives every command of its
table an effect (NOTES.md, Stops). The constructor stands for a queue the interface could never hold. -/
inductive Fault where
  /-- Raised by no command. Safe: the machine would stop where the hardware goes on. -/
  | halted
deriving DecidableEq, Repr

/-- Why a step can be refused. -/
inductive Refusal where
  /-- Raised by an arm of exec whose command has no meaning yet. Safe: the machine stops where the hardware goes on. -/
  | notModelled (mnemonic : String)
deriving DecidableEq, Repr

/-- An event as a unit raises it, before it is numbered (R20-R22, R75): its class, die, unit, lane, FLAGS, code, DATA
and the TIME it is stamped with. -/
structure Ev where
  cls : EvClass := .diag
  die : Nat := 0
  unit : Nat := 0
  lane : Nat := 0xFF
  flags : Nat := 0
  code : Nat := 0
  data : Bytes := []
  time : Nat := 0
deriving DecidableEq, Repr

/-- A numbered event (R20, R75). -/
structure EvRec where
  seq : Nat := 0
  ev : Ev := {}
  /-- FLAGS bit 1 of the next record: the record after an uncorrectable journal record (R456). -/
  gap : Bool := false
deriving DecidableEq, Repr

/-- Events of one class and die dropped at a full source FIFO and not yet reported (R23). -/
structure Drop where
  cls : EvClass := .diag
  die : Nat := 0
  count : Nat := 0
deriving DecidableEq, Repr

/-- A host frame (R58, R59): its type, session, counter and payload, before the trailer is added; `dest` tells a HELLO to
the IPv6 all-nodes address (1) from one to 255.255.255.255 (2) and from a frame to the session's host (0). -/
structure Frame where
  dest : Nat := 0
  typ : Nat := 0
  session : Nat := 0
  counter : Nat := 0
  payload : Bytes := []
deriving DecidableEq, Repr

/-- What a command asks of the sequencer. -/
inductive Emit where
  /-- An event enters the source FIFO of its class and die (R20, R23). -/
  | raise (e : Ev)
  /-- An event numbered at once: REQ_COMPLETED with its effect (R79), RESET and SIDE_CHANGE (R24). -/
  | direct (e : Ev)
  /-- The sequencer admits the waiting event that goes first (R20, R21). -/
  | admitNext
  /-- SEQ continues at the smallest multiple of 65,536 above the last SEQ mirrored, or above the highest SEQ journaled
  (R24). -/
  | skip (journaled : Bool)
  /-- The events waiting at the failed or restarted side's sequencer are lost (R24, R518). -/
  | flush
  /-- GSTATUS.OVERFLOWS reads 0 (R27: writing all ones; R518: a module reset). -/
  | clearOverflows
  /-- MRAM loses the journal record of a SEQ; the next record delivered carries GAP (R456). -/
  | lose (seq : Nat)
deriving DecidableEq, Repr


/-- Identity, straps and die status (R1, R11, R13, R27, R504). -/
structure Ident where
  /-- fitted ordering code (R1, R27). -/
  variant : Variant := .fx
  /-- build level of the silicon set ("Per build") (R27). -/
  build : Nat := 1
  /-- module EUI-64 (R62). -/
  eui64 : Nat := 0x0A8B644000000001
  /-- SIDEPREF strap (R504). -/
  sidepref : Bool := false
  /-- MPMODE strap (R504). -/
  mpmode : Bool := false
  /-- TEST strap (R504). -/
  testStrap : Bool := false
  /-- present levels of SIDEPREF, MPMODE, TEST, sampled at release (R504). -/
  strapBalls : Nat := 0
  /-- DIES.DIE_FAULT bits (R13, R27). -/
  dieFault : Nat := 0
  /-- die faults that stand (DIE_FAULT sets again from these) (R13). -/
  dieStanding : Nat := 0
deriving DecidableEq, Repr

/-- Device time, replicas, legal time (R17-R19, R326-R331). -/
structure Clock where
  /-- TIME (R17). -/
  time : Nat := 0
  /-- fractional accumulator of the TIME counter (R17). -/
  frac : Nat := 0
  /-- TIME replica of each clock domain (R15, R18). -/
  replicas : List Nat := List.replicate 12 0
  /-- TIME of the last realignment (R18). -/
  replicaAt : Nat := 0
  /-- TIME of the newest anchor (R19). -/
  anchorTime : Nat := 0
  /-- legal time of the newest anchor ("From RTC") (R19). -/
  anchorLegal : Nat := 0
  /-- TIME of the anchor before (R19). -/
  prevTime : Nat := 0
  /-- legal time of the anchor before (R19). -/
  prevLegal : Nat := 0
  /-- real-time clock oscillator runs (R331, R517). -/
  rtcOk : Bool := true
  /-- real-time clock lost its supply (a clock never set) (R331). -/
  rtcLost : Bool := true
  /-- GSTATUS.LEGAL_VALID (R27, R331). -/
  legalValid : Bool := false
  /-- legal time last saved in MRAM (R331). -/
  savedLegal : Nat := 0
  /-- RTC to be set from legal time by then (R326). -/
  rtcSetDue : Option Nat := none
  /-- delta of the slew in progress (R327). -/
  slewDelta : Int := 0
  /-- start of the slew (R327). -/
  slewStart : Nat := 0
  /-- end of the slew (R327). -/
  slewEnd : Option Nat := none
deriving DecidableEq, Repr

/-- The sequencer, the source FIFOs and the MRAM event journal (R20-R24, R77). -/
structure Seqr where
  /-- SEQ of the most recent event numbered (journal of a new module empty) (R20, R24, R27). -/
  seqLast : Nat := 0
  /-- last SEQ mirrored to the standby side (R24, R299). -/
  mirrored : Nat := 0
  /-- events waiting at the sequencer, in arrival order (R21, R23). -/
  waiting : List Ev := []
  /-- drops per class and die not yet reported (R23). -/
  drops : List Drop := []
  /-- GSTATUS.OVERFLOWS (R23, R27). -/
  overflows : Nat := 0
  /-- MRAM event journal, newest first (R75, R77). -/
  journal : List EvRec := []
deriving DecidableEq, Repr

/-- trace capture (R491). -/
structure TraceCap where
  /-- capture runs (R491). -/
  running : Bool := false
  /-- family mask (R491). -/
  famMask : Nat := 0
  /-- lane mask (R491). -/
  laneMask : Nat := 0
  /-- controller captured (R491). -/
  can : Option Nat := none
  /-- trigger code (R491). -/
  trig : Option Nat := none
  /-- entries captured after the trigger (R491). -/
  post : Nat := 1024
  /-- entries still to capture once triggered (R491). -/
  left : Option Nat := none
  /-- captured entries, newest first (R491). -/
  ring : List Bytes := []
deriving DecidableEq, Repr

/-- an accepted request (R70, R72). -/
structure Ticket where
  /-- ticket (R72). -/
  id : Nat := 0
  /-- opcode (R69). -/
  opcode : Nat := 0
  /-- CLIENT_TAG (R69). -/
  tag : Nat := 0
  /-- role of the session (R10). -/
  role : Role := .pub
  /-- TIME of REQ_ACCEPTED (R95). -/
  acceptTime : Nat := 0
  /-- argument bytes (R69). -/
  arg : Bytes := []
  /-- SEQ_LAST at acceptance (R74). -/
  seqAt : Nat := 0
deriving DecidableEq, Repr

/-- parts of one request (R69). -/
structure PartBuf where
  /-- CLIENT_TAG (R69). -/
  tag : Nat := 0
  /-- OPCODE (R69). -/
  opcode : Nat := 0
  /-- PARTS (R69). -/
  total : Nat := 0
  /-- ARG_LENGTH (R69). -/
  argLen : Nat := 0
  /-- parts held (R69). -/
  got : List (Nat × Bytes) := []
  /-- arrival of the first part (R69). -/
  since : Nat := 0
deriving DecidableEq, Repr

/-- a bound session (R63-R77). -/
structure Session where
  /-- SESSION (R63). -/
  sid : Nat := 0
  /-- role (R63). -/
  role : Role := .pub
  /-- KEY_INDEX (R63). -/
  keyIndex : Nat := 0
  /-- highest host COUNTER accepted (R60). -/
  rxHigh : Nat := 0
  /-- accepted counters inside the window (R60). -/
  rxWindow : List Nat := []
  /-- last module COUNTER sent (R60). -/
  txCtr : Nat := 0
  /-- next ticket serial (R72). -/
  serial : Nat := 1
  /-- outstanding tickets (R72). -/
  outstanding : List Ticket := []
  /-- ended tickets and final status, newest first (R74). -/
  ended : List (Nat × Nat) := []
  /-- EVENT_FILTER family mask (R74). -/
  filterFam : Nat := 0xFFFF
  /-- EVENT_FILTER lane mask (R74). -/
  filterLane : Nat := 0xFFFFFFFFFFFFFFFF
  /-- delivery point: first SEQ not yet sent (R76). -/
  nextSeq : Nat := 0
  /-- last ACK_SEQ (R75, R76). -/
  ackSeq : Nat := 0
  /-- TIME the acknowledgement last advanced (R76). -/
  ackAt : Nat := 0
  /-- unacknowledged records in flight (R76). -/
  inFlight : Nat := 0
  /-- last THROUGH_SEQ sent (R76). -/
  sentThrough : Nat := 0
  /-- records up to here carry REPLAYED (R77). -/
  replayTo : Option Nat := none
  /-- next record delivered carries GAP (R77). -/
  gapNext : Bool := false
  /-- EVENT_REPLAY waiting for the acknowledgement of a SEQ (R74). -/
  replayTk : Option (Nat × Nat) := none
  /-- first SEQ it replays (R74). -/
  replayFirst : Nat := 0
  /-- last valid frame accepted (R67). -/
  lastRx : Nat := 0
  /-- last frame sent (R67). -/
  lastTx : Nat := 0
  /-- CLIENT_TAG table: tag, RESPONSE, TIME (R73). -/
  tags : List (Nat × Bytes × Nat) := []
  /-- multi-part requests being assembled (R69). -/
  parts : List PartBuf := []
  /-- keys of both directions derived at the bind (R63). -/
  keys : Bytes := []
deriving DecidableEq, Repr

/-- a BIND being proved (R63). -/
structure Bind where
  /-- role asked for (R63). -/
  role : Role := .pub
  /-- KEY_INDEX (R63). -/
  keyIndex : Nat := 0
  /-- RESUME_SEQ (R63, R76). -/
  resume : Nat := 0
  /-- proposed SESSION (R63). -/
  sid : Nat := 0
  /-- BIND payload and CHALLENGE payload (R63). -/
  transcript : Bytes := []
  /-- TIME of CHALLENGE (R63). -/
  challengeAt : Nat := 0
  /-- module ephemeral private key (R63). -/
  eph : Nat := 0
deriving DecidableEq, Repr

/-- a host port HP0-HP2 (R57-R82). -/
structure Port where
  /-- SGMII link up (R82). -/
  link : Bool := false
  /-- the bound session (R57). -/
  session : Option Session := none
  /-- bind in progress (R63). -/
  bind : Option Bind := none
  /-- failed binds of the last 60 s (R65). -/
  fails : List Nat := []
  /-- end of the bind lockout (R65). -/
  lockUntil : Option Nat := none
  /-- TIME of the last HELLO (R62). -/
  helloAt : Nat := 0
  /-- AUTH_FAIL (R82). -/
  authFail : Nat := 0
  /-- BIND_FAIL (R82). -/
  bindFail : Nat := 0
  /-- DROPPED (R82). -/
  dropped : Nat := 0
  /-- LOST (R82). -/
  lost : Nat := 0
  /-- ADDR in MRAM (HP0, HP1) (R82). -/
  ip4Addr : Nat := 0
  /-- PREFIX (R82). -/
  ip4Prefix : Nat := 0
  /-- ENABLE (R82). -/
  ip4Enable : Bool := false
  /-- address word in use since the port last had no session (R82). -/
  ip4Used : Nat := 0
  /-- frames sent to the host, oldest first (R59, R61). -/
  outbox : List Frame := []
  /-- inbound HP2 frames waiting (R61). -/
  inbox : List Frame := []
deriving DecidableEq, Repr

/-- the host ports. -/
structure HostPorts where
  /-- HP0-HP2 (R57). -/
  ports : List Port := List.replicate 3 {}
  /-- port 3 request session of the active monitor (R487). -/
  mon : Option Session := none
  /-- host-loss policies apply (R68, R82). -/
  hostloss : Bool := true
  /-- start of the host-loss policy (R68, R87). -/
  hostlossAt : Nat := 0
  /-- bytes the module has driven on HP2 in answer to transactions, oldest first (R61). -/
  hp2Out : List Bytes := []
deriving DecidableEq, Repr

/-- SLOT entry (R33). -/
structure Slot where
  /-- slot number (R33). -/
  slot : Nat := 0
  /-- lane type (R34). -/
  typ : LaneType := .none
  /-- power group (R33). -/
  group : Nat := 0xFF
  /-- PAIRING (R33). -/
  pairing : Nat := 0
  /-- GAIN codes (R33). -/
  gain : Nat := 0x3FF
  /-- CHFUNC (R33, R37). -/
  chfunc : List Nat := [0,0,0,0,0]
  /-- SENSOR (R33). -/
  sensor : Nat := 0
  /-- PULSE_IN (R33). -/
  pulseIn : Nat := 0xFF
  /-- OPTIONS (R33). -/
  options : Nat := 0
  /-- HOSTLOSS (R33). -/
  hostloss : Nat := 0
  /-- CONNECTOR (R33). -/
  connector : Nat := 0
  /-- RATED_I (R33). -/
  ratedI : Nat := 0
  /-- RATED_U (R33). -/
  ratedU : Nat := 0
  /-- SENSOR_SCALE (R33). -/
  scale : Nat := 0
  /-- DIVIDER (R33). -/
  divider : Nat := 0
  /-- PRIORITY (R33). -/
  priority : Nat := 0
  /-- ANTENNA (R33). -/
  antenna : Nat := 0xFF
  /-- PANEL (R33). -/
  panel : Nat := 0xFF
  /-- MIN_POWER (R33). -/
  minPower : Nat := 0
  /-- MAX_POWER (R33). -/
  maxPower : Nat := 0
deriving DecidableEq, Repr

/-- GROUP entry (R154, R173). -/
structure Group where
  /-- group number (R154). -/
  group : Nat := 0
  /-- PERMIT ball (R154). -/
  permit : Nat := 0
  /-- PATH (R154). -/
  path : Nat := 0xFF
  /-- FLAGS.EXPORT (R154). -/
  exportOk : Bool := false
  /-- P_MAX (R154). -/
  pMax : Nat := 0
  /-- EXPORT_MAX (R154). -/
  exportMax : Nat := 0
  /-- I_PHASE_MAX (R154). -/
  iPhaseMax : Nat := 0
  /-- DRIVER (R173). -/
  driver : Nat := 0xFF
  /-- CODE (R173). -/
  code : Nat := 0
  /-- AMPLITUDE (R173). -/
  amplitude : Nat := 0
  /-- R_INJ (R173). -/
  rInj : Nat := 0
  /-- C_NOM (R173). -/
  cNom : Nat := 0
deriving DecidableEq, Repr

/-- OUTPUT entry (R278). -/
structure Output where
  /-- channel (R278). -/
  output : Nat := 0
  /-- owner code (R41). -/
  owner : Nat := 0
  /-- FUNCTION (R131). -/
  func : Nat := 0
  /-- FLAGS (R278). -/
  flags : Nat := 0
  /-- INRUSH_MS (R278). -/
  inrushMs : Nat := 0
  /-- RETRIES (R278). -/
  retries : Nat := 0
  /-- OL_FINE (R278). -/
  olFine : Nat := 0
  /-- RETRY_DELAY (R278). -/
  retryDelay : Nat := 1
deriving DecidableEq, Repr

/-- COMPARATOR entry (R254). -/
structure Comp where
  /-- comparator (R254). -/
  comp : Nat := 0
  /-- owner code (R254). -/
  owner : Nat := 0
  /-- WATCH (R254). -/
  watch : Nat := 0
  /-- CAUSE (R254). -/
  cause : Nat := 0x22
  /-- HIGH/LOW armed (R254). -/
  flags : Nat := 0
  /-- HIGH (R254). -/
  high : Int := 0
  /-- LOW (R254). -/
  low : Int := 0
deriving DecidableEq, Repr

/-- PULSE entry (R215). -/
structure Pulse where
  /-- input (R215). -/
  input : Nat := 0
  /-- MODE (R214). -/
  mode : Nat := 0
  /-- owner code (R215). -/
  owner : Nat := 0
  /-- UNIT (R215). -/
  unit : Nat := 0xFF
  /-- PARTNER (R215). -/
  partner : Nat := 0xFF
  /-- FLAGS (R215). -/
  flags : Nat := 0
  /-- FILTER (R215). -/
  filter : Nat := 0
  /-- WEIGHT (R215). -/
  weight : Nat := 0
  /-- MAX_RATE (R215). -/
  maxRate : Nat := 1
deriving DecidableEq, Repr

/-- CAN entry (R146). -/
structure CanEnt where
  /-- RESOURCE (R146). -/
  resource : Nat := 0
  /-- OWNER (R146). -/
  owner : Nat := 0
  /-- ROLE (R146). -/
  role : Nat := 0
  /-- PERIOD (R146). -/
  period : Nat := 10
  /-- TIMEOUT (R146). -/
  timeout : Nat := 50
  /-- DLC_BYTES (R146). -/
  dlc : Nat := 16
  /-- FLAGS.BRS (R146). -/
  brs : Bool := false
deriving DecidableEq, Repr

/-- ENGINE entry (R32). -/
structure Engine where
  /-- engine (R32). -/
  engine : Nat := 0
  /-- owner code (R32). -/
  owner : Nat := 0
deriving DecidableEq, Repr

/-- an applied matrix (R28-R33). -/
structure Config where
  /-- GENERATION (R28). -/
  generation : Nat := 0
  /-- BODY_HASH (R28). -/
  hash : Bytes := []
  /-- sealed state (R35). -/
  sealed : Bool := false
  /-- matrix verification key its ADMIN signature verified under (R29, R55). -/
  admKey : Bytes := []
  /-- metrology verification key its METROLOGY signature verified under, empty without one (R29, R55). -/
  metKey : Bytes := []
  /-- PREF_SIDE (R31). -/
  prefSide : Nat := 0
  /-- CP_INTERVAL (R31). -/
  cpInterval : Nat := 24
  /-- REVERT_S (R31). -/
  revertS : Nat := 10
  /-- default host-loss policy (R31). -/
  hostloss : Nat := 1
  /-- association margin (R31). -/
  margin : Nat := 6
  /-- association window (R31). -/
  window : Nat := 30
  /-- SLOT entries (R33). -/
  slots : List Slot := []
  /-- GROUP entries (R154). -/
  groups : List Group := []
  /-- OUTPUT entries (R278). -/
  outputs : List Output := []
  /-- COMPARATOR entries (R254). -/
  comps : List Comp := []
  /-- PULSE entries (R215). -/
  pulses : List Pulse := []
  /-- CAN entries (R146). -/
  cans : List CanEnt := []
  /-- ENGINE entries (R32). -/
  engines : List Engine := []
deriving DecidableEq, Repr

/-- a load between acceptance and completion (R50, R52). -/
structure MxJob where
  /-- ticket (R47). -/
  ticket : Nat := 0
  /-- complete resulting matrix (R52). -/
  cfg : Config := {}
  /-- changed lanes (R49). -/
  changed : Nat := 0
  /-- slot of a delta or 0xFF (R54). -/
  deltaSlot : Nat := 0xFF
  /-- transfer consumed (R476). -/
  xfer : Option Nat := none
deriving DecidableEq, Repr

/-- the matrix unit (R47-R56). -/
structure Matrix where
  /-- applied matrix (R52). -/
  applied : Option Config := none
  /-- stored copy A (a new module has none) (R52, R55). -/
  copyA : Option Config := none
  /-- stored copy B (R52, R55). -/
  copyB : Option Config := none
  /-- A_VALID (R56). -/
  aValid : Bool := false
  /-- B_VALID (R56). -/
  bValid : Bool := false
  /-- active-copy pointer: 0 A, 1 B (R52, R56). -/
  active : Nat := 0
  /-- load in progress (BUSY) (R47). -/
  job : Option MxJob := none
  /-- MX_ERR.STATUS (R56). -/
  errStatus : Nat := 0
  /-- ERR_CODE (R56). -/
  errCode : Nat := 0
  /-- SECTION (R56). -/
  errSection : Nat := 0
  /-- OFFSET (R56). -/
  errOffset : Nat := 0
  /-- RES_INDEX (R56). -/
  errIndex : Nat := 0
  /-- RES_CLASS (R56). -/
  errClass : Nat := 0
  /-- OWNER1 (R56). -/
  errOwner1 : Nat := 0
  /-- OWNER2 (R56). -/
  errOwner2 : Nat := 0
  /-- APPLIED (R56). -/
  appliedCount : Nat := 0
  /-- REFUSED (R56). -/
  refused : Nat := 0
  /-- MX_PENDING (R50, R56). -/
  pending : Nat := 0
  /-- lanes that blocked the last refused load (MX_PENDING) (R50, R56). -/
  blocked : Nat := 0
deriving DecidableEq, Repr

/-- a credential (R92, R338). -/
structure Cred where
  /-- ID_SOURCE (R92). -/
  src : Nat := 0
  /-- normalised identifier (R338). -/
  ident : Bytes := []
  /-- TIME of presentation (R92). -/
  time : Nat := 0
deriving DecidableEq, Repr

/-- lane tile: state machine, timers, identification (R83-R103). -/
structure Lane where
  /-- STATE (R83, R103). -/
  st : LState := .offline
  /-- PREV (R103). -/
  prev : LState := .offline
  /-- measured pilot (reset 0b110) (R103, R107). -/
  pilot : Pilot := .none
  /-- HLC (R103). -/
  hlc : Bool := false
  /-- LOCKED (R103). -/
  locked : Bool := false
  /-- ISO_WARN (R103). -/
  isoWarn : Bool := false
  /-- DIODE (R103). -/
  diode : Bool := false
  /-- suspension reason Host (R97). -/
  suspHost : Bool := false
  /-- suspension reason Policy (R97). -/
  suspPolicy : Bool := false
  /-- suspension reason Vehicle (R97). -/
  suspVehicle : Bool := false
  /-- suspension reason Credit (R97). -/
  suspCredit : Bool := false
  /-- DIR (R103). -/
  dir : Nat := 0
  /-- REFUSALS (R96). -/
  refusals : Nat := 0
  /-- last cause recorded (R99). -/
  cause : Cause := .none
  /-- ENTRY_MS (R103). -/
  entryMs : Nat := 0
  /-- TIME of entry to the state (R83). -/
  entryAt : Nat := 0
  /-- causes that stand (R100). -/
  causes : List Cause := []
  /-- current at the start of the ramp in progress (R91, R97, R144). -/
  rampFrom : Int := 0
  /-- start of the ramp in progress (R91, R97, R144). -/
  rampAt : Nat := 0
  /-- a false energy guard holds the lane (R89). -/
  guardHeld : Bool := false
  /-- running timers: code, absolute expiry TIME (R87, R88). -/
  timers : List (Nat × Nat) := []
  /-- timer expiries in their 200 ns hold: code, expiry TIME (R26). -/
  holds : List (Nat × Nat) := []
  /-- held credential (R92, R93). -/
  held : Option Cred := none
  /-- credential taken (R92). -/
  cred : Option Cred := none
  /-- AUTH_REQUEST outstanding (R94, R95). -/
  awaiting : Bool := false
  /-- accepted, held in AUTHORISE by a host-loss policy (R96). -/
  policyHold : Bool := false
  /-- that acceptance came from a host answer (R96). -/
  hostAccepted : Bool := false
  /-- P_ALLOC (R103, R158). -/
  pAlloc : Int := 0
  /-- P_ACT (R103). -/
  pAct : Int := 0
  /-- I_LIMIT (R103). -/
  iLimit : Nat := 0
  /-- U_OUT (R103). -/
  uOut : Nat := 0
  /-- present measured current (R91). -/
  iAct : Int := 0
  /-- session number open, 0 none (R103). -/
  session : Nat := 0
  /-- last session number, MRAM (R103). -/
  sessionLast : Nat := 0
  /-- ACCOUNT, ACCT_VALID (R103). -/
  account : Option Nat := none
  /-- ID_SOURCE (R103). -/
  idSource : Nat := 0
  /-- AUTH_MODE (R103). -/
  authMode : Nat := 0
  /-- HOST_AUTH_TO (R103). -/
  hostAuthTo : Nat := 10
  /-- ENABLE (R101, R103). -/
  enable : Bool := true
  /-- RAMP_RATE (R103). -/
  rampRate : Nat := 10
  /-- RAMP_FORCED (R91, R242). -/
  rampForced : Bool := false
  /-- current cap of DEGRADED (R98). -/
  degCapI : Nat := 0
  /-- allocation cap of DEGRADED (R156). -/
  degCapP : Nat := 0
  /-- an unlock pulse is due (R90, R140). -/
  unlockDue : Bool := false
  /-- a stop trigger has been taken (stop notification) (R118). -/
  stopSent : Bool := false
  /-- control pilot level driven (R90). -/
  cp : CpMode := .v0
  /-- duty in effect (R108, R130). -/
  duty : Nat := 0
  /-- pending CP mode, duty and the TIME it takes effect (R109). -/
  cpNext : Option (CpMode × Nat × Nat) := none
  /-- pilot transition deferred while pending (R50). -/
  deferPilot : Option (Pilot × Nat) := none
  /-- stamp of the A to B change (R123). -/
  plugAt : Nat := 0
  /-- the session has entered ENERGY (R241). -/
  enteredEnergy : Bool := false
  /-- ENERGY entry (R158). -/
  energyAt : Nat := 0
  /-- NEGOTIATE entry (R158). -/
  negotiateAt : Nat := 0
  /-- admitted by the last round (R157). -/
  admitted : Bool := false
  /-- DIE_FAULT taken in RAMP_DOWN or OPEN_CHECK (R85). -/
  dieFaultPending : Bool := false
  /-- stage 0 raised this session (R261). -/
  overtempWarned : Bool := false
  /-- AC_MAIN to open 3 s after SUSPENDED entry (R97). -/
  acOpenDue : Option Nat := none
  /-- pilot reads A, B or C without a break since (R543). -/
  pilotABC : Option Nat := none
  /-- pilot reads A since (R100). -/
  pilotA : Option Nat := none
  /-- the lane has not entered IDLE since the module reset (R83). -/
  firstIdle : Bool := true
  /-- in OFFLINE, IDLE or FAULT since (R462). -/
  restAt : Nat := 0
deriving DecidableEq, Repr

/-- per lane: pilot and proximity measurement (R104-R112, R130). -/
structure PilotHs where
  /-- HS_PILOT.POS_MV (R130). -/
  posMv : Int := 0
  /-- HS_PILOT.NEG_MV (R130). -/
  negMv : Int := 0
  /-- plateau band waiting for its confirmation (R107). -/
  cand : Option (Pilot × Nat) := none
  /-- pilot fault (E, missing diode, invalid) confirmed and standing (R107, R543). -/
  fault : Option Pilot := none
  /-- CP generator folded back (R105). -/
  folded : Bool := false
  /-- next fold-back test of the line (R105). -/
  testAt : Nat := 0
  /-- PP_OHM (R110, R130). -/
  ppOhm : Nat := 0xFFFF
  /-- PP_CODE (R110, R130). -/
  ppCode : Nat := 0
  /-- proximity rating in effect, 0 none (R108, R111, R112). -/
  ppRating : Nat := 0
  /-- changed PP code waiting for its 20 ms (R112). -/
  ppPend : Option (Nat × Nat) := none
deriving DecidableEq, Repr

/-- per lane: association and high-level communication (R113-R127, R130). -/
structure LinkHs where
  /-- HS_LINK.ASSOC (R130). -/
  assoc : Nat := 0
  /-- HS_LINK.PROTO (R130). -/
  proto : Nat := 0
  /-- HS_LINK.TLS (R130). -/
  tls : Bool := false
  /-- HS_LINK.PNC (R130). -/
  pnc : Bool := false
  /-- HS_LINK.DYNAMIC (R130). -/
  dynamic : Bool := false
  /-- HS_LINK.SERVICE (R130). -/
  service : Nat := 0
  /-- ATT_BEST (R130). -/
  attBest : Nat := 0
  /-- ATT_SECOND (R130). -/
  attSecond : Nat := 0
  /-- MATCH_MS (R130). -/
  matchMs : Nat := 0
  /-- EV_MAC (R130). -/
  evMac : Nat := 0
  /-- network identifier of the association (R124). -/
  nid : Nat := 0
  /-- network membership key (drawn from the vault's random source) (R124). -/
  nmk : Nat := 0
  /-- association window start (R123, R126). -/
  windowStart : Option Nat := none
  /-- end of the 3 s of S12 of the AC fallback (R126). -/
  fallbackEnd : Option Nat := none
  /-- communication set-up timeout (R116). -/
  setupEnd : Option Nat := none
  /-- sequence timeout (R116). -/
  seqEnd : Option Nat := none
  /-- an HLC session is open (R115). -/
  isOpen : Bool := false
  /-- last V2G request code (R542). -/
  lastReq : Nat := 0
  /-- last response code sent (R542). -/
  lastResp : Nat := 0xFF
  /-- vehicle maximum voltage (R134, R136). -/
  evMaxU : Nat := 0
  /-- vehicle target voltage (precharge request) (R135). -/
  evTargetU : Nat := 0
  /-- vehicle current request (R91, R136). -/
  evTargetI : Int := 0
  /-- vehicle power request or limit (R158). -/
  evMaxP : Nat := 0
  /-- vehicle maximum current (AC) (R156). -/
  evMaxI : Nat := 0
  /-- vehicle target power (ISO 15118-20 dynamic mode) (R156). -/
  evTargetP : Nat := 0
  /-- vehicle discharge current limit (R143). -/
  evDisI : Nat := 0
  /-- vehicle discharge power limit (R143, R158). -/
  evDisP : Nat := 0
  /-- power of the schedule entry offered (scheduled mode) (R118). -/
  schedP : Int := 0
  /-- TIME of the last renegotiation asked for (R118). -/
  renegAt : Nat := 0
  /-- HS_CFG.AC_HLC as taken at the lane's last PLUGGED entry (R130). -/
  useHlc : Bool := true
  /-- HS_CFG.PROTO as taken at the last PLUGGED entry (R130). -/
  tProto : Nat := 7
  /-- HS_CFG.AC_FALLBACK as taken then (R130). -/
  tFallback : Bool := true
  /-- HS_CFG.TLS_2 as taken then (R130). -/
  tTls2 : Bool := false
  /-- HS_CFG.PNC as taken then (R130). -/
  tPnc : Bool := true
  /-- HS_CFG.CONTROL as taken then (R130). -/
  tControl : Nat := 0
  /-- V2G and SLAC messages sent to the vehicle, oldest first (R115, R118, R119). -/
  outMsgs : List Bytes := []
deriving DecidableEq, Repr

/-- per lane: handshake counters HS_CNT0-HS_CNT3 (R130). -/
structure CntHs where
  /-- ENG_MISS (R130). -/
  engMiss : Nat := 0
  /-- SLAC_CAND (R130). -/
  slacCand : Nat := 0
  /-- SLAC_WON (R130). -/
  slacWon : Nat := 0
  /-- SLAC_AMBIG (R130). -/
  slacAmbig : Nat := 0
  /-- TLS_FAIL (R130). -/
  tlsFail : Nat := 0
  /-- HLC_TIMEOUT (R130). -/
  hlcTimeout : Nat := 0
  /-- MSG_ERR (R130). -/
  msgErr : Nat := 0
  /-- CHAIN_FAIL (R130). -/
  chainFail : Nat := 0
  /-- PILOT_INVALID (R105, R130). -/
  pilotInvalid : Nat := 0
  /-- DIODE (R130). -/
  diode : Nat := 0
  /-- PP_INVALID (R130). -/
  ppInvalid : Nat := 0
  /-- FALLBACK (R130). -/
  fallback : Nat := 0
  /-- MSG_RX (R130). -/
  msgRx : Nat := 0
  /-- MSG_TX (R130). -/
  msgTx : Nat := 0
  /-- last ENGINE_MISS raised on the lane (R128). -/
  missAt : Option Nat := none
  /-- misses since the last ENGINE_MISS (R128). -/
  missSince : Nat := 0
deriving DecidableEq, Repr

/-- per lane: vehicle handshake. -/
structure HsLane where
  /-- pilot and proximity (R104-R112). -/
  p : PilotHs := {}
  /-- association and HLC (R113-R127). -/
  l : LinkHs := {}
  /-- counters (R130). -/
  c : CntHs := {}
deriving DecidableEq, Repr

/-- a SLAC run in progress (R123-R125). -/
structure Slac where
  /-- RunID (R123). -/
  runId : Nat := 0
  /-- vehicle MAC (R123). -/
  mac : Nat := 0
  /-- candidates (R123). -/
  cands : List Nat := []
  /-- first CM_START_ATTEN_CHAR.IND (R124). -/
  firstAt : Option Nat := none
  /-- sounds received (R124). -/
  sounds : Nat := 0
  /-- per lane, attenuation in dB summed over the 58 carrier groups and the sounds received (R124). -/
  att : List Nat := []
  /-- lane chosen at sounding end (R124). -/
  chosen : Option Nat := none
  /-- best lane (R124). -/
  best : Nat := 0xFF
  /-- its attenuation (R124). -/
  attBest : Nat := 80
  /-- second lane (R124). -/
  second : Nat := 0xFF
  /-- its attenuation (R124). -/
  attSecond : Nat := 80
  /-- runs of this vehicle (R128). -/
  runs : Nat := 1
deriving DecidableEq, Repr

/-- a certificate request to the host (R119). -/
structure CertReq where
  /-- reference (R119, R129). -/
  ref : Nat := 0
  /-- lane (R119). -/
  lane : Nat := 0
  /-- 0 installation, 1 update (R128). -/
  kind : Nat := 0
  /-- protocol (R128). -/
  proto : Nat := 0
  /-- arrival (R119). -/
  arrived : Nat := 0
  /-- EXI request (R129). -/
  exi : Bytes := []
  /-- answered or failed (R129). -/
  answered : Bool := false
deriving DecidableEq, Repr

/-- handshake of the module (R130). -/
structure Hs where
  /-- per lane (R130). -/
  lanes : List HsLane := List.replicate 64 {}
  /-- HS_CFG.PROTO (R130). -/
  proto : Nat := 7
  /-- HS_CFG.AC_HLC (R130). -/
  acHlc : Bool := true
  /-- HS_CFG.AC_FALLBACK (R130). -/
  acFallback : Bool := true
  /-- HS_CFG.TLS_2 (R130). -/
  tls2 : Bool := false
  /-- HS_CFG.PNC (R130). -/
  pnc : Bool := true
  /-- HS_CFG.CONTROL (R130). -/
  control : Nat := 0
  /-- HS_SEL.LANE (R130). -/
  sel : Nat := 0
  /-- SLAC runs in progress (R125, R130). -/
  runs : List Slac := []
  /-- runs begun per vehicle (R128). -/
  past : List (Nat × Nat) := []
  /-- HS_ENG.BUSY (R121, R130). -/
  engBusy : List Bool := List.replicate 16 false
  /-- HS_ENG_MISS.MISS_P0 (R130). -/
  missP0 : Nat := 0
  /-- HS_ENG_MISS.MISS_P1 (R130). -/
  missP1 : Nat := 0
  /-- certificate requests (R119). -/
  certs : List CertReq := []
  /-- last reference given (R119). -/
  certRef : Nat := 0
deriving DecidableEq, Repr

/-- the setpoint last sent to a power module (R147). -/
structure Setpt where
  /-- COUNTER (R147). -/
  counter : Nat := 0
  /-- MODE (R147). -/
  mode : Nat := 0
  /-- U_SET (R147). -/
  u : Nat := 0
  /-- I_SET (R147). -/
  i : Int := 0
  /-- P_SET (R147). -/
  p : Int := 0
  /-- FLAGS.PERMIT (R147). -/
  permit : Bool := false
  /-- FLAGS.SIDE (R147). -/
  side : Bool := false
  /-- TIME sent (R149). -/
  sentAt : Nat := 0
  /-- last mirrored COUNTER (R150). -/
  mirror : Nat := 0
deriving DecidableEq, Repr

/-- the last accepted feedback (R148, R153). -/
structure Feed where
  /-- PP_PM.COUNTER (R148). -/
  counter : Nat := 0
  /-- PP_PM.STATE (R148). -/
  state : Nat := 0
  /-- PP_PM.SINK (R148). -/
  sink : Bool := false
  /-- U_MEAS (R148). -/
  u : Nat := 0
  /-- I_MEAS (R148). -/
  i : Int := 0
  /-- P_AVAIL (R148, R158). -/
  pAvail : Nat := 0
  /-- FAULT_CODE (R148). -/
  faultCode : Nat := 0
  /-- TEMP (R148). -/
  temp : Int := 0
  /-- TIME of the last accepted feedback (R149). -/
  atT : Option Nat := none
  /-- PM_FEEDBACK_LOST raised and no feedback since (R149). -/
  lost : Bool := false
deriving DecidableEq, Repr

/-- per lane: contactors, lock and power module (R131-R150, R153). -/
structure PpLane where
  /-- DCPOS commanded closed (R153). -/
  dcpos : Bool := false
  /-- DCNEG commanded closed (R153). -/
  dcneg : Bool := false
  /-- PRECHARGE commanded closed (R153). -/
  pre : Bool := false
  /-- AC_MAIN commanded closed (R153). -/
  acMain : Bool := false
  /-- lock position commanded locked (MRAM) (R141, R153). -/
  lockPos : Bool := false
  /-- DCPOS confirmed (R153). -/
  cDcpos : Bool := false
  /-- DCNEG confirmed (R153). -/
  cDcneg : Bool := false
  /-- PRECHARGE confirmed (R153). -/
  cPre : Bool := false
  /-- AC_MAIN confirmed (R153). -/
  cAcMain : Bool := false
  /-- lock confirmed (R153). -/
  cLock : Bool := false
  /-- V_LINK as last measured (R133, R139). -/
  vLink : Int := 0
  /-- V_POS_PE as last measured (R133, R139). -/
  vPos : Int := 0
  /-- V_NEG_PE as last measured (R133, R139). -/
  vNeg : Int := 0
  /-- contactor command awaiting confirmation and its limit (R133). -/
  confEnd : Option (Nat × Nat) := none
  /-- when that command was given (R151). -/
  confFrom : Nat := 0
  /-- cable-check phase (R134). -/
  phase : Nat := 0
  /-- entry to that phase (R134). -/
  phaseAt : Nat := 0
  /-- U_CC (R153). -/
  ucc : Nat := 0
  /-- outlet within 2 % of U_cc since (R134, R182). -/
  nearSince : Option Nat := none
  /-- entry into ISOLATION_TEST (R149). -/
  isoAt : Nat := 0
  /-- insulation verdict passed (R84, R134). -/
  isoPass : Bool := false
  /-- precharge target of the vehicle (R135). -/
  target : Option Nat := none
  /-- MATCH (R153). -/
  matched : Bool := false
  /-- power-delivery request whose response is held (R136). -/
  pdSince : Option Nat := none
  /-- the vehicle has requested power delivery (R84, R136). -/
  pdDone : Bool := false
  /-- PRECHARGE to open 20 ms after DCPOS confirmed (R136). -/
  preOpenDue : Option Nat := none
  /-- phase 4 reached: power module in current mode (R136). -/
  currentMode : Bool := false
  /-- DCNEG to open 40 ms after OPEN_CHECK entry (R137). -/
  dcnegDue : Option Nat := none
  /-- WELD (R153). -/
  weld : Nat := 0
  /-- WELD_MS (R153). -/
  weldMs : Nat := 0
  /-- first opening command (R139). -/
  openAt : Nat := 0
  /-- outlet below 60 V since (R140). -/
  belowSince : Option Nat := some 0
  /-- attempt number of the present lock action (R141, R151). -/
  lockTry : Nat := 0
  /-- lock action whose pulse or confirmation is under way (R141). -/
  lockAct : Nat := 0
  /-- end of the 200 ms confirmation window (R141). -/
  lockWin : Option Nat := none
  /-- retry of an unconfirmed lock (R141). -/
  lockRetry : Option Nat := none
  /-- retry of an unconfirmed unlock (R141). -/
  unlockRetry : Option Nat := none
  /-- a lock pulse follows the unlock pulse in progress (R141). -/
  relock : Bool := false
  /-- lock feedback input reads closed (R141). -/
  feedback : Bool := false
  /-- target of a direction change, 0 none (R144). -/
  dirTarget : Nat := 0
  /-- end of the 100 ms hold at 0 A (R144). -/
  dirHold : Option Nat := none
  /-- setpoint (R147). -/
  spTx : Setpt := {}
  /-- feedback (R148). -/
  fb : Feed := {}
  /-- sources that raised the OUTPUT cause: bit 0 channel trip, 1 open load, 2 contactor, 3 feedback (R283). -/
  outSrc : Nat := 0
  /-- accepted feedback without STATE 4 or a gap longer than TIMEOUT since (R283). -/
  fbGood : Option Nat := none
  /-- BAD_FB (R153). -/
  badFb : Nat := 0
  /-- FB_LOST (R153). -/
  fbLost : Nat := 0
  /-- CONTACT_FAIL (R153). -/
  contactFail : Nat := 0
  /-- LOCK_FAIL (R153). -/
  lockFail : Nat := 0
deriving DecidableEq, Repr

/-- CAN FD controller PP_CANk (R145, R153). -/
structure PpCan where
  /-- NOMINAL (R153). -/
  nominal : Nat := 2
  /-- DATA (R153). -/
  data : Nat := 1
  /-- ENABLE (R153). -/
  enable : Bool := true
  /-- written setting waiting to take effect (R153). -/
  pend : Option (Nat × Nat × Bool) := none
  /-- BUS_OFF (R153). -/
  busOff : Nat := 0
  /-- TEC (R153). -/
  tec : Nat := 0
  /-- REC (R153). -/
  recErr : Nat := 0
  /-- controller is bus-off (R145). -/
  isOff : Bool := false
deriving DecidableEq, Repr

/-- power path of the module (R153). -/
structure Pp where
  /-- per lane (R153). -/
  lanes : List PpLane := List.replicate 64 {}
  /-- PP_CAN0-PP_CAN3 (R153). -/
  cans : List PpCan := List.replicate 4 {}
  /-- PP_SEL.LANE (R153). -/
  sel : Nat := 0
  /-- setpoint frames sent, oldest first (R147). -/
  canOut : List (Nat × Nat × Bytes) := []
deriving DecidableEq, Repr

/-- a curtailment limit of a request (R162). -/
structure Curtail where
  /-- group 0-15 or 0xFF module (R162, R170). -/
  scope : Nat := 0xFF
  /-- limit (R170). -/
  limit : Nat := 0
  /-- end in legal time, none until cleared (R162). -/
  endLegal : Option Nat := none
deriving DecidableEq, Repr

/-- a release hold under R164. -/
structure Release where
  /-- source code of CURTAIL_START (R171). -/
  source : Nat := 0
  /-- scope (R171). -/
  scope : Nat := 0xFF
  /-- limit still applied (R164). -/
  limit : Nat := 0
  /-- end of the hold (R164). -/
  until_ : Nat := 0
  /-- RELEASE_S when the hold began (R171). -/
  hold : Nat := 0
  /-- the hold has ended, the budget rises at the next regular round (R164). -/
  ended : Bool := false
deriving DecidableEq, Repr

/-- the bidirectional dispatch (R165). -/
structure Dispatch where
  /-- lane mask (R165). -/
  mask : Nat := 0
  /-- export target (R165). -/
  target : Nat := 0
  /-- end, none until cleared (R170). -/
  until_ : Option Nat := none
  /-- applied by a round (R171). -/
  started : Bool := false
  /-- a dispatch was running when this one came (R171). -/
  prev : Bool := false
deriving DecidableEq, Repr

/-- one lane of a share report (R168). -/
structure HubLane where
  /-- lane (R168). -/
  lane : Nat := 0
  /-- group (R168). -/
  group : Nat := 0
  /-- priority (R168). -/
  priority : Nat := 0
  /-- active lane or claimant (R168). -/
  active : Bool := false
  /-- floor (R168). -/
  floor : Nat := 0
  /-- cap (R168). -/
  cap : Nat := 0
deriving DecidableEq, Repr

/-- the last share report of a module (R168). -/
structure HubRep where
  /-- Kryuz short address (R168, R171). -/
  addr : Nat := 0
  /-- EUI-64 (R159). -/
  eui : Nat := 0
  /-- arrival (R169). -/
  atT : Nat := 0
  /-- module budget without the grant (R168). -/
  budget : Nat := 0
  /-- its FALLBACK_W (R169). -/
  fallback : Nat := 0
  /-- group budgets (R168). -/
  groups : List (Nat × Nat) := []
  /-- lanes reported (R168). -/
  lanes : List HubLane := []
  /-- counted absent (R169). -/
  absent : Bool := false
deriving DecidableEq, Repr

/-- per lane: power sharing. -/
structure PsLane where
  /-- cap set by PS_LANE_CAP (R156, R170). -/
  capW : Option Nat := none
  /-- phase sector (7 unknown) (R166, R172). -/
  sector : Nat := 7
  /-- RMS phase voltage averaged over the last 1 s (R160). -/
  uRms : Option Nat := none
  /-- AC_MAIN confirmed closed since (R160). -/
  acSince : Option Nat := none
  /-- measured power averaged over the last 1 s (R156). -/
  pAvg : Nat := 0
  /-- allocated current per phase (R160, R167). -/
  iPhase : Nat := 0
deriving DecidableEq, Repr

/-- power sharing (R154-R172). -/
structure Ps where
  /-- per lane (R172). -/
  lanes : List PsLane := List.replicate 64 {}
  /-- PS_CFG.UNBAL_A (R172). -/
  unbalA : Nat := 16
  /-- PS_CFG.RELEASE_S (R172). -/
  releaseS : Nat := 10
  /-- PS_CFG.EXPORT_CREDIT (R172). -/
  exportCredit : Bool := false
  /-- PS_CFG.GLIM0_POL (R172). -/
  glim0Pol : Bool := false
  /-- PS_CFG.GLIM1_POL (R172). -/
  glim1Pol : Bool := false
  /-- PS_LIMITS.MODULE_W (R172). -/
  moduleW : Nat := 0
  /-- PS_LIMITS.FALLBACK_W (R172). -/
  fallbackW : Nat := 0
  /-- PS_GLIM.GLIM0_W (R172). -/
  glim0W : Nat := 0
  /-- PS_GLIM.GLIM1_W (R172). -/
  glim1W : Nat := 0
  /-- PS_PHASE.LIMIT (R172). -/
  phaseLimit : Nat := 0
  /-- PS_PHASE.L1 (R172). -/
  l1 : Nat := 0
  /-- PS_PHASE.L2 (R172). -/
  l2 : Nat := 0
  /-- PS_PHASE.L3 (R172). -/
  l3 : Nat := 0
  /-- PS_STATUS.BUDGET_W (R172). -/
  budgetW : Nat := 0
  /-- PS_STATUS.ACTIVE (R172). -/
  activeN : Nat := 0
  /-- PS_STATUS.WAITING (R172). -/
  waitingN : Nat := 0
  /-- PS_STATUS.GLIM0_ACT (R172). -/
  glim0Act : Bool := false
  /-- PS_STATUS.GLIM1_ACT (R172). -/
  glim1Act : Bool := false
  /-- PS_STATUS.FALLBACK (R172). -/
  fallback : Bool := false
  /-- PS_STATUS.SHORT (R172). -/
  short : Bool := false
  /-- PS_ALLOC.IMPORT_W (R172). -/
  importW : Nat := 0
  /-- PS_ALLOC.EXPORT_W (R172). -/
  exportW : Nat := 0
  /-- PS_HUB.GRANT_W (R172). -/
  grantW : Nat := 0
  /-- arrival of the last grant (GRANT_AGE) (R169, R172). -/
  grantAt : Option Nat := none
  /-- TIME from which the 3 s without a grant run: the last grant, or the start of the membership (R169). -/
  grantFrom : Nat := 0
  /-- a lower hub grant has been reported as a curtailment (R171). -/
  grantCut : Bool := false
  /-- the master has changed since the last grant (R169). -/
  newMaster : Bool := false
  /-- PS_SEL.GROUP (R172). -/
  sel : Nat := 0
  /-- request curtailments that stand (MRAM) (R162). -/
  curtails : List Curtail := []
  /-- release holds (R164). -/
  releases : List Release := []
  /-- dispatch (R165). -/
  dispatch : Option Dispatch := none
  /-- PS_LANE_CAP and PS_DISPATCH tickets taking effect at the next round (R170). -/
  roundTickets : List Nat := []
  /-- PS_HUB_LIMIT tickets completing at the next hub round (R170). -/
  hubTickets : List Nat := []
  /-- hub limit stored in MRAM (R169, R170). -/
  hubLimit : Nat := 0
  /-- last reports of the hub's modules (master) (R168). -/
  reports : List HubRep := []
  /-- grants of the last hub round (R168). -/
  grantsOut : List (Nat × Nat) := []
  /-- TIME of the last allocation round (R158). -/
  lastRound : Nat := 0
  /-- energy exported since the last regular round (R165). -/
  expQ : Nat := 0
  /-- export measured over the previous round (R165). -/
  exportMeas : Nat := 0
deriving DecidableEq, Repr

/-- per group: insulation monitoring (R173-R188, R196). -/
structure EfGroup where
  /-- state code (R179). -/
  state : Nat := 0
  /-- R_OHM (R196). -/
  rGrp : Nat := 0xFFFFFFFF
  /-- C_NF (R196). -/
  cNf : Nat := 0xFFFF
  /-- whole chips driven since the first lane connected (R544). -/
  chips : Nat := 0
  /-- SKIPPED (R178, R196). -/
  skipped : Nat := 0
  /-- end of the last contactor disturbance (command + 60 ms) (R178). -/
  disturbedTo : Nat := 0
  /-- its start (R178). -/
  disturbedFrom : Nat := 0
  /-- consecutive counted updates towards NORMAL (R179). -/
  cntNormal : Nat := 0
  /-- consecutive counted updates towards WARNING (R179). -/
  cntWarn : Nat := 0
  /-- consecutive counted updates towards FAULT (R179). -/
  cntFault : Nat := 0
  /-- consecutive valid counted updates while INVALID (R179, R545). -/
  cntValid : Nat := 0
  /-- INVALID since (R179). -/
  invalidAt : Option Nat := none
  /-- self-test failure stands (R187). -/
  stFail : Bool := false
  /-- the last c_est lay below 10 nF (R187). -/
  coupOpen : Bool := false
  /-- located lane being verified (R183). -/
  located : Option Nat := none
  /-- end of the 480 ms verification (R183). -/
  verifyEnd : Option Nat := none
  /-- group reaction made (R183). -/
  reacted : Bool := false
  /-- PERMIT withdrawn by a group reaction until no lane of the group holds ISOLATION (R183). -/
  held : Bool := false
  /-- group reactions within 3,600 s (R185). -/
  reactions : List Nat := []
  /-- LOCKED (MRAM) (R185, R196). -/
  locked : Bool := false
  /-- consecutive failing driver read-backs (R187). -/
  drvFails : Nat := 0
  /-- TESTING (R196). -/
  testing : Bool := false
  /-- EF_SELFTEST ticket (R194). -/
  testTicket : Option Nat := none
  /-- end of the group's last test (R187). -/
  testAt : Nat := 0
  /-- start of the test in progress (R187). -/
  testFrom : Nat := 0
  /-- the test of the first connection is due (R187). -/
  testDue : Bool := false
  /-- EF_TEST.PASS (R196). -/
  testPass : Bool := false
  /-- EF_TEST.FAIL (R196). -/
  testFail : Bool := false
  /-- EF_LOC.LANE (R196). -/
  locLane : Nat := 0
  /-- LOCATED (R196). -/
  locValid : Bool := false
  /-- CABINET (R196). -/
  locCabinet : Bool := false
  /-- SHARE (R196). -/
  locShare : Nat := 0
  /-- R_LANE (R196). -/
  locR : Nat := 0
  /-- SECOND (R196). -/
  locSecond : Nat := 0
  /-- SECOND_SHARE (R196). -/
  locShare2 : Nat := 0
deriving DecidableEq, Repr

/-- per lane: insulation estimate and residual current (R177, R189-R193, R196). -/
structure EfLane where
  /-- R_OHM (R196). -/
  rLane : Nat := 0xFFFFFFFF
  /-- I_DC (R196). -/
  iDc : Int := 0
  /-- I_AC (R196). -/
  iAc : Nat := 0
  /-- fluxgate zero (R190). -/
  zeroUa : Int := 0
  /-- zeroing (R192). -/
  zeroAt : Nat := 0
  /-- mean of the fluxgate signal over the last 100 ms (R190). -/
  meanUa : Int := 0
  /-- consecutive mains periods at 25 mA rms or more (R192). -/
  acRuns : Nat := 0
  /-- fluxgate fault stands (R190). -/
  flux : Bool := false
  /-- foreign codes: consecutive updates, last CROSS_CODE (R186). -/
  cross : List (Nat × Nat × Nat) := []
  /-- every contactor confirmed open since (R185). -/
  openSince : Option Nat := some 0
  /-- updates since the outlet came within 2 % of U_cc (R182). -/
  settleN : Nat := 0
  /-- last counted verdict value, as a conductance (R182). -/
  lastV : Option Nat := none
  /-- estimate settled (R182). -/
  settled : Bool := false
  /-- lowest verdict value in the measurement window, as a conductance (R182). -/
  winLow : Option Nat := none
deriving DecidableEq, Repr

/-- earth fault (R173-R196). -/
structure Ef where
  /-- per group (R196). -/
  groups : List EfGroup := List.replicate 16 {}
  /-- per lane (R196). -/
  lanes : List EfLane := List.replicate 64 {}
  /-- EF_SEL.GROUP (R196). -/
  selGroup : Nat := 0
  /-- EF_SEL.LANE (R196). -/
  selLane : Nat := 0
  /-- EF_TEST.LAST_MS (R196). -/
  lastMs : Nat := 0
  /-- ISO_FAULTS (R196). -/
  isoFaults : Nat := 0
  /-- ISO_WARNINGS (R196). -/
  isoWarnings : Nat := 0
  /-- RES_TRIPS (R196). -/
  resTrips : Nat := 0
  /-- TEST_FAILS (R196). -/
  testFails : Nat := 0
  /-- EF_CFG.TEST_MIN (R196). -/
  testMin : Nat := 60
  /-- EF_CFG.CROSS_EN (R196). -/
  crossEn : Bool := true
deriving DecidableEq, Repr

/-- a Tracer channel (R197-R209, R221). -/
structure MtChan where
  /-- SAMPLE (latest corrected) (R221). -/
  sample : Int := 0
  /-- CLIP (R221). -/
  clip : Bool := false
  /-- clipped without a break since (R204). -/
  clipSince : Option Nat := none
  /-- clipped for 10 ms or more (R204). -/
  clipTimeout : Bool := false
  /-- last MT_CLIP (R204). -/
  clipAt : Option Nat := none
  /-- runs of clipped samples within the last minute, newest first (R204, R220). -/
  clipRuns : List (Nat × Nat) := []
  /-- CLIPS (R221). -/
  clips : Nat := 0
  /-- the channel has delivered a sample (R197). -/
  seen : Bool := false
  /-- FAULT (R205, R221). -/
  fault : Bool := false
  /-- activity check passes (R204). -/
  actOk : Bool := true
  /-- delivers valid samples again since (R205). -/
  validSince : Option Nat := none
  /-- coil integrator settles (R203). -/
  settleEnd : Option Nat := none
  /-- GAIN coefficient (2^30) (R207). -/
  gain : Nat := 1073741824
  /-- OFFSET (R207). -/
  offset : Int := 0
  /-- DELAY (R207). -/
  delay : Int := 0
  /-- coefficients reset by a matrix and not yet written (R209). -/
  reset_ : Bool := false
deriving DecidableEq, Repr

/-- what one sample instant gives a lane (R222, R223): the products and squares a period mean runs over. -/
structure MtSamp where
  /-- product of voltage and current (R222). -/
  s : Rat := 0
  /-- product of delayed voltage and current (R222). -/
  q : Rat := 0
  /-- square of the first phase current (R232). -/
  i1 : Rat := 0
  /-- of the second (R232). -/
  i2 : Rat := 0
  /-- of the third (R232). -/
  i3 : Rat := 0
  /-- magnitude of the first phase voltage (R84, R133). -/
  pk1 : Rat := 0
  /-- of the second (R84, R133). -/
  pk2 : Rat := 0
  /-- of the third (R84, R133). -/
  pk3 : Rat := 0
deriving DecidableEq, Repr

/-- 100 ms of a lane's measurement (R156, R160). -/
structure MtBlk where
  /-- sum of squared phase voltages (R160). -/
  v2 : Rat := 0
  /-- sum of active power (R156). -/
  p : Rat := 0
  /-- samples summed (R160). -/
  n : Nat := 0
deriving DecidableEq, Repr

/-- per lane: gate, calibration generation, temperature (R206-R213, R221). -/
structure MtLane where
  /-- RUN (R212, R221). -/
  run : Bool := false
  /-- consecutive evaluations at or above the start threshold (R212). -/
  above : Nat := 0
  /-- consecutive evaluations below the stop threshold (R212). -/
  under : Nat := 0
  /-- UNCAL (R209, R221). -/
  uncal : Bool := false
  /-- TEST (R213, R221). -/
  test : Bool := false
  /-- end of test mode (24 h) (R213). -/
  testEnd : Option Nat := none
  /-- test import register (R213, R219). -/
  testImp : Nat := 0
  /-- test export register (R213, R219). -/
  testExp : Nat := 0
  /-- the newest samples of an AC lane, newest first (R223). -/
  win : List MtSamp := []
  /-- the last V_L1N sample was negative (R223). -/
  neg : Bool := false
  /-- samples since the last rising zero crossing (R223). -/
  cross : Option Nat := none
  /-- samples in the last whole period, none without a valid period (R223). -/
  period : Option Nat := none
  /-- the 100 ms in progress (R160). -/
  blk : MtBlk := {}
  /-- the last ten whole 100 ms, newest first (R160). -/
  blks : List MtBlk := []
  /-- sum of DC current since the last creep evaluation (R212). -/
  dcSum : Rat := 0
  /-- samples in it (R212). -/
  dcN : Nat := 0
  /-- mean square current of each whole period ended since the last creep evaluation (R212). -/
  acRms : List Rat := []
  /-- TEMP_FAULT (R206, R221). -/
  tempFault : Bool := false
  /-- TEMP (0x8000) (R221). -/
  temp : Int := -32768
  /-- PT1000 out of range since (R206). -/
  tempBad : Option Nat := none
  /-- CAL_GEN (R207, R221). -/
  calGen : Nat := 0
deriving DecidableEq, Repr

/-- pulse input (R214-R218, R221). -/
structure MtPulse where
  /-- COUNT (R221). -/
  count : Nat := 0
  /-- count last taken by the plate cores (R218). -/
  taken : Nat := 0
  /-- RATE (R221). -/
  rate : Nat := 0
  /-- pulses of the present second (R218). -/
  inSec : Nat := 0
  /-- LEVEL (R221). -/
  level : Bool := false
  /-- standing fault kind, 0 none (R216, R220). -/
  fault : Nat := 0
  /-- REJECTED (R221). -/
  rejected : Nat := 0
  /-- last PULSE_RATE (R218). -/
  rateAt : Option Nat := none
  /-- source folded back (R530). -/
  folded : Bool := false
  /-- fold-back (R530). -/
  foldAt : Nat := 0
  /-- stamps of accepted pulses not yet entered by the plate cores (R218). -/
  stamps : List Nat := []
deriving DecidableEq, Repr

/-- measurement chain (R197-R221). -/
structure Mt where
  /-- Tracer channels (R221). -/
  chans : List MtChan := List.replicate 320 {}
  /-- per lane (R221). -/
  lanes : List MtLane := List.replicate 64 {}
  /-- pulse inputs (R221). -/
  pulses : List MtPulse := List.replicate 32 {}
  /-- REF_OK (R221). -/
  refOk : List Bool := List.replicate 4 false
  /-- MT_SEL.CHAN (R221). -/
  selChan : Nat := 0
  /-- MT_SEL.LANE (R221). -/
  selLane : Nat := 0
  /-- MT_SEL.PLS (R221). -/
  selPls : Nat := 0
  /-- CHAN_FAULTS (R221). -/
  chanFaults : Nat := 0
  /-- CLIP_EVENTS (R221). -/
  clipEvents : Nat := 0
  /-- PLS_FAULTS (R221). -/
  plsFaults : Nat := 0
  /-- CAL_WRITES over the module's life (R221). -/
  calWrites : Nat := 0
deriving DecidableEq, Repr

/-- the 96-bit accumulators of one lane or custody channel (R226, R227). -/
structure Acc where
  /-- IMPORT accumulator (R226, R247). -/
  imp : Nat := 0
  /-- EXPORT accumulator (R226, R247). -/
  exp : Nat := 0
  /-- CONN_IMPORT accumulator (R232, R247). -/
  cImp : Nat := 0
  /-- CONN_EXPORT accumulator (R232, R247). -/
  cExp : Nat := 0
  /-- Q1 (R225, R247). -/
  q1 : Nat := 0
  /-- Q2 (R225, R247). -/
  q2 : Nat := 0
  /-- Q3 (R225, R247). -/
  q3 : Nat := 0
  /-- Q4 (R225, R247). -/
  q4 : Nat := 0
  /-- import rate registers T1-T8 (R227, R332). -/
  rImp : List Nat := List.replicate 8 0
  /-- export rate registers T1-T8 (R227, R332). -/
  rExp : List Nat := List.replicate 8 0
deriving DecidableEq, Repr

/-- open session of a lane (R231, R241, R242). -/
structure SessEn where
  /-- session number (R242). -/
  number : Nat := 0
  /-- START readings taken (R241). -/
  started : Bool := false
  /-- START_SEQ (R242). -/
  startSeq : Nat := 0
  /-- START_LEGAL (R242). -/
  startLegal : Nat := 0
  /-- START readings (R241). -/
  start : Acc := {}
  /-- tamper bits that stood at any time during the session (R237). -/
  tamper : Nat := 0
  /-- TIME_CHANGED (R242). -/
  timeChanged : Bool := false
  /-- SIDE_CHANGE (R242). -/
  sideChange : Bool := false
  /-- GAP (R242). -/
  gap : Bool := false
  /-- DEGRADED (R242). -/
  degraded : Bool := false
deriving DecidableEq, Repr

/-- a closed session record on its way to its signature (R241-R243). -/
structure RecPend where
  /-- LANE (R242). -/
  lane : Nat := 0
  /-- SESSION (R242). -/
  session : Nat := 0
  /-- bytes 0x00-0xCF, the SEQ fields still 0 (R242). -/
  head : Bytes := []
  /-- TIME of the closing (R241). -/
  endTime : Nat := 0
  /-- START_SEQ, 0 until the event is numbered (R242). -/
  startSeq : Nat := 0
  /-- END_SEQ, 0 until the event is numbered (R242). -/
  endSeq : Nat := 0
  /-- account cell whose SEQ takes END_SEQ (R336). -/
  cell : Option Nat := none
deriving DecidableEq, Repr

/-- registers of one lane or custody channel (R226-R237, R247). -/
structure EnSet where
  /-- accumulators (R226). -/
  acc : Acc := {}
  /-- accumulators at the start of the open demand interval (R229, R231). -/
  intAcc : Acc := {}
  /-- LAST_IMP (R229, R247). -/
  demImp : Nat := 0
  /-- LAST_EXP (R229, R247). -/
  demExp : Nat := 0
  /-- MAX_IMP (R229, R247). -/
  maxImp : Nat := 0
  /-- MAX_EXP (R229, R247). -/
  maxExp : Nat := 0
  /-- legal time of MAX_IMP (R229). -/
  maxImpAt : Nat := 0
  /-- legal time of MAX_EXP (R229). -/
  maxExpAt : Nat := 0
  /-- tamper word (R236, R247). -/
  tamper : Nat := 0
  /-- CABLE_R (R232, R247). -/
  cableR : Nat := 0
  /-- GAP (R247). -/
  gap : Bool := false
  /-- samples or pulses went unregistered in the open demand interval (R240). -/
  intGap : Bool := false
  /-- reverse current or rate above its limit without a break since (R235). -/
  revSince : Option Nat := none
  /-- the BYPASS condition holds (R236, R237). -/
  bypass : Bool := false
  /-- the MISSING_NEUTRAL condition holds (R236, R237). -/
  noNeutral : Bool := false
  /-- export accumulator the quantity condition counts from (R235). -/
  revExp : Nat := 0
  /-- last REVERSE_FLOW (R235). -/
  revAt : Option Nat := none
  /-- open session (R241). -/
  sess : Option SessEn := none
deriving DecidableEq, Repr

/-- what a register copy holds of an open session besides its registers (R231, R239). -/
structure OpenSess where
  /-- lane (R231). -/
  lane : Nat := 0
  /-- ID_SOURCE (R242). -/
  src : Nat := 0
  /-- ACCOUNT (R242). -/
  account : Option Nat := none
  /-- RAMP_FORCED (R242). -/
  ramp : Bool := false
deriving DecidableEq, Repr

/-- one register copy in MRAM (R231, R238, R239). -/
structure EnSave where
  /-- lanes as committed (R231). -/
  lanes : List EnSet := List.replicate 64 {}
  /-- custody channels as committed (R231). -/
  cust : List EnSet := List.replicate 32 {}
  /-- SEQ of the commit (R231). -/
  seq : Nat := 0
  /-- CRC-32 good (R231). -/
  crcOk : Bool := true
  /-- SAVED marker (new module: on copy A) (R238, R239). -/
  saved : Bool := false
  /-- open sessions (R231). -/
  opens : List OpenSess := []
  /-- TIME of the warning or of the commit (R238). -/
  tw : Nat := 0
  /-- legal time of the warning or of the commit (R238). -/
  lw : Nat := 0
deriving DecidableEq, Repr

/-- energy registers (R222-R247). -/
structure En where
  /-- register sets of lanes (R247). -/
  lanes : List EnSet := List.replicate 64 {}
  /-- register sets of custody channels (R247). -/
  cust : List EnSet := List.replicate 32 {}
  /-- register copy A (R231, R239). -/
  copyA : EnSave := { saved := true }
  /-- register copy B (R231, R239). -/
  copyB : EnSave := {}
  /-- copy the next commit writes (R231). -/
  nextCopy : Nat := 1
  /-- accumulators mirrored to the standby side (R230). -/
  mirror : List EnSet := List.replicate 64 {}
  /-- custody accumulators mirrored (R230). -/
  mirrorCust : List EnSet := List.replicate 32 {}
  /-- stamp of the last sample consumed at the mirror (R230). -/
  mirrorStamp : Nat := 0
  /-- stamp of the last sample consumed (R222). -/
  lastStamp : Nat := 0
  /-- EN_SEL.INDEX (R247). -/
  selIndex : Nat := 0
  /-- EN_SEL.KIND (R247). -/
  selKind : Nat := 0
  /-- EN_BIDIR of METER lanes (R247). -/
  bidir : Nat := 0
  /-- BIDIR_CUST (R247). -/
  bidirCust : Nat := 0
  /-- latched COVER_OPEN (R237, R247). -/
  coverOpen : Bool := false
  /-- COVER_NOW (R247). -/
  coverNow : Bool := false
  /-- opening seen outside RUN, waiting for RUN (R236). -/
  coverPend : Option Nat := none
  /-- session records, newest first (R244). -/
  records : List Bytes := []
  /-- RECORD_NEXT (R247). -/
  recordNext : Nat := 0
  /-- RECORDS (R247). -/
  recordCount : Nat := 0
  /-- impressions, newest first (R244). -/
  imprs : List Bytes := []
  /-- IMPR_NEXT (R247). -/
  imprNext : Nat := 0
  /-- records closed and not yet signed (R241, R243). -/
  closing : List RecPend := []
  /-- EN_SAVE.LEGAL_S (R247). -/
  saveLegal : Nat := 0
  /-- EN_SAVE.DURATION (R247). -/
  saveDur : Nat := 0
  /-- EN_SAVE.SAVE_LOST (R239, R247). -/
  saveLost : Bool := false
  /-- EN_SAVE.COPY (R239, R247). -/
  restored : Nat := 0
  /-- power-fail warning being saved (t_w) (R238). -/
  warnAt : Option Nat := none
  /-- neither register copy had a good CRC (R239). -/
  noCopy : Bool := false
deriving DecidableEq, Repr

/-- the Graver (R248-R260, R275). -/
structure Graver where
  /-- VGRV supplied (R251). -/
  powered : Bool := true
  /-- Graver part of the parameter block loaded with a good CRC (R251). -/
  loaded : Bool := false
  /-- group grants held (R250, R275). -/
  grants : Nat := 0
  /-- lane grants held (R250). -/
  laneGrants : Nat := 0
  /-- counter of the last grant word taken (R250). -/
  counter : Option Nat := none
  /-- last grant word taken (R250). -/
  takenAt : Nat := 0
  /-- a valid grant word has been taken since VGRV rose (R251). -/
  everTaken : Bool := false
  /-- GRANT_WD (R250, R275). -/
  wd : Bool := false
  /-- GRANT_TIMEOUT raised for this expiry (R250). -/
  wdTold : Bool := false
  /-- trip latches set, comparator numbers (R256, R275). -/
  latches : List Nat := []
  /-- lanes that took a trip's cause (R256). -/
  taken : List (Nat × Nat) := []
  /-- watched input inside the watch window since (R256). -/
  inside : List (Nat × Nat) := []
  /-- PAIRS: ESTA, ESTB, GRDA, GRDB closed (R275). -/
  pairs : Nat := 0
  /-- XTRIP asserted (R275). -/
  xtrip : Nat := 0
  /-- EST_FAULT (R259, R275). -/
  estFault : Bool := false
  /-- GRD_FAULT (R259, R275). -/
  grdFault : Bool := false
  /-- TIME of each pair channel's last change (R259). -/
  moveAt : List (Option Nat) := List.replicate 4 none
  /-- clearing of each pair's fault: both have opened together (R259). -/
  cleared : List Nat := [0, 0]
  /-- SELF_FAIL (R252, R275). -/
  selfFail : Bool := false
  /-- lanes whose Pilot die reports a confirmed pilot fault (R249, R260). -/
  pilotBad : Nat := 0
  /-- Graver reloads its part of the block (R270). -/
  reloadDue : Option Nat := none
  /-- PERMIT ball levels (R248, R275). -/
  permit : Nat := 0
deriving DecidableEq, Repr

/-- parameters loaded in the Graver (R269, R270). -/
structure GrvPar where
  /-- DISC_TIME (R269). -/
  discTime : Nat := 500
  /-- EST_MASK (R269). -/
  estMask : Nat := 0xFFFF
  /-- GRD_MASK (R269). -/
  grdMask : Nat := 0xFFFF
  /-- XTRIP_MASK (R269). -/
  xtripMask : List Nat := [0xFFFF, 0xFFFF, 0xFFFF, 0xFFFF]
deriving DecidableEq, Repr

/-- the safety parameter block (R269). -/
structure SpBlock where
  /-- ISO_WARN (R269). -/
  isoWarn : Nat := 500
  /-- ISO_FAULT (R269). -/
  isoFault : Nat := 100
  /-- DEG_FRACTION (R269). -/
  degFraction : Nat := 50
  /-- DEG_TIME (R269). -/
  degTime : Nat := 120
  /-- CUR_WIN_MIN (R269). -/
  curWinMin : Nat := 110
  /-- CUR_WIN_MAX (R269). -/
  curWinMax : Nat := 300
  /-- VOLT_WIN_MAX (R269). -/
  voltWinMax : Nat := 115
  /-- RES_WIN_MAX (R269). -/
  resWinMax : Nat := 250
  /-- T_WARN (R269). -/
  tWarn : Nat := 80
  /-- T_STOP (R269). -/
  tStop : Nat := 95
  /-- STIPPLE_W (R269). -/
  stippleW : Nat := 150
  /-- DISC_TIME (R269). -/
  discTime : Nat := 500
  /-- EST_MASK (R269). -/
  estMask : Nat := 0xFFFF
  /-- GRD_MASK (R269). -/
  grdMask : Nat := 0xFFFF
  /-- XTRIP_MASK (R269). -/
  xtripMask : List Nat := List.replicate 4 0xFFFF
  /-- GROUP_P_BOUND (R269). -/
  groupPBound : List Nat := List.replicate 16 0
  /-- FG_SCALE (R269). -/
  fgScale : List Nat := List.replicate 64 300
  /-- FG_GAIN (R269). -/
  fgGain : List Nat := List.replicate 64 10000
deriving DecidableEq, Repr

/-- change-log entry (R272). -/
structure SpLog where
  /-- SEQ of PARAM_CHANGED (R272). -/
  seq : Nat := 0
  /-- LEGAL (R272). -/
  legal : Nat := 0
  /-- ROLE (R272). -/
  role : Nat := 0
  /-- KEY (R272). -/
  key : Nat := 0
  /-- OLD (R272). -/
  old : Nat := 0
  /-- NEW (R272). -/
  new : Nat := 0
deriving DecidableEq, Repr

/-- per lane: safety cores (R261-R263). -/
structure SfLane where
  /-- consecutive readings at or above T_WARN (R261). -/
  warnN : Nat := 0
  /-- consecutive readings at or above T_STOP (R261). -/
  stopN : Nat := 0
  /-- readings below T_STOP - 15 K since (R261). -/
  coolAt : Option Nat := none
  /-- lane grant of the safety cores (R249). -/
  grant : Bool := false
  /-- lane gate held closed by a residual stage or located isolation (R192). -/
  resGate : Bool := false
deriving DecidableEq, Repr

/-- per comparator: watch comparison (R262). -/
structure Watch where
  /-- consecutive mismatches (R262). -/
  mism : Nat := 0
  /-- disagreement stands (R262). -/
  stands : Bool := false
  /-- comparison has matched since (R262). -/
  matchAt : Option Nat := none
  /-- hazardous disagreement (R263). -/
  hazard : Bool := false
deriving DecidableEq, Repr

/-- stipple state of an output or PERMIT ball (R267). -/
structure Stip where
  /-- consecutive misses (R267). -/
  misses : Nat := 0
  /-- consecutive good pulses (R267). -/
  goods : Nat := 0
  /-- suspect (R267, R275). -/
  suspect : Bool := false
  /-- a pulse that fell due in the blanking window is deferred (R266). -/
  deferred : Bool := false
deriving DecidableEq, Repr

/-- safety functions (R248-R275). -/
structure Sf where
  /-- the Graver (R248). -/
  grv : Graver := {}
  /-- parameters in force in the Graver (R270). -/
  grvPar : GrvPar := {}
  /-- group grants of the safety cores (R248). -/
  groupGrant : Nat := 0
  /-- group grants withdrawn for a hazardous disagreement (R263). -/
  hazGroups : List (Nat × Nat) := []
  /-- per lane (R261). -/
  lanes : List SfLane := List.replicate 64 {}
  /-- per comparator (R262). -/
  watch : List Watch := List.replicate 128 {}
  /-- outputs (R267, R275). -/
  stipO : List Stip := List.replicate 128 {}
  /-- PERMIT balls (R267, R275). -/
  stipP : List Stip := List.replicate 16 {}
  /-- TEST_PHASE (R268, R275). -/
  phase : Nat := 1
  /-- both guards open (phase 2) or closed (phase 3) since (R268). -/
  phaseAt : Option Nat := none
  /-- guard test required by (R274). -/
  required : Nat := 0
  /-- GSTATUS.GUARD_TESTED (R268). -/
  guardTested : Bool := false
  /-- parameter block in force (a new module holds the defaults) (R269). -/
  block : SpBlock := {}
  /-- BLOCK_OK (register reset 0 until the block is loaded at start-up) (R269, R275). -/
  blockOk : Bool := true
  /-- CHANGES (R275). -/
  changes : Nat := 0
  /-- change log, newest first (R272). -/
  log : List SpLog := []
  /-- LOG_NEXT (R275). -/
  logNext : Nat := 0
  /-- the password whose hash is stored, none when none is set (R271). -/
  password : Option Bytes := none
  /-- first half of a replacement and the end of its 300 s (R271). -/
  replace : Option (Bytes × Nat) := none
  /-- wrong passwords within 300 s (R271). -/
  pwFails : List Nat := []
  /-- end of the lock (PW_LOCKED) (R271, R275). -/
  pwLock : Option Nat := none
  /-- TRIPS (R275). -/
  trips : Nat := 0
  /-- DISAGREES (R275). -/
  disagrees : Nat := 0
  /-- STIPPLE_MISS (R275). -/
  stippleMiss : Nat := 0
  /-- GRANT_TIMEOUTS (R275). -/
  grantTimeouts : Nat := 0
deriving DecidableEq, Repr

/-- output channel (R277-R292). -/
structure PoCh where
  /-- CMD (R292). -/
  cmd : Bool := false
  /-- OUT (R292). -/
  out : Bool := false
  /-- GATED (R292). -/
  gated : Bool := false
  /-- end of the blanking window (BLANK) (R279, R292). -/
  blankEnd : Option Nat := none
  /-- LIMIT (R292). -/
  limit : Bool := false
  /-- amount the limit is lowered (DIE_LIM) (R281, R292). -/
  lowered : Nat := 0
  /-- held at a lowered limit since (R281). -/
  lowAt : Option Nat := none
  /-- THERMAL (R292). -/
  thermal : Bool := false
  /-- LATCHED (R292). -/
  latched : Bool := false
  /-- OPEN_ON (R292). -/
  openOn : Bool := false
  /-- OPEN_OFF (R292). -/
  openOff : Bool := false
  /-- SHORT_SUP (R292). -/
  shortSup : Bool := false
  /-- PROOF_FAIL (R292). -/
  proofFail : Bool := false
  /-- a proof cycle has run since reset (R288). -/
  proofed : Bool := false
  /-- a deferred proof cycle waits for the owner lane to release the channel (R46). -/
  proofDue : Bool := false
  /-- USED (R292). -/
  used : Nat := 0
  /-- CURRENT (R292). -/
  current : Nat := 0
  /-- TJ (R292). -/
  tj : Nat := 0
  /-- TRIPS (R292). -/
  trips : Nat := 0
  /-- in a trip, restart waiting (R283). -/
  tripped : Bool := false
  /-- end of the retry delay (R282). -/
  retryAt : Option Nat := none
  /-- delay over, waiting for the junction to cool (R282). -/
  waitCool : Bool := false
  /-- conducting without a trip since (R282). -/
  onSince : Option Nat := none
  /-- clamp events of the last 60 s (R285). -/
  clamps : List Nat := []
  /-- last OUTPUT_OPEN (R284). -/
  openAt : Option Nat := none
  /-- end of a lock pulse (R141). -/
  pulseEnd : Option Nat := none
deriving DecidableEq, Repr

/-- switch die (R281, R287). -/
structure PoDie where
  /-- UV (R292). -/
  uv : Bool := false
  /-- VSW beyond the limit since (R287). -/
  uvAt : Option Nat := none
  /-- VSWk (R290). -/
  vsw : Nat := 0
  /-- slot midpoint the last deferred pulse of the die took (R266). -/
  midAt : Nat := 0
  /-- die total (R290). -/
  total : Nat := 0
  /-- limiting under way (R281). -/
  limiting : Bool := false
deriving DecidableEq, Repr

/-- protected outputs (R277-R292). -/
structure Po where
  /-- channels (R292). -/
  chans : List PoCh := List.replicate 128 {}
  /-- switch dies (R281). -/
  dies : List PoDie := List.replicate 4 {}
  /-- start-up states of R288 given since reset (R288). -/
  started : Bool := false
deriving DecidableEq, Repr

/-- a planned swap asked for or due (R301-R306). -/
structure RdSwap where
  /-- reason code (R307). -/
  reason : Nat := 4
  /-- due time or acceptance (R301). -/
  since : Nat := 0
  /-- RD_SWAP ticket (R306). -/
  ticket : Option Nat := none
  /-- end of the drain when phase 1 has begun (R301). -/
  drainEnd : Option Nat := none
  /-- the 60 s wait for protected tickets has ended (R301). -/
  waited : Bool := false
deriving DecidableEq, Repr

/-- the twin sides (R293-R308). -/
structure Rd where
  /-- active side: 0 A, 1 B (strap at reset) (R308). -/
  active : Nat := 0
  /-- side the holder latch names (R293). -/
  holder : Nat := 0
  /-- STANDBY (register reset 0; a fitted standby leaves reset with the module) (R308). -/
  standby : Nat := 1
  /-- SYNC / GSTATUS.STANDBY_SYNC (R299, R308). -/
  sync : Bool := false
  /-- synchronised since (R308). -/
  syncAt : Nat := 0
  /-- inter-side link delivers heartbeats (R294, R308). -/
  linkA : Bool := false
  /-- holder-latch path delivers heartbeats (R294, R308). -/
  linkB : Bool := false
  /-- last heartbeat on either path (R294). -/
  hbAt : Nat := 0
  /-- RD_CFG.SWAP_HOLD (R308). -/
  swapHold : Bool := false
  /-- last change of active side (counterproof interval) (R303). -/
  cpBase : Nat := 0
  /-- postponement of the due time (R303). -/
  cpPostpone : Nat := 0
  /-- a link fault of the inter-side link stands (R294). -/
  faultA : Bool := false
  /-- a link fault of the holder-latch path stands (R294). -/
  faultB : Bool := false
  /-- planned swap due or in progress (R301). -/
  swap : Option RdSwap := none
  /-- RD_LAST.REASON (R308). -/
  lastReason : Nat := 0
  /-- RD_LAST.NEW_SIDE (R308). -/
  lastSide : Nat := 0
  /-- RD_LAST.KIND (R308). -/
  lastKind : Nat := 0
  /-- RD_LAST.GAP_US (R308). -/
  lastGap : Nat := 0
  /-- legal second of that change (AGE_S) (R308). -/
  lastLegal : Nat := 0
  /-- UNPLANNED (R308). -/
  unplanned : Nat := 0
  /-- PLANNED (R308). -/
  planned : Nat := 0
  /-- POSTPONED (R308). -/
  postponed : Nat := 0
  /-- STANDBY_FAULTS (R308). -/
  stbFaults : Nat := 0
  /-- MISSED (R308). -/
  missed : Nat := 0
  /-- LINK_FAULTS (R308). -/
  linkFaults : Nat := 0
  /-- REFUSED (R308). -/
  refused : Nat := 0
  /-- failures of Side A in the last 3,600 s (R298, R308). -/
  failsA : List Nat := []
  /-- failures of Side B in the last 3,600 s (R298, R308). -/
  failsB : List Nat := []
  /-- failed side held in reset until (R298). -/
  heldReset : Option Nat := none
  /-- RD_STANDBY_RESTART ticket and its 30 s end (R306). -/
  restartTk : Option (Nat × Nat) := none
  /-- plate software digest of Side A (R300). -/
  digestA : Nat := 0
  /-- plate software digest of Side B (R300). -/
  digestB : Nat := 0
deriving DecidableEq, Repr

/-- a switch point (R312). -/
structure SwPt where
  /-- minute of the tariff day (R312). -/
  minute : Nat := 0
  /-- rate 1-8 (R312). -/
  rate : Nat := 1
deriving DecidableEq, Repr

/-- a used season (R313). -/
structure Season where
  /-- start month (R313). -/
  month : Nat := 1
  /-- start day (R313). -/
  day : Nat := 1
  /-- week profile (R313). -/
  week : Nat := 0
  /-- season number (R335). -/
  index : Nat := 0
deriving DecidableEq, Repr

/-- a used special day (R313). -/
structure SpDay where
  /-- YEAR (R313). -/
  year : Nat := 0xFFFF
  /-- month (R313). -/
  month : Nat := 1
  /-- day (R313). -/
  day : Nat := 1
  /-- day profile (R313). -/
  profile : Nat := 0
deriving DecidableEq, Repr

/-- a daylight-saving instant (R311). -/
structure DstRule where
  /-- month (R311). -/
  month : Nat := 1
  /-- week, 5 last (R311). -/
  week : Nat := 1
  /-- weekday (R311). -/
  weekday : Nat := 1
  /-- hour (R311). -/
  hour : Nat := 0
deriving DecidableEq, Repr

/-- a calendar table (R311-R313, R318). -/
structure CalTab where
  /-- KIND (R311). -/
  kind : Nat := 0
  /-- DEMAND_MIN (R311, R318). -/
  demandMin : Nat := 15
  /-- BP_MODE (R311, R318). -/
  bpMode : Nat := 0
  /-- BP_DAY (R311, R318). -/
  bpDay : Nat := 1
  /-- BP_HOUR (R311, R318). -/
  bpHour : Nat := 0
  /-- DST_ENABLE (R311, R318). -/
  dst : Bool := false
  /-- STD_OFFSET (R311, R318). -/
  stdOffset : Int := 0
  /-- DST_START (R311). -/
  dstStart : DstRule := {}
  /-- DST_END (R311). -/
  dstEnd : DstRule := {}
  /-- DST_SHIFT (R311). -/
  dstShift : Nat := 0
  /-- REST_MASK (R311). -/
  restMask : Nat := 0
  /-- day profiles (R312, R313, R318). -/
  days : List (List SwPt) := [[{}], [{}]]
  /-- used seasons (R313). -/
  seasons : List Season := []
  /-- week profiles (R313). -/
  weeks : List (List Nat) := []
  /-- used special days (R313). -/
  specials : List SpDay := []
  /-- the table with its CRC as loaded; empty for the default table (R333). -/
  raw : Bytes := []
deriving DecidableEq, Repr

/-- tariffs, calendar, boundaries, legal-time corrections (R309-R335). -/
structure Bl where
  /-- active table (R318, R335). -/
  cal : CalTab := {}
  /-- passive table and its activation instant (R319, R335). -/
  passive : Option (CalTab × Nat) := none
  /-- demand high-water mark (R328, R335). -/
  hwmD : Nat := 0
  /-- tariff high-water mark (R328, R335). -/
  hwmT : Nat := 0
  /-- period high-water mark (R328, R335). -/
  hwmP : Nat := 0
  /-- the marks are set (R328). -/
  hwmSet : Bool := false
  /-- rate in force (R335). -/
  rate : Nat := 1
  /-- TM_SOURCE (R335). -/
  tmSource : Bool := false
  /-- STEPS (R335). -/
  steps : Nat := 0
  /-- SLEWS (R335). -/
  slews : Nat := 0
  /-- SKIPPED (R335). -/
  skipped : Nat := 0
  /-- BL_RSEL.INDEX (R335). -/
  rselIndex : Nat := 0
  /-- BL_RSEL.KIND (R335). -/
  rselKind : Nat := 0
  /-- BL_RSEL.DIR (R335). -/
  rselDir : Nat := 0
  /-- FLAGS the open demand interval carries at its close (R240, R329, R330). -/
  intFlags : Nat := 0
  /-- period history, newest first (R323). -/
  history : List (Nat × Nat × List Bytes) := []
  /-- legal time the open demand interval opened (R316). -/
  intStart : Nat := 0
  /-- lanes whose IMPORT or EXPORT advanced in the interval (R321). -/
  advanced : List Nat := []
  /-- last correction taken from the hub master (R332). -/
  hubCorrAt : Option Nat := none
  /-- activation instant from which the settings of the billing period apply (R320). -/
  perFrom : Nat := 0
  /-- BL_STATUS.DST (R310, R335). -/
  dst : Bool := false
deriving DecidableEq, Repr

/-- an account cell (R336). -/
structure Cell where
  /-- BALANCE (R336). -/
  balance : Int := 0
  /-- IMPORT_TOTAL (R336). -/
  importTotal : Nat := 0
  /-- EXPORT_TOTAL (R336). -/
  exportTotal : Nat := 0
  /-- SEQ (R336). -/
  seq : Nat := 0
  /-- LAST_SESSION (R336). -/
  lastSession : Nat := 0
  /-- LAST_LANE (R336). -/
  lastLane : Nat := 0xFF
  /-- TARIFF_GROUP (R336). -/
  tariffGroup : Nat := 0
  /-- CLASS (R336). -/
  cls : Nat := 0
  /-- STATE.USED (R336). -/
  used : Bool := false
  /-- STATE.BLOCKED (R336). -/
  blocked : Bool := false
  /-- STATE.PREPAID (R336). -/
  prepaid : Bool := false
  /-- emergency credit state (R336, R337). -/
  ecState : Nat := 0
  /-- LOW (R336, R337). -/
  low : Bool := false
  /-- EXPIRY (R336). -/
  expiry : Nat := 0
  /-- CRC good (R336, R337). -/
  crcOk : Bool := true
deriving DecidableEq, Repr

/-- a live entry of the credential store (R338). -/
structure CredEnt where
  /-- KIND (R338). -/
  kind : Nat := 0
  /-- identifier (LENGTH bytes) (R338). -/
  ident : Bytes := []
  /-- BLOCKED (R338). -/
  blocked : Bool := false
  /-- CELL (R338). -/
  cell : Nat := 0
  /-- EXPIRY (R338). -/
  expiry : Nat := 0
  /-- GEN (R338). -/
  gen : Nat := 0
deriving DecidableEq, Repr

/-- an account class (R341). -/
structure AcClass where
  /-- EC_LIMIT (R341). -/
  ecLimit : Nat := 0
  /-- START_MIN (R341). -/
  startMin : Nat := 0
  /-- LOW_CREDIT (R341). -/
  lowCredit : Nat := 0
  /-- MAX_SESSIONS (R341). -/
  maxSessions : Nat := 1
  /-- ACTION (R341). -/
  action : Nat := 0
  /-- FRIENDLY (R341). -/
  friendly : Bool := true
deriving DecidableEq, Repr

/-- a price group (R342). -/
structure PriceGrp where
  /-- START_FEE (R342). -/
  startFee : Int := 0
  /-- TIME_PRICE (R342). -/
  timePrice : Int := 0
  /-- IMPORT_PRICE (R342). -/
  imp : List Int := List.replicate 8 0
  /-- EXPORT_PRICE (R342). -/
  exp : List Int := List.replicate 8 0
  /-- BASIS (R342). -/
  basis : Nat := 0
deriving DecidableEq, Repr

/-- a price table (R342, R343). -/
structure PriceTab where
  /-- price groups (R342). -/
  groups : List PriceGrp := List.replicate 64 {}
deriving DecidableEq, Repr

/-- a friendly window (R349). -/
structure FrWin where
  /-- weekday mask (R349). -/
  days : Nat := 0
  /-- start minute (R349). -/
  start : Nat := 0
  /-- end minute (R349). -/
  stop : Nat := 0
  /-- class mask (R349). -/
  classes : Nat := 0
  /-- used (R349). -/
  used : Bool := false
deriving DecidableEq, Repr

/-- a friendly special day (R349). -/
structure FrDay where
  /-- YEAR (R349). -/
  year : Nat := 0
  /-- month (R349). -/
  month : Nat := 0
  /-- day (R349). -/
  day : Nat := 0
  /-- used (an entry of all zeros is unused) (R349). -/
  used : Bool := false
deriving DecidableEq, Repr

/-- a committed AC_CREDIT transaction (R351). -/
structure Txn where
  /-- transaction identifier (R351). -/
  id : Nat := 0
  /-- balance of the original commit (R351). -/
  balance : Int := 0
deriving DecidableEq, Repr

/-- the charge of a session or custody channel (R344-R347). -/
structure Charge where
  /-- cell (R344). -/
  cell : Nat := 0
  /-- charge accumulator (R344). -/
  acc : Int := 0
  /-- units debited so far (debit record) (R346). -/
  debited : Int := 0
  /-- BALANCE before the last debit (debit record) (R346). -/
  before : Int := 0
  /-- BALANCE after it (debit record) (R346). -/
  after : Int := 0
  /-- price group held (R344). -/
  group : Nat := 0
  /-- account class (R242). -/
  cls : Nat := 0
  /-- first ENERGY entry has been made (R344). -/
  begun : Bool := false
  /-- TIME_PRICE in force at the first ENERGY entry (R343). -/
  timePrice : Int := 0
  /-- TIME up to which the time part has been added (R344). -/
  timeAt : Nat := 0
  /-- last debit (R346). -/
  debitAt : Nat := 0
  /-- import of the session on the pricing basis (R344). -/
  imp : Nat := 0
  /-- export of the session on the pricing basis (R344). -/
  exp : Nat := 0
  /-- exhausted(i) (R347). -/
  exhausted : Bool := false
deriving DecidableEq, Repr

/-- a bulk load (R353, R354). -/
structure Bulk where
  /-- ticket (R354). -/
  ticket : Nat := 0
  /-- transfer number (R353). -/
  xfer : Nat := 0
  /-- MODE (R353). -/
  mode : Nat := 0
  /-- staged cell images (R353). -/
  cells : List (Nat × Cell × Bool) := []
  /-- credential entries of the stream (R353). -/
  creds : List CredEnt := []
  /-- firmware archives discarded (R354). -/
  archives : Nat := 0
  /-- units debited from a cell since the acceptance (R354). -/
  debits : List (Nat × Int) := []
  /-- committed (phase 6) (R354). -/
  committed : Bool := false
  /-- apply pointer (R354). -/
  applyPtr : Nat := 0
deriving DecidableEq, Repr

/-- accounts (R336-R358). -/
structure Ac where
  /-- account cells that are not all-default, ascending cell number (R336). -/
  cells : List (Nat × Cell) := []
  /-- live entries of the credential store (R338). -/
  creds : List CredEnt := []
  /-- committed store generation (R338). -/
  credGen : Nat := 0
  /-- store generation the standby side holds (R339). -/
  credStby : Nat := 0
  /-- index complete on the active side (R339). -/
  indexDone : Bool := false
  /-- classes (R341). -/
  classes : List AcClass := List.replicate 16 {}
  /-- active price table (R343). -/
  price : PriceTab := {}
  /-- passive price table (R343). -/
  pricePend : Option (PriceTab × Nat) := none
  /-- buckets of the credential index are being rebuilt, since (R452). -/
  rebuild : Option Nat := none
  /-- friendly windows (R349). -/
  windows : List FrWin := List.replicate 8 {}
  /-- friendly special days (R349). -/
  frDays : List FrDay := List.replicate 32 {}
  /-- classes friendly time covers now (R350). -/
  frNow : Nat := 0
  /-- last AC_CREDIT commits, newest first (R351). -/
  txns : List Txn := []
  /-- charges of lanes (R344). -/
  charges : List (Option Charge) := List.replicate 64 none
  /-- custody channels bound to a cell (R357). -/
  custody : List (Option Charge) := List.replicate 32 none
  /-- bulk load in progress (R354). -/
  bulk : Option Bulk := none
deriving DecidableEq, Repr

/-- a COSEM association (R361-R365). -/
structure Assoc where
  /-- transport (R359, R375). -/
  transport : Nat := 4
  /-- client address on the transport (R359). -/
  client : Nat := 0
  /-- client SAP (R362). -/
  sap : Nat := 16
  /-- role (R362). -/
  role : Role := .pub
  /-- authentication mechanism (R362). -/
  mechanism : Nat := 0
  /-- last APDU received (R361). -/
  lastApdu : Nat := 0
  /-- a read of several blocks under way: what is still to be sent of the values that stood at its first block (R372). -/
  rest : Option Bytes := none
deriving DecidableEq, Repr

/-- COSEM readout (R359-R375). -/
structure Cosem where
  /-- associations (R359). -/
  assocs : List Assoc := []
  /-- HDLC link on MP established (R360). -/
  hdlc : Bool := false
  /-- maximum information field (R360). -/
  hdlcInfo : Nat := 128
  /-- last valid HDLC frame (R360). -/
  hdlcAt : Nat := 0
  /-- failed authentications of the last 60 s (R364). -/
  fails : List (Nat × Nat) := []
  /-- transports locked out and the end (R364). -/
  lockouts : List (Nat × Nat) := []
  /-- last invocation counter accepted per client SAP (R363). -/
  invRx : List (Nat × Nat) := []
  /-- responses sent, oldest first (R362, R372, R374). -/
  out : List (Nat × Nat × Bytes) := []
  /-- server invocation counter (MRAM) (R363). -/
  invTx : Nat := 0
deriving DecidableEq, Repr

/-- a node record (R376). -/
structure KvNode where
  /-- NODE (R376). -/
  node : Nat := 0
  /-- PARENT (R376). -/
  parent : Nat := 0xFFFF
  /-- DEPTH (R376). -/
  depth : Nat := 0
  /-- USAGE (R376). -/
  usage : Nat := 0
  /-- PLATE (R376). -/
  plate : Bool := false
  /-- HOST_USE (R376). -/
  hostUse : Bool := false
  /-- CERT (R376). -/
  cert : Bool := false
  /-- CERT_STALE (R376). -/
  certStale : Bool := false
  /-- LABEL (R376). -/
  label : Bytes := []
  /-- GEN (R376). -/
  gen : Nat := 1
  /-- PARENT_GEN (R376). -/
  parentGen : Nat := 1
  /-- OBJECT (R376). -/
  object : Option Nat := none
  /-- certificate chain (R384). -/
  chain : Bytes := []
deriving DecidableEq, Repr

/-- A label of R377 as ASCII bytes. -/
def asciiBytes (s : String) : Bytes := s.toList.map (fun c => BitVec.ofNat 8 c.toNat)

/-- R376, R377: the node table of a module from manufacture: the root and the four reserved nodes. -/
def kvManufacture : List KvNode :=
  [{ node := 0, parent := 0xFFFF, depth := 0, usage := 0, label := asciiBytes "YG6440 root" },
   { node := 1, parent := 0, depth := 1, usage := 1, cert := true, label := asciiBytes "YG6440 identity" },
   { node := 2, parent := 0, depth := 1, usage := 1, plate := true, label := asciiBytes "YG6440 session" },
   { node := 3, parent := 0, depth := 1, usage := 4, label := asciiBytes "YG6440 privacy" },
   { node := 4, parent := 0, depth := 1, usage := 3, label := asciiBytes "YG6440 link" }]

/-- key vault (R376-R390). -/
structure Kv where
  /-- used nodes, ascending number: the root and nodes 1-4 from manufacture (R376, R377). -/
  nodes : List KvNode := kvManufacture
  /-- number of the present root secret (stands for the secret) (R383). -/
  rootEpoch : Nat := 0
  /-- wrapped objects (R386, R388). -/
  objects : List (Nat × Nat × Bytes) := []
  /-- anchor slots that hold a key (slot 2 only; the vendor key's bytes are the model's) (R385). -/
  anchors : List (Nat × Bytes) := [(2, List.replicate 64 0x56)]
  /-- RNG_FAIL (R380, R390). -/
  rngFail : Bool := false
  /-- consecutive health tests passed since RNG_FAIL (R380). -/
  healthOk : Nat := 0
  /-- pending root retirement and the end of its 300 s (R383, R390). -/
  retire : Option (Role × Nat) := none
  /-- last mask rotation (R386). -/
  rotAt : Nat := 0
  /-- number of the mask in force (stands for the mask) (R386). -/
  mask : Nat := 0
  /-- DRBG reseeds made (stands for the DRBG state) (R380). -/
  reseeds : Nat := 0
  /-- SIGNATURES (R390). -/
  signatures : Nat := 0
  /-- ORPHAN_REFUSALS (R390). -/
  orphanRef : Nat := 0
  /-- ROTATIONS_LATE (R390). -/
  rotLate : Nat := 0
deriving DecidableEq, Repr

/-- an entry of the master's node table (R399-R403). -/
structure KzNode where
  /-- EUI-64 (R399). -/
  eui : Nat := 0
  /-- short address (R399). -/
  addr : Nat := 0
  /-- kind (R408). -/
  kind : Nat := 0
  /-- sector (R405). -/
  sector : Nat := 7
  /-- SNR (R412). -/
  snr : Nat := 0
  /-- power state (R403). -/
  power : Nat := 0
  /-- last frame (R403). -/
  heardAt : Nat := 0
  /-- departed at (address kept 24 h) (R399, R403). -/
  departed : Option Nat := none
deriving DecidableEq, Repr

/-- a peer binding (R404). -/
structure KzPeer where
  /-- EUI-64 (R404). -/
  eui : Nat := 0
  /-- role (R404). -/
  role : Nat := 0
  /-- group (R404). -/
  group : Nat := 0xFF
  /-- lane mask (R404). -/
  mask : Nat := 0
  /-- the master has changed and BIND is to be sent again (R404). -/
  resend : Bool := false
deriving DecidableEq, Repr

/-- a unicast frame waiting for its acknowledgement (R398). -/
structure KzTx where
  /-- destination address (R398). -/
  dest : Nat := 0
  /-- frame type (R408). -/
  ft : Nat := 0
  /-- body after COUNTER (R408). -/
  body : Bytes := []
  /-- FSN (R395). -/
  fsn : Nat := 0
  /-- attempts made (R398). -/
  attempt : Nat := 1
  /-- MODE of the last attempt (R393). -/
  mode : Nat := 4
  /-- consecutive failed attempts in this mode (R398). -/
  failsIn : Nat := 0
  /-- end of the frame's last attempt (R398). -/
  endAt : Nat := 0
  /-- the BIND of KZ_PEER_BIND in progress (R412). -/
  bind : Bool := false
  /-- a wake preamble went first: the frame waits for PRESENCE until then (R406). -/
  wakeEnd : Option Nat := none
deriving DecidableEq, Repr

/-- per peer: counters and SNR (R398, R407). -/
structure KzPair where
  /-- peer EUI-64 (R407). -/
  eui : Nat := 0
  /-- peer address as last heard (R399). -/
  addr : Nat := 0
  /-- last COUNTER accepted (R407). -/
  counter : Nat := 0
  /-- SNR of the last 8 frames, 0.25 dB (R398). -/
  snrs : List Nat := []
  /-- last PRESENCE carried power state 1 (R406). -/
  asleep : Bool := false
deriving DecidableEq, Repr

/-- a frame sent (R395, R408). -/
structure KzOut where
  /-- frame type (R408). -/
  ft : Nat := 0
  /-- DEST (R407). -/
  dest : Nat := 0
  /-- COUNTER (R407). -/
  counter : Nat := 0
  /-- FSN (R395). -/
  fsn : Nat := 0
  /-- MODE (R393). -/
  mode : Nat := 4
  /-- body after COUNTER (R408). -/
  body : Bytes := []
deriving DecidableEq, Repr

/-- a target of a distribution (R410). -/
structure KzTarget where
  /-- EUI-64 (R410). -/
  eui : Nat := 0
  /-- address, 0 not in the table (R410). -/
  addr : Nat := 0
  /-- fragments it has reported (R410). -/
  held : List Nat := []
  /-- it has answered a poll (R410, R412). -/
  seen : Bool := false
deriving DecidableEq, Repr

/-- a distribution being sent (R410). -/
structure KzDist where
  /-- ticket (R410). -/
  ticket : Nat := 0
  /-- transfer (R410). -/
  xfer : Nat := 0
  /-- targets (R410). -/
  targets : List KzTarget := []
  /-- pass (R410). -/
  pass : Nat := 1
deriving DecidableEq, Repr

/-- the Kryuz link (R391-R414). -/
structure Kz where
  /-- KEY_NODE (a new module's value is not given) (R414). -/
  keyNode : Nat := 0
  /-- KEY_EN (R414). -/
  keyEn : Bool := false
  /-- BEACON_MODE (R414). -/
  beaconMode : Nat := 2
  /-- MAX_MODE (R414). -/
  maxMode : Nat := 0
  /-- ENABLE (R414). -/
  enable : Bool := true
  /-- DIST_SHARE (R414). -/
  distShare : Nat := 40
  /-- MASTER (R414). -/
  master : Bool := false
  /-- JOINED (R414). -/
  joined : Bool := false
  /-- ADDRESS (R414). -/
  address : Nat := 0
  /-- KZ_MASTER.EUI (R414). -/
  masterEui : Nat := 0
  /-- a JOIN_REQ is to follow the next beacon (R402). -/
  joinPend : Bool := false
  /-- last BEACON sent (R400). -/
  beaconSent : Option Nat := none
  /-- last SHARE_REPORT sent (R168, R408). -/
  shareAt : Option Nat := none
  /-- last hub round (R168). -/
  roundAt : Option Nat := none
  /-- own COUNTER as committed to MRAM (R407). -/
  committed : Nat := 0
  /-- last beacon (BEACON_AGE) (R401, R414). -/
  beaconAt : Option Nat := none
  /-- end of listening before beaconing (R401). -/
  listenEnd : Option Nat := none
  /-- end of the 60 s wait after a refusal of status 2 (R402). -/
  joinWait : Option Nat := none
  /-- last PRESENCE sent (R403). -/
  presAt : Nat := 0
  /-- last rising ZC edge (R391). -/
  zcAt : Option Nat := none
  /-- last ZC periods (R391). -/
  zcPers : List Nat := []
  /-- ZC_VALID (R414). -/
  zcValid : Bool := false
  /-- SECTOR (R414). -/
  sector : Nat := 7
  /-- consecutive beacons placing the angle more than 35 degrees off (R405). -/
  sectorN : Nat := 0
  /-- ANGLE (R414). -/
  angle : Nat := 0xFFFF
  /-- master's L1 zero crossing and period from the last beacon (R405, R166). -/
  refAt : Option (Nat × Nat) := none
  /-- node table (MRAM) (R399). -/
  nodes : List KzNode := []
  /-- per-peer counters and SNR (R398, R407). -/
  pairs : List KzPair := []
  /-- peer bindings (MRAM) (R404). -/
  peers : List KzPeer := []
  /-- KZ_PEER_BIND in progress and its 10 s end (R412). -/
  bindTk : Option (Nat × KzPeer × Nat) := none
  /-- own COUNTER (R407). -/
  counter : Nat := 0
  /-- next FSN (R395). -/
  fsn : Nat := 0
  /-- frames waiting for an acknowledgement (R398). -/
  txs : List KzTx := []
  /-- frames sent, oldest first (R408). -/
  out : List KzOut := []
  /-- wake preambles sent (R406). -/
  wakes : Nat := 0
  /-- KZ_LOAD.BUSY (R414). -/
  busy : Nat := 0
  /-- KZ_LOAD.OWN (R414). -/
  own : Nat := 0
  /-- KRYUZ_LOAD raised above 80 % (R409). -/
  loadHigh : Bool := false
  /-- RX_OK (R414). -/
  rxOk : Nat := 0
  /-- HDR_FAIL (R414). -/
  hdrFail : Nat := 0
  /-- ERASED (R414). -/
  erased : Nat := 0
  /-- TX_OK (R414). -/
  txOk : Nat := 0
  /-- TX_FAIL (R414). -/
  txFail : Nat := 0
  /-- AUTH_FAIL (R414). -/
  authFail : Nat := 0
  /-- distribution sent as master (R410). -/
  dist : Option KzDist := none
  /-- transfer being received, 0 none (R410, R414). -/
  rxDist : Nat := 0
  /-- the number under which this module holds it (R410). -/
  rxNum : Nat := 0
  /-- segments of incomplete fragments (R410). -/
  segs : List (Nat × List (Nat × Bytes)) := []
  /-- hub round number (R408). -/
  round : Nat := 0
deriving DecidableEq, Repr

/-- an EPC presented on a port (R423). -/
structure TgShown where
  /-- EPC (R423). -/
  epc : Bytes := []
  /-- presented (R423). -/
  atT : Nat := 0
  /-- last read on the port (R423). -/
  last : Nat := 0
deriving DecidableEq, Repr

/-- a distinct EPC read (R422, R428). -/
structure TgTag where
  /-- EPC (R422). -/
  epc : Bytes := []
  /-- last bit of its first reply (R422). -/
  stamp : Nat := 0
  /-- best RSSI (R428). -/
  rssi : Int := 0
  /-- reads (R428). -/
  reads : Nat := 0
deriving DecidableEq, Repr

/-- a tag port (R416-R423, R430). -/
structure TgPort where
  /-- ENABLE (R430). -/
  enable : Bool := true
  /-- POWER (R430). -/
  power : Nat := 300
  /-- RL_MIN (R430). -/
  rlMin : Nat := 60
  /-- faulty (R430). -/
  fault : Bool := false
  /-- end of the 60 s (R416). -/
  faultEnd : Option Nat := none
  /-- the fault's kind (R416, R429). -/
  faultKind : Nat := 0
  /-- EPCs presented on the port (hold-off) (R423). -/
  shown : List TgShown := []
deriving DecidableEq, Repr

/-- a TG_WRITE in progress (R424-R427). -/
structure TgWr where
  /-- ticket (R424). -/
  ticket : Nat := 0
  /-- port (R428). -/
  port : Nat := 0
  /-- EPC named (R424). -/
  epc : Bytes := []
  /-- bank (R428). -/
  bank : Nat := 1
  /-- word pointer (R428). -/
  ptr : Nat := 0
  /-- access password (R428). -/
  pwd : Nat := 0
  /-- data (R428). -/
  data : List Nat := []
  /-- words attempted (R427). -/
  tried : List Nat := []
  /-- phase (R424-R427). -/
  phase : Nat := 0
  /-- handle (R421). -/
  handle : Option Nat := none
  /-- slots of the round that returned the EPC (R424). -/
  seen : Nat := 0
  /-- end of the phase's time limit (R424, R425, R427). -/
  until_ : Nat := 0
  /-- word being written (R426). -/
  word : Nat := 0
  /-- end of the 20 ms Write reply window (R426). -/
  window : Option Nat := none
  /-- the write margin failed and is being tested again (R425). -/
  margin : Bool := false
  /-- the access password has been sent (R424). -/
  accessed : Bool := false
  /-- why writing stopped (R427). -/
  stopped : Nat := 0
deriving DecidableEq, Repr

/-- a TG_INVENTORY in progress (R428). -/
structure TgInv where
  /-- ticket (R428). -/
  ticket : Nat := 0
  /-- port (R428). -/
  port : Nat := 0
  /-- end of the duration (R428). -/
  until_ : Nat := 0
  /-- distinct tags (R428). -/
  tags : List TgTag := []
  /-- the next dwell of the port belongs to the inventory (R428). -/
  turn : Bool := false
deriving DecidableEq, Repr

/-- the tag reader (R415-R430). -/
structure Tg where
  /-- Q_INIT (R430). -/
  qInit : Nat := 3
  /-- SESSION (R430). -/
  session : Nat := 0
  /-- BLF (R430). -/
  blf : Nat := 1
  /-- ENCODING (R430). -/
  encoding : Nat := 2
  /-- TARI (R430). -/
  tari : Nat := 1
  /-- HOLDOFF (R430). -/
  holdoff : Nat := 5
  /-- WRITE_RSSI (R430). -/
  writeRssi : Int := -65
  /-- WRITE_PTAG (R430). -/
  writePtag : Int := -12
  /-- ports (R430). -/
  ports : List TgPort := List.replicate 8 {}
  /-- LINK (R430). -/
  link : Bool := false
  /-- CARRIER (TQEN, low after reset R415) (R430). -/
  carrier : Bool := false
  /-- PORT (ANT 0b000 after reset R415) (R430). -/
  port : Nat := 0
  /-- FWD (R430). -/
  fwd : Int := 0
  /-- REFL (R430). -/
  refl : Int := 0
  /-- Q_fp in tenths (R421). -/
  qfp : Int := 30
  /-- Q of the present round (R421). -/
  q : Nat := 3
  /-- the loss of receive frames has been reported (R416, R429). -/
  linkLost : Bool := false
  /-- start of the present dwell (R420). -/
  dwellAt : Nat := 0
  /-- carrier off since, none before the first dwell (R420). -/
  offAt : Option Nat := none
  /-- commands sent to singulated tags: 0 NAK, 1 Access, 2 Write, 3 Read, 4 QueryAdjust (R419, R421, R424). -/
  sent : List (Nat × Nat × Nat) := []
  /-- return loss below RL_MIN for the whole dwell so far (R416). -/
  rlBad : Bool := false
  /-- distinct EPCs of the present dwell (R422). -/
  epcs : List TgTag := []
  /-- TG_WRITE in progress (R424). -/
  write : Option TgWr := none
  /-- TG_INVENTORY requests in progress (R428). -/
  inv : List TgInv := []
  /-- READS (R430). -/
  reads : Nat := 0
  /-- COLLISIONS (R430). -/
  collisions : Nat := 0
  /-- CRC_FAIL (R430). -/
  crcFail : Nat := 0
  /-- AMBIGUOUS (R430). -/
  ambiguous : Nat := 0
  /-- SHORT_EPC (R430). -/
  shortEpc : Nat := 0
  /-- WRITES (R430). -/
  writes : Nat := 0
  /-- UNCERTAIN (R430). -/
  uncertain : Nat := 0
deriving DecidableEq, Repr

/-- a rectangle (R436, R438). -/
structure Rect where
  /-- X (R436). -/
  x : Nat := 0
  /-- Y (R436). -/
  y : Nat := 0
  /-- width (R436). -/
  w : Nat := 0
  /-- height (R436). -/
  h : Nat := 0
  /-- mode (R436). -/
  mode : Nat := 0
  /-- class: 0 corrective or recovery, 1 legal field, 2 DS_DRAW (R436). -/
  cls : Nat := 2
  /-- a corrective refresh (R435, R436). -/
  corr : Bool := false
  /-- latched band (R435). -/
  band : Nat := 3
  /-- frames driven (R434). -/
  frame : Nat := 0
  /-- DS_DRAW tickets that complete with it (R442). -/
  tickets : List Nat := []
  /-- image of a DS_DRAW (R442). -/
  pixels : Bytes := []
deriving DecidableEq, Repr

/-- a final reading (R437). -/
structure DsFinal where
  /-- lane (R437). -/
  lane : Nat := 0
  /-- session (R437). -/
  session : Nat := 0
  /-- session energy (R437). -/
  energy : Nat := 0
  /-- signature state (R437). -/
  sig : Nat := 0
deriving DecidableEq, Repr

/-- a panel (R431-R444). -/
structure Panel where
  /-- WIDTH in force (R444). -/
  width : Nat := 0
  /-- HEIGHT in force (R444). -/
  height : Nat := 0
  /-- ENABLE in force (R444). -/
  enable : Bool := false
  /-- VCOM_CODE in force (R444). -/
  vcom : Nat := 128
  /-- WIDTH as written (in force at the next proof cycle) (R444). -/
  cfgWidth : Nat := 0
  /-- HEIGHT as written (R444). -/
  cfgHeight : Nat := 0
  /-- ENABLE as written (R444). -/
  cfgEnable : Bool := false
  /-- VCOM_CODE as written (R444). -/
  cfgVcom : Nat := 128
  /-- BAND (R444). -/
  band : Nat := 0
  /-- TEMP (0x8000) (R444). -/
  temp : Int := -32768
  /-- FAULT (R444). -/
  fault : Bool := false
  /-- rectangles in flight (R436). -/
  flight : List Rect := []
  /-- rectangles queued, in the order taken (R436). -/
  queue : List Rect := []
  /-- journaled rectangles (MRAM) (R438). -/
  journal : List Rect := []
  /-- images accepted into frame memory, newest first (R439, R440). -/
  frameMem : List Rect := []
  /-- legal fields as last rendered (R437). -/
  fields : List (Nat × Bytes) := []
  /-- last redraw of each legal field (R437). -/
  drawnAt : List (Nat × Nat) := []
  /-- consecutive frame CRC mismatches (R440). -/
  crcMiss : Nat := 0
  /-- last frame CRC check (R440). -/
  crcAt : Nat := 0
  /-- the NTC is missing or open (R435). -/
  ntcBad : Bool := false
  /-- a proof cycle is due before the panel is driven (R439, R441). -/
  needProof : Bool := true
deriving DecidableEq, Repr

/-- legal displays (R431-R444). -/
structure Ds where
  /-- panels (R444). -/
  panels : List Panel := List.replicate 4 {}
  /-- RAILS_ON (R444). -/
  railsOn : Bool := false
  /-- rails to be lowered (R433). -/
  railsOff : Option Nat := none
  /-- WAVE_OK (R444). -/
  waveOk : Bool := false
  /-- DS_WAVE.CRC (R444). -/
  waveCrc : Nat := 0
  /-- DS_WAVE.MODES (R444). -/
  waveModes : Nat := 0
  /-- frame counts per mode and band (R434). -/
  waveCnt : List Nat := []
  /-- band boundaries (R434). -/
  waveBnd : List Int := []
  /-- waveform bodies (R434). -/
  waveBody : Bytes := []
  /-- last frame (R432). -/
  frameAt : Option Nat := none
  /-- final readings shown until the lane next enters PLUGGED (R437). -/
  finals : List DsFinal := []
  /-- DS_UNSHOWN (R444). -/
  unshown : Nat := 0
  /-- RECTS (R444). -/
  rects : Nat := 0
  /-- CORRECTIVE (R444). -/
  corrective : Nat := 0
  /-- CRC_FAIL (R444). -/
  crcFail : Nat := 0
deriving DecidableEq, Repr

/-- per side: memories (R445-R454, R460). -/
structure MmSide where
  /-- DRAM_OK (R451, R460). -/
  dramOk : Bool := false
  /-- NOR_OK (R454, R460). -/
  norOk : Bool := false
  /-- SIZE (R460). -/
  size : Nat := 0
  /-- HOT (R451, R460). -/
  hot : Bool := false
  /-- WORK region in test (R448, R460). -/
  work : Nat := 0
  /-- PLATE region in test (R448, R460). -/
  plate : Nat := 0
  /-- SAFETY region in test (R448, R460). -/
  safety : Nat := 0
  /-- PASSES (R460). -/
  passes : Nat := 0
  /-- SRAM_CE (R460). -/
  sramCe : Nat := 0
  /-- DRAM_CE (R460). -/
  dramCe : Nat := 0
  /-- NOR_RETRY (R460). -/
  norRetry : Nat := 0
  /-- BURNISH_LATE (R460). -/
  burnLate : Nat := 0
  /-- last region taken (R448). -/
  burnAt : List (Option Nat) := List.replicate 3 none
  /-- corrections since the last MEM_CORRECTED (R459). -/
  ceSince : List Nat := List.replicate 6 0
  /-- last MEM_CORRECTED (R459). -/
  ceAt : List (Option Nat) := List.replicate 6 none
deriving DecidableEq, Repr

/-- memories (R445-R460). -/
structure Mm where
  /-- Side A, Side B (R460). -/
  sides : List MmSide := List.replicate 2 {}
  /-- MM_MRAM.CE (R460). -/
  mramCe : Nat := 0
  /-- UE (R460). -/
  mramUe : Nat := 0
  /-- REFUSED (R460). -/
  refused : Nat := 0
  /-- MM_DMA.STALL (R460). -/
  stalls : List Nat := List.replicate 8 0
  /-- MM_LAST_UE.MEMORY (R460). -/
  ueMem : Nat := 0
  /-- SIDE (R460). -/
  ueSide : Nat := 0
  /-- OFFSET (R460). -/
  ueOffset : Nat := 0
deriving DecidableEq, Repr

/-- a low-power entry in progress (R464). -/
structure PwEntry where
  /-- target state (R464). -/
  target : Nat := 1
  /-- acceptance (R464). -/
  since : Nat := 0
  /-- ticket, none for an automatic PARK (R464). -/
  ticket : Option Nat := none
  /-- port of the requester's session (R463). -/
  port : Nat := 3
deriving DecidableEq, Repr

/-- power states (R461-R471). -/
structure Pw where
  /-- STATE (R461, R471). -/
  state : Nat := 0
  /-- entry in progress (R464, R471). -/
  entry : Option PwEntry := none
  /-- LAST_WAKE (R471). -/
  lastWake : Nat := 0
  /-- WAKE_US (R471). -/
  wakeUs : Nat := 0
  /-- PARK_S (R471). -/
  parkS : Nat := 0
  /-- COMPAT (R471). -/
  compat : Bool := false
  /-- WAKE_EN (R471). -/
  wakeEn : Nat := 31
  /-- ALARM_S (R471). -/
  alarmS : Nat := 0
  /-- ARMED (off in a new module) (R465, R471). -/
  armed : Bool := false
  /-- PW_PADHOLD.HELD (R467, R471). -/
  held : Nat := 0
  /-- LAST_UA (R471). -/
  lastUa : Nat := 0
  /-- BOR_LP (R471). -/
  borLp : Nat := 0
  /-- REFUSED counters (R471). -/
  refusedN : List Nat := List.replicate 16 0
  /-- ABORTED counters (R471). -/
  abortedN : List Nat := List.replicate 16 0
  /-- last entry into RUN (R462). -/
  runAt : Nat := 0
  /-- lane of the plug-in that woke DORMANT (R470). -/
  wakeLane : Nat := 0xFF
deriving DecidableEq, Repr

/-- an open transfer (R473-R477). -/
structure Xfer where
  /-- transfer number (R483). -/
  num : Nat := 0
  /-- kind (R473). -/
  kind : Nat := 0
  /-- size (R483). -/
  size : Nat := 0
  /-- SHA-256 given to UP_OPEN (R476). -/
  hash : Bytes := []
  /-- fragments (R473). -/
  frags : Nat := 0
  /-- fragments held by Side A (R474). -/
  heldA : List Nat := []
  /-- fragments held by Side B (R474). -/
  heldB : List Nat := []
  /-- fragment data (R474). -/
  store : List (Nat × Bytes) := []
  /-- complete (R476). -/
  complete : Bool := false
  /-- expiry (R477). -/
  expires : Nat := 0
  /-- being applied or consumed (R477). -/
  inUse : Bool := false
deriving DecidableEq, Repr

/-- per side: firmware (R478-R482, R485). -/
structure UpSide where
  /-- RUNNING (ROLLBACK of the MAIN image running, 0 in the loader) (R485). -/
  running : Nat := 1
  /-- MIRROR (R485). -/
  mirror : Nat := 1
  /-- PHASE (R485). -/
  phase : Nat := 0
  /-- archive held in STAGE (ARCHIVE) (R481, R485). -/
  archive : Option (Nat × Nat) := none
  /-- OUTCOME (0xF none) (R485). -/
  outcome : Nat := 0xF
  /-- FAILURE (0 none) (R485). -/
  failure : Nat := 0
  /-- path of the apply: 0 DIRECT, 1 STAGED (R480). -/
  path : Nat := 0
  /-- image applied: 0 MAIN, 1 LOADER (R484). -/
  image : Nat := 0
  /-- transfer applied, 0 for UP_RESTORE (R480). -/
  xfer : Nat := 0
  /-- ROLLBACK of the image being written (R480). -/
  newRb : Nat := 0
  /-- MIRROR_FORMAT of the image being written (R480). -/
  newMf : Nat := 0
  /-- the image being written or held in STAGE for the next boot, empty for UP_RESTORE (R480, R481). -/
  img : Bytes := []
  /-- UP_APPLY or UP_RESTORE ticket (R480). -/
  ticket : Option Nat := none
deriving DecidableEq, Repr

/-- field update (R472-R485). -/
structure Up where
  /-- open transfers (R473). -/
  xfers : List Xfer := []
  /-- next transfer number (R483). -/
  nextNum : Nat := 1
  /-- Side A, Side B (R485). -/
  sides : List UpSide := List.replicate 2 {}
  /-- anti-rollback counter (R479, R485). -/
  counter : Nat := 1
  /-- COMMITS (R485). -/
  commits : Nat := 0
  /-- UP_SEL.KIND (R485). -/
  sel : Nat := 0
  /-- EXPIRY_D (R485). -/
  expiryD : Nat := 30
deriving DecidableEq, Repr

/-- the monitor of one side (R486-R492). -/
structure MonSide where
  /-- role (R488). -/
  role : Role := .pub
  /-- failed logins within 300 s (R488). -/
  fails : List Nat := []
  /-- end of the login lockout (R488). -/
  lockUntil : Option Nat := none
  /-- last input (R488). -/
  lastIn : Nat := 0
  /-- output lines, oldest first (R490). -/
  out : List Bytes := []
deriving DecidableEq, Repr

/-- the Twidor monitor (R486-R494). -/
structure Mon where
  /-- TWA, TWB (R486). -/
  sides : List MonSide := List.replicate 2 {}
  /-- lock level (R492). -/
  level : Nat := 0
  /-- monitor passwords whose hashes are stored (R488). -/
  passwords : List (Nat × Bytes) := []
  /-- trace capture of the active side's monitor (R491). -/
  trace : TraceCap := {}
deriving DecidableEq, Repr

/-- supplies, clocks, reset and start-up (R509-R525). -/
structure Rs where
  /-- CAUSE ("Per R519": the reset modelled is the power-on of a new module) (R519, R525). -/
  cause : Nat := 0
  /-- PREV (R525). -/
  prev : Nat := 0
  /-- SAVED (R525). -/
  saved : Bool := false
  /-- BOOT_MS (R525). -/
  bootMs : Nat := 0xFFFF
  /-- RESETS (R525). -/
  resets : Nat := 0
  /-- SUP_STATUS.VSW (R525). -/
  vsw : Nat := 0
  /-- VP12 (R525). -/
  vp12 : Bool := false
  /-- VN12 (R525). -/
  vn12 : Bool := false
  /-- VANA (R525). -/
  vana : Bool := false
  /-- VIO33 (R525). -/
  vio33 : Bool := false
  /-- VIO18 (R525). -/
  vio18 : Bool := false
  /-- VCORE (R525). -/
  vcore : Nat := 0
  /-- VDDQ (R525). -/
  vddq : Nat := 0
  /-- VAON (R525). -/
  vaon : Bool := true
  /-- VGRV (R525). -/
  vgrv : Bool := false
  /-- PFW (R525). -/
  pfw : Bool := false
  /-- VMAIN (R525). -/
  vmain : Bool := false
  /-- VIO33_MV (R525). -/
  vio33Mv : Nat := 0
  /-- VANA_MV (R525). -/
  vanaMv : Nat := 0
  /-- XIN_OK (R525). -/
  xinOk : Bool := false
  /-- X32_OK (R525). -/
  x32Ok : Bool := false
  /-- LOCK_A (R525). -/
  lockA : Nat := 0
  /-- LOCK_B (R525). -/
  lockB : Nat := 0
  /-- LOCK_MET (R525). -/
  lockMet : Bool := false
  /-- LOCK_HLC (R525). -/
  lockHlc : Bool := false
  /-- HFRC_A (R525). -/
  hfrcA : Bool := true
  /-- HFRC_B (R525). -/
  hfrcB : Bool := true
  /-- RTC_COMP (R525). -/
  rtcComp : Int := 0
  /-- DIE_TEMP (R525). -/
  dieTemp : Int := 0
  /-- SUP_COUNT.PFW (R525). -/
  cPfw : Nat := 0
  /-- SUP_COUNT.VMAIN (R525). -/
  cVmain : Nat := 0
  /-- SUP_COUNT.BOR (R525). -/
  cBor : Nat := 0
  /-- SUP_COUNT.XIN_LOSS (R525). -/
  cXin : Nat := 0
  /-- RTC_TRIM.TRIM (R525). -/
  trim : Int := 0
  /-- RSTN ball high (R520). -/
  rstn : Bool := true
  /-- start-up phase under way, 7 when complete (R521). -/
  phase : Nat := 1
  /-- release (R521). -/
  released : Nat := 0
  /-- start-up stopped by a power-fail warning before restore (R513). -/
  pfStop : Bool := false
  /-- clock of CLOCK_FAULT lost and not yet restored (R517, R524). -/
  clkLost : Option Nat := none
  /-- lanes given DIE_FAULT by VP12 or VN12 (R509). -/
  rail12Lanes : Nat := 0
  /-- start-up phase of Side A and Side B (R522). -/
  sides : List Nat := [1, 1]
  /-- VP12 and VN12 both good since (R509). -/
  rail12At : Option Nat := none
  /-- PFW and VMAIN clear since (R513). -/
  pfClearAt : Option Nat := none
  /-- TEMP_LIMIT raised (R538). -/
  hot : Bool := false
deriving DecidableEq, Repr

/-- The whole module: every piece of state the specification gives it, the events the present command emits, and
the queue of commands waiting, first in, first out. -/
structure State where
  ident : Ident := {}
  clock : Clock := {}
  seqr : Seqr := {}
  host : HostPorts := {}
  mx : Matrix := {}
  lanes : List Lane := List.replicate 64 {}
  hs : Hs := {}
  pp : Pp := {}
  ps : Ps := {}
  ef : Ef := {}
  mt : Mt := {}
  en : En := {}
  sf : Sf := {}
  po : Po := {}
  rd : Rd := {}
  bl : Bl := {}
  ac : Ac := {}
  cosem : Cosem := {}
  kv : Kv := {}
  kz : Kz := {}
  tg : Tg := {}
  ds : Ds := {}
  mm : Mm := {}
  pw : Pw := {}
  up : Up := {}
  mon : Mon := {}
  rs : Rs := {}
  /-- Events emitted by the command being executed, oldest first (empty between commands; the model's own). -/
  emits : List Emit := []
  /-- Counter the free values are applied to (the model's own; log entry on free values). -/
  draws : Nat := 0
  /-- Commands waiting, first in, first out (the model's own). -/
  pending : List Instr := []
deriving DecidableEq, Repr

/-- The module right after reset: every field at the value the specification states for reset of a new module (the
power-on release of R521 phase 1), and at the value the log names where it states none. -/
def State.reset : State := {}

end Sys2Proof.Machine
end

