-- ==== Sys2Proof/Machine/Ops.lean ====
section
/-! DEFINITION. Ops.lean: the named operations over the state that every chapter uses: places of lists, events and their
numbering by the sequencer (R20-R24), the end of a command, free values. -/
namespace Sys2Proof.Machine

/-- What a command answers. -/
abbrev Out := Host.Outcome State Fault Refusal

/-! ### Numbers -/

/-- The low `w` bits of an integer in two's complement. -/
def toBits (w : Nat) (x : Int) : Nat := (x % (2 ^ w : Nat)).toNat

/-- The integer that `w` bits hold in two's complement. -/
def ofBits (w : Nat) (n : Nat) : Int :=
  if n % 2 ^ w < 2 ^ (w - 1) then ((n % 2 ^ w : Nat) : Int) else ((n % 2 ^ w : Nat) : Int) - (2 ^ w : Nat)

/-- R75: the nearest value that an unsigned field of `w` bits can hold. -/
def satU (w n : Nat) : Nat := min n (2 ^ w - 1)

/-- R75: the nearest value that an unsigned field of `w` bits can hold to an integer. -/
def satUI (w : Nat) (x : Int) : Nat := satU w x.toNat

/-- R75: the bits of the nearest value that a signed field of `w` bits can hold. -/
def satS (w : Nat) (x : Int) : Nat :=
  toBits w (max (-(2 ^ (w - 1) : Nat)) (min x ((2 ^ (w - 1) : Nat) - 1)))

/-- Bit `i` of a number. -/
def bit (n i : Nat) : Bool := n.testBit i

/-- A number with bit `i` at a value. -/
def setBit (n i : Nat) (b : Bool) : Nat :=
  if b then n ||| (1 <<< i) else if n.testBit i then n - (1 <<< i) else n

/-- 1 for true, 0 for false. -/
def b2n (b : Bool) : Nat := if b then 1 else 0

/-- The numbers below `k` of the bits that are 1. -/
def bitsOf (k n : Nat) : List Nat := (List.range k).filter fun i => n.testBit i

/-- The number whose bits at the places of a list are 1. -/
def maskOf (l : List Nat) : Nat := l.foldl (fun m i => m ||| (1 <<< i)) 0

/-! ### Places of lists -/

/-- The lane tile of a lane. -/
def State.lane (s : State) (n : Nat) : Lane := s.lanes.getD n {}
/-- Changes the tile of a lane. -/
def State.onLane (s : State) (n : Nat) (f : Lane → Lane) : State := { s with lanes := s.lanes.modify n f }
/-- The handshake of a lane. -/
def State.hsl (s : State) (n : Nat) : HsLane := s.hs.lanes.getD n {}
/-- Changes the handshake of a lane. -/
def State.onHs (s : State) (n : Nat) (f : HsLane → HsLane) : State :=
  { s with hs := { s.hs with lanes := s.hs.lanes.modify n f } }
/-- Changes the pilot measurement of a lane. -/
def State.onPilot (s : State) (n : Nat) (f : PilotHs → PilotHs) : State := s.onHs n fun h => { h with p := f h.p }
/-- Changes the association and high-level communication of a lane. -/
def State.onLink (s : State) (n : Nat) (f : LinkHs → LinkHs) : State := s.onHs n fun h => { h with l := f h.l }
/-- Changes the handshake counters of a lane. -/
def State.onCnt (s : State) (n : Nat) (f : CntHs → CntHs) : State := s.onHs n fun h => { h with c := f h.c }
/-- The power path of a lane. -/
def State.ppl (s : State) (n : Nat) : PpLane := s.pp.lanes.getD n {}
/-- Changes the power path of a lane. -/
def State.onPp (s : State) (n : Nat) (f : PpLane → PpLane) : State :=
  { s with pp := { s.pp with lanes := s.pp.lanes.modify n f } }
/-- A CAN controller. -/
def State.can (s : State) (k : Nat) : PpCan := s.pp.cans.getD k {}
/-- Changes a CAN controller. -/
def State.onCan (s : State) (k : Nat) (f : PpCan → PpCan) : State :=
  { s with pp := { s.pp with cans := s.pp.cans.modify k f } }
/-- The power sharing of a lane. -/
def State.psl (s : State) (n : Nat) : PsLane := s.ps.lanes.getD n {}
/-- Changes the power sharing of a lane. -/
def State.onPs (s : State) (n : Nat) (f : PsLane → PsLane) : State :=
  { s with ps := { s.ps with lanes := s.ps.lanes.modify n f } }
/-- The insulation monitoring of a group. -/
def State.efg (s : State) (g : Nat) : EfGroup := s.ef.groups.getD g {}
/-- Changes the insulation monitoring of a group. -/
def State.onEfg (s : State) (g : Nat) (f : EfGroup → EfGroup) : State :=
  { s with ef := { s.ef with groups := s.ef.groups.modify g f } }
/-- The earth-fault state of a lane. -/
def State.efl (s : State) (n : Nat) : EfLane := s.ef.lanes.getD n {}
/-- Changes the earth-fault state of a lane. -/
def State.onEfl (s : State) (n : Nat) (f : EfLane → EfLane) : State :=
  { s with ef := { s.ef with lanes := s.ef.lanes.modify n f } }
/-- A Tracer channel. -/
def State.chan (s : State) (c : Nat) : MtChan := s.mt.chans.getD c {}
/-- Changes a Tracer channel. -/
def State.onChan (s : State) (c : Nat) (f : MtChan → MtChan) : State :=
  { s with mt := { s.mt with chans := s.mt.chans.modify c f } }
/-- The measurement state of a lane. -/
def State.mtl (s : State) (n : Nat) : MtLane := s.mt.lanes.getD n {}
/-- Changes the measurement state of a lane. -/
def State.onMtl (s : State) (n : Nat) (f : MtLane → MtLane) : State :=
  { s with mt := { s.mt with lanes := s.mt.lanes.modify n f } }
/-- A pulse input. -/
def State.pls (s : State) (k : Nat) : MtPulse := s.mt.pulses.getD k {}
/-- Changes a pulse input. -/
def State.onPls (s : State) (k : Nat) (f : MtPulse → MtPulse) : State :=
  { s with mt := { s.mt with pulses := s.mt.pulses.modify k f } }
/-- The energy registers of a lane (`cust` false) or of a custody channel (true). -/
def State.enr (s : State) (cust : Bool) (n : Nat) : EnSet :=
  if cust then s.en.cust.getD n {} else s.en.lanes.getD n {}
/-- Changes the energy registers of a lane or custody channel. -/
def State.onEn (s : State) (cust : Bool) (n : Nat) (f : EnSet → EnSet) : State :=
  if cust then { s with en := { s.en with cust := s.en.cust.modify n f } }
  else { s with en := { s.en with lanes := s.en.lanes.modify n f } }
/-- The safety-core state of a lane. -/
def State.sfl (s : State) (n : Nat) : SfLane := s.sf.lanes.getD n {}
/-- Changes the safety-core state of a lane. -/
def State.onSfl (s : State) (n : Nat) (f : SfLane → SfLane) : State :=
  { s with sf := { s.sf with lanes := s.sf.lanes.modify n f } }
/-- Changes the Graver. -/
def State.onGrv (s : State) (f : Graver → Graver) : State := { s with sf := { s.sf with grv := f s.sf.grv } }
/-- The watch comparison of a comparator. -/
def State.wat (s : State) (c : Nat) : Watch := s.sf.watch.getD c {}
/-- Changes the watch comparison of a comparator. -/
def State.onWatch (s : State) (c : Nat) (f : Watch → Watch) : State :=
  { s with sf := { s.sf with watch := s.sf.watch.modify c f } }
/-- An output channel. -/
def State.och (s : State) (c : Nat) : PoCh := s.po.chans.getD c {}
/-- Changes an output channel. -/
def State.onCh (s : State) (c : Nat) (f : PoCh → PoCh) : State :=
  { s with po := { s.po with chans := s.po.chans.modify c f } }
/-- A switch die. -/
def State.swd (s : State) (k : Nat) : PoDie := s.po.dies.getD k {}
/-- Changes a switch die. -/
def State.onDie (s : State) (k : Nat) (f : PoDie → PoDie) : State :=
  { s with po := { s.po with dies := s.po.dies.modify k f } }
/-- A host port. -/
def State.port (s : State) (p : Nat) : Port := s.host.ports.getD p {}
/-- Changes a host port. -/
def State.onPort (s : State) (p : Nat) (f : Port → Port) : State :=
  { s with host := { s.host with ports := s.host.ports.modify p f } }
/-- A tag port. -/
def State.tgp (s : State) (p : Nat) : TgPort := s.tg.ports.getD p {}
/-- Changes a tag port. -/
def State.onTgp (s : State) (p : Nat) (f : TgPort → TgPort) : State :=
  { s with tg := { s.tg with ports := s.tg.ports.modify p f } }
/-- A panel. -/
def State.panel (s : State) (p : Nat) : Panel := s.ds.panels.getD p {}
/-- Changes a panel. -/
def State.onPanel (s : State) (p : Nat) (f : Panel → Panel) : State :=
  { s with ds := { s.ds with panels := s.ds.panels.modify p f } }
/-- The memories of a side. -/
def State.mms (s : State) (x : Nat) : MmSide := s.mm.sides.getD x {}
/-- Changes the memories of a side. -/
def State.onMms (s : State) (x : Nat) (f : MmSide → MmSide) : State :=
  { s with mm := { s.mm with sides := s.mm.sides.modify x f } }
/-- The firmware of a side. -/
def State.ups (s : State) (x : Nat) : UpSide := s.up.sides.getD x {}
/-- Changes the firmware of a side. -/
def State.onUps (s : State) (x : Nat) (f : UpSide → UpSide) : State :=
  { s with up := { s.up with sides := s.up.sides.modify x f } }
/-- The monitor of a side. -/
def State.mons (s : State) (x : Nat) : MonSide := s.mon.sides.getD x {}
/-- Changes the monitor of a side. -/
def State.onMons (s : State) (x : Nat) (f : MonSide → MonSide) : State :=
  { s with mon := { s.mon with sides := s.mon.sides.modify x f } }

/-! ### Device time and free values -/

/-- TIME (R17). -/
def State.now (s : State) : Nat := s.clock.time

/-- Milliseconds in ns. -/
def ms (n : Nat) : Nat := n * 1000000
/-- Seconds in ns. -/
def sec (n : Nat) : Nat := n * 1000000000

/-- A free value of `w` bits (log entry 1): nothing constrains it. -/
def State.free (s : State) (w : Nat) : Nat := Config.freeValue s.draws % 2 ^ w

/-- A free byte string of `k` bytes (log entry 1). -/
def State.freeBytes (s : State) (k : Nat) : Bytes := leBytes k (s.free (8 * k))

/-- The next free value is another one. -/
def State.drawn (s : State) : State := { s with draws := s.draws + 1 }

/-- A quotient rounded in a way the specification leaves open: the floor or one more (log entry 1). -/
def State.roundDiv (s : State) (a b : Nat) : Nat := if a % b = 0 then a / b else a / b + s.free 1

/-! ### Events -/

/-- R22, R75: the SOURCE field. -/
def Ev.source (e : Ev) : Nat := e.cls.code * 8192 + (e.die % 32) * 256 + e.unit % 256

/-- R75: the 32 bytes of an event record; `replayed` and `gap` are FLAGS bits 0 and 1. -/
def EvRec.bytes (r : EvRec) (replayed gap : Bool) : Bytes :=
  leBytes 8 r.seq ++ leBytes 8 r.ev.time ++ leBytes 2 r.ev.source ++ leBytes 2 r.ev.code ++ leBytes 1 r.ev.lane ++
    leBytes 1 (r.ev.flags ||| b2n replayed ||| 2 * b2n gap) ++ padTo 10 r.ev.data

/-- R75: DATA beyond ten bytes continues in further records, all but the last with CONTINUES. -/
def Ev.records (e : Ev) : List Ev :=
  let k := max 1 ((e.data.length + 9) / 10)
  (List.range k).map fun i =>
    { e with data := sub e.data (10 * i) 10, flags := if i + 1 < k then e.flags ||| 4 else e.flags }

/-- A unit raises an event (R20). -/
def State.raise (s : State) (e : Ev) : State := { s with emits := s.emits ++ e.records.map .raise }

/-- An event numbered at once (R24, R79). -/
def State.direct (s : State) (e : Ev) : State := { s with emits := s.emits ++ e.records.map .direct }

/-- The sequencer does what is asked at its turn. -/
def State.ask (s : State) (e : Emit) : State := { s with emits := s.emits ++ [e] }

/-- Raises an event of the active side about a lane (R22: SOURCE[12:8] the side, SOURCE[7:0] the slot). -/
def State.evLane (s : State) (cls : EvClass) (n code : Nat) (data : Bytes) (flags : Nat := 0) : State :=
  s.raise { cls := cls, die := s.rd.active, unit := n, lane := n, flags := flags, code := code, data := data,
            time := s.now }

/-- Raises an event that concerns no lane, from a unit of a die (R22). -/
def State.evMod (s : State) (cls : EvClass) (die unit code : Nat) (data : Bytes) (flags : Nat := 0) : State :=
  s.raise { cls := cls, die := die, unit := unit, lane := 0xFF, flags := flags, code := code, data := data,
            time := s.now }

/-- The class of an event is never dropped (R23). -/
def EvClass.kept : EvClass → Bool
  | .safety | .metering => true
  | .external | .timer | .host | .diag => false

/-- R23: one more drop of a class and die. -/
def addDrop (l : List Drop) (c : EvClass) (d : Nat) : List Drop :=
  if l.any (fun x => x.cls == c && x.die == d) then
    l.map fun x => if x.cls == c && x.die == d then { x with count := x.count + 1 } else x
  else l ++ [{ cls := c, die := d, count := 1 }]

/-- Depth of a source FIFO (R23). -/
def fifoDepth : Nat := 64

/-- Records the journal holds (R77, "at least"). -/
def journalDepth : Nat := 196608

/-- R20, R23: an event arrives at the sequencer, or is dropped at its full source FIFO. -/
def Seqr.arrive (q : Seqr) (e : Ev) : Seqr :=
  if e.cls.kept || decide ((q.waiting.filter fun x => x.cls == e.cls && x.die == e.die).length < fifoDepth) then
    { q with waiting := q.waiting ++ [e] }
  else { q with drops := addDrop q.drops e.cls e.die, overflows := satU 24 (q.overflows + 1) }

/-- R20, R299: the next SEQ; the record is mirrored and journaled. -/
def Seqr.number (q : Seqr) (e : Ev) : Seqr :=
  { q with seqLast := q.seqLast + 1, mirrored := q.seqLast + 1,
           journal := ({ seq := q.seqLast + 1, ev := e } :: q.journal).take journalDepth }

/-- R21: whether an event goes before another that arrived earlier. -/
def Ev.before (e f : Ev) : Bool :=
  decide (e.cls.code < f.cls.code) || (e.cls.code == f.cls.code && decide (e.source < f.source))

/-- R21: the waiting event that goes first. -/
def firstWaiting : List Ev → Option Ev
  | [] => none
  | e :: l =>
    match firstWaiting l with
    | none => some e
    | some f => if f.before e then some f else some e

/-- R23: the event EVENT_OVERFLOW of a drop count. -/
def overflowEvent (side time : Nat) (d : Drop) : Ev :=
  { cls := .diag, die := side, unit := 0, lane := 0xFF, code := 0xF001,
    data := leBytes 1 d.cls.code ++ leBytes 1 d.die ++ leBytes 4 (satU 32 d.count), time := time }

/-- R20, R21, R23: the sequencer admits the event that goes first; EVENT_OVERFLOW goes ahead of every other
diagnostics event. -/
def Seqr.admitNext (q : Seqr) (side time : Nat) : Seqr :=
  match firstWaiting q.waiting, q.drops with
  | some e, [] => { q with waiting := q.waiting.erase e }.number e
  | some e, d :: ds =>
    if e.cls == .diag then { q with drops := ds }.number (overflowEvent side time d)
    else { q with waiting := q.waiting.erase e }.number e
  | none, d :: ds => { q with drops := ds }.number (overflowEvent side time d)
  | none, [] => q

/-- The highest SEQ in the journal, 0 when it holds none (R24). -/
def Seqr.journalHigh (q : Seqr) : Nat := match q.journal with | [] => 0 | r :: _ => r.seq

/-- R24: SEQ continues so that the next event carries the smallest multiple of 65,536 above `x`; it never decreases. -/
def Seqr.skipAbove (q : Seqr) (x : Nat) : Seqr :=
  { q with seqLast := max q.seqLast ((x / 65536 + 1) * 65536 - 1),
           mirrored := max q.seqLast ((x / 65536 + 1) * 65536 - 1) }

/-- R456: the journal without the record of a SEQ; the record after it carries GAP. -/
def loseRec (seq : Nat) : List EvRec → List EvRec
  | [] => []
  | [r] => if r.seq = seq then [] else [r]
  | r :: q :: l =>
    if r.seq = seq then q :: l
    else if q.seq = seq then { r with gap := true } :: l
    else r :: loseRec seq (q :: l)

/-- One thing asked of the sequencer. -/
def Seqr.take (q : Seqr) (side time : Nat) : Emit → Seqr
  | .raise e => q.arrive e
  | .direct e => q.number e
  | .admitNext => q.admitNext side time
  | .skip j => q.skipAbove (if j then q.journalHigh else q.mirrored)
  | .flush => { q with waiting := [], drops := [] }
  | .clearOverflows => { q with overflows := 0 }
  | .lose n => { q with journal := loseRec n q.journal }

/-- The sequencer takes what a command asked, in order. -/
def Seqr.absorb (q : Seqr) (side time : Nat) (l : List Emit) : Seqr := l.foldl (fun q e => q.take side time e) q

/-- SEQ_LAST once what has been asked so far is taken. -/
def State.seqAsked (s : State) : Nat := (s.seqr.absorb s.rd.active s.now s.emits).seqLast

/-! ### Trace capture (R491) -/

/-- R491: one more entry in the ring; after the trigger event `post` more are captured. -/
def TraceCap.entry (c : TraceCap) (code : Option Nat) (b : Bytes) : TraceCap :=
  if !c.running then c
  else
    let d := { c with ring := (b :: c.ring).take 2048 }
    match c.left with
    | some k => { d with left := some (k - 1), running := decide (1 < k) }
    | none => if code.isSome && code == c.trig then { d with left := some c.post, running := decide (0 < c.post) } else d

/-- R491: an event passes the two masks. -/
def passes (fam lanes : Nat) (e : Ev) : Bool := bit fam (e.code / 4096) && (e.lane == 0xFF || bit lanes e.lane)

/-- R491: the events numbered since a SEQ are captured. -/
def TraceCap.events (c : TraceCap) (q : Seqr) (since : Nat) : TraceCap :=
  ((q.journal.takeWhile fun r => decide (since < r.seq)).reverse).foldl
    (fun (c : TraceCap) (r : EvRec) => if passes c.famMask c.laneMask r.ev then c.entry (some r.ev.code) (r.bytes false r.gap) else c) c

/-- R491: a frame on a CAN controller is captured: time, controller, identifier, DLC and its first 10 data bytes. -/
def State.traceCan (s : State) (k id : Nat) (b : Bytes) : State :=
  if s.mon.trace.can == some k then
    let e := List.replicate 8 0xFF ++ leBytes 8 s.now ++ leBytes 1 k ++ leBytes 4 id ++ leBytes 1 (if 8 < b.length then 10 else b.length) ++ padTo 10 b
    { s with mon := { s.mon with trace := s.mon.trace.entry none e } }
  else s

/-! ### The end of a command -/

/-- The state after a command that turned `s` into `t`: `t`, with the queue of `s` and with the sequencer of `s` after it has
taken what `t` asks of it: no command writes the queue or the sequencer in another way. The events numbered are traced (R491). -/
def State.after (s t : State) : State :=
  let q := s.seqr.absorb t.rd.active t.now t.emits
  { t with pending := s.pending, seqr := q, emits := [], mon := { t.mon with trace := t.mon.trace.events q s.seqr.seqLast } }

/-- A command that turned `s` into `t` answers with the state after it. -/
def fin (s t : State) : Out := .next (s.after t)

end Sys2Proof.Machine
end

