-- ==== Sys2Proof/Machine/Operands.lean ====
section
/-! DEFINITION. Operands.lean: how a request comes to its operands and ends: statuses (R74), sessions and their tickets
(R70-R72), argument bytes (R69), completions (R71) and the roles each opcode is accepted in. -/
namespace Sys2Proof.Machine

/-! ### Status codes (R74) -/
namespace St
abbrev ok : Nat := 0
abbrev accepted : Nat := 1
abbrev badRequest : Nat := 0x10
abbrev badArgument : Nat := 0x11
abbrev notSupported : Nat := 0x12
abbrev refusedRole : Nat := 0x20
abbrev refusedSafety : Nat := 0x21
abbrev refusedState : Nat := 0x22
abbrev sealRequired : Nat := 0x23
abbrev busy : Nat := 0x30
abbrev noResource : Nat := 0x31
abbrev conflict : Nat := 0x32
abbrev timeout : Nat := 0x40
abbrev discarded : Nat := 0x41
abbrev aborted : Nat := 0x42
abbrev checkFailed : Nat := 0x50
abbrev orphaned : Nat := 0x51
abbrev writeUncertain : Nat := 0x52
end St

/-- R74: the name of a status, as the monitor prints it (R490). -/
def statusName (n : Nat) : String :=
  if n = St.ok then "OK" else if n = St.accepted then "ACCEPTED" else if n = St.badRequest then "BAD_REQUEST"
  else if n = St.badArgument then "BAD_ARGUMENT" else if n = St.notSupported then "NOT_SUPPORTED"
  else if n = St.refusedRole then "REFUSED_ROLE" else if n = St.refusedSafety then "REFUSED_SAFETY"
  else if n = St.refusedState then "REFUSED_STATE" else if n = St.sealRequired then "SEAL_REQUIRED"
  else if n = St.busy then "BUSY" else if n = St.noResource then "NO_RESOURCE" else if n = St.conflict then "CONFLICT"
  else if n = St.timeout then "TIMEOUT" else if n = St.discarded then "DISCARDED" else if n = St.aborted then "ABORTED"
  else if n = St.checkFailed then "CHECK_FAILED" else if n = St.orphaned then "ORPHANED" else "WRITE_UNCERTAIN"

/-! ### Text of the monitor -/

/-- The ASCII digit of a number below 16, upper case. -/
def hexDigit (n : Nat) : Byte := byteOf (if n < 10 then 48 + n else 55 + n)

/-- Two hexadecimal digits of a byte. -/
def hexByte (b : Byte) : Bytes := [hexDigit (b.toNat / 16), hexDigit (b.toNat % 16)]

/-- Hexadecimal digits of a byte string. -/
def hexBytes (b : Bytes) : Bytes := b.flatMap hexByte

/-- ASCII bytes of words joined by spaces. -/
def words (l : List Bytes) : Bytes := (l.intersperse [0x20]).flatten

/-- Decimal digits of a number. -/
def decBytes (n : Nat) : Bytes := (Nat.toDigits 10 n).map fun c => byteOf c.toNat

/-- The monitor of a side puts out a line (R486: it ends with CR LF). -/
def State.monLine (s : State) (side : Nat) (b : Bytes) : State :=
  s.onMons side fun m => { m with out := m.out ++ [b ++ [0x0D, 0x0A]] }

/-! ### Sessions and frames -/

/-- The session of a port (R57); port 3 is the active monitor's (R487). -/
def State.sess (s : State) (p : Nat) : Option Session := if p < 3 then (s.port p).session else if p = 3 then s.host.mon else none

/-- Changes the session of a port. -/
def State.onSess (s : State) (p : Nat) (f : Session → Session) : State :=
  if p < 3 then s.onPort p fun q => { q with session := q.session.map f }
  else { s with host := { s.host with mon := s.host.mon.map f } }

/-- R60, R67: the module sends a frame to a bound session. -/
def State.sendFrame (s : State) (p typ : Nat) (payload : Bytes) : State :=
  match (s.port p).session with
  | some c =>
    (s.onPort p fun q =>
      { q with outbox := q.outbox ++ [{ typ := typ, session := c.sid, counter := c.txCtr + 1, payload := payload }] }).onSess p
        fun c => { c with txCtr := c.txCtr + 1, lastTx := s.now }
  | none => s

/-- The module sends a frame outside a session; the value of COUNTER there is open (log entry 1). -/
def State.sendBare (s : State) (p typ dest : Nat) (payload : Bytes) : State :=
  (s.onPort p fun q =>
    { q with outbox := q.outbox ++ [{ dest := dest, typ := typ, counter := s.free 64, payload := payload }] }).drawn

/-! ### Tickets and completions -/

/-- R72: the port of a ticket. -/
def ticketPort (tk : Nat) : Nat := tk >>> 28

/-- An outstanding ticket of an opcode. -/
def State.ticket (s : State) (tk op : Nat) : Option Ticket :=
  match s.sess (ticketPort tk) with
  | some c => c.outstanding.find? fun t => t.id == tk && t.opcode == op
  | none => none

/-- R71: the COMPLETION frames of a result: the 20-byte header and up to 1,380 result bytes per part. -/
def completionParts (tk status seq : Nat) (result : Bytes) : List Bytes :=
  let k := max 1 ((result.length + 1379) / 1380)
  (List.range k).map fun i =>
    leBytes 4 tk ++ leBytes 2 status ++ leBytes 1 i ++ leBytes 1 k ++ leBytes 8 seq ++ leBytes 4 result.length ++
      sub result (1380 * i) 1380

/-- R74: an ended ticket is kept among the session's last 4,096. -/
def Session.ends (c : Session) (tk status : Nat) : Session :=
  { c with outstanding := c.outstanding.filter (fun t => t.id != tk), ended := ((tk, status) :: c.ended).take 4096 }

/-- R71, R78, R79: a request takes effect at its completion: REQ_COMPLETED is numbered with it, the ticket ends and
the COMPLETION is sent, or printed by the monitor (R490). -/
def State.complete (s : State) (t : Ticket) (status : Nat) (result : Bytes := []) : State :=
  let p := ticketPort t.id
  let seq := s.seqAsked + 1
  let s := s.direct { cls := .host, die := s.rd.active, unit := p, lane := 0xFF, code := 0x7011,
                      data := leBytes 4 t.id ++ leBytes 2 t.opcode ++ leBytes 2 status, time := s.now }
  let s := s.onSess p fun c => c.ends t.id status
  if p < 3 then (completionParts t.id status seq result).foldl (fun s b => s.sendFrame p 0x12 b) s
  else s.monLine s.rd.active (words [asciiBytes (statusName status), hexBytes result])

/-- A request command acts on its outstanding ticket; without one it has no effect. -/
def State.onTicket (s : State) (tk op : Nat) (f : Ticket → State) : State :=
  match s.ticket tk op with
  | some t => f t
  | none => s

/-! ### Argument bytes (R69) -/

/-- The unsigned number of `k` argument bytes at an offset. -/
def Ticket.u (t : Ticket) (off k : Nat) : Nat := leNat (sub t.arg off k)
/-- The signed number of `k` argument bytes at an offset. -/
def Ticket.i (t : Ticket) (off k : Nat) : Int := ofBits (8 * k) (t.u off k)
/-- The argument bytes from an offset on. -/
def Ticket.rest (t : Ticket) (off : Nat) : Bytes := t.arg.drop off

/-! ### Roles of the opcodes -/

/-- READER and above. -/
def rReader : List Role := [.reader, .operator, .admin, .metrology, .service]
/-- OPERATOR and ADMIN. -/
def rOpAdm : List Role := [.operator, .admin]
/-- OPERATOR, ADMIN and SERVICE. -/
def rOpAdmSvc : List Role := [.operator, .admin, .service]
/-- ADMIN. -/
def rAdm : List Role := [.admin]
/-- ADMIN and SERVICE. -/
def rAdmSvc : List Role := [.admin, .service]
/-- ADMIN and METROLOGY. -/
def rAdmMet : List Role := [.admin, .metrology]
/-- METROLOGY. -/
def rMet : List Role := [.metrology]
/-- SERVICE. -/
def rSvc : List Role := [.service]

/-- The opcodes and the roles each is accepted in, as the owning chapters list them: R74, R81, R47, R101, R129, R152, R170,
R194, R219, R245, R273, R290, R306, R333, R356, R388, R412, R428, R442, R458, R469, R483, R493, R523. Where the roles
depend on the argument (R385, R462) the widest set stands here. -/
def opRoles : List (Nat × List Role) :=
  [(0x0001, rReader), (0x0002, rReader), (0x0003, rReader), (0x0004, rReader), (0x0005, [.operator, .admin, .metrology, .service]),
   (0x0101, rAdm), (0x0102, rAdm), (0x0103, rAdm), (0x0104, rAdm), (0x0105, rAdm),
   (0x0201, rOpAdmSvc), (0x0202, rOpAdmSvc), (0x0203, rOpAdmSvc), (0x0204, rOpAdmSvc), (0x0205, rOpAdmSvc), (0x0206, rOpAdmSvc),
   (0x0207, rOpAdmSvc), (0x0208, rOpAdmSvc), (0x0209, [.reader, .operator, .admin, .service]),
   (0x0210, rReader), (0x0211, rOpAdmSvc), (0x0212, rOpAdm), (0x0213, rOpAdm), (0x0220, rReader), (0x0221, rOpAdmSvc),
   (0x0301, rOpAdm), (0x0302, rOpAdm), (0x0303, rOpAdm), (0x0304, rOpAdm), (0x0305, rAdm), (0x0306, rReader)] ++
  [(0x0401, rMet), (0x0402, rReader), (0x0403, rMet), (0x0404, rMet), (0x0405, rReader), (0x0406, rOpAdmSvc),
   (0x0410, rReader), (0x0411, rReader), (0x0412, rReader), (0x0413, rMet), (0x0414, rMet), (0x0415, [.operator, .admin, .metrology]),
   (0x0501, rAdm), (0x0502, rAdm), (0x0503, rReader), (0x0504, rOpAdm), (0x0505, rAdm), (0x0506, rOpAdm), (0x0507, rAdm),
   (0x0508, rAdm), (0x0509, rAdm), (0x050A, rReader), (0x050B, rAdm),
   (0x0560, rAdmMet), (0x0561, rAdmMet), (0x0562, rReader), (0x0563, rAdmMet), (0x0564, rReader), (0x0565, rReader), (0x0566, rReader)] ++
  [(0x0601, rAdmMet), (0x0602, rAdmMet), (0x0603, rAdmMet), (0x0604, rAdmMet), (0x0605, rReader), (0x0606, rAdmMet), (0x0607, rAdmMet),
   (0x0608, rReader), (0x0609, [.pub, .admin, .metrology]), (0x060A, rAdmMet), (0x060B, rOpAdm), (0x060C, rAdm),
   (0x0701, rAdmSvc), (0x0702, rAdmSvc), (0x0703, rReader), (0x0704, rAdmSvc), (0x0705, rAdmSvc), (0x0706, rAdmSvc), (0x0707, rAdm),
   (0x0801, rOpAdm), (0x0802, rAdm), (0x0803, rAdmSvc), (0x0804, rReader),
   (0x0901, rOpAdmSvc), (0x0902, rOpAdm), (0x0903, rReader), (0x0904, rOpAdmSvc)] ++
  [(0x0A01, rReader), (0x0A02, rReader), (0x0A03, rAdm), (0x0A04, rOpAdm), (0x0A05, rAdm), (0x0A06, rOpAdmSvc),
   (0x0B01, rOpAdm), (0x0B02, rReader), (0x0B03, rOpAdm), (0x0B04, rOpAdmSvc),
   (0x0C01, rReader), (0x0C02, rReader), (0x0C03, rAdmSvc), (0x0C04, [.admin, .service, .metrology]), (0x0C05, rReader),
   (0x0D01, rReader), (0x0D02, rAdmSvc), (0x0D03, rAdmSvc), (0x0D04, rSvc),
   (0x0E01, rOpAdm), (0x0E02, rOpAdmSvc), (0x0E03, rAdmSvc), (0x0E04, rReader),
   (0x0F10, rReader), (0x0F11, rOpAdmSvc), (0x0F12, rSvc), (0x0F13, rOpAdmSvc),
   (0x0F20, rReader), (0x0F21, rOpAdmSvc), (0x0F30, rAdm), (0x0F31, rAdm), (0x0F32, rReader), (0x0F40, rAdmSvc), (0x0F41, rReader)]

/-- The roles of an opcode, none for an opcode no chapter names. -/
def rolesOf (op : Nat) : Option (List Role) := (opRoles.find? fun x => x.1 == op).map (·.2)

/-- R388, R489: the vault's opcodes. -/
def isVaultOp (op : Nat) : Bool := decide (0x0601 ≤ op) && decide (op ≤ 0x060C)

/-- R489, R493, R271, R355: what a session on port 3 may not send whatever its role. -/
def monitorBars (op : Nat) : Bool :=
  (isVaultOp op && op != 0x0605 && op != 0x0608) ||
    [0x0C03, 0x0C04, 0x0506, 0x0902, 0x060C, 0x0F30, 0x0F31, 0x0F32].contains op

/-- R355, R388, R428: what is refused on HP2, whose frames are not encrypted. -/
def hp2Bars (op : Nat) : Bool := [0x0506, 0x0902, 0x060C].contains op

end Sys2Proof.Machine
end

