-- ==== Sys2Proof/Machine/KeyOps.lean ====
section
/-! DEFINITION. KeyOps.lean: what the vault does for the other units: derivation along the tree (R376, R378), the
orphaned condition, signatures (R379, R380), credential references (R355) and anchors (R385). -/
namespace Sys2Proof.Machine

/-- The record of a used node. -/
def State.kvNode (s : State) (n : Nat) : Option KvNode := s.kv.nodes.find? fun x => x.node == n

/-- Changes the record of a node. -/
def State.onNode (s : State) (n : Nat) (f : KvNode → KvNode) : State :=
  { s with kv := { s.kv with nodes := s.kv.nodes.map fun x => if x.node == n then f x else x } }

/-- R376, R387: a node is ORPHANED while its PARENT_GEN differs from its parent's GEN, while its parent is ORPHANED or
while no good record of its parent or of itself is held. Nodes lie at depth 6 at most. -/
def orphanedIn (nodes : List KvNode) : Nat → Nat → Bool
  | 0, _ => true
  | fuel + 1, n =>
    match nodes.find? fun x => x.node == n with
    | none => true
    | some x =>
      if n == 0 then false
      else match nodes.find? fun y => y.node == x.parent with
        | none => true
        | some q => x.parentGen != q.gen || orphanedIn nodes fuel x.parent

/-- Whether a node is ORPHANED. -/
def State.isOrphan (s : State) (n : Nat) : Bool := orphanedIn s.kv.nodes 8 n

/-- The used nodes that are ORPHANED. -/
def State.orphans (s : State) : List Nat := (s.kv.nodes.map (·.node)).filter fun n => s.isOrphan n

/-- R378: key bits of a usage. -/
def usageBits (u : Nat) : Nat := if u = 1 ∨ u = 2 then 384 else 256

/-- R378: the context of a node. -/
def KvNode.ctx (x : KvNode) : Bytes :=
  leBytes 2 x.node ++ leBytes 1 x.usage ++ leBytes 4 x.gen ++ leBytes 4 x.parentGen

/-- R378: a node's key, derived from the root secret along the tree. -/
def nodeKeyIn (secret : Bytes) (nodes : List KvNode) : Nat → Nat → Bytes
  | 0, _ => []
  | fuel + 1, n =>
    if n == 0 then secret
    else match nodes.find? fun x => x.node == n with
      | none => []
      | some x => kdf108 (nodeKeyIn secret nodes fuel x.parent) x.label x.ctx (usageBits x.usage)

/-- The root secret of the module (R376). -/
def State.rootSecret (s : State) : Bytes := padTo 32 (Config.rootSecret s.kv.rootEpoch)

/-- The key of a node. -/
def State.nodeKey (s : State) (n : Nat) : Bytes := nodeKeyIn s.rootSecret s.kv.nodes 8 n

/-- R378: the private scalar of a node. -/
def State.nodeScalar (s : State) (n : Nat) : Nat := beNat (s.nodeKey n) % (P256.n - 1) + 1

/-- The public key of a node. -/
def State.nodePublic (s : State) (n : Nat) : Bytes := P256.publicOf (s.nodeScalar n)

/-- R390: an operation was refused with ORPHANED. -/
def State.orphanRefused (s : State) : State := { s with kv := { s.kv with orphanRef := satU 16 (s.kv.orphanRef + 1) } }

/-- R379, R380: the signature of a node over a digest, with 32 bytes of the DRBG as additional data unless RNG_FAIL
stands; none when the node is ORPHANED. -/
def State.signature (s : State) (n : Nat) (digest : Bytes) : Option Bytes :=
  if s.isOrphan n then none
  else some (P256.sign (s.nodeScalar n) digest (if s.kv.rngFail then [] else s.freeBytes 32))

/-- What a signature asked of a node leaves behind: it counts, or its refusal does (R390). -/
def State.signed (s : State) (n : Nat) : State :=
  if s.isOrphan n then s.orphanRefused
  else { s with kv := { s.kv with signatures := (s.kv.signatures + 1) % 2 ^ 32 } }.drawn

/-- R355: the credential reference of an identifier, under the privacy node; open while that node is ORPHANED. -/
def State.credRef (s : State) (kind : Nat) (ident : Bytes) : Nat :=
  if s.isOrphan 3 then s.free 32 else beNat (sub (hmac256 (s.nodeKey 3) (byteOf kind :: ident)) 0 4)

/-- The key an anchor slot holds (R385). -/
def State.anchor (s : State) (slot : Nat) : Option Bytes := (s.kv.anchors.find? fun x => x.1 == slot).map (·.2)

/-- R385: the anchor slot of a host key. -/
def hostKeySlot (r : Role) (k : Nat) : Nat := 4 + 4 * (r.code - 1) + k

end Sys2Proof.Machine
end

