-- ==== Sys2Proof/Machine/KryuzOps.lean ====
section
/-! DEFINITION. KryuzOps.lean: how a frame of the Kryuz link goes out and comes in (R393-R398, R406, R407): airtime, modes, counters,
acknowledgements and what a receiver drops. -/
namespace Sys2Proof.Machine

/-! ### Airtime and modes -/

/-- R393: bits per carrier and repetition of a mode. -/
def kzMode (m : Nat) : Nat × Nat := [(3, 1), (2, 1), (1, 1), (1, 4), (1, 6)].getD m (1, 6)

/-- R393: the SNR a mode needs, in 0.25 dB; the last needs none. -/
def kzMinSnr (m : Nat) : Nat := 4 * [16, 10, 6, 1].getD m 0

/-- R394: payload symbols of L bytes in a mode. -/
def kzSymbols (mode l : Nat) : Nat :=
  let (m, r) := kzMode mode
  let k := (l + 238) / 239
  (2 * r * (8 * (l + 16 * k) + 6) + 36 * m - 1) / (36 * m)

/-- R394: the airtime of a frame of L bytes in ns. -/
def kzAirtime (mode l : Nat) : Nat := 3200000 + 13 * 695000 + kzSymbols mode l * 695000

/-- R407: the bytes DEST, SRC, COUNTER and TAG add to a body. -/
def kzLen (body : Bytes) : Nat := body.length + 16

/-- R398: a sender waits this long for an acknowledgement after its frame ends. -/
def kzAckWait : Nat := 14600000

/-- R407, R414, R461: the modem sends and receives: enabled, in RUN or PARK, and its key node not ORPHANED. -/
def State.kzOn (s : State) : Bool := s.kz.enable && decide (s.pw.state ≤ 1) && !(s.kz.keyEn && s.isOrphan s.kz.keyNode)

/-- R398: the record of a peer by its address. -/
def State.kzPairAt (s : State) (addr : Nat) : Option KzPair := s.kz.pairs.find? fun x => x.addr == addr
/-- R398, R407: the record of a peer by its EUI-64. -/
def State.kzPairOf (s : State) (eui : Nat) : Option KzPair := s.kz.pairs.find? fun x => x.eui == eui

/-- R398: the mode for the first attempt to a peer: the fastest from MAX_MODE on whose SNR the peer's mean meets. -/
def State.kzModeTo (s : State) (addr : Nat) : Nat :=
  let snrs := match s.kzPairAt addr with | some x => x.snrs | none => []
  ((List.range 4).find? fun m => decide (s.kz.maxMode ≤ m) && !snrs.isEmpty && decide (kzMinSnr m * snrs.length ≤ snrs.sum)).getD 4

/-! ### Sending -/

/-- R395, R403, R407: one transmission of a frame, with the next COUNTER and FSN; COUNTER is committed every 4,096 frames. -/
def State.kzTransmit (s : State) (ft dest fsn mode : Nat) (body : Bytes) : State :=
  let c := (s.kz.counter + 1) % 2 ^ 32
  { s with kz := { s.kz with counter := c, committed := if c % 4096 = 0 then c else s.kz.committed, presAt := s.now,
                             out := s.kz.out ++ [{ ft := ft, dest := dest, counter := c, fsn := fsn, mode := mode, body := body }] } }

/-- R398: a broadcast frame: neither acknowledged nor retried. -/
def State.kzBroadcast (s : State) (ft mode : Nat) (body : Bytes) : State :=
  if s.kzOn then
    let s := s.kzTransmit ft 0xFFFF s.kz.fsn mode body
    { s with kz := { s.kz with fsn := (s.kz.fsn + 1) % 32, txOk := satU 32 (s.kz.txOk + 1) } }
  else s

/-- R406: a wake preamble is sent. -/
def State.kzWake (s : State) : State := { s with kz := { s.kz with wakes := s.kz.wakes + 1 } }

/-- R398, R406: a unicast frame: its first attempt goes out in the mode its peer's SNR allows, behind a wake preamble when the peer
sleeps. The medium is taken to be idle (log entry 4). -/
def State.kzUnicast (s : State) (ft dest : Nat) (body : Bytes) (bind : Bool := false) : State :=
  if !s.kzOn then s
  else
    let mode := s.kzModeTo dest
    let fsn := s.kz.fsn
    let s : State := { s with kz := { s.kz with fsn := (fsn + 1) % 32 } }
    let x : KzTx := { dest := dest, ft := ft, body := body, fsn := fsn, mode := mode, bind := bind }
    if (match s.kzPairAt dest with | some p => p.asleep | none => false) then
      let s := if s.kz.txs.any fun y => y.dest == dest && y.wakeEnd.isSome then s else s.kzWake
      { s with kz := { s.kz with txs := s.kz.txs ++ [{ x with attempt := 0, wakeEnd := some (s.now + sec 2) }] } }
    else
      let s := s.kzTransmit ft dest fsn mode body
      { s with kz := { s.kz with txs := s.kz.txs ++ [{ x with endAt := s.now + kzAirtime mode (kzLen body) }] } }

/-- R398: an ACK frame: no payload, no contention. -/
def State.kzAck (s : State) (dest : Nat) : State :=
  { s with kz := { s.kz with out := s.kz.out ++ [{ ft := 1, dest := dest, counter := s.kz.counter, fsn := s.kz.fsn }] } }

/-- R398: a frame waiting is acknowledged. -/
def State.kzAcked (s : State) (p : KzTx → Bool) : State :=
  let n := (s.kz.txs.filter p).length
  { s with kz := { s.kz with txs := s.kz.txs.filter fun x => !p x, txOk := satU 32 (s.kz.txOk + n) } }

/-! ### Receiving -/

/-- What the receiver makes of a frame. -/
inductive KzRx where
  /-- Not received: the modem is off, or the frame is for another node or was dropped. -/
  | dropped
  /-- Received and accepted. -/
  | accepted
  /-- Its tag fails (R407). -/
  | badTag
deriving DecidableEq, Repr

/-- R398, R407: the record of the sender after a frame of it: address, COUNTER and the last 8 SNRs. -/
def State.kzHeard (s : State) (f : KzFrame) : State :=
  let old : KzPair := (s.kzPairOf f.eui).getD { eui := f.eui }
  let new : KzPair := { old with addr := f.src, counter := f.counter, snrs := (old.snrs ++ [f.snr]).drop ((old.snrs.length + 1) - 8) }
  let nodes := s.kz.nodes.map fun (x : KzNode) => if x.eui == f.eui then { x with heardAt := s.now } else x
  { s with kz := { s.kz with nodes := nodes, pairs := s.kz.pairs.filter (fun x => x.eui != f.eui && (x.addr != f.src || f.src == 0)) ++ [new] } }

/-- R395, R396, R407, R408: what becomes of a frame of a type the receiver expects of its sender or does not; the second component is
the state with the frame counted and its sender's record kept. -/
def State.kzReceive (s : State) (f : KzFrame) (expected : Bool) : KzRx × State :=
  if !s.kzOn then (.dropped, s)
  else if !f.hdrOk then (.dropped, { s with kz := { s.kz with hdrFail := satU 16 (s.kz.hdrFail + 1) } })
  else if kzSymbols f.mode (kzLen f.body) < 4 * f.erased then (.dropped, { s with kz := { s.kz with erased := satU 16 (s.kz.erased + 1) } })
  else if s.kz.keyEn && !f.tagOk then (.badTag, { s with kz := { s.kz with authFail := satU 16 (s.kz.authFail + 1) } })
  else if (match s.kzPairOf f.eui with | some x => decide (f.counter ≤ x.counter) | none => false) then
    (.dropped, { s with kz := { s.kz with authFail := satU 16 (s.kz.authFail + 1) } })
  else
    let s := s.kzHeard f
    if f.dest != 0xFFFF && f.dest != s.kz.address then (.dropped, s)
    else if !expected then (.dropped, { s with kz := { s.kz with hdrFail := satU 16 (s.kz.hdrFail + 1) } })
    else (.accepted, { s with kz := { s.kz with rxOk := satU 32 (s.kz.rxOk + 1) } })

/-- A frame of a type expected of its sender or not; an accepted one is acknowledged by an ACK when `ack` says so, and acts. -/
def State.kzFrame (s : State) (f : KzFrame) (expected ack : Bool) (act : State → State) : State :=
  match s.kzReceive f expected with
  | (.accepted, s) => act (if ack then s.kzAck f.src else s)
  | (_, s) => s

/-! ### Phase angles (R166, R391, R405) -/

/-- R405: how far, in ns, an edge lies behind a reference edge within one period. -/
def phaseLag (edge ref period : Nat) : Nat := (((edge : Int) - (ref : Int)) % (period : Int)).toNat

/-- R405: the sector of a lag. -/
def phaseSector (x period : Nat) : Nat := (360 * x + 30 * period) / (60 * period) % 6

/-- R405: the lag lies more than 35° from the centre of a sector. -/
def phaseOff (x period sector : Nat) : Bool :=
  let y := (360 * x + 360 * period - 60 * sector * period) % (360 * period)
  decide (35 * period < min y (360 * period - y))

/-- R391: ZC is valid: its last edge came within the longest period. -/
def State.zcOk (s : State) : Bool := s.kz.zcValid && (match s.kz.zcAt with | some t => decide (s.now ≤ t + 22200000) | none => false)

/-- The last ZC period in ns. -/
def State.zcPeriod (s : State) : Nat := s.kz.zcPers.getLast?.getD 0

/-- R405: the angle of a lag in 0.1°; its rounding is open (log entry 1). -/
def State.phaseTenths (s : State) (x period : Nat) : Nat := s.roundDiv (3600 * x) period % 3600

/-- R391: a rising edge on ZC. -/
def execZcEdge (s : State) : Out :=
  fin s (
    let pers := match s.kz.zcAt with | some t => (s.kz.zcPers ++ [s.now - t]).drop (s.kz.zcPers.length - 9) | none => []
    let top := pers.foldl max 0
    let low := pers.foldl min top
    let last := pers.getLast?.getD 0
    let ok := decide (pers.length = 10) && decide (15400000 ≤ last) && decide (last ≤ 22200000) && decide ((top - low) * 100 ≤ last)
    { s with kz := { s.kz with zcAt := some s.now, zcPers := pers, zcValid := ok } })

end Sys2Proof.Machine
end

