-- ==== Sys2Proof/Machine/Flags.lean ====
section
/-! DEFINITION. Flags.lean: the conditions and status flags the chapters compute from the state: the applied matrix and
its owners (R28-R43), legal time (R18, R19, R327), permits and gates (R248, R249), the safety bounds (R45, R254), the
energy guard (R89), the unlock guard (R140) and credit (R337). -/
namespace Sys2Proof.Machine

/-! ### The applied matrix -/

/-- The applied matrix; before one is applied, an empty one. -/
def State.cfg (s : State) : Config := s.mx.applied.getD {}

/-- The SLOT entry of a slot (R33). -/
def Config.slot (c : Config) (n : Nat) : Slot := (c.slots.find? fun x => x.slot == n).getD { slot := n }
/-- The GROUP entry of a group (R154). -/
def Config.group (c : Config) (g : Nat) : Option Group := c.groups.find? fun x => x.group == g
/-- The OUTPUT entry of a channel (R278). -/
def Config.output (c : Config) (k : Nat) : Option Output := c.outputs.find? fun x => x.output == k
/-- The COMPARATOR entry of a comparator (R254). -/
def Config.comp (c : Config) (k : Nat) : Option Comp := c.comps.find? fun x => x.comp == k
/-- The PULSE entry of an input (R215). -/
def Config.pulse (c : Config) (k : Nat) : Option Pulse := c.pulses.find? fun x => x.input == k

/-- The SLOT entry in force. -/
def State.slot (s : State) (n : Nat) : Slot := s.cfg.slot n
/-- The type of a lane (R34). -/
def State.typ (s : State) (n : Nat) : LaneType := (s.slot n).typ
/-- The power group of a lane. -/
def State.groupOf (s : State) (n : Nat) : Nat := (s.slot n).group
/-- R1: the number of lanes of the fitted variant. -/
def State.nLanes (s : State) : Nat := s.ident.variant.lanes
/-- R1: whether a standby side is fitted. -/
def State.twin (s : State) : Bool := s.ident.variant != .sx16

/-- R41: the owner code of a lane. -/
def laneOwner (n : Nat) : Nat := 0x1000 + n
/-- R41: the owner code of a group. -/
def groupOwner (g : Nat) : Nat := 0x2000 + g
/-- R41: the owner code of the module. -/
def moduleOwner : Nat := 0x3000
/-- R41: the owner code of a custody channel. -/
def custodyOwner (c : Nat) : Nat := 0x4000 + c

/-- R41: the lane an owner code names. -/
def ownerLane (o : Nat) : Option Nat := if o / 4096 = 1 then some (o % 256) else none
/-- R41: the group an owner code names. -/
def ownerGroup (o : Nat) : Option Nat := if o / 4096 = 2 then some (o % 256) else none
/-- R41: the custody channel an owner code names. -/
def ownerCustody (o : Nat) : Option Nat := if o / 4096 = 4 then some (o % 256) else none

/-- R248: the group an owner code belongs to. -/
def Config.groupOfOwner (c : Config) (o : Nat) : Option Nat :=
  match ownerLane o, ownerGroup o with
  | some n, _ => some (c.slot n).group
  | none, some g => some g
  | none, none => none

/-- The output that carries a function of a lane (R131). -/
def State.chanOf (s : State) (n fn : Nat) : Option Nat :=
  (s.cfg.outputs.find? fun o => o.owner == laneOwner n && o.func == fn).map (·.output)

/-- R90: whether the lane owns LOCK. -/
def State.ownsLock (s : State) (n : Nat) : Bool := (s.chanOf n 5).isSome

/-- R141, R215: the pulse input that is the lock feedback of a lane: PULSE entry FLAGS.LOCK_FB. -/
def State.lockInput (s : State) (n : Nat) : Option Nat :=
  (s.cfg.pulses.find? fun p => p.owner == laneOwner n && bit p.flags 0).map (·.input)

/-- The lanes of a group, ascending. -/
def State.lanesOf (s : State) (g : Nat) : List Nat :=
  (List.range 64).filter fun n => (s.typ n).isLane && s.groupOf n == g

/-- R13: the Tracer, Pilot and switch dies of a lane or channel. -/
def tracerDie (n : Nat) : Nat := 2 + n / 16
/-- R13: the Pilot die of a lane. -/
def pilotDie (n : Nat) : Nat := 6 + n / 32
/-- R277: the switch die of a channel. -/
def switchDie (c : Nat) : Nat := 9 + c / 32

/-- R13: whether a die's fault stands. -/
def State.dieBad (s : State) (d : Nat) : Bool := bit s.ident.dieStanding d

/-- R103: bits [31:0] of TIME in ms. -/
def State.nowMs (s : State) : Nat := s.now / 1000000 % 2 ^ 32

/-! ### Legal time -/

/-- R327: nanoseconds by which a slew moves legal time between two TIMEs. -/
def State.slewed (s : State) (t0 t1 : Nat) : Int :=
  match s.clock.slewEnd with
  | none => 0
  | some e =>
    let a := max t0 s.clock.slewStart
    let b := min t1 e
    if a < b then s.clock.slewDelta * ((b - a : Nat) : Int) / 60000000000 else 0

/-- R18, R19, R327: legal time at a TIME: from the anchor pair that precedes it, at the rate of TIME and of the slew in
progress. -/
def State.legalAt (s : State) (t : Nat) : Nat :=
  if s.clock.anchorTime ≤ t then
    (((s.clock.anchorLegal : Nat) : Int) +
      ((((t - s.clock.anchorTime : Nat) : Int) + s.slewed s.clock.anchorTime t) * (2 ^ 32 : Nat)) / 1000000000).toNat
  else if s.clock.prevTime < s.clock.anchorTime then
    s.clock.prevLegal +
      (s.clock.anchorLegal - s.clock.prevLegal) * (t - s.clock.prevTime) / (s.clock.anchorTime - s.clock.prevTime)
  else s.clock.anchorLegal

/-- Legal time now. -/
def State.legal (s : State) : Nat := s.legalAt s.now

/-- Legal seconds now. -/
def State.legalSec (s : State) : Nat := s.legal / 2 ^ 32

/-! ### Permits and gates (R248-R251) -/

/-- R248: the group of a comparator. -/
def State.compGroup (s : State) (k : Nat) : Option Nat :=
  match s.cfg.comp k with
  | some c => s.cfg.groupOfOwner c.owner
  | none => none

/-- R248: a trip latch of the group stands. -/
def State.groupLatched (s : State) (g : Nat) : Bool := s.sf.grv.latches.any fun k => s.compGroup k == some g

/-- R251: the Graver has loaded its part of the block and taken a valid grant word since VGRV rose. -/
def State.grvStarted (s : State) : Bool := s.sf.grv.powered && s.sf.grv.loaded && s.sf.grv.everTaken

/-- R274: why PERMITg is low, as the reasons of PERMIT; 0 when every condition of R248 holds. -/
def State.permitLow (s : State) (g : Nat) : Nat :=
  let v := s.sf.grv
  let p := s.sf.grvPar
  b2n (!(s.grvStarted && bit v.grants g)) ||| 2 * b2n (s.groupLatched g) |||
    4 * b2n (!(bit v.pairs 0 && bit v.pairs 1) && bit p.estMask g) |||
    8 * b2n (!(bit v.pairs 2 && bit v.pairs 3) && bit p.grdMask g) |||
    16 * b2n ((List.range 4).any fun x => bit v.xtrip x && bit (p.xtripMask.getD x 0) g) |||
    32 * b2n ((v.estFault && bit p.estMask g) || (v.grdFault && bit p.grdMask g)) |||
    64 * b2n v.wd ||| 128 * b2n v.selfFail

/-- R249: the lane gate. -/
def State.laneGate (s : State) (n : Nat) : Bool :=
  s.grvStarted && bit s.sf.grv.laneGrants n && !s.sf.grv.wd && !bit s.sf.grv.pilotBad n && !s.sf.grv.selfFail

/-- The level of a PERMIT ball. -/
def State.permit (s : State) (g : Nat) : Bool := bit s.sf.grv.permit g

/-- R278: whether the gate of a channel is open; a channel that is not safety-gated has none. -/
def State.gateOpen (s : State) (k : Nat) : Bool :=
  match s.cfg.output k with
  | none => true
  | some o =>
    if bit o.flags 0 then
      (match s.cfg.groupOfOwner o.owner with | some g => s.permit g | none => false) &&
        (match ownerLane o.owner with | some n => s.laneGate n | none => true)
    else true

/-! ### Safety bounds (R45, R254) -/

/-- R254: the function code of a Tracer channel (R37), from the CHFUNC byte of its slot. -/
def Config.chanFunc (c : Config) (k : Nat) : Nat := ((c.slot (k / 5)).chfunc.getD (k % 5) 0)

/-- R37: current functions. -/
def isCurrentFunc (f : Nat) : Bool := [0x04, 0x14, 0x15, 0x16, 0x17].contains f

/-- R254: whether an armed threshold of a comparator lies inside the bounds of the block; magnitudes on AC lanes are
compared with the bound times √2, by squares. -/
def thresholdOk (c : Config) (b : SpBlock) (e : Comp) (th : Int) : Bool :=
  let m := th.natAbs
  if e.watch ≥ 0x400 then decide (100000 ≤ m) && decide (m ≤ b.resWinMax * 1000)
  else
    let n := if (c.slot (e.watch / 5)).typ == .paired then e.watch / 5 - 1 else e.watch / 5
    let sl := c.slot n
    let k := if sl.typ.isAc then 2 else 1
    if isCurrentFunc (c.chanFunc e.watch) then
      decide ((b.curWinMin * sl.ratedI) ^ 2 * k ≤ (m * 100) ^ 2) && decide ((m * 100) ^ 2 ≤ (b.curWinMax * sl.ratedI) ^ 2 * k)
    else decide ((m * 100) ^ 2 ≤ (b.voltWinMax * sl.ratedU) ^ 2 * k)

/-- R45, R254: a comparator meets every bound. -/
def compOk (c : Config) (b : SpBlock) (e : Comp) : Bool :=
  (!bit e.flags 0 || thresholdOk c b e e.high) && (!bit e.flags 1 || thresholdOk c b e e.low)

/-- R269: a group meets GROUP_P_BOUND. -/
def groupOk (b : SpBlock) (g : Group) : Bool :=
  let m := b.groupPBound.getD g.group 0
  m == 0 || (decide (g.pMax ≤ m) && decide (g.exportMax ≤ m))

/-- R89: the applied matrix meets every safety bound for a group. -/
def State.groupBounds (s : State) (g : Nat) : Bool :=
  (match s.cfg.group g with | some e => groupOk s.sf.block e | none => true) &&
    s.cfg.comps.all fun e => s.cfg.groupOfOwner e.owner != some g || compOk s.cfg s.sf.block e

/-! ### Guards -/

/-- R89: the energy guard. -/
def State.energyGuard (s : State) (n : Nat) : Bool :=
  let g := s.groupOf n
  s.sf.guardTested && bit s.sf.groupGrant g && s.permit g && s.groupBounds g &&
    decide (((s.slot n).minPower : Int) ≤ (s.lane n).pAlloc * 100)

/-- R140: the unlock guard. -/
def State.unlockGuard (s : State) (n : Nat) : Bool :=
  let p := s.ppl n
  !p.dcpos && !p.dcneg && !p.pre && !p.acMain &&
    (match p.belowSince with | some t => decide (t + ms 10 ≤ s.now) | none => false) &&
    !(s.lane n).causes.contains .weld

/-- The outlet has been below 60 V for a time (R100, R283). -/
def State.belowFor (s : State) (n d : Nat) : Bool :=
  match (s.ppl n).belowSince with | some t => decide (t + d ≤ s.now) | none => false

/-- R153: outlet within ±20 V of the precharge target, in 0.1 V. -/
def withinMatch (u target : Nat) : Bool := decide (u ≤ target + 200) && decide (target ≤ u + 200)

/-- R56, R50: a lane is pending under a load. -/
def State.isPending (s : State) (n : Nat) : Bool := bit s.mx.pending n

/-! ### Sessions, supervision and host loss -/

/-- R68: a supervising session is bound. -/
def State.supervised (s : State) : Bool :=
  s.host.ports.any fun p => match p.session with | some c => c.role == .operator || c.role == .admin | none => false

/-- R68: the host-loss policy of a lane: SLOT.HOSTLOSS when OPTIONS bit 2 is 1, else the default. -/
def State.policyOf (s : State) (n : Nat) : Nat :=
  if bit (s.slot n).options 2 then (s.slot n).hostloss else s.cfg.hostloss

/-- R68, R96: a host-loss policy 1-3 applies to the lane. -/
def State.policyHolds (s : State) (n : Nat) : Bool := s.host.hostloss && decide (1 ≤ s.policyOf n)

/-! ### Accounts -/

/-- The cell of a number; cells not listed are all-default. -/
def State.cell (s : State) (c : Nat) : Cell := ((s.ac.cells.find? fun x => x.1 == c).map (·.2)).getD {}

/-- Inserts a pair in ascending order of its key, in place of any pair of that key. -/
def insertCell (c : Nat) (v : Cell) : List (Nat × Cell) → List (Nat × Cell)
  | [] => [(c, v)]
  | (k, w) :: l => if c < k then (c, v) :: (k, w) :: l else if c = k then (c, v) :: l else (k, w) :: insertCell c v l

/-- R336: a cell as the region keeps it: an all-default cell is not listed. -/
def State.putCell (s : State) (c : Nat) (v : Cell) : State :=
  { s with ac := { s.ac with cells := if v = {} then s.ac.cells.filter (fun x => x.1 != c) else insertCell c v s.ac.cells } }

/-- R341: the class of a cell. -/
def State.acClass (s : State) (k : Nat) : AcClass := s.ac.classes.getD k {}

/-- R345: a 2^-32 accumulator rounded to the nearest unit, halves up. -/
def roundHalfUp (a : Int) : Int := (a + 2 ^ 31) / 2 ^ 32

/-- R346: whole units accrued and not yet debited, rounded towards negative infinity. -/
def Charge.undebited (c : Charge) : Int := c.acc / 2 ^ 32 - c.debited

/-- The running charges on a cell: of lanes, then of custody channels. -/
def State.chargesOn (s : State) (cell : Nat) : List Charge :=
  ((s.ac.charges ++ s.ac.custody).filterMap id).filter fun c => c.cell == cell

/-- R337: available credit: BALANCE + EC_LIMIT less the cost accrued and not yet debited. -/
def State.available (s : State) (cell : Nat) : Int :=
  let v := s.cell cell
  v.balance + (s.acClass v.cls).ecLimit - ((s.chargesOn cell).map Charge.undebited).sum

/-- R337: the emergency credit state of a balance and an available credit. -/
def ecStateOf (balance avail : Int) : Nat := if 0 ≤ balance then 0 else if avail ≤ 0 then 2 else 1

/-- R336: the 44 bytes of a cell its CRC covers. -/
def Cell.body (v : Cell) : Bytes :=
  leBytes 8 (toBits 64 v.balance) ++ leBytes 8 v.importTotal ++ leBytes 8 v.exportTotal ++ leBytes 8 v.seq ++
    leBytes 4 v.lastSession ++ leBytes 1 v.lastLane ++ leBytes 1 v.tariffGroup ++ leBytes 1 v.cls ++
    leBytes 1 (b2n v.used ||| 2 * b2n v.blocked ||| 4 * b2n v.prepaid ||| 8 * v.ecState ||| 32 * b2n v.low) ++
    leBytes 4 v.expiry

/-- R336: the 48 bytes of a cell. A cell whose CRC has failed keeps a CRC that does not fit. -/
def Cell.bytes (v : Cell) : Bytes :=
  v.body ++ leBytes 4 (if v.crcOk then crc32 v.body else crc32 v.body ^^^ 1)

/-- Raises an event about a lane, or about none when `n` is 0xFF. -/
def State.evAt (s : State) (cls : EvClass) (n code : Nat) (data : Bytes) (flags : Nat := 0) : State :=
  if n < 64 then s.evLane cls n code data flags else s.evMod cls s.rd.active 0 code data flags

/-- R337: LOW is evaluated at a write to the cell, and CREDIT_LOW is raised when it sets. -/
def State.writeCell (s : State) (c : Nat) (v : Cell) (n : Nat := 0xFF) : State :=
  let s := s.putCell c { v with crcOk := true }
  let a := s.available c
  let low := decide (a < (s.acClass v.cls).lowCredit)
  let s := s.putCell c { v with crcOk := true, ecState := ecStateOf v.balance a, low := low }
  if low && !v.low then
    s.evAt .metering n 0x4030 (leBytes 4 c ++ leBytes 4 (satS 32 a))
  else s

/-- R349, R350: friendly time covers a class now. -/
def State.friendlyNow (s : State) (k : Nat) : Bool := bit s.ac.frNow k

end Sys2Proof.Machine
end

