-- ==== Sys2Proof/Machine/OutOps.lean ====
section
/-! DEFINITION. OutOps.lean: what the chapters do with output channels (R278-R289) and with the Graver's permits
(R248, R249): commands, gates, on-transitions, trips. -/
namespace Sys2Proof.Machine

/-- R287: the supply of a channel's switch die is below the limit. -/
def State.chanUv (s : State) (k : Nat) : Bool := (s.swd (k / 32)).uv

/-- R279: the channel's driver follows its command, latch, trip, supply and gate; a change from off to on opens the
inrush blanking window. -/
def State.drive (s : State) (k : Nat) : State :=
  let c := s.och k
  let o := (s.cfg.output k).getD {}
  let g := s.gateOpen k
  let on := c.cmd && !c.latched && !c.tripped && !c.proofFail && !s.chanUv k && g
  if on && !c.out then
    s.onCh k fun c => { c with out := true, gated := false, onSince := some s.now,
                               blankEnd := if o.inrushMs = 0 then none else some (s.now + ms o.inrushMs) }
  else if !on && c.out then
    s.onCh k fun c => { c with out := false, gated := !g, onSince := none, blankEnd := none, limit := false, current := 0 }
  else s.onCh k fun c => { c with gated := !g }

/-- R276-R289, R291: raises an event about a channel (SOURCE[7:0] the channel, LANE its owner lane). -/
def State.evChan (s : State) (k code : Nat) (data : Bytes) : State :=
  s.raise { cls := .diag, die := switchDie k, unit := k, code := code, data := data, time := s.now,
            lane := match s.cfg.output k with | some o => (ownerLane o.owner).getD 0xFF | none => 0xFF }

/-- R289, R291: the proof cycle of a channel: the driver goes off for it, gate, sense and short comparator are found good or not, the
off-state check follows (`above` tells whether the output lies above 4.0 V); the channel returns to its command. -/
def State.proofCycle (s : State) (k : Nat) (good above : Bool) : State :=
  (s.onCh k fun c => { c with out := false, onSince := none, blankEnd := none, proofFail := !good, proofed := true, proofDue := false,
                              openOff := above }).drive k

/-- R46, R289: a deferred proof cycle runs once the owner lane has released the channel; what it finds is open (log entry 1). -/
def State.deferredProof (s : State) (k : Nat) : State :=
  if (s.och k).proofDue then
    let good := s.free 2 != 0
    let s := (s.proofCycle k good (s.free 2 == 3)).drawn
    s.evChan k 0xC005 (leBytes 1 k ++ leBytes 1 (b2n good) ++ leBytes 1 (b2n (!good)))
  else s

/-- R279, R282, R289: an owner's command. A latched channel and one marked PROOF_FAIL take no on command; an off command
cancels a pending restart and ends an on-state open load. -/
def State.command (s : State) (k : Nat) (on : Bool) : State :=
  if on then
    if (s.och k).latched || (s.och k).proofFail then s
    else (s.onCh k fun c => { c with cmd := true }).drive k
  else
    ((s.onCh k fun c => { c with cmd := false, tripped := false, retryAt := none, waitCool := false, openOn := false }).drive k).deferredProof k

/-- R248, R286: every gated channel follows its gate. -/
def State.driveGated (s : State) : State :=
  s.cfg.outputs.foldl (fun s o => if bit o.flags 0 then s.drive o.output else s) s

/-- R248, R274: every PERMIT ball takes the level its conditions give; a change raises PERMIT; then the gates follow. -/
def State.settlePermits (s : State) : State :=
  ((List.range 16).foldl (fun s g =>
    let low := s.permitLow g
    let on := low == 0
    if s.permit g == on then s
    else
      (s.onGrv fun v => { v with permit := setBit v.permit g on }).evMod .safety 8 g 0x2002
        (leBytes 1 g ++ leBytes 1 (b2n on) ++ leBytes 2 low)) s).driveGated

/-- R282: the kinds of a trip: 0 short, 1 overload, 2 thermal, 3 clamp. After a trip the channel is off and the retry
counter decides; OUTPUT_TRIP reports it. -/
def State.trip (s : State) (k kind : Nat) : State :=
  let o := (s.cfg.output k).getD {}
  let c := s.och k
  let latch := (kind == 2 && bit o.flags 2) || decide (o.retries ≤ c.used)
  let i := c.current
  let s := s.onCh k fun c =>
    { c with out := false, onSince := none, blankEnd := none, limit := false, current := 0, trips := satU 8 (c.trips + 1), latched := latch,
             tripped := !latch, thermal := c.thermal || kind == 2, waitCool := false,
             retryAt := if latch then none else some (s.now + ms (10 * o.retryDelay)) }
  s.evChan k 0xC001 (leBytes 1 k ++ leBytes 1 kind ++ leBytes 2 (satU 16 (i / 10)) ++ leBytes 1 (s.och k).tj ++
    leBytes 1 (s.och k).used ++ leBytes 1 (b2n latch))

/-- R46, R289: the channel is commanded on by its owner lane, so a proof cycle is deferred; a GENERAL channel is commanded by
PO_SET (R290). -/
def State.laneHolds (s : State) (k : Nat) : Bool :=
  (s.och k).cmd && (match s.cfg.output k with | some o => o.func != 0 && (ownerLane o.owner).isSome | none => false)

end Sys2Proof.Machine
end

