-- ==== Sys2Proof/Machine/EnergyOps.lean ====
section
/-! DEFINITION. EnergyOps.lean: the plate's registers (R224-R227), impressions (R240), session readings and the closing of
session records (R241, R242), the charge of a session (R344-R346). -/
namespace Sys2Proof.Machine

/-- A byte string with a piece replaced. -/
def patch (b : Bytes) (off : Nat) (x : Bytes) : Bytes := b.take off ++ x ++ b.drop (off + x.length)

/-- R226: the reading of an accumulator: bits [95:32] as 64 bits. -/
def reading (a : Nat) : Nat := a / 2 ^ 32 % 2 ^ 64

/-- R240, R236: the tamper word of a lane or custody channel. -/
def State.tamperOf (s : State) (cust : Bool) (n : Nat) : Nat := (s.enr cust n).tamper

/-! ### Impressions -/

/-- R240: the 128 bytes of an impression, its SEQ still 0. -/
def State.impression (s : State) (cust : Bool) (n reason flags legal : Nat) : Bytes :=
  let e := s.enr cust n
  let body := leBytes 1 (b2n cust) ++ leBytes 1 n ++ leBytes 1 reason ++ leBytes 1 s.bl.rate ++ leBytes 2 flags ++
    leBytes 2 e.tamper ++ leBytes 8 0 ++ leBytes 8 legal ++
    leBytes 8 (reading e.acc.imp) ++ leBytes 8 (reading e.acc.exp) ++ leBytes 8 (reading e.acc.cImp) ++
    leBytes 8 (reading e.acc.cExp) ++ leBytes 8 (reading e.acc.q1) ++ leBytes 8 (reading e.acc.q2) ++
    leBytes 8 (reading e.acc.q3) ++ leBytes 8 (reading e.acc.q4) ++ leBytes 4 e.demImp ++ leBytes 4 e.demExp ++
    leBytes 4 (if cust then 0 else (s.mtl n).calGen) ++ leBytes 4 e.cableR ++ List.replicate 20 0
  body ++ leBytes 4 (crc32 body)

/-- R322: a rate block of a direction, with the header of its impression. -/
def State.rateBlock (s : State) (impr : Bytes) (cust exp : Bool) (n : Nat) : Bytes :=
  let r := if exp then (s.enr cust n).acc.rExp else (s.enr cust n).acc.rImp
  let body := leBytes 1 (if exp then 3 else 2) ++ sub impr 1 5 ++ leBytes 2 0 ++ sub impr 8 16 ++
    (r.flatMap fun a => leBytes 8 (reading a)) ++ List.replicate 36 0
  body ++ leBytes 4 (crc32 body)

/-- Slots of the impression ring (R244). -/
def imprSlots : Nat := 24576
/-- Slots of the record ring (R244). -/
def recordSlots : Nat := 15420

/-- R244: an entry takes the next slot of the impression ring. -/
def State.pushImpr (s : State) (b : Bytes) : State :=
  { s with en := { s.en with imprs := (b :: s.en.imprs).take imprSlots, imprNext := (s.en.imprNext + 1) % imprSlots } }

/-- R240: FLAGS of an impression: those given, with UNCAL and GAP of the lane or channel. -/
def State.imprFlags (s : State) (cust : Bool) (n flags : Nat) : Nat :=
  flags ||| 32 * b2n (!cust && (s.mtl n).uncal) ||| 64 * b2n (s.enr cust n).intGap

/-- R240, R246: an impression is written to the ring and reported; at a billing period close (reason 2) the two rate
blocks follow it (R322). -/
def State.impress (s : State) (cust : Bool) (n reason flags legal : Nat) : State :=
  let fl := s.imprFlags cust n flags
  let b := s.impression cust n reason fl legal
  let idx := s.en.imprNext
  let t := s.pushImpr b
  let t := if reason = 2 then (t.pushImpr (s.rateBlock b cust false n)).pushImpr (s.rateBlock b cust true n) else t
  t.raise { cls := .metering, die := s.rd.active, unit := n, lane := if cust then 0xFF else n, code := 0x4011, time := s.now,
            data := leBytes 1 (b2n cust) ++ leBytes 1 n ++ leBytes 1 reason ++ leBytes 2 idx ++ leBytes 2 fl }

/-- R240: an impression or rate block with its SEQ. -/
def withSeq (b : Bytes) (seq : Nat) : Bytes :=
  let body := patch (b.take 124) 8 (leBytes 8 seq)
  body ++ leBytes 4 (crc32 body)

/-- R240, R322: the impression of a ring index takes the SEQ of its event; at reason 2 so do its rate blocks, and the
oldest close of the period history still without a SEQ (R323). -/
def State.numberImpr (s : State) (kind n reason idx seq : Nat) : State :=
  let at' (i : Nat) : Nat := (s.en.imprNext + 2 * imprSlots - 1 - i) % imprSlots
  let l := s.en.imprs.modify (at' idx) fun b => withSeq b seq
  let l := if reason = 2 then
    (l.modify (at' (idx + 1)) fun b => withSeq b seq).modify (at' (idx + 2)) fun b => withSeq b seq else l
  let blank (c : Bytes) : Bool := leNat (sub c 8 8) == 0
  let hist := if reason = 2 then
    s.bl.history.map fun (k, i, cs) =>
      if k == kind && i == n then
        let j := cs.length - 1 - (cs.reverse.findIdx blank)
        (k, i, if cs.any blank then
          cs.modify j fun c => withSeq (sub c 0 128) seq ++ withSeq (sub c 128 128) seq ++ withSeq (sub c 256 128) seq else cs)
      else (k, i, cs)
    else s.bl.history
  { s with en := { s.en with imprs := l }, bl := { s.bl with history := hist } }

/-! ### Energy and its charge -/

/-- R342: the price group in force. -/
def State.priceGrp (s : State) (g : Nat) : PriceGrp := s.ac.price.groups.getD g {}

/-- Adds to the entry of a rate, 1-8. -/
def addRate (l : List Nat) (rate q : Nat) : List Nat := l.modify (rate - 1) (· + q)

/-- R344, R357: energy or quantity `q`, in 2^-32 of 10^-9 of the priced unit, accrues at the price of the rate; export is
credited. -/
def Charge.accrue (c : Charge) (p : PriceGrp) (exp : Bool) (rate q : Nat) : Charge :=
  let price := (if exp then p.exp else p.imp).getD (rate - 1) 0
  let d := price * (q : Int) / 1000000000
  { c with acc := if exp then c.acc - d else c.acc + d, imp := if exp then c.imp else c.imp + q,
           exp := if exp then c.exp + q else c.exp }

/-- R344: the charge of a lane's session takes energy of the registers its BASIS names. -/
def State.chargeLane (s : State) (n : Nat) (conn exp : Bool) (q : Nat) : State :=
  match s.ac.charges.getD n none with
  | some c =>
    let p := s.priceGrp c.group
    if c.begun && (p.basis == 1) == conn then
      { s with ac := { s.ac with charges := s.ac.charges.set n (some (c.accrue p exp s.bl.rate q)) } }
    else s
  | none => s

/-- R357: the charge of a custody channel takes a quantity, in the group in force. -/
def State.chargeCust (s : State) (n : Nat) (exp : Bool) (q : Nat) : State :=
  match s.ac.custody.getD n none with
  | some c =>
    let c := c.accrue (s.priceGrp (s.cell c.cell).tariffGroup) exp s.bl.rate q
    { s with ac := { s.ac with custody := s.ac.custody.set n (some c) } }
  | none => s

/-- R224, R315, R217: energy `q` (2^-32 of the unit) advances IMPORT or EXPORT and the rate register in force, and
accrues. -/
def State.addActive (s : State) (cust : Bool) (n : Nat) (exp : Bool) (q : Nat) : State :=
  let s := s.onEn cust n fun e =>
    { e with acc := if exp then { e.acc with exp := e.acc.exp + q, rExp := addRate e.acc.rExp s.bl.rate q }
                    else { e.acc with imp := e.acc.imp + q, rImp := addRate e.acc.rImp s.bl.rate q } }
  if cust then s.chargeCust n exp q else s.chargeLane n false exp q

/-- R232: energy advances CONN_IMPORT or CONN_EXPORT, and accrues under BASIS 1. -/
def State.addConn (s : State) (n : Nat) (exp : Bool) (q : Nat) : State :=
  let s := s.onEn false n fun e =>
    { e with acc := if exp then { e.acc with cExp := e.acc.cExp + q } else { e.acc with cImp := e.acc.cImp + q } }
  s.chargeLane n true exp q

/-- R344: the time part up to a TIME, pro rata. -/
def Charge.timeTo (c : Charge) (t : Nat) : Charge :=
  if c.begun && decide (c.timeAt < t) then
    { c with acc := c.acc + c.timePrice * (((t - c.timeAt : Nat) : Int) * 2 ^ 32) / 60000000000, timeAt := t }
  else c

/-- R354: units debited from a cell while a bulk load waits for its commit. -/
def Bulk.addDebit (b : Bulk) (cell : Nat) (d : Int) : Bulk :=
  if b.committed then b
  else if b.debits.any (fun x => x.1 == cell) then { b with debits := b.debits.map fun x => if x.1 == cell then (x.1, x.2 + d) else x }
  else { b with debits := b.debits ++ [(cell, d)] }

/-- R346: a debit of `d` units: the debit record, then the cell. -/
def State.debit (s : State) (n : Nat) (c : Charge) (d : Int) (f : Cell → Cell) : State × Charge :=
  let v := s.cell c.cell
  let c' := { c with debited := c.debited + d, before := v.balance, after := v.balance - d }
  let s := { s with ac := { s.ac with bulk := s.ac.bulk.map fun (b : Bulk) => b.addDebit c.cell d } }
  (s.writeCell c.cell (f { v with balance := v.balance - d }) n, c')

/-- R236, R237: a tamper bit of a lane or custody channel latches; a session's record carries it. -/
def State.setTamper (s : State) (cust : Bool) (n b : Nat) : State :=
  s.onEn cust n fun e => { e with tamper := setBit e.tamper b true,
                                  sess := e.sess.map fun x => { x with tamper := setBit x.tamper b true } }

/-- R213: test mode of a lane ends: its test registers read 0. -/
def State.endTest (s : State) (n : Nat) : State := s.onMtl n fun m => { m with test := false, testEnd := none, testImp := 0, testExp := 0 }

/-! ### Sessions -/

/-- R241, R343, R344: the first entry into ENERGY takes the START readings and begins the charge. -/
def State.startReadings (s : State) (n : Nat) : State :=
  let s := s.onEn false n fun e =>
    { e with sess := e.sess.map fun x => { x with started := true, startLegal := s.legal, start := e.acc } }
  match s.ac.charges.getD n none with
  | some c =>
    let v := s.cell c.cell
    let p := s.priceGrp v.tariffGroup
    let c := { c with begun := true, group := v.tariffGroup, cls := v.cls, timePrice := p.timePrice, timeAt := s.now,
                      debitAt := s.now, acc := c.acc + p.startFee * 2 ^ 32 }
    { s with ac := { s.ac with charges := s.ac.charges.set n (some c) } }
  | none => s

/-- R242: Wh of an advance in µWh, 4 bytes. -/
def whBytes (a b : Nat) : Bytes := leBytes 4 (satU 32 ((reading b - reading a) / 1000000))

/-- R242: bytes 0x00-0xCF of a record, with START_SEQ, END_SEQ and KEY_GEN still 0. -/
def State.recordHead (s : State) (n : Nat) (x : SessEn) (cause endLegal : Nat) (cost balance : Int) (flags : Nat) : Bytes :=
  let e := s.enr false n
  let l := s.lane n
  let st := if x.started then x.start else e.acc
  let ch := s.ac.charges.getD n none
  ([0x59, 0x47, 0x53, 0x52] : Bytes) ++ leBytes 2 1 ++ leBytes 2 272 ++ leBytes 8 s.ident.eui64 ++ leBytes 1 n ++
    leBytes 1 (s.typ n).code ++ leBytes 1 l.idSource ++ leBytes 1 cause ++ leBytes 4 x.number ++
    leBytes 4 (l.account.getD 0xFFFFFFFF) ++ leBytes 4 (s.mtl n).calGen ++ leBytes 16 0 ++
    leBytes 8 (if x.started then x.startLegal else endLegal) ++ leBytes 8 endLegal ++
    leBytes 8 (reading st.imp) ++ leBytes 8 (reading e.acc.imp) ++ leBytes 8 (reading st.exp) ++ leBytes 8 (reading e.acc.exp) ++
    leBytes 8 (reading e.acc.cImp - reading st.cImp) ++ leBytes 8 (reading e.acc.cExp - reading st.cExp) ++
    (List.zipWith whBytes st.rImp e.acc.rImp).flatten ++ (List.zipWith whBytes st.rExp e.acc.rExp).flatten ++
    leBytes 8 (toBits 64 cost) ++ leBytes 8 (toBits 64 balance) ++
    leBytes 1 (match ch with | some c => c.group | none => 0) ++ leBytes 1 (match ch with | some c => c.cls | none => 0) ++
    leBytes 2 flags ++ leBytes 2 (x.tamper ||| e.tamper) ++ leBytes 2 2 ++ leBytes 4 0 ++ leBytes 4 e.cableR

/-- R242: FLAGS of a record as they stand at its closing. -/
def State.recordFlags (s : State) (n : Nat) (x : SessEn) (powerDown saveLost : Bool) : Nat :=
  b2n powerDown ||| 2 * b2n saveLost ||| 4 * b2n (s.mtl n).uncal ||| 8 * b2n (s.lane n).rampForced |||
    16 * b2n (x.timeChanged || !s.clock.legalValid) ||| 64 * b2n x.gap ||| 128 * b2n x.sideChange ||| 256 * b2n s.cfg.sealed |||
    512 * b2n x.degraded

/-- R241, R345, R346, R437: the record of an open session closes: END readings, the last of the charge, its debit, the
account's totals and the final reading on the display; the record waits for the SEQ of the event that closes it and for its signature. -/
def State.closeRecord (s : State) (n : Nat) (powerDown saveLost : Bool) (cause endLegal endTime : Nat) : State :=
  match (s.enr false n).sess with
  | none => s
  | some x =>
    let fl := s.recordFlags n x powerDown saveLost
    let (s', cost, bal) : State × Int × Int :=
      match s.ac.charges.getD n none with
      | none => (s, 0, 0)
      | some c =>
        let c := c.timeTo endTime
        let cost := roundHalfUp c.acc
        let (t, c') := s.debit n c (cost - c.debited) fun v =>
          { v with importTotal := (v.importTotal + c.imp / 2 ^ 32) % 2 ^ 64, exportTotal := (v.exportTotal + c.exp / 2 ^ 32) % 2 ^ 64,
                   lastSession := x.number, lastLane := n }
        ({ t with ac := { t.ac with charges := t.ac.charges.set n (some c') } }, cost, (t.cell c.cell).balance)
    let head := s'.recordHead n x cause endLegal cost bal fl
    let s' := { s' with ac := { s'.ac with charges := s'.ac.charges.set n none } }
    let s' := s'.onEn false n fun e => { e with sess := none }
    let used := if x.started then reading (s.enr false n).acc.imp - reading x.start.imp else 0
    let s' : State := { s' with ds := { s'.ds with finals := s'.ds.finals.filter (fun (f : DsFinal) => f.lane != n) ++
      [{ lane := n, session := x.number, energy := used }] } }
    { s' with en := { s'.en with closing := s'.en.closing ++
      [{ lane := n, session := x.number, head := head, endTime := endTime, startSeq := x.startSeq,
         cell := (s.ac.charges.getD n none).map (·.cell) }] } }

end Sys2Proof.Machine
end

