-- ==== Sys2Proof/Machine/LaneOps.lean ====
section
/-! DEFINITION. LaneOps.lean: the lane state machine (R83-R100) with what its states do to the pilot (R90, R108, R109), the
contactors (R131-R138) and the socket lock (R140, R141): timers, entry actions, triggers, identification and
authorisation. -/
namespace Sys2Proof.Machine

/-! ### Timers (R87, R88) -/
namespace Tm
abbrev plug : Nat := 1
abbrev settle : Nat := 2
abbrev hostAuth : Nat := 3
abbrev guardWait : Nat := 4
abbrev cableCheck : Nat := 5
abbrev precharge : Nat := 6
abbrev ramp : Nat := 7
abbrev weld : Nat := 8
abbrev degraded : Nat := 9
abbrev suspend : Nat := 10
abbrev preauth : Nat := 11
abbrev lockPulse : Nat := 12
end Tm

/-- R88: the expiry TIME of a running timer. -/
def Lane.timer (l : Lane) (k : Nat) : Option Nat := (l.timers.find? fun x => x.1 == k).map (·.2)
/-- A timer starts, or restarts. -/
def Lane.start (l : Lane) (k e : Nat) : Lane :=
  { l with timers := (l.timers.filter fun x => x.1 != k) ++ [(k, e)], holds := l.holds.filter fun x => x.1 != k }
/-- A timer stops. -/
def Lane.stop (l : Lane) (k : Nat) : Lane :=
  { l with timers := l.timers.filter fun x => x.1 != k, holds := l.holds.filter fun x => x.1 != k }
/-- A timer of a lane starts at the present TIME. -/
def State.startTimer (s : State) (n k d : Nat) : State := s.onLane n fun l => l.start k (s.now + d)
/-- A timer of a lane stops. -/
def State.stopTimer (s : State) (n k : Nat) : State := s.onLane n fun l => l.stop k
/-- R25: an arrival stamped `t` is late for a timer that expired before it. -/
def Lane.late (l : Lane) (k t : Nat) : Bool := match l.timer k with | some e => decide (e < t) | none => false
/-- Whether a pulse of the lock runs (R87, R90). -/
def Lane.pulsing (l : Lane) : Bool := (l.timer Tm.lockPulse).isSome

/-! ### Events (R102, R151) -/

/-- R102: LANE_STATE of a transition. -/
def State.laneState (s : State) (cls : EvClass) (n : Nat) (cause : Cause) : State :=
  let l := s.lane n
  s.evLane cls n 0x1001 (leBytes 1 l.st.code ++ leBytes 1 l.prev.code ++ leBytes 1 cause.code ++ leBytes 1 l.pilot.code ++
    leBytes 4 l.session ++ leBytes 1 l.idSource) (16 * b2n l.rampForced ||| 32 * b2n l.isoWarn)

/-- R151: CONTACTOR. -/
def State.evContactor (s : State) (n fn cmd result timeMs : Nat) : State :=
  s.evLane .external n 0x1201 (leBytes 1 fn ++ leBytes 1 cmd ++ leBytes 1 result ++ leBytes 2 (satU 16 timeMs))

/-- R151: LOCK_RESULT. -/
def State.evLock (s : State) (n action result attempt : Nat) : State :=
  s.evLane .external n 0x1203 (leBytes 1 action ++ leBytes 1 result ++ leBytes 1 (satU 8 attempt))

/-! ### Control pilot (R90, R108, R109) -/

/-- R108: the least of the allocated current per phase, RATED_I, the proximity rating and the cap of R98, in 0.1 A. -/
def State.acLimit (s : State) (n : Nat) : Nat :=
  let l := s.lane n
  let a := min (s.psl n).iPhase ((s.slot n).ratedI / 100)
  let r := (s.hsl n).p.ppRating
  let a := if r = 0 then a else min a r
  if l.st == .degraded then min a l.degCapI else a

/-- R108: the duty in 0.1 % that codes a limit in 0.1 A. -/
def dutyOf (i : Nat) : Nat := let i := max 60 i; if i ≤ 510 then i * 10 / 6 else i * 2 / 5 + 640

/-- R109: the lane drives a level now. -/
def Lane.drives (l : Lane) (m : CpMode) (d : Nat) : Lane :=
  { l with cp := m, duty := d, cpNext := none, pilot := if m == .v0 then .none else l.pilot }

/-- R109: a change to F or 0 V, and one from F or 0 V to S12, takes effect at once; any other at a period boundary 1 ms or
more after the decision. -/
def State.setCp (s : State) (n : Nat) (m : CpMode) (d : Nat) : State :=
  s.onLane n fun l =>
    if m == .f || m == .v0 || ((l.cp == .f || l.cp == .v0) && m == .s12) then l.drives m d
    else if l.cp == m && l.duty == d then { l with cpNext := none }
    else match l.cpNext with
      | some (m', d', _) => if m' == m && d' == d then l else { l with cpNext := some (m, d, s.now + ms 1) }
      | none => { l with cpNext := some (m, d, s.now + ms 1) }

/-- R90: steady +12 V. HS_PILOT.DUTY reads 1,000 there (R130). -/
def State.cpS12 (s : State) (n : Nat) : State := s.setCp n .s12 1000
/-- R90: 5 % PWM. -/
def State.cpS5 (s : State) (n : Nat) : State := s.setCp n .s5 50
/-- R90: steady −12 V. -/
def State.cpF (s : State) (n : Nat) : State := s.setCp n .f 0
/-- R90, R39: held at 0 V. -/
def State.cpV0 (s : State) (n : Nat) : State := s.setCp n .v0 0
/-- R90, R108: PWM that codes the limit; LN_POWER.I_LIMIT of an AC lane is that limit (R103). -/
def State.cpPwm (s : State) (n : Nat) : State :=
  let i := s.acLimit n
  (s.setCp n .pwm (dutyOf i)).onLane n fun l => { l with iLimit := i }

/-- R90: the pilot of a lane in a state in which HLC lanes hold S5 and basic lanes hold S12. -/
def State.cpHold (s : State) (n : Nat) : State := if (s.lane n).hlc then s.cpS5 n else s.cpS12 n

/-- R90, R126: the pilot of a lane in NEGOTIATE, ENERGY or DEGRADED; PWM needs the guard in NEGOTIATE, and waits for the 3 s at
S12 of a fallback. -/
def State.cpOffer (s : State) (n : Nat) (guard : Bool) : State :=
  if (s.lane n).hlc then s.cpS5 n
  else if guard && (s.hsl n).l.fallbackEnd.isNone then s.cpPwm n else s.cpS12 n

/-! ### Contactors (R131-R138) -/

/-- Whether a contactor function is commanded closed. -/
def PpLane.closed (p : PpLane) : Nat → Bool
  | 1 => p.dcpos
  | 2 => p.dcneg
  | 3 => p.pre
  | 4 => p.acMain
  | _ => false

/-- A contactor's commanded position; an opening takes back its confirmation. -/
def PpLane.put (p : PpLane) (fn : Nat) (c : Bool) : PpLane :=
  match fn with
  | 1 => { p with dcpos := c, cDcpos := p.cDcpos && c }
  | 2 => { p with dcneg := c, cDcneg := p.cDcneg && c }
  | 3 => { p with pre := c, cPre := p.cPre && c }
  | 4 => { p with acMain := c, cAcMain := p.cAcMain && c }
  | _ => p

/-- A contactor is confirmed closed (R133). -/
def PpLane.confirm (p : PpLane) (fn : Nat) : PpLane :=
  match fn with
  | 1 => { p with cDcpos := true }
  | 2 => { p with cDcneg := true, cPre := true }
  | 3 => { p with cDcneg := true, cPre := true }
  | 4 => { p with cAcMain := true }
  | _ => p

/-- Any contactor of the lane is commanded closed. -/
def PpLane.anyClosed (p : PpLane) : Bool := p.dcpos || p.dcneg || p.pre || p.acMain

/-- R178: a contactor command disturbs the updates of the lane's group until 60 ms after it. -/
def State.disturb (s : State) (n : Nat) : State :=
  s.onEfg (s.groupOf n) fun g =>
    { g with disturbedFrom := if s.now ≤ g.disturbedTo + ms 320 && g.disturbedTo != 0 then g.disturbedFrom else s.now, disturbedTo := s.now + ms 60 }

/-- R185: every contactor of the lane is confirmed open from the time none is commanded closed and the outlet lies below
60 V (R139). -/
def State.noteOpen (s : State) (n : Nat) : State :=
  if (s.ppl n).anyClosed || (s.ppl n).belowSince.isNone then s.onEfl n fun e => { e with openSince := none }
  else s.onEfl n fun e => { e with openSince := some (e.openSince.getD s.now) }

/-- R190: before an AC_MAIN closing command the lane zeroes its fluxgate, while AC_MAIN has been open for 100 ms. The periods in a
row of R192 start again: they are evaluated while AC_MAIN is commanded closed. -/
def State.zeroFluxgate (s : State) (n : Nat) : State :=
  let s := s.onEfl n fun e => { e with acRuns := 0 }
  if bit (s.slot n).options 0 && decide ((s.ppl n).openAt + ms 100 ≤ s.now) then
    s.onEfl n fun e => { e with zeroUa := e.meanUa, zeroAt := s.now }
  else s

/-- R133: the limit within which a closing command is confirmed; for DCNEG and PRECHARGE the setpoint ramp sets it
(R134). -/
def confLimit (fn : Nat) : Option Nat := if fn = 1 ∨ fn = 4 then some (ms 100) else none

/-- R131-R133, R139: a contactor of the lane is commanded; its channel follows. -/
def State.contact (s : State) (n fn : Nat) (close : Bool) : State :=
  if (s.ppl n).closed fn == close then s
  else
    let s := if close && fn == 4 then s.zeroFluxgate n else s
    let s := s.onPp n fun p =>
      if close then
        { p.put fn true with confFrom := s.now,
                             confEnd := match confLimit fn with | some d => some (fn, s.now + d) | none => p.confEnd }
      else
        { p.put fn false with openAt := if p.dcnegDue.isSome || fn == 2 then p.openAt else s.now,
                              confEnd := match p.confEnd with | some (f, e) => if f == fn then none else some (f, e) | none => none }
    let s := match s.chanOf n fn with | some k => s.command k close | none => s
    let s := if fn == 4 && !close then s.onPs n fun q => { q with acSince := none } else s
    (s.disturb n).noteOpen n

/-- R83: every owned output off; `keepLock` leaves the lock out (FAULT). -/
def State.ownedOff (s : State) (n : Nat) (keepLock : Bool) : State :=
  s.cfg.outputs.foldl (fun s o =>
    if o.owner == laneOwner n then
      if 1 ≤ o.func && o.func ≤ 4 then s.contact n o.func false
      else if o.func == 5 && keepLock then s
      else s.command o.output false
    else s) s

/-! ### Socket lock (R140, R141) -/

/-- R141: a lock (`act` 1) or unlock (2) pulse is given: the actuator is driven for 300 ms. -/
def State.lockPulse (s : State) (n act attempt : Nat) : State :=
  let s := s.startTimer n Tm.lockPulse (ms 300)
  let s := s.onLane n fun l => { l with locked := false }
  let s := s.onPp n fun p => { p with lockPos := act == 1, lockAct := act, lockTry := attempt, cLock := false, lockWin := none,
                                      lockRetry := none, unlockRetry := none }
  match s.chanOf n 5 with
  | some k => (s.command k true).onCh k fun c => { c with pulseEnd := some (s.now + ms 300) }
  | none => s

/-- R90, R141: an unlock pulse falls due. -/
def State.unlockDue (s : State) (n : Nat) : State :=
  if s.ownsLock n && (s.ppl n).lockPos then s.onLane n fun l => { l with unlockDue := true } else s

/-- R90, R140, R141: an unlock pulse that is due is given once the unlock guard is true and no pulse runs; in FAULT once the
outlet has been below 60 V for 1 s. -/
def State.tryUnlock (s : State) (n : Nat) : State :=
  let l := s.lane n
  if l.unlockDue && s.unlockGuard n && !l.pulsing && (l.st != .fault || s.belowFor n (sec 1)) then
    let s := s.onLane n fun l => { l with unlockDue := false }
    if (s.ppl n).lockPos then s.lockPulse n 2 1 else s
  else s

/-- R83, R141: the lock pulse of PLUGGED entry, after an unlock pulse when the commanded position is already locked. -/
def State.lockForPlug (s : State) (n : Nat) : State :=
  if !s.ownsLock n then s
  else if (s.lane n).pulsing then s.onPp n fun p => { p with relock := true }
  else if (s.ppl n).lockPos then
    ((s.onPp n fun p => { p with relock := true }).unlockDue n).tryUnlock n
  else s.lockPulse n 1 1

/-- R84: lock confirmed, or no LOCK owned. -/
def State.lockOk (s : State) (n : Nat) : Bool := !s.ownsLock n || (s.ppl n).cLock

/-! ### Proximity (R111) -/

/-- R111: PP valid. -/
def State.ppValid (s : State) (n : Nat) : Bool :=
  let c := (s.slot n).connector
  let k := (s.hsl n).p.ppCode
  if c = 0 then true else if c = 1 ∨ c = 3 then k == 5 else decide (1 ≤ k) && decide (k ≤ 4)

/-- R110: the rating of a cable code, in 0.1 A. -/
def cableRating : Nat → Nat
  | 1 => 130
  | 2 => 200
  | 3 => 320
  | 4 => 630
  | _ => 0

/-! ### Entry to a state (R83, R90) -/

/-- R87: whether a timer goes on when the lane moves between two states: PLUG counts a pilot change through the states that
await it, and a lock pulse runs to its end. -/
def keepsTimer (old new : LState) (k : Nat) : Bool :=
  let waits (x : LState) : Bool := LState.between .plugged .negotiate x || x == .suspended || x == .rampDown
  if k = Tm.plug then waits old && (waits new || new == .unlock || new == .openCheck)
  else if k = Tm.lockPulse then new != .offline
  else false

/-- The tile of a lane that enters a state; a lane that leaves ENERGY or DEGRADED loses its allocation (R161). -/
def Lane.enters (l : Lane) (now nowMs : Nat) (st : LState) (cause : Cause) : Lane :=
  let rests := fun (x : LState) => x == .offline || x == .idle || x == .fault
  { l with st := st, prev := l.st, entryAt := now, entryMs := nowMs, guardHeld := false, acOpenDue := none,
           restAt := if rests st && !rests l.st then now else l.restAt,
           cause := if cause == .none then l.cause else cause,
           pAlloc := if (l.st == .energy || l.st == .degraded) && st != .energy && st != .degraded then 0 else l.pAlloc,
           causes := if cause.isFaultClass && !l.causes.contains cause then l.causes ++ [cause] else l.causes,
           timers := l.timers.filter fun x => keepsTimer l.st st x.1,
           holds := l.holds.filter fun x => keepsTimer l.st st x.1 }

/-- R83: OFFLINE. -/
def State.enterOffline (s : State) (n : Nat) : State :=
  let s := s.ownedOff n false
  let s := s.onLane n fun l => { l with dir := 0, pAlloc := 0, unlockDue := false, held := none, locked := false }
  if s.mx.applied.isNone || s.typ n == .none || s.typ n == .meter || s.typ n == .paired then s.cpV0 n else s.cpF n

/-- R83: IDLE: session fields cleared; after a module reset one unlock pulse. -/
def State.enterIdle (s : State) (n : Nat) : State :=
  let first := (s.lane n).firstIdle
  let s := s.onLane n fun l =>
    { l with session := 0, account := none, idSource := 0, refusals := 0, suspHost := false, suspPolicy := false,
             suspVehicle := false, suspCredit := false, isoWarn := false, hlc := false, dir := 0, rampForced := false, cred := none,
             awaiting := false, policyHold := false, hostAccepted := false, enteredEnergy := false, admitted := false,
             dieFaultPending := false, overtempWarned := false, stopSent := false, firstIdle := false, pAlloc := 0, causes := [] }
  let s := s.onLink n fun h =>
    { h with assoc := 0, proto := 0, tls := false, pnc := false, dynamic := false, service := 0, evMac := 0, nid := 0, nmk := 0,
             windowStart := none, fallbackEnd := none, setupEnd := none, seqEnd := none, isOpen := false, lastReq := 0,
             lastResp := 0xFF, evMaxU := 0, evTargetU := 0, evTargetI := 0, evMaxI := 0, evMaxP := 0, evTargetP := 0, evDisI := 0, evDisP := 0 }
  let s := s.onPilot n fun p => { p with ppRating := 0, ppPend := none }
  let s := s.onPp n fun p => { p with isoPass := false, phase := 0, target := none, matched := false, pdSince := none, pdDone := false,
                                      currentMode := false, dirTarget := 0, dirHold := none, outSrc := 0 }
  if s.typ n == .meter then s.cpV0 n
  else
    let s := s.cpS12 n
    let s := if first then (s.unlockDue n).tryUnlock n else s
    if (s.lane n).pilot == .b || (s.lane n).pilot == .c then s.startTimer n Tm.plug (ms 10) else s

/-- R83, R93: PLUGGED: PP measured, lock pulse, HLC or basic path; the credential held by several IDLE lanes goes to this
one. -/
def State.enterPlugged (s : State) (n : Nat) : State :=
  let h := s.hs
  let s := s.onLink n fun l =>
    { l with useHlc := h.acHlc, tProto := h.proto, tFallback := h.acFallback, tTls2 := h.tls2, tPnc := h.pnc, tControl := h.control,
             windowStart := if (s.typ n).isDc || h.acHlc then some (s.lane n).plugAt else none }
  let s := s.onLane n fun l => { l with hlc := (s.typ n).isDc || h.acHlc }
  let s := s.onPilot n fun p => { p with ppOhm := 0xFFFF, ppCode := 0, ppRating := 0, ppPend := none }
  let s := match (s.lane n).held with
    | some c => (List.range 64).foldl (fun (s : State) (m : Nat) =>
        if m != n && (s.lane m).st == LState.idle && (s.lane m).held == some c then
          s.onLane m fun l => { l.stop Tm.preauth with held := none }
        else s) s
    | none => s
  let s := s.startTimer n Tm.settle (sec 1)
  let s : State := { s with ds := { s.ds with finals := s.ds.finals.filter fun (f : DsFinal) => f.lane != n } }
  let s := s.onPp n fun p => { p with cLock := false }
  (s.lockForPlug n).cpHold n

/-- R83, R103: NEGOTIATE: the session number opens; its registers follow (R241). -/
def State.openSession (s : State) (n : Nat) : State :=
  let k := if (s.lane n).sessionLast + 1 < 2 ^ 32 then (s.lane n).sessionLast + 1 else 1
  let s := s.onLane n fun l => { l with session := k, sessionLast := k, pAlloc := 0, admitted := false, negotiateAt := s.now,
                                        held := none, enteredEnergy := false }
  s.onEn false n fun e => { e with sess := some { number := k, tamper := e.tamper } }

/-- R89: the guard is false where it holds the lane: GUARD_WAIT runs. -/
def State.holdGuard (s : State) (n : Nat) : State :=
  if (s.lane n).guardHeld then s
  else (s.onLane n fun l => { l with guardHeld := true }).startTimer n Tm.guardWait (sec 60)

/-- R83: NEGOTIATE: an AC lane offers its current when the guard is true and is held otherwise (R89). -/
def State.enterNegotiate (s : State) (n : Nat) : State :=
  if (s.typ n).isAc then
    let g := s.energyGuard n
    let s := s.cpOffer n g
    if g then s else s.holdGuard n
  else s.cpHold n

/-- R134: U_cc in 0.1 V. -/
def State.uccOf (s : State) (n : Nat) : Nat := min (max (s.hsl n).l.evMaxU 5000) ((s.slot n).ratedU / 100)

/-- R83, R134: ISOLATION_TEST: the cable check starts: phase 1 closes DCNEG. -/
def State.enterIsolation (s : State) (n : Nat) : State :=
  let s := s.onPp n fun p => { p with phase := 1, phaseAt := s.now, isoAt := s.now, ucc := s.uccOf n, nearSince := none,
                                      isoPass := false }
  let s := s.onLane n fun l => { l with isoWarn := false, iLimit := 20 }
  let s := s.onEfl n fun e => { e with settleN := 0, lastV := none, settled := false, winLow := none }
  (s.startTimer n Tm.cableCheck (sec 10)).contact n 2 true

/-- R83: PRECHARGE. -/
def State.enterPrecharge (s : State) (n : Nat) : State :=
  let s := s.onPp n fun p => { p with phase := 0, target := none, matched := false, pdSince := none, pdDone := false, confEnd := none }
  (s.onLane n fun l => { l with iLimit := 20 }).startTimer n Tm.precharge (sec 7)

/-- R83, R241: ENERGY: main contactors close; at the session's first entry the START readings are taken. -/
def State.enterEnergy (s : State) (n : Nat) : State :=
  if s.typ n == .meter then s.onLane n fun l => { l with energyAt := s.now }
  else
    let first := !(s.lane n).enteredEnergy
    let s := s.onLane n fun l => { l with enteredEnergy := true, energyAt := s.now, dir := if (s.typ n).isAc then 1 else l.dir }
    let s := if first then s.startReadings n else s
    if (s.typ n).isAc then (s.cpOffer n true).contact n 4 true
    else
      let s := s.contact n 1 true
      if (s.ppl n).currentMode then
        s.onLane n fun l => { l with dir := if 0 ≤ l.pAlloc then 1 else 2, rampFrom := 0, rampAt := s.now }
      else s

/-- R91: the ramp of a DC lane starts from the present current. -/
def State.startRamp (s : State) (n : Nat) : State := s.onLane n fun l => { l with rampFrom := l.iAct, rampAt := s.now }

/-- R83, R91: RAMP_DOWN. -/
def State.enterRampDown (s : State) (n : Nat) : State :=
  let s := s.onPp n fun p => { p with dirTarget := 0, dirHold := none }
  if (s.typ n).isAc then (s.startTimer n Tm.ramp (sec 3)).cpHold n
  else (s.startTimer n Tm.ramp (sec 2)).startRamp n

/-- R83, R137-R139: OPEN_CHECK: mode off; DCPOS or PRECHARGE open, DCNEG 40 ms later; AC_MAIN opens; the weld check runs. -/
def State.enterOpenCheck (s : State) (n : Nat) : State :=
  let s := s.onLane n fun l => { l with dir := 0 }
  let s := s.onPp n fun p => { p with phase := 0, confEnd := none, preOpenDue := none, pdSince := none, currentMode := false,
                                      dirTarget := 0, dirHold := none, weld := 0 }
  let s := s.startTimer n Tm.weld (sec 1)
  if (s.typ n).isAc then (s.contact n 4 false).cpHold n
  else
    let s := (s.contact n 1 false).contact n 3 false
    s.onPp n fun p => { p with openAt := s.now, dcnegDue := if p.dcneg then some (s.now + ms 40) else none }

/-- R83, R241: the session of a lane ends: its record closes, its number returns to 0 and its charge ends. -/
def State.endSession (s : State) (n : Nat) : State :=
  let s := s.closeRecord n false false (s.lane n).cause.code s.legal s.now
  let s := { s with ac := { s.ac with charges := s.ac.charges.set n none } }
  s.onLane n fun l => { l with session := 0, awaiting := false, policyHold := false }

/-- R83: UNLOCK: the record closes; unlock pulse if locked; a pilot already in state A ends the state 10 ms later. -/
def State.enterUnlock (s : State) (n : Nat) : State :=
  let s := ((s.endSession n).unlockDue n).tryUnlock n
  let s := s.cpS12 n
  if (s.lane n).pilot == .a && !(s.lane n).unlockDue && !(s.lane n).pulsing && (s.lane n).timer Tm.plug = none then
    s.startTimer n Tm.plug (ms 10)
  else s

/-- R83, R127: FAULT: every owned output off except LOCK; pilot at F; the record closes; the unlock pulse waits for R90. -/
def State.enterFault (s : State) (n : Nat) : State :=
  let s := s.ownedOff n true
  let s := s.onPp n fun p => { p with phase := 0, confEnd := none, preOpenDue := none, dcnegDue := none, pdSince := none,
                                      currentMode := false, dirTarget := 0, dirHold := none }
  let s := s.onLane n fun l => { l with dir := 0 }
  let s := s.onLink n fun h => { h with tls := false }
  let s := if s.typ n == .meter then s else s.cpF n
  ((s.endSession n).unlockDue n).tryUnlock n

/-- R83, R98: DEGRADED: current and allocation capped. -/
def State.enterDegraded (s : State) (n : Nat) : State :=
  let f := s.sf.block.degFraction
  let s := s.onLane n fun l => { l with degCapI := l.iLimit * f / 100, degCapP := l.pAlloc.natAbs * f / 100 }
  let s := s.onEn false n fun e => { e with sess := e.sess.map fun x => { x with degraded := true } }
  let s := s.startTimer n Tm.degraded (sec s.sf.block.degTime)
  if (s.typ n).isAc then s.cpOffer n true else s

/-- R83, R87, R97: SUSPENDED: a DC lane ramps; an AC lane whose vehicle is still in state C removes the PWM and opens AC_MAIN
after 3 s, or opens it now. -/
def State.enterSuspended (s : State) (n : Nat) : State :=
  let l := s.lane n
  let s := s.onPp n fun p => { p with dirTarget := 0, dirHold := none }
  let s := s.onLane n fun k =>
    k.start Tm.suspend (if l.suspPolicy then s.host.hostlossAt + sec 300 else s.now + sec 3600)
  if (s.typ n).isAc then
    let s := if l.hlc then s.cpS5 n
      else if l.suspHost || l.suspPolicy || l.suspCredit || l.pilot == .c then s.cpS12 n else s.cpPwm n
    if l.pilot == .c then s.onLane n fun k => { k with acOpenDue := some (s.now + sec 3) }
    else
      let s := s.onPp n fun p => { p with weld := 0 }
      (s.contact n 4 false).startTimer n Tm.weld (sec 1)
  else s.startRamp n

/-- R83: the entry actions of a state, in order. -/
def State.entryActions (s : State) (n : Nat) : LState → State
  | .offline => s.enterOffline n
  | .idle => s.enterIdle n
  | .plugged => s.enterPlugged n
  | .identify => s.cpHold n
  | .authorise => s.cpHold n
  | .negotiate => s.enterNegotiate n
  | .isolationTest => s.enterIsolation n
  | .precharge => s.enterPrecharge n
  | .energy => s.enterEnergy n
  | .rampDown => s.enterRampDown n
  | .openCheck => s.enterOpenCheck n
  | .unlock => s.enterUnlock n
  | .fault => s.enterFault n
  | .degraded => s.enterDegraded n
  | .suspended => s.enterSuspended n

/-- R84-R86, R102: a lane enters a state: LANE_STATE carries the cause of the trigger taken, and the entry actions follow. A
credential held in PLUGGED is dropped unless the lane goes to IDENTIFY (R93). -/
def State.enter (s : State) (n : Nat) (st : LState) (cause : Cause := .none) (cls : EvClass := .external) : State :=
  let old := (s.lane n).st
  let s := s.onLane n fun l => l.enters s.now s.nowMs st cause
  let s := if (s.lane n).pAlloc = 0 then s.onPs n fun q => { q with iPhase := 0 } else s
  let s := if old == .plugged && st != .identify then s.onLane n fun l => { l with held := none } else s
  let s := if st == .negotiate then s.openSession n else s
  (s.laneState cls n cause).entryActions n st

/-! ### Authorisation (R92-R96, R340) -/

/-- R340: what a local lookup finds: result (0 accepted, 1 refused, 2 unknown), reason and cell. -/
def State.lookup (s : State) (n : Nat) (c : Cred) : Nat × Nat × Nat :=
  match s.ac.creds.find? fun e => e.kind == c.src && e.ident == c.ident && !(s.ac.rebuild.isSome && s.free 1 == 1) with
  | none => (2, 0, 0xFFFFFFFF)
  | some e =>
    let v := s.cell e.cell
    let k := s.acClass v.cls
    let opened := ((List.range 64).filter fun m => m != n && (s.lane m).account == some e.cell).length
    if e.blocked || (e.expiry != 0 && decide (e.expiry < s.legalSec)) then (1, 1, e.cell)
    else if !v.crcOk then (1, 7, e.cell)
    else if !v.used || v.blocked || (v.expiry != 0 && decide (v.expiry < s.legalSec)) then (1, 2, e.cell)
    else if k.maxSessions != 0 && decide (k.maxSessions ≤ opened) then (1, 3, e.cell)
    else if v.prepaid && decide (s.available e.cell < k.startMin) then (1, 4, e.cell)
    else (0, 5, e.cell)

/-- R102: AUTH_RESULT. -/
def State.evAuth (s : State) (n result by_ cell : Nat) : State :=
  s.evLane (if by_ = 1 then .host else .external) n 0x1004
    (leBytes 1 result ++ leBytes 1 by_ ++ leBytes 4 cell ++ leBytes 1 (s.lane n).refusals)

/-- R95, R96: the lane accepts: LN_SESSION takes the cell; under a host-loss policy 1-3 the lane waits in AUTHORISE. -/
def State.authAccept (s : State) (n by_ cell : Nat) (cls : EvClass) : State :=
  let s := (s.stopTimer n Tm.hostAuth).evAuth n 0 by_ cell
  let s := s.onLane n fun l => { l with awaiting := false, account := if cell = 0xFFFFFFFF then none else some cell,
                                        hostAccepted := by_ == 1 }
  let s := if cell = 0xFFFFFFFF then s
    else { s with ac := { s.ac with charges := s.ac.charges.set n (some { cell := cell }) } }
  if s.policyHolds n then s.onLane n fun l => { l with policyHold := true }
  else s.enter n .negotiate .none cls

/-- R84, R96: a refusal: the first two return the lane to IDENTIFY, the third takes it to UNLOCK. -/
def State.authRefuse (s : State) (n result by_ cell : Nat) (cls : EvClass) : State :=
  let k := (s.lane n).refusals
  let s := s.stopTimer n Tm.hostAuth
  let s := s.onLane n fun l => { l with awaiting := false, refusals := min 3 (k + 1) }
  let s := s.evAuth n result by_ cell
  if k < 2 then s.enter n .identify .none cls
  else s.enter n .unlock (if result = 2 then .authTimeout else .authRefused) cls

/-- R94: ask host: AUTH_REQUEST and HOST_AUTH; refused at once without a supervising session. -/
def State.askHost (s : State) (n : Nat) (cls : EvClass) : State :=
  let l := s.lane n
  let ref := match l.cred with | some c => s.credRef c.src c.ident | none => 0
  let s := s.evLane .external n 0x1003 (leBytes 1 l.idSource ++ leBytes 4 ref ++ leBytes 1 l.hostAuthTo)
  if s.supervised then (s.onLane n fun k => { k with awaiting := true }).startTimer n Tm.hostAuth (sec l.hostAuthTo)
  else s.authRefuse n 1 0 0xFFFFFFFF cls

/-- R94, R340: the decision at AUTHORISE entry, by AUTH_MODE; every local decision raises ACCOUNT_DECISION. -/
def State.authDecide (s : State) (n : Nat) (cls : EvClass) : State :=
  let l := s.lane n
  match l.cred with
  | none => s
  | some c =>
    if l.authMode = 2 then s.askHost n cls
    else
      let (r, why, cell) := s.lookup n c
      let s := s.evLane .metering n 0x4036 (leBytes 1 why ++ leBytes 4 (s.credRef c.src c.ident) ++ leBytes 4 cell)
      if r = 0 then s.authAccept n 0 cell cls
      else if r = 1 ∨ l.authMode = 1 then s.authRefuse n 1 0 cell cls
      else s.askHost n cls

/-- R92, R102: a credential is taken in IDENTIFY; the lane enters AUTHORISE and decides. -/
def State.takeCred (s : State) (n : Nat) (c : Cred) (held : Bool) (cls : EvClass) : State :=
  let s := s.onLane n fun l => { l with cred := some c, held := none, idSource := c.src }
  let s := s.evLane .external n 0x1002 (leBytes 1 c.src ++ leBytes 4 (s.credRef c.src c.ident) ++ leBytes 1 (b2n held))
  (s.enter n .authorise .none cls).authDecide n cls

/-! ### Transitions that follow at once (R84) -/

/-- R84, R89: an AC lane in NEGOTIATE may enter ENERGY: pilot state C, power delivery requested on an HLC lane, guard. -/
def State.acReady (s : State) (n : Nat) : Bool :=
  (s.lane n).pilot == .c && (!(s.lane n).hlc || (s.ppl n).pdDone) && s.energyGuard n

/-- R97: every suspension has ended. -/
def Lane.suspFree (l : Lane) : Bool := !l.suspHost && !l.suspPolicy && !l.suspVehicle && !l.suspCredit

/-- R84, R89, R97: the suspensions of a lane have ended: it enters ENERGY, or waits for its guard or its vehicle. -/
def State.resume (s : State) (n : Nat) (cls : EvClass) : State :=
  if s.energyGuard n then
    if (s.typ n).isAc then
      let s := s.cpOffer n true
      if (s.lane n).pilot == .c then s.enter n .energy .none cls else s
    else s.enter n .energy .none cls
  else s.holdGuard n

/-- R262: a disagreement of a comparator of the lane or of its group stands. -/
def State.discordOn (s : State) (n : Nat) : Bool :=
  s.cfg.comps.any fun c => (c.owner == laneOwner n || c.owner == groupOwner (s.groupOf n)) && (s.wat c.comp).stands

/-- R13, R85, R258: a fault-class trigger of the rows "any except OFFLINE" that stands for the lane: DIE_FAULT of a die it
uses, or a safety input of its group that is open or asserted. -/
def State.standing (s : State) (n : Nat) : Option Cause :=
  let g := s.groupOf n
  let v := s.sf.grv
  let p := s.sf.grvPar
  if s.dieBad 8 || s.dieBad (tracerDie n) || ((s.typ n).charges && s.dieBad (pilotDie n)) ||
      (s.cfg.outputs.any fun o => o.owner == laneOwner n && s.dieBad (switchDie o.output)) then some .dieFault
  else if 16 ≤ g then none
  else if (!(bit v.pairs 0 && bit v.pairs 1) || v.estFault) && bit p.estMask g then some .estop
  else if (!(bit v.pairs 2 && bit v.pairs 3) || v.grdFault) && bit p.grdMask g then some .guardOpen
  else if (List.range 4).any fun x => bit v.xtrip x && bit (p.xtripMask.getD x 0) g then some .xtrip
  else none

/-- R84: one transition whose condition already holds in the state the lane is in. -/
def State.advance1 (s : State) (n : Nat) (cls : EvClass) : State :=
  let l := s.lane n
  match l.st with
  | .plugged => if s.ppValid n && s.lockOk n then s.enter n .identify .none cls else s
  | .identify =>
    if l.authMode = 3 then (s.onLane n fun k => { k with idSource := 5, held := none }).enter n .negotiate .none cls
    else match l.held with
      | some c => s.takeCred n c true cls
      | none => s
  | .negotiate => if (s.typ n).isAc && s.acReady n then s.enter n .energy .none cls else s
  | .rampDown =>
    if (s.typ n).isAc then (if l.pilot == .c then s else s.enter n .openCheck .none cls)
    else if l.iAct.natAbs ≤ 50 then s.enter n .openCheck .none cls else s
  | .degraded => if s.sf.block.degTime = 0 then s.enter n .rampDown .degradedExpiry cls else s
  | .suspended => if l.suspFree then s.resume n cls else s
  | .isolationTest => if s.discordOn n then s.enter n .openCheck .disagree .safety else s
  | .idle => match s.standing n with | some c => s.enter n .fault c .safety | none => s
  | .offline | .authorise | .precharge | .energy | .openCheck | .unlock | .fault => s

/-- R84: transitions follow one another while their conditions hold. -/
def State.advanceN (s : State) (n : Nat) (cls : EvClass) : Nat → State
  | 0 => s
  | k + 1 =>
    let t := s.advance1 n cls
    if (t.lane n).st == (s.lane n).st then t else t.advanceN n cls k

/-- R84: the transitions that follow at once; no chain of them is longer than eight. -/
def State.advance (s : State) (n : Nat) (cls : EvClass := .external) : State := s.advanceN n cls 8

/-- A transition and those that follow at once. -/
def State.go (s : State) (n : Nat) (st : LState) (cause : Cause) (cls : EvClass) : State :=
  (s.enter n st cause cls).advance n cls

/-! ### Triggers (R84, R85) -/

/-- R99, R543: a fault-class cause stands; a lane that drives S12 in FAULT returns to F. -/
def State.addCause (s : State) (n : Nat) (c : Cause) : State :=
  let again := (s.lane n).st == .fault && (s.lane n).cp == .s12
  let s := s.onLane n fun l => { l with cause := c, causes := if l.causes.contains c then l.causes else l.causes ++ [c] }
  if again then s.cpF n else s

/-- R100: a cause clears: CAUSE_CLEARED; `by_` 0 at its source, 1 by LANE_CLEAR. -/
def State.clearCause (s : State) (n : Nat) (c : Cause) (by_ : Nat) : State :=
  if (s.lane n).causes.contains c then
    (s.onLane n fun l => { l with causes := l.causes.filter fun x => x != c }).evLane .external n 0x1006
      (leBytes 1 c.code ++ leBytes 1 by_)
  else s

/-- R85: a stop trigger. `told` is true when the vehicle raised it, so no stop notification is due (R118). -/
def State.stopLane (s : State) (n : Nat) (cause : Cause) (cls : EvClass) (told : Bool := false) : State :=
  let mark (s : State) : State := if told then s else s.onLane n fun l => { l with stopSent := true }
  match (s.lane n).st with
  | .plugged | .identify | .authorise | .negotiate => (mark s).go n .unlock cause cls
  | .isolationTest | .precharge | .suspended => (mark s).go n .openCheck cause cls
  | .energy => if s.typ n == .meter then s else (mark s).go n .rampDown cause cls
  | .degraded => (mark s).go n .rampDown cause cls
  | .offline | .idle | .rampDown | .openCheck | .unlock | .fault => s

/-- R85: a hazard or pilot fault in the states of the first two rows; in RAMP_DOWN and OPEN_CHECK the cause is taken without
a transition, and in FAULT it stands with the others. -/
def State.hazard (s : State) (n : Nat) (cause : Cause) (cls : EvClass := .safety) : State :=
  match (s.lane n).st with
  | .plugged | .identify | .authorise | .negotiate | .isolationTest | .precharge | .energy | .degraded | .suspended =>
    s.go n .fault cause cls
  | .unlock => if cause == .pilotFault then s.go n .fault cause cls else s
  | .rampDown | .openCheck | .fault => s.addCause n cause
  | .offline | .idle => s

/-- R85: a trigger of the rows "any except OFFLINE": DIE_FAULT of a shared die, ESTOP, GUARD_OPEN, XTRIP. -/
def State.faultAny (s : State) (n : Nat) (cause : Cause) (cls : EvClass := .safety) : State :=
  match (s.lane n).st with
  | .offline => s
  | .fault => s.addCause n cause
  | .idle | .plugged | .identify | .authorise | .negotiate | .isolationTest | .precharge | .energy | .rampDown | .openCheck
  | .unlock | .degraded | .suspended => s.go n .fault cause cls

/-- R85: the group PERMIT is removed for a cause of another lane or of the group. -/
def State.permitLost (s : State) (n : Nat) : State :=
  if LState.between .isolationTest .suspended (s.lane n).st then s.go n .openCheck .permitLost .safety else s

/-- R85: an output fault: PLUGGED to SUSPENDED enter FAULT. `src` is its source among those of R283. -/
def State.outputFault (s : State) (n src : Nat) (cls : EvClass := .external) : State :=
  let s := s.onPp n fun p => { p with outSrc := p.outSrc ||| 2 ^ src }
  if LState.between .plugged .suspended (s.lane n).st then s.go n .fault .output cls
  else if (s.lane n).st == .fault then s.addCause n .output else s

/-- R85: a plate store fault. -/
def State.plateFault (s : State) (n : Nat) : State :=
  match (s.lane n).st with
  | .plugged | .identify | .authorise | .negotiate | .isolationTest | .precharge => s.go n .fault .dieFault .safety
  | .energy => if s.typ n == .meter then s else (s.addCause n .dieFault).go n .rampDown .dieFault .safety
  | .degraded => (s.addCause n .dieFault).go n .rampDown .dieFault .safety
  | .suspended => (s.addCause n .dieFault).go n .openCheck .dieFault .safety
  | .rampDown | .openCheck => (s.addCause n .dieFault).onLane n fun l => { l with dieFaultPending := true }
  | .fault => s.addCause n .dieFault
  | .offline | .idle | .unlock => s

/-- R85, R261: a connector overtemperature fault. -/
def State.overtempFault (s : State) (n : Nat) : State :=
  match (s.lane n).st with
  | .energy => if s.typ n == .meter then s else (s.addCause n .overtemp).go n .rampDown .overtemp .safety
  | .degraded => (s.addCause n .overtemp).go n .rampDown .overtemp .safety
  | .suspended => (s.addCause n .overtemp).go n .openCheck .overtemp .safety
  | .plugged | .identify | .authorise | .negotiate | .isolationTest | .precharge => s.go n .fault .overtemp .safety
  | .rampDown | .openCheck | .fault => s.addCause n .overtemp
  | .offline | .idle | .unlock => s

/-- R84, R98: a non-hazardous discrepancy or a stipple failure. -/
def State.degrade (s : State) (n : Nat) (cause : Cause) : State :=
  match (s.lane n).st with
  | .energy => if s.typ n == .meter then s else s.go n .degraded cause .safety
  | .isolationTest | .precharge | .suspended => s.go n .openCheck cause .safety
  | .offline | .idle | .plugged | .identify | .authorise | .negotiate | .degraded | .rampDown | .openCheck | .unlock
  | .fault => s

/-- R97: the suspension reasons. -/
inductive Susp where
  | host | policy | vehicle | credit
deriving DecidableEq, Repr

/-- R97: sets or clears the bit of a reason. -/
def Lane.setSusp (l : Lane) (r : Susp) (b : Bool) : Lane :=
  match r with
  | .host => { l with suspHost := b }
  | .policy => { l with suspPolicy := b }
  | .vehicle => { l with suspVehicle := b }
  | .credit => { l with suspCredit := b }

/-- The cause a suspend trigger gives to a lane in DEGRADED (R84). -/
def Susp.cause : Susp → Cause
  | .host => .hostStop
  | .policy => .hostloss
  | .vehicle => .vehicleStop
  | .credit => .credit

/-- R97: a suspend trigger. -/
def State.suspend (s : State) (n : Nat) (r : Susp) (cls : EvClass) : State :=
  match (s.lane n).st with
  | .energy =>
    if s.typ n == .meter then s else (s.onLane n fun l => l.setSusp r true).go n .suspended .none cls
  | .suspended =>
    let s := s.onLane n fun l => { l.setSusp r true with guardHeld := false }
    let s := s.stopTimer n Tm.guardWait
    let s := if r == .policy then s.onLane n fun l =>
        l.start Tm.suspend (min ((l.timer Tm.suspend).getD (s.now + sec 300)) (s.now + sec 300)) else s
    if (s.typ n).isAc && !(s.lane n).hlc && r != .vehicle then s.cpS12 n else s
  | .degraded => s.go n .rampDown r.cause cls
  | .offline | .idle | .plugged | .identify | .authorise | .negotiate | .isolationTest | .precharge | .rampDown | .openCheck
  | .unlock | .fault => s

/-- R97: a suspension ends; when it was the last, the lane resumes. -/
def State.unsuspend (s : State) (n : Nat) (r : Susp) (cls : EvClass) : State :=
  let s := s.onLane n fun l => l.setSusp r false
  if (s.lane n).st == .suspended then s.advance n cls else s

/-! ### Presentation of credentials (R92, R93) -/

/-- R93: a credential is held for a lane; in IDLE for PREAUTH. -/
def State.holdCred (s : State) (n : Nat) (c : Cred) : State :=
  let s := s.onLane n fun l => { l with held := some c }
  if (s.lane n).st == .idle then s.startTimer n Tm.preauth (sec 60) else s

/-- R92, R93: a tag, card or host token presented to the lanes an antenna port or post head serves: a lane in IDENTIFY takes
it, else the lowest lane in PLUGGED holds it, else every lane in IDLE or AUTHORISE does. In other states it is dropped. -/
def State.present (s : State) (lanes : List Nat) (c : Cred) (cls : EvClass) : State :=
  match lanes.find? fun n => (s.lane n).st == .identify with
  | some n => (s.takeCred n c false cls).advance n cls
  | none =>
    match lanes.find? fun n => (s.lane n).st == .plugged with
    | some n => s.holdCred n c
    | none => lanes.foldl (fun (s : State) (n : Nat) =>
        if (s.lane n).st == LState.idle || (s.lane n).st == LState.authorise then s.holdCred n c else s) s

/-! ### The OUTPUT cause (R283) -/

/-- The channels a lane owns. -/
def State.ownChans (s : State) (n : Nat) : List Nat := (s.cfg.outputs.filter fun o => o.owner == laneOwner n).map (·.output)

/-- R283: the sources of the OUTPUT cause that still stand: a channel in a trip, an on-state open load, an unconfirmed contactor,
feedback lost or faulty. -/
def State.outSources (s : State) (n : Nat) : Nat :=
  let p := s.ppl n
  let src := p.outSrc
  let chans := s.ownChans n
  setBit (setBit (setBit (setBit src 0 (bit src 0 && chans.any fun k => (s.och k).latched || (s.och k).tripped || (s.och k).thermal))
    1 (bit src 1 && chans.any fun k => (s.och k).cmd && (s.och k).openOn))
    2 (bit src 2 && (p.anyClosed || !s.belowFor n (sec 1))))
    3 (bit src 3 && !(match p.fbGood with | some t => decide (t + sec 1 ≤ s.now) && !p.fb.lost | none => false))

/-- R283: the OUTPUT cause of a lane clears at its source once each source that raised it has cleared. -/
def State.settleOutput (s : State) (n : Nat) : State :=
  let src := s.outSources n
  let t := s.onPp n fun p => { p with outSrc := src }
  if (s.ppl n).outSrc != 0 && src == 0 && (s.lane n).st == .fault then t.clearCause n .output 0 else t

/-! ### Host loss (R68) -/

/-- R68: the host-loss policies of the lanes start. -/
def State.hostLossStart (s : State) : State :=
  let s := { s with host := { s.host with hostloss := true, hostlossAt := s.now } }
  (List.range 64).foldl (fun s n =>
    if !(s.typ n).charges then s
    else
      let s := if (s.lane n).st == .authorise && (s.lane n).awaiting then (s.authRefuse n 1 0 0xFFFFFFFF .host).advance n .host else s
      match s.policyOf n with
      | 2 => s.stopLane n .hostloss .host
      | 3 => if (s.lane n).st == .energy || (s.lane n).st == .suspended || (s.lane n).st == .degraded then s.suspend n .policy .host
             else s
      | _ => s) s

/-- R68, R96, R97: a supervising session binds and the policies end. -/
def State.hostLossEnd (s : State) : State :=
  let s := { s with host := { s.host with hostloss := false } }
  (List.range 64).foldl (fun s n =>
    let l := s.lane n
    if l.st == .authorise && l.policyHold then
      ((s.onLane n fun k => { k with policyHold := false }).enter n .negotiate .none .host).advance n .host
    else if l.suspPolicy then s.unsuspend n .policy .host else s) s

end Sys2Proof.Machine
end

