-- ==== Sys2Proof/Machine/RegOps.lean ====
section
/-! DEFINITION. RegOps.lean: how registers are laid out (R8): fields packed into 64 bits, and fields taken out of a value
written. -/
namespace Sys2Proof.Machine

/-- A register from its fields: (lowest bit, width, value). -/
def regOf (l : List (Nat × Nat × Nat)) : Nat := l.foldl (fun a (lo, w, v) => a + v % 2 ^ w * 2 ^ lo) 0

/-- The field of a value at a lowest bit and width. -/
def fieldOf (v lo w : Nat) : Nat := v / 2 ^ lo % 2 ^ w

/-- The flag of a value at a bit. -/
def flagOf (v lo : Nat) : Bool := v.testBit lo

/-- R8: RW1C: a counter clears when all ones are written to it. -/
def onesClear (old v lo w : Nat) : Nat := if fieldOf v lo w = 2 ^ w - 1 then 0 else old

/-- The eight bytes of a register, lowest first (R8). -/
def regBytes (v : Nat) : Bytes := leBytes 8 v

end Sys2Proof.Machine
end

