-- ==== Sys2Proof/Machine/LaneRegs.lean ====
section
/-! DEFINITION. LaneRegs.lean: the lane, handshake and power-path registers (R103, R130, R153). -/
namespace Sys2Proof.Machine

/-- R103: LN_STATE. -/
def State.lnState (s : State) (n : Nat) : Nat :=
  let l := s.lane n
  regOf [(0, 4, l.st.code), (4, 4, l.prev.code), (8, 3, l.pilot.code), (11, 1, b2n l.hlc), (12, 1, b2n l.locked),
    (13, 1, b2n (s.isPending n)), (14, 1, b2n l.isoWarn), (15, 1, b2n (l.pilot == .diode)), (16, 1, b2n l.suspHost),
    (17, 1, b2n l.suspPolicy), (18, 1, b2n l.suspVehicle), (19, 1, b2n l.suspCredit), (20, 2, l.dir), (22, 2, l.refusals),
    (24, 8, l.cause.code), (32, 32, l.entryMs)]

/-- R103: LN_POWER. -/
def State.lnPower (s : State) (n : Nat) : Nat :=
  let l := s.lane n
  regOf [(0, 16, toBits 16 l.pAlloc), (16, 16, toBits 16 l.pAct), (32, 16, l.iLimit), (48, 16, l.uOut)]

/-- R103: LN_SESSION. -/
def State.lnSession (s : State) (n : Nat) : Nat :=
  let l := s.lane n
  regOf [(0, 32, l.session), (32, 20, l.account.getD 0), (52, 1, b2n l.account.isSome), (53, 3, l.idSource)]

/-- R103: LN_CTRL. -/
def State.lnCtrl (s : State) (n : Nat) : Nat :=
  let l := s.lane n
  regOf [(0, 2, l.authMode), (2, 6, l.hostAuthTo), (8, 1, b2n l.enable), (16, 8, l.rampRate)]

/-- R103: a write of LN_CTRL. -/
def State.writeLnCtrl (s : State) (n v : Nat) : State :=
  s.onLane n fun l => { l with authMode := fieldOf v 0 2, hostAuthTo := max 1 (min 60 (fieldOf v 2 6)),
                               rampRate := max 10 (fieldOf v 16 8) }

/-- R101: the four lane registers. -/
def State.laneInfo (s : State) (n : Nat) : Bytes :=
  regBytes (s.lnState n) ++ regBytes (s.lnPower n) ++ regBytes (s.lnSession n) ++ regBytes (s.lnCtrl n)

/-- R130: HS_CFG. -/
def State.hsCfg (s : State) : Nat :=
  regOf [(0, 3, s.hs.proto), (3, 1, b2n s.hs.acHlc), (4, 1, b2n s.hs.acFallback), (5, 1, b2n s.hs.tls2), (6, 1, b2n s.hs.pnc),
    (8, 2, s.hs.control)]

/-- R130: a write of HS_CFG; CONTROL 3 is stored as 0. -/
def State.writeHsCfg (s : State) (v : Nat) : State :=
  { s with hs := { s.hs with proto := fieldOf v 0 3, acHlc := flagOf v 3, acFallback := flagOf v 4, tls2 := flagOf v 5,
                             pnc := flagOf v 6, control := if fieldOf v 8 2 = 3 then 0 else fieldOf v 8 2 } }

/-- R130: HS_ASSOC. -/
def State.hsAssoc (s : State) : Nat := regOf [(0, 8, s.cfg.margin), (8, 8, s.cfg.window), (16, 16, satU 16 s.hs.runs.length)]

/-- R130, R44: the engines that are reserved. -/
def State.engReserved (s : State) : Nat := maskOf (s.cfg.engines.map (·.engine))

/-- R130: HS_ENG. -/
def State.hsEng (s : State) : Nat :=
  regOf [(0, 16, maskOf ((List.range 16).filter fun e => s.hs.engBusy.getD e false)), (16, 16, s.engReserved)]

/-- R130: HS_ENG_MISS. -/
def State.hsEngMiss (s : State) : Nat := regOf [(0, 32, s.hs.missP0), (32, 32, s.hs.missP1)]

/-- R130: a write of HS_ENG_MISS: all ones clear a counter. -/
def State.writeHsEngMiss (s : State) (v : Nat) : State :=
  { s with hs := { s.hs with missP0 := onesClear s.hs.missP0 v 0 32, missP1 := onesClear s.hs.missP1 v 32 32 } }

/-- R130: HS_PILOT of a lane. -/
def State.hsPilot (s : State) (n : Nat) : Nat :=
  let p := (s.hsl n).p
  regOf [(0, 10, (s.lane n).duty), (16, 16, toBits 16 p.posMv), (32, 16, toBits 16 p.negMv), (48, 16, p.ppOhm)]

/-- R130: HS_LINK of a lane. -/
def State.hsLink (s : State) (n : Nat) : Nat :=
  let h := (s.hsl n).l
  regOf [(0, 3, h.assoc), (3, 2, h.proto), (5, 1, b2n h.tls), (6, 1, b2n h.pnc), (7, 1, b2n h.dynamic), (8, 2, h.service),
    (10, 3, (s.hsl n).p.ppCode), (16, 8, h.attBest), (24, 8, h.attSecond), (32, 32, h.matchMs)]

/-- R130: HS_PEER of a lane. -/
def State.hsPeer (s : State) (n : Nat) : Nat := regOf [(0, 48, (s.hsl n).l.evMac)]

/-- R130: HS_CNT0 to HS_CNT3 of a lane. -/
def State.hsCnt (s : State) (n k : Nat) : Nat :=
  let c := (s.hsl n).c
  match k with
  | 0 => regOf [(0, 16, c.engMiss), (16, 16, c.slacCand), (32, 16, c.slacWon), (48, 16, c.slacAmbig)]
  | 1 => regOf [(0, 16, c.tlsFail), (16, 16, c.hlcTimeout), (32, 16, c.msgErr), (48, 16, c.chainFail)]
  | 2 => regOf [(0, 16, c.pilotInvalid), (16, 16, c.diode), (32, 16, c.ppInvalid), (48, 16, c.fallback)]
  | _ => regOf [(0, 32, c.msgRx), (32, 32, c.msgTx)]

/-- R129: HS_PILOT, HS_LINK, HS_PEER and HS_CNT0-HS_CNT3 of a lane. -/
def State.hsLaneBytes (s : State) (n : Nat) : Bytes :=
  regBytes (s.hsPilot n) ++ regBytes (s.hsLink n) ++ regBytes (s.hsPeer n) ++
    ((List.range 4).flatMap fun k => regBytes (s.hsCnt n k))

/-- R153: PP_CANk. -/
def State.ppCanReg (s : State) (k : Nat) : Nat :=
  let c := s.can k
  regOf [(0, 2, c.nominal), (2, 2, c.data), (4, 1, b2n c.enable), (8, 8, c.busOff), (16, 8, c.tec), (24, 8, c.recErr)]

/-- R40, R146: a lane uses a CAN controller on its setpoint path: the path of its group. -/
def State.usesCan (s : State) (n k : Nat) : Bool :=
  (s.typ n).isDc && (match s.cfg.group (s.groupOf n) with | some g => g.path == k | none => false)

/-- R153: no lane whose setpoint path uses the controller is in ISOLATION_TEST to RAMP_DOWN. -/
def State.canFree (s : State) (k : Nat) : Bool :=
  (List.range 64).all fun n => !(s.usesCan n k && LState.between .isolationTest .rampDown (s.lane n).st)

/-- R153: a setting of a controller takes effect. -/
def PpCan.applied (c : PpCan) : PpCan :=
  match c.pend with
  | some (a, b, e) => { c with nominal := a, data := b, enable := e, pend := none }
  | none => c

/-- R153: a write of PP_CANk waits until no lane using the controller is in ISOLATION_TEST to RAMP_DOWN. -/
def State.writePpCan (s : State) (k v : Nat) : State :=
  let s := s.onCan k fun c => { c with busOff := onesClear c.busOff v 8 8, pend := some (fieldOf v 0 2, fieldOf v 2 2, flagOf v 4) }
  if s.canFree k then s.onCan k PpCan.applied else s

/-- R153: PP_LANE of a lane. -/
def State.ppLaneReg (s : State) (n : Nat) : Nat :=
  let p := s.ppl n
  regOf [(0, 1, b2n p.dcpos), (1, 1, b2n p.dcneg), (2, 1, b2n p.pre), (3, 1, b2n p.acMain), (4, 1, b2n p.lockPos),
    (5, 1, b2n p.cDcpos), (6, 1, b2n p.cDcneg), (7, 1, b2n p.cPre), (8, 1, b2n p.cAcMain), (9, 1, b2n p.cLock),
    (10, 1, b2n (s.unlockGuard n)), (11, 1, b2n p.matched), (12, 2, p.weld), (16, 16, p.ucc), (32, 32, p.weldMs)]

/-- R153: PP_PM of a lane. -/
def State.ppPmReg (s : State) (n : Nat) : Nat :=
  let f := (s.ppl n).fb
  regOf [(0, 8, f.counter), (8, 3, f.state), (11, 1, b2n f.sink), (16, 16, f.u), (32, 16, toBits 16 f.i), (48, 16, f.faultCode)]

/-- R153: PP_CNT of a lane. -/
def State.ppCntReg (s : State) (n : Nat) : Nat :=
  let p := s.ppl n
  regOf [(0, 16, p.badFb), (16, 16, p.fbLost), (32, 16, p.contactFail), (48, 16, p.lockFail)]

/-- R152: PP_LANE, PP_PM and PP_CNT of a lane. -/
def State.ppLaneBytes (s : State) (n : Nat) : Bytes :=
  regBytes (s.ppLaneReg n) ++ regBytes (s.ppPmReg n) ++ regBytes (s.ppCntReg n)

end Sys2Proof.Machine
end

