-- ==== Sys2Proof/Machine/LaneExpiry.lean ====
section
/-! DEFINITION. LaneExpiry.lean: what the expiry of each lane timer does (R87, R26) and how a confirmed pilot change reaches
the lane (R84, R85, R107). -/
namespace Sys2Proof.Machine

/-! ### The lock pulse (R141) -/

/-- R141: a lock or unlock is decided: LOCK_RESULT, the retry of one not confirmed, the lock pulse that follows an unlock. -/
def State.lockDecided (s : State) (n : Nat) (ok : Bool) : State :=
  let p := s.ppl n
  let act := p.lockAct
  let s := s.onPp n fun p =>
    { p with lockAct := 0, lockWin := none, cLock := ok && act == 1, lockFail := if ok then p.lockFail else satU 16 (p.lockFail + 1),
             lockRetry := if !ok && act == 1 && p.lockTry == 1 && (s.lane n).st == .plugged then some (s.now + sec 1) else none,
             unlockRetry := if !ok && act == 2 && (s.lane n).st == .unlock then some (s.now + sec 30) else none }
  let s := s.onLane n fun l => { l with locked := ok && act == 1 }
  s.evLock n (act - 1) (b2n (!ok)) p.lockTry

/-- R141: the feedback input reads as the lock action under way needs. -/
def PpLane.feedbackFits (p : PpLane) : Bool := if p.lockAct == 1 then p.feedback else !p.feedback

/-- R87, R141, R90: a pulse ends. With feedback the confirmation window opens unless the input already reads as it should;
without it, `carried` tells whether the channel carried current above its open-load threshold for the last 100 ms. -/
def State.pulseEnds (s : State) (n : Nat) (carried : Bool) : State :=
  let s := s.stopTimer n Tm.lockPulse
  let s := match s.chanOf n 5 with
    | some k => (s.command k false).onCh k fun c => { c with pulseEnd := none }
    | none => s
  let s := if (s.lockInput n).isSome && !(s.ppl n).feedbackFits then
      s.onPp n fun p => { p with lockWin := some (s.now + ms 200) }
    else s.lockDecided n ((s.lockInput n).isSome || carried)
  let s := if (s.ppl n).relock && (s.lane n).st == .plugged && !(s.ppl n).lockPos then
      (s.onPp n fun p => { p with relock := false }).lockPulse n 1 1
    else s.tryUnlock n
  if (s.lane n).st == .unlock && (s.lane n).pilot == .a && !(s.lane n).unlockDue && !(s.lane n).pulsing then
    s.startTimer n Tm.plug (ms 10)
  else s.advance n

/-! ### Expiry of a timer (R87) -/

/-- R139: the channel WELD_RESULT suspects. -/
def State.weldSuspect (s : State) (n : Nat) : Nat :=
  let p := s.ppl n
  if (s.typ n).isAc then 3
  else if (p.vLink - p.vPos).natAbs * 20 < p.vLink.natAbs then 1
  else if 600 ≤ p.vPos - p.vNeg then 2 else 0

/-- R87: what a lane timer does when it acts; `carried` serves LOCK_PULSE alone. -/
def State.expireAct (s : State) (n k : Nat) (carried : Bool) : State :=
  let l := s.lane n
  let s := s.stopTimer n k
  if k = Tm.plug then
    match l.st with
    | .idle =>
      if l.pilot == .a || !(s.typ n).charges || s.dieBad 13 then s
      else if s.isPending n then s.onLane n fun l => { l with deferPilot := some (l.pilot, l.plugAt) }
      else
        let s := s.go n .plugged .none .external
        if (s.lane n).pilot.isFault then s.hazard n .pilotFault else s
    | .plugged | .identify | .authorise | .negotiate => if l.pilot == .a then s.go n .unlock .unplug .external else s
    | .suspended | .rampDown => if l.pilot == .a && (s.typ n).isAc then s.go n .openCheck .unplug .external else s
    | .unlock => if l.pilot == .a && !l.unlockDue && !l.pulsing then s.go n .idle .none .external else s
    | .offline | .isolationTest | .precharge | .energy | .degraded | .openCheck | .fault => s
  else if k = Tm.settle then
    if l.st == .plugged then s.go n .unlock (if s.ppValid n then .lockFault else .cable) .timer else s
  else if k = Tm.hostAuth then
    if l.st == .authorise && l.awaiting then (s.authRefuse n 2 0 0xFFFFFFFF .timer).advance n .timer else s
  else if k = Tm.guardWait then
    match l.st with
    | .negotiate => s.go n .unlock .energyGuard .timer
    | .isolationTest | .suspended => s.go n .openCheck .energyGuard .timer
    | .offline | .idle | .plugged | .identify | .authorise | .precharge | .energy | .rampDown | .openCheck | .unlock | .fault
    | .degraded => s
  else if k = Tm.cableCheck then if l.st == .isolationTest then s.go n .openCheck .cablecheckTimeout .timer else s
  else if k = Tm.precharge then if l.st == .precharge then s.go n .openCheck .prechargeTimeout .timer else s
  else if k = Tm.ramp then
    if l.st == .rampDown then (s.onLane n fun l => { l with rampForced := true }).go n .openCheck .none .timer else s
  else if k = Tm.weld then
    let s := s.onPp n fun p => { p with weld := 2 }
    (s.evLane .external n 0x1202 (leBytes 1 1 ++ leBytes 1 (s.weldSuspect n) ++ leBytes 2 l.uOut ++ leBytes 2 0)).go n .fault .weld
      .timer
  else if k = Tm.degraded then if l.st == .degraded then s.go n .rampDown .degradedExpiry .timer else s
  else if k = Tm.suspend then
    if l.st == .suspended then s.go n .openCheck (if l.suspPolicy then .hostloss else .suspendExpiry) .timer else s
  else if k = Tm.preauth then s.onLane n fun l => { l with held := none }
  else s.pulseEnds n carried

/-- R87, R102: each expiry that changes the state raises LANE_TIMEOUT ahead of the transition; a lane that comes back to its state at once
has entered it anew. -/
def State.expire (s : State) (n k : Nat) (carried : Bool) : State :=
  let l := (s.expireAct n k carried).lane n
  if l.st == (s.lane n).st && l.entryAt == (s.lane n).entryAt then s.expireAct n k carried
  else (s.evLane .timer n 0x1005 (leBytes 1 k ++ leBytes 1 (s.lane n).st.code)).expireAct n k carried

/-- R26: at expiry the tile records it and holds the timeout for 200 ns; it acts at the end of the hold. -/
def State.timerEvent (s : State) (n k : Nat) (carried : Bool := false) : State :=
  match (s.lane n).timer k with
  | none => s
  | some e =>
    if s.now < e then s
    else if s.now < e + 200 then
      s.onLane n fun l => { l with holds := (l.holds.filter fun x => x.1 != k) ++ [(k, e)] }
    else s.expire n k carried

/-! ### A confirmed pilot change (R84, R85, R107) -/

/-- R97, R138: AC_MAIN opens as the vehicle of a suspended lane leaves state C, and the weld check runs. -/
def State.openSuspended (s : State) (n : Nat) : State :=
  let s := s.onLane n fun l => { l with acOpenDue := none }
  if (s.ppl n).acMain then
    ((s.onPp n fun p => { p with weld := 0 }).contact n 4 false).startTimer n Tm.weld (sec 1)
  else s

/-- R87: PLUG counts 10 ms of state A from its stamp, or stops. -/
def State.countA (s : State) (n : Nat) (p : Pilot) (stamp : Nat) : State :=
  if p == .a then s.onLane n fun l => l.start Tm.plug (stamp + ms 10) else s.stopTimer n Tm.plug

/-- R84, R85, R97, R138: what a confirmed change from pilot state `old` to `p`, stamped `stamp`, does to the lane. -/
def State.pilotReact (s : State) (n : Nat) (old p : Pilot) (stamp : Nat) : State :=
  let ac := (s.typ n).isAc
  match (s.lane n).st with
  | .idle =>
    if !(s.typ n).charges then s
    else if p == .a then s.stopTimer n Tm.plug
    else if old == .a then s.onLane n fun l => { l.start Tm.plug (stamp + ms 10) with plugAt := stamp }
    else if ((s.lane n).timer Tm.plug).isSome then s
    else s.onLane n fun l => { l.start Tm.plug (max (l.entryAt + ms 10) stamp) with plugAt := stamp }
  | .plugged | .identify | .authorise =>
    let s := s.countA n p stamp
    if p == .d then s.stopLane n .ventilation .external else s
  | .negotiate => (s.countA n p stamp).advance n
  | .isolationTest | .precharge =>
    if p == .a then s.go n .fault .pilotFault .safety
    else if p == .d then s.stopLane n .ventilation .external else s
  | .energy =>
    if !(s.typ n).charges then s
    else if p == .a then s.go n .fault .pilotFault .safety
    else if p == .d then s.stopLane n .ventilation .external
    else if ac && old == .c && p == .b then
      if (s.lane n).hlc then s.contact n 4 false else s.suspend n .vehicle .external
    else s
  | .degraded =>
    if p == .a then s.go n .fault .pilotFault .safety
    else if p == .d then s.stopLane n .ventilation .external else s
  | .suspended =>
    if !ac then (if p == .a then s.go n .fault .pilotFault .safety else if p == .d then s.stopLane n .ventilation .external else s)
    else
      let s := s.countA n p stamp
      let s := if p == .c then s else s.openSuspended n
      if p == .d then s.stopLane n .ventilation .external
      else if old == .b && p == .c && (s.lane n).suspVehicle && !(s.lane n).hlc then s.unsuspend n .vehicle .external
      else s.advance n
  | .rampDown =>
    if ac then (s.countA n p stamp).advance n
    else if p == .a then s.go n .fault .pilotFault .safety else s
  | .unlock =>
    if p == .a then
      if (s.lane n).unlockDue || (s.lane n).pulsing then s else s.onLane n fun l => l.start Tm.plug (stamp + ms 10)
    else s.stopTimer n Tm.plug
  | .offline | .openCheck | .fault => s

/-- R107, R100, R543: a confirmed pilot state reaches the lane; E, missing diode and invalid are pilot faults unless the lane
drives F or 0 V. -/
def State.pilotArrives (s : State) (n : Nat) (p : Pilot) (stamp : Nat) : State :=
  let l := s.lane n
  let isAbc (q : Pilot) : Bool := q == .a || q == .b || q == .c
  let s := s.onLane n fun l =>
    { l with pilot := p, diode := p == .diode, pilotA := if p == .a then some stamp else none,
             pilotABC := if isAbc p then some (l.pilotABC.getD stamp) else none }
  let bad := p.isFault && l.cp != .f && l.cp != .v0
  let s := s.onPilot n fun h => { h with fault := if bad then some p else none }
  if bad then s.hazard n .pilotFault
  else if s.isPending n && (s.typ n).charges then s.onLane n fun l => { l with deferPilot := some (p, stamp) }
  else s.pilotReact n l.pilot p stamp

end Sys2Proof.Machine
end

