-- ==== Sys2Proof/Machine/HlcOps.lean ====
section
/-! DEFINITION. HlcOps.lean: what the handshake rows share (R115-R119, R124, R128): messages to the vehicle, the end of an HLC
session, session failures, the decision of a SLAC run.
A message to the vehicle is kept as bytes of the model's own: its kind, then the values the specification names. -/
namespace Sys2Proof.Machine

/-! Kinds of the messages to the vehicle. -/
namespace Msg
abbrev slacParmCnf : Nat := 1
abbrev attenCharInd : Nat := 2
abbrev validateCnf : Nat := 3
abbrev slacMatchCnf : Nat := 4
abbrev seccDiscovery : Nat := 5
abbrev appProtocol : Nat := 6
abbrev tls : Nat := 7
abbrev v2g : Nat := 8
abbrev certificate : Nat := 9
end Msg

/-- A message to the vehicle of a lane. -/
def State.tell (s : State) (n kind : Nat) (b : Bytes) : State :=
  s.onLink n fun h => { h with outMsgs := h.outMsgs ++ [byteOf kind :: b] }

/-- R115: the EVSE status of an answer: 0 Ready, 1 IsolationMonitoringActive, 2 Shutdown, 3 EmergencyShutdown. -/
def State.evseStatus (s : State) (n : Nat) : Nat :=
  match (s.lane n).st with
  | .fault => 3
  | .rampDown | .openCheck | .unlock => 2
  | .isolationTest => 1
  | .offline | .idle | .plugged | .identify | .authorise | .negotiate | .precharge | .energy | .degraded | .suspended => 0

/-- R118: the limits an answer carries: current in 0.1 A and power in 100 W; 0 in SUSPENDED. -/
def State.sentLimits (s : State) (n : Nat) : Nat × Int :=
  let l := s.lane n
  if l.st == .suspended then (0, 0) else (l.iLimit, l.pAlloc)

/-- R118: the scheduled mode asks for renegotiation when the allocation has moved by more than 10 % or 1 kW, at most once per
10 s. -/
def State.renegotiate (s : State) (n : Nat) : Bool :=
  let h := (s.hsl n).l
  let d := ((s.lane n).pAlloc - h.schedP).natAbs
  h.proto == 3 && !h.dynamic && decide (max 10 (h.schedP.natAbs / 10) < d) && decide (h.renegAt + sec 10 ≤ s.now) &&
    ((s.lane n).st == .energy || (s.lane n).st == .degraded)

/-- R115, R118, R542: the answer to the last V2G request: response `k` (see `Config.responseCode`), `done` telling Ongoing from
Finished, with the status, the outlet voltage, the limits, the stop notification and the renegotiation asked for. -/
def State.answer (s : State) (n k : Nat) (done : Bool) : State :=
  let h := (s.hsl n).l
  let code := Config.responseCode h.proto k % 256
  let r := s.renegotiate n
  let (i, p) := s.sentLimits n
  let s := s.tell n Msg.v2g (leBytes 1 h.lastReq ++ leBytes 1 code ++ leBytes 1 (b2n done) ++ leBytes 1 (s.evseStatus n) ++
    leBytes 2 (s.lane n).uOut ++ leBytes 2 i ++ leBytes 2 (toBits 16 p) ++ leBytes 1 (b2n (s.lane n).stopSent ||| 2 * b2n r))
  let s := s.onLink n fun l => { l with lastResp := code, seqEnd := some (s.now + sec 60), renegAt := if r then s.now else l.renegAt,
                                        schedP := if r then (s.lane n).pAlloc else l.schedP }
  (s.onLane n fun l => { l with stopSent := false }).onCnt n fun c => { c with msgTx := satU 32 (c.msgTx + 1) }

/-- R128: the HLC session of a lane ends with a reason. -/
def State.hlcEnd (s : State) (n reason : Nat) : State :=
  let h := (s.hsl n).l
  (s.evLane .external n 0x1104 (leBytes 1 reason ++ leBytes 1 h.lastReq ++ leBytes 1 h.lastResp)).onLink n fun l =>
    { l with isOpen := false, seqEnd := none, setupEnd := none, tls := if reason = 0 then false else l.tls }

/-- R85: the handshake reports a session failure. -/
def State.hlcFailure (s : State) (n : Nat) : State := s.stopLane n .hlcFailure .external

/-- R116, R126: an HLC timeout: it counts, ends the HLC session and is a stop trigger. -/
def State.hlcTimeout (s : State) (n reason : Nat) : State :=
  ((s.onCnt n fun c => { c with hlcTimeout := satU 16 (c.hlcTimeout + 1) }).hlcEnd n reason).stopLane n .hlcTimeout .timer

/-- R115: a request out of sequence, or one that could not be decoded: it counts, is answered with the sequence error, ends
the session and is a session failure. -/
def State.sequenceError (s : State) (n : Nat) : State :=
  (((s.onCnt n fun c => { c with msgErr := satU 16 (c.msgErr + 1) }).answer n 1 true).hlcEnd n 3).hlcFailure n

/-! ### SLAC (R123-R125) -/

/-- R123: a candidate for a run at a TIME. -/
def State.slacCandidate (s : State) (n : Nat) (heard : List Nat) : Bool :=
  let l := s.lane n
  let h := (s.hsl n).l
  l.hlc && (l.st == .plugged || l.st == .identify) && h.assoc != 3 && (l.pilot == .b || l.pilot == .c) && heard.contains n &&
    (match h.windowStart with | some w => decide (w ≤ s.now) && decide (s.now ≤ w + sec s.cfg.window) | none => false)

/-- A SLAC run. -/
def State.run (s : State) (id : Nat) : Option Slac := s.hs.runs.find? fun r => r.runId == id

/-- Changes a SLAC run. -/
def State.onRun (s : State) (id : Nat) (f : Slac → Slac) : State :=
  { s with hs := { s.hs with runs := s.hs.runs.map fun r => if r.runId == id then f r else r } }

/-- A SLAC run is over. -/
def State.endRun (s : State) (id : Nat) : State := { s with hs := { s.hs with runs := s.hs.runs.filter fun r => r.runId != id } }

/-- R124: the lane with the least of the values of a list, the lowest of equal ones; lanes of `skip` are left out. -/
def leastLane (l : List Nat) (skip : Option Nat) : Option Nat :=
  (List.range l.length).foldl (fun (b : Option Nat) i =>
    if skip == some i then b
    else match b with
      | none => some i
      | some j => if l.getD i 0 < l.getD j 0 then some i else b) none

/-- R124: mean attenuation in dB over `k` sounds of 58 groups, as the events carry it. -/
def State.meanAtt (s : State) (sum k : Nat) : Nat := if k = 0 then 80 else satU 8 (s.roundDiv sum (58 * k))

/-- R124, R128: a run ends ambiguous with a reason: no lane answers. -/
def State.ambiguous (s : State) (r : Slac) (reason : Nat) : State :=
  let s := r.cands.foldl (fun (s : State) n =>
    (s.onLink n fun h => if h.assoc = 3 then h else { h with assoc := 4 }).onCnt n fun c =>
      { c with slacAmbig := satU 16 (c.slacAmbig + 1) }) s
  (s.raise { cls := .external, die := s.rd.active, unit := if r.best < 64 then r.best / 32 * 32 else 0, lane := 0xFF, code := 0x1102,
             time := s.now,
             data := leBytes 4 r.runId ++ leBytes 1 r.best ++ leBytes 1 r.attBest ++ leBytes 1 r.second ++ leBytes 1 r.attSecond ++
               leBytes 1 reason }).endRun r.runId

/-- R124, R125: the decision of a run. A lane that another run has chosen is no candidate. -/
def State.decideRun (s : State) (r : Slac) : State :=
  let best := (leastLane r.att none).getD 0xFF
  let second := (leastLane r.att (some best)).getD 0xFF
  let ab := r.att.getD best 0
  let asec := r.att.getD second 0
  let r' := { r with best := if r.sounds = 0 then 0xFF else best, second := if r.sounds = 0 then 0xFF else second,
                     attBest := s.meanAtt ab r.sounds, attSecond := s.meanAtt asec r.sounds }
  let s := s.drawn
  let taken := s.hs.runs.any fun q => q.runId != r.runId && q.chosen == some best
  if r.sounds < 3 then s.ambiguous r' 2
  else if !r.cands.contains best || taken || (s.hsl best).l.assoc = 3 then s.ambiguous r' 1
  else if asec < ab + s.cfg.margin * 58 * r.sounds then s.ambiguous r' 0
  else
    let s := s.onRun r.runId fun _ => { r' with chosen := some best }
    let s := r.cands.foldl (fun (s : State) n =>
      s.onLink n fun h => { h with attBest := r'.attBest, attSecond := r'.attSecond, assoc := if n = best then h.assoc else 0 }) s
    s.tell best Msg.attenCharInd (leBytes 8 r.runId ++ leBytes 1 r'.attBest)

end Sys2Proof.Machine
end

