-- ==== Sys2Proof/Machine/Handshake.lean ====
section
/-! DEFINITION. Handshake.lean: the commands of Green PHY, SLAC, TLS and V2G (R114-R130). -/
namespace Sys2Proof.Machine

/-! ### Demodulation engines (R121, R122) -/

/-- R121: the engine a frame takes on a die: the lane's reserved one when free, else the lowest free engine of the pool. -/
def State.freeEngine (s : State) (die n : Nat) : Option Nat :=
  let free (e : Nat) : Bool := !s.hs.engBusy.getD e false
  let own := s.cfg.engines.find? fun x => x.owner == laneOwner n
  match own with
  | some x => if free x.engine then some x.engine else
      (List.range 8).find? (fun i => free (8 * die + i) && !bit s.engReserved (8 * die + i)) |>.map (8 * die + ·)
  | none => (List.range 8).find? (fun i => free (8 * die + i) && !bit s.engReserved (8 * die + i)) |>.map (8 * die + ·)

/-- R120: the preamble detector of a lane runs. -/
def State.hears (s : State) (n : Nat) : Bool := (s.lane n).st != .offline && decide (s.pw.state ≤ 1)

/-- R121: the lane of highest preamble power, the lowest of equal ones; `heard` holds lanes and powers. -/
def strongest (heard : List (Nat × Nat)) : Option Nat :=
  (heard.foldl (fun (b : Option (Nat × Nat)) x =>
    match b with
    | none => some x
    | some y => if y.2 < x.2 || (y.2 == x.2 && decide (x.1 < y.1)) then some x else some y) none).map (·.1)

/-- R121, R128: preambles detected within 2 µs on lanes of Pilot die `die` (0, 1) are one frame: it takes one engine, on the
lane of highest power, or is missed, counted and reported at most once per lane per second. -/
def execPreambleDetected (die : Nat) (heard : List (Nat × Nat)) (s : State) : Out :=
  fin s (match strongest (heard.filter fun x => s.hears x.1 && x.1 / 32 == die) with
    | none => s
    | some n =>
      match s.freeEngine die n with
      | some e => { s with hs := { s.hs with engBusy := s.hs.engBusy.set e true } }
      | none =>
        let s := s.onCnt n fun c => { c with engMiss := satU 16 (c.engMiss + 1), missSince := satU 16 (c.missSince + 1) }
        let s := { s with hs := if die = 0 then { s.hs with missP0 := satU 32 (s.hs.missP0 + 1) }
                                else { s.hs with missP1 := satU 32 (s.hs.missP1 + 1) } }
        let c := (s.hsl n).c
        if (match c.missAt with | some t => decide (t + sec 1 ≤ s.now) | none => true) then
          (s.evLane .diag n 0x1108 (leBytes 1 die ++ leBytes 2 c.missSince)).onCnt n fun c =>
            { c with missAt := some s.now, missSince := 0 }
        else s)

/-- R121, R122: a decoded frame ends and its engine is free; what the frame says to the lane of its AVLN is a row of its
own. -/
def execHpavFrameReceived (e : Nat) (s : State) : Out :=
  fin s { s with hs := { s.hs with engBusy := s.hs.engBusy.set e false } }

/-! ### Association (R123-R126) -/

/-- R123: CM_SLAC_PARM.REQ opens a run among its candidates, and each answers. -/
def execCmSlacParmReq (id mac : Nat) (heard : List Nat) (s : State) : Out :=
  fin s (
    let cands := (List.range 64).filter fun n => s.slacCandidate n heard
    if cands.isEmpty then s
    else
      let k := ((s.hs.past.find? fun x => x.1 == mac).map (·.2)).getD 0 + 1
      let s := s.endRun id
      let run : Slac := { runId := id, mac := mac, cands := cands, runs := satU 8 k, att := List.replicate 64 0 }
      let s := { s with hs := { s.hs with runs := s.hs.runs ++ [run],
                                          past := (mac, k) :: s.hs.past.filter fun x => x.1 != mac } }
      cands.foldl (fun (s : State) n =>
        ((s.onLink n fun h => { h with assoc := 1 }).onCnt n fun c => { c with slacCand := satU 16 (c.slacCand + 1) }).tell n
          Msg.slacParmCnf (leBytes 8 id)) s)

/-- R124: CM_START_ATTEN_CHAR.IND starts the sounding of a run. -/
def execCmStartAttenCharInd (id : Nat) (s : State) : Out :=
  fin s (match s.run id with
    | none => s
    | some r =>
      if r.firstAt.isSome then s
      else
        r.cands.foldl (fun (s : State) n => s.onLink n fun h => if h.assoc = 1 then { h with assoc := 2 } else h)
          (s.onRun id fun r => { r with firstAt := some s.now }))

/-- R124: a sound of a run: per lane, the attenuation in dB summed over the 58 carrier groups (80 dB where not heard). -/
def execCmMnbcSound (id : Nat) (att : List Nat) (s : State) : Out :=
  fin s (match s.run id with
    | none => s
    | some r =>
      match r.firstAt with
      | none => s
      | some t =>
        if r.sounds < 10 && decide (s.now < t + ms 600) && r.chosen.isNone then
          s.onRun id fun r =>
            { r with sounds := r.sounds + 1, att := (List.range 64).map fun n => r.att.getD n 0 + att.getD n (80 * 58) }
        else s)

/-- R124: sounding ends at the tenth sound or after 600 ms, and the run is decided. -/
def execSoundingEnd (id : Nat) (s : State) : Out :=
  fin s (match s.run id with
    | none => s
    | some r =>
      match r.firstAt with
      | none => s
      | some t => if r.chosen.isNone && (r.sounds == 10 || decide (t + ms 600 ≤ s.now)) then s.decideRun r else s)

/-- R124: CM_VALIDATE to the chosen lane is answered Ready; a count of pilot toggles that differs from the vehicle's ends the
run as ambiguous with reason 3. -/
def execCmValidate (id n vehicle counted : Nat) (s : State) : Out :=
  fin s (match s.run id with
    | none => s
    | some r =>
      if r.chosen == some n then
        let s := s.tell n Msg.validateCnf (leBytes 8 id)
        if vehicle = counted then s else s.ambiguous r 3
      else s)

/-- R124, R380: CM_SLAC_MATCH.REQ creates the association of the chosen lane, with NID and NMK drawn; while RNG_FAIL stands
the NMK is refused and the request stays unanswered. -/
def execCmSlacMatchReq (id n : Nat) (s : State) : Out :=
  fin s (match s.run id with
    | none => s
    | some r =>
      if r.chosen == some n && !s.kv.rngFail then
        let s := s.onLink n fun h =>
          { h with assoc := 3, evMac := r.mac, nid := s.free 56, nmk := s.drawn.free 128, matchMs := s.nowMs, windowStart := none,
                   setupEnd := some (s.now + sec 20) }
        let s := s.drawn.drawn.onCnt n fun c => { c with slacWon := satU 16 (c.slacWon + 1) }
        let s := s.tell n Msg.slacMatchCnf (leBytes 8 id)
        (s.evLane .external n 0x1101 (leBytes 4 r.runId ++ leBytes 1 r.attBest ++ leBytes 1 r.attSecond ++
          leBytes 1 r.cands.length ++ leBytes 1 r.sounds ++ leBytes 1 r.runs)).endRun id
      else s)

/-- R126: the association window ends without an association: an HLC timeout, or the basic path for an AC lane with
AC_FALLBACK. -/
def execAssociationWindowEnd (n : Nat) (s : State) : Out :=
  fin s (
    let h := (s.hsl n).l
    match h.windowStart with
    | none => s
    | some w =>
      if h.assoc = 3 || !(s.lane n).hlc || s.now < w + sec s.cfg.window || !LState.between .plugged .negotiate (s.lane n).st then s
      else
        let s := s.onLink n fun h => { h with windowStart := none, assoc := 4 }
        if (s.typ n).isAc && h.tFallback then
          let s := (s.onLane n fun l => { l with hlc := false }).cpS12 n
          (s.onLink n fun h => { h with fallbackEnd := some (s.now + sec 3) }).onCnt n fun c =>
            { c with fallback := satU 16 (c.fallback + 1) }
        else s.hlcTimeout n 6)

/-- R126: the 3 s at S12 of a fallback end and the lane goes on as a basic lane. -/
def execAcFallbackEnd (n : Nat) (s : State) : Out :=
  fin s (match (s.hsl n).l.fallbackEnd with
    | none => s
    | some t =>
      if s.now < t then s
      else
        let s := s.onLink n fun h => { h with fallbackEnd := none }
        if (s.lane n).st == .negotiate then s.cpOffer n (s.energyGuard n)
        else if (s.lane n).st == .energy || (s.lane n).st == .degraded then s.cpOffer n true else s)

/-- R85, R126: a lane loses its link (`link` true), a session failure; or its association, which restarts the window up to
NEGOTIATE and is left to the sequence timeout later. -/
def execHlcLinkLoss (n : Nat) (link : Bool) (s : State) : Out :=
  fin s (
    if !(s.lane n).hlc || (s.hsl n).l.assoc != 3 then s
    else
      let early := (s.lane n).st == .plugged || (s.lane n).st == .identify || (s.lane n).st == .negotiate
      let s := s.onLink n fun h => { h with assoc := 0, windowStart := if early then some s.now else h.windowStart }
      if link then (s.hlcEnd n 4).hlcFailure n else s)

/-! ### Discovery, protocol and TLS (R114, R127) -/

/-- R114: SECC discovery is answered with the security the vehicle asks for. -/
def execSeccDiscovery (n : Nat) (tls : Bool) (s : State) : Out :=
  fin s (if (s.hsl n).l.assoc = 3 then s.tell n Msg.seccDiscovery (leBytes 1 (b2n tls)) else s)

/-- R114: whether a namespace counts on a lane: 1 DIN SPEC 70121, 2 ISO 15118-2, 3 ISO 15118-20 AC, 4 ISO 15118-20 DC. -/
def State.spaceOk (s : State) (n k : Nat) : Bool :=
  let h := (s.hsl n).l
  match k with
  | 1 => (s.typ n).isDc && bit h.tProto 0 && !h.tls
  | 2 => bit h.tProto 1 && (h.tls || !h.tTls2)
  | 3 => (s.typ n).isAc && bit h.tProto 2 && h.tls
  | 4 => (s.typ n).isDc && bit h.tProto 2 && h.tls
  | _ => false

/-- R114, R128: the highest namespace that counts among those offered, or Failed_NoNegotiation and a session failure.
HLC_PROTOCOL reports what is settled then: the protocol, the service of the lane type, TLS, EIM and scheduled mode until
the vehicle selects otherwise. -/
def execSupportedAppProtocol (n : Nat) (offers : List Nat) (s : State) : Out :=
  fin s (
    if (s.hsl n).l.assoc != 3 then s
    else
      let s := s.onCnt n fun c => { c with msgRx := satU 32 (c.msgRx + 1) }
      let s := s.onLink n fun h => { h with lastReq := 1, lastResp := 0xFF, isOpen := true }
      let ok := offers.filter fun k => s.spaceOk n k
      let p := if ok.contains 3 || ok.contains 4 then 3 else if ok.contains 2 then 2 else if ok.contains 1 then 1 else 0
      let s := s.onLink n fun h => { h with proto := p, service := if p = 0 then 0 else if (s.typ n).isAc then 1 else 2, pnc := false,
                                            dynamic := p == 3 && h.tControl == 2 }
      if p = 0 then ((s.answer n 3 true).hlcEnd n 5).hlcFailure n
      else
        let h := (s.hsl n).l
        (s.answer n 0 true).evLane .external n 0x1103 (leBytes 1 p ++ leBytes 1 h.service ++ leBytes 1 (b2n h.tls) ++
          leBytes 1 (b2n h.pnc) ++ leBytes 1 (b2n h.dynamic)))

/-- R127, R128: a TLS handshake (`version` 2 TLS 1.2, 3 TLS 1.3) that needs the SECC node `node`. An ORPHANED node fails it
with alert code 0xFE, and while RNG_FAIL stands the ECDH of TLS 1.2 is refused (R380; the alert is then open); otherwise `failure` carries the alert code and stage of a handshake that fails. -/
def execTlsHandshake (n version node : Nat) (failure : Option (Nat × Nat)) (s : State) : Out :=
  fin s (
    if (s.hsl n).l.assoc != 3 then s
    else
      let orphan := s.isOrphan node
      let bad := if orphan then some (0xFE, (failure.map (·.2)).getD 1)
        else if s.kv.rngFail && version = 2 && failure.isNone then some (s.free 8, 1) else failure
      let s := (if version = 2 then s.signed node else if orphan then s.orphanRefused else s).drawn
      match bad with
      | none => s.onLink n fun h => { h with tls := true }
      | some (alert, stage) =>
        ((s.onCnt n fun c => { c with tlsFail := satU 16 (c.tlsFail + 1) }).evLane .external n 0x1105
          (leBytes 1 alert ++ leBytes 1 version ++ leBytes 1 stage)).hlcFailure n)

/-! ### V2G requests (R115-R118) -/

/-- R115: whether a request is in sequence for a lane state. -/
def V2gReq.inSequence (r : V2gReq) (st : LState) (proto : Nat) (ac : Bool) : Bool :=
  match r with
  | .sessionSetup => st == .identify || st == .authorise
  | .serviceDiscovery | .serviceDetail =>
    if proto = 3 then st == .negotiate else st == .identify || st == .authorise
  | .payment _ | .paymentDetails _ _ => proto != 3 && (st == .identify || st == .authorise)
  | .authorizationSetup => proto == 3 && (st == .identify || st == .authorise)
  | .authorization _ => st == .identify || st == .authorise || st == .negotiate || st == .unlock
  | .service _ _ => proto == 3 && st == .negotiate
  | .scheduleExchange => proto == 3 && (st == .negotiate || st == .energy || st == .degraded)
  | .chargeParameters _ _ _ _ _ => st == .negotiate
  | .cableCheck => !ac && (st == .negotiate || st == .isolationTest || st == .precharge)
  | .preCharge _ => !ac && st == .precharge
  | .powerStart => (ac && st == .negotiate) || (!ac && st == .precharge) || st == .energy || (proto == 3 && st == .suspended)
  | .powerStop => LState.between .negotiate .rampDown st
  | .powerStandby => proto == 3 && (st == .energy || st == .degraded || st == .suspended)
  | .currentDemand _ _ _ _ _ _ => !ac && (LState.between .energy .suspended st || st == .rampDown || st == .openCheck)
  | .chargingStatus _ _ _ => ac && (LState.between .energy .suspended st || st == .rampDown || st == .openCheck)
  | .weldingDetection => st == .openCheck
  | .sessionStop => LState.between .plugged .unlock st
  | .other => false

/-- R338: a contract identifier as it is stored: letters in upper case, separators removed. -/
def normaliseEmaid (b : Bytes) : Bytes :=
  (b.filter fun x => (48 ≤ x.toNat && x.toNat ≤ 57) || (65 ≤ x.toNat && x.toNat ≤ 90) || (97 ≤ x.toNat && x.toNat ≤ 122)).map
    fun x => if 97 ≤ x.toNat then byteOf (x.toNat - 32) else x

/-- R92, R117: a Plug and Charge contract: taken in IDENTIFY, held in AUTHORISE; a chain that fails counts. -/
def State.contract (s : State) (n : Nat) (emaid : Bytes) (ok : Bool) (stamp : Nat) : State :=
  let c : Cred := { src := 1, ident := normaliseEmaid emaid, time := stamp }
  if !(s.hsl n).l.tPnc || !(s.hsl n).l.tls then s
  else if !ok then s.onCnt n fun k => { k with chainFail := satU 16 (k.chainFail + 1) }
  else
    let s := s.onLink n fun h => { h with pnc := true }
    match (s.lane n).st with
    | .identify => (s.takeCred n c false .external).advance n
    | .authorise => s.onLane n fun l => { l with held := some c }
    | .offline | .idle | .plugged | .negotiate | .isolationTest | .precharge | .energy | .rampDown | .openCheck | .unlock | .fault
    | .degraded | .suspended => s

/-- R136: the power-delivery request of a DC lane in PRECHARGE, when the match and the guard hold. -/
def State.deliver (s : State) (n : Nat) : State :=
  (s.onPp n fun p => { p with pdSince := none, pdDone := true }).go n .energy .none .external

/-- R136: what phase 1 waits for: the match, the energy guard, and V_LINK within 20 V of V_POS_PE. -/
def State.mayClose (s : State) (n : Nat) : Bool :=
  (s.ppl n).matched && s.energyGuard n && decide (((s.ppl n).vLink - (s.ppl n).vPos).natAbs ≤ 200)

/-- R135, R153: the match of the outlet with the precharge target. -/
def State.rematch (s : State) (n : Nat) : State :=
  s.onPp n fun p => { p with matched := match p.target with | some t => withinMatch (s.lane n).uOut t | none => false }

/-- R115-R118, R135, R136: what a request in sequence does, with its answer. -/
def State.v2g (s : State) (n stamp : Nat) (r : V2gReq) : State :=
  match r with
  | .sessionSetup => (s.onLink n fun h => { h with setupEnd := none }).answer n 0 true
  | .serviceDiscovery | .serviceDetail | .authorizationSetup | .scheduleExchange => s.answer n 0 true
  | .payment pnc => (s.onLink n fun h => { h with pnc := pnc && h.tPnc && h.tls }).answer n 0 true
  | .service code dyn =>
    (s.onLink n fun h =>
      { h with service := if code = 3 && s.typ n != .dcb then 2 else code,
               dynamic := if h.tControl = 0 then dyn else h.tControl == 2 }).answer n 0 true
  | .paymentDetails e ok => (s.contract n e ok stamp).answer n 0 true
  | .authorization k =>
    let s := match k with | some (e, ok) => s.contract n e ok stamp | none => s
    match (s.lane n).st with
    | .unlock => s.answer n 2 true
    | .identify | .authorise => s.answer n 0 false
    | .offline | .idle | .plugged | .negotiate | .isolationTest | .precharge | .energy | .rampDown | .openCheck | .fault
    | .degraded | .suspended => s.answer n 0 true
  | .chargeParameters u mi p i d =>
    let s := s.onLink n fun h => { h with evMaxU := u, evMaxI := mi, evMaxP := p, evDisI := i, evDisP := d, schedP := (s.lane n).pAlloc }
    s.answer n 0 (!((s.typ n).isAc && (s.lane n).guardHeld))
  | .cableCheck =>
    let s := if (s.lane n).st == .negotiate then s.go n .isolationTest .none .external else s
    s.answer n 0 ((s.lane n).st == .precharge)
  | .preCharge u => ((s.onPp n fun p => { p with target := some u }).rematch n).answer n 0 true
  | .powerStart =>
    match (s.lane n).st with
    | .precharge =>
      if (s.lane n).late Tm.precharge stamp then s
      else
        let s := s.rematch n
        if s.mayClose n then s.deliver n
        else s.onPp n fun p => { p with pdSince := some (p.pdSince.getD s.now) }
    | .negotiate =>
      let s := (s.onPp n fun p => { p with pdDone := true }).advance n
      if (s.lane n).st == .energy then s.answer n 0 true else s
    | .suspended => (s.unsuspend n .vehicle .external).answer n 0 true
    | .offline | .idle | .plugged | .identify | .authorise | .isolationTest | .energy | .rampDown | .openCheck | .unlock | .fault
    | .degraded => s.answer n 0 true
  | .powerStop => (s.stopLane n .vehicleStop .external true).answer n 0 true
  | .powerStandby => (s.suspend n .vehicle .external).answer n 0 true
  | .currentDemand i u p di dp tp =>
    (s.onLink n fun h =>
      { h with evTargetI := i, evMaxU := if u = 0 then h.evMaxU else u, evMaxP := p, evDisI := di, evDisP := dp, evTargetP := tp }).answer
      n 0 true
  | .chargingStatus i p tp =>
    (s.onLink n fun h => { h with evTargetI := i.getD h.evMaxI, evMaxP := p, evTargetP := tp }).answer n 0 true
  | .weldingDetection => s.answer n 0 true
  | .sessionStop => ((s.stopLane n .vehicleStop .external true).answer n 0 true).hlcEnd n 0
  | .other => s

/-- R115, R116: a V2G request stamped `stamp`: late ones are not answered, one out of sequence is a session failure; in FAULT
each answer carries EmergencyShutdown. -/
def execV2gRequest (n stamp : Nat) (r : V2gReq) (s : State) : Out :=
  fin s (
    let h := (s.hsl n).l
    if !h.isOpen || (match h.seqEnd with | some e => decide (e < stamp) | none => false) then s
    else
      let s := s.onCnt n fun c => { c with msgRx := satU 32 (c.msgRx + 1) }
      let s := s.onLink n fun l => { l with lastReq := r.code, lastResp := 0xFF, seqEnd := none }
      if (s.lane n).st == .fault then
        let s := s.answer n 2 true
        if r == .sessionStop then s.hlcEnd n 0 else s
      else if r.inSequence (s.lane n).st h.proto (s.typ n).isAc then s.v2g n stamp r
      else s.sequenceError n)

/-! ### Certificates (R119) -/

/-- R119, R128: a CertificateInstallation (0) or CertificateUpdate (1) request goes to the host under a reference. -/
def execCertificateRequest (n kind : Nat) (exi : Bytes) (s : State) : Out :=
  fin s (
    let h := (s.hsl n).l
    if !h.isOpen then s
    else
      let ref := (s.hs.certRef + 1) % 2 ^ 32
      let s := s.onCnt n fun c => { c with msgRx := satU 32 (c.msgRx + 1) }
      let s := s.onLink n fun l => { l with lastReq := 9 + kind, lastResp := 0xFF, seqEnd := none }
      let req : CertReq := { ref := ref, lane := n, kind := kind, proto := h.proto, arrived := s.now, exi := exi }
      let s := { s with hs := { s.hs with certRef := ref, certs := s.hs.certs ++ [req] } }
      s.evLane .external n 0x1107 (leBytes 1 kind ++ leBytes 1 h.proto ++ leBytes 4 ref ++ leBytes 2 (satU 16 exi.length)))

/-- A certificate request under a reference. -/
def State.certReq (s : State) (ref : Nat) : Option CertReq := s.hs.certs.find? fun c => c.ref == ref && !c.answered

/-- R119: a certificate request is answered to the vehicle with a response, or with the failure code. -/
def State.certAnswer (s : State) (c : CertReq) (exi : Option Bytes) : State :=
  let done (x : CertReq) : CertReq := if x.ref == c.ref then { x with answered := true } else x
  let s := { s with hs := { s.hs with certs := s.hs.certs.map done } }
  match exi with
  | some b =>
    ((s.tell c.lane Msg.certificate b).onLink c.lane fun l =>
      { l with lastResp := Config.responseCode c.proto 0 % 256, seqEnd := some (s.now + sec 60) }).onCnt c.lane fun k =>
        { k with msgTx := satU 32 (k.msgTx + 1) }
  | none => s.answer c.lane 4 true

/-- R119: no host answer is in time, and the standard's failure code is sent. -/
def execCertAnswerTimeout (ref : Nat) (s : State) : Out :=
  fin s (match s.certReq ref with
    | some c => if c.arrived + sec 4 + 200 ≤ s.now then s.certAnswer c none else s
    | none => s)

/-- R116: no SessionSetupReq came within 20 s of CM_SLAC_MATCH.CNF. -/
def execCommunicationSetupTimeout (n : Nat) (s : State) : Out :=
  fin s (match (s.hsl n).l.setupEnd with
    | some e => if e + 200 ≤ s.now then s.hlcTimeout n 2 else s
    | none => s)

/-- R116: no next request came within 60 s of a response. -/
def execSequenceTimeout (n : Nat) (s : State) : Out :=
  fin s (match (s.hsl n).l.seqEnd with
    | some e => if e + 200 ≤ s.now then s.hlcTimeout n 1 else s
    | none => s)

/-! ### Requests (R129) -/

/-- R3, R129, R152: a lane that has a handshake and a power path. -/
def State.chargingReq (s : State) (t : Ticket) (n : Nat) (f : State) : State :=
  if s.nLanes ≤ n then s.complete t St.badArgument
  else if !(s.typ n).charges then s.complete t St.notSupported
  else f

/-- R129: HS_LANE_READ. -/
def execHsLaneRead (tk : Nat) (s : State) : Out :=
  fin s (s.onTicket tk 0x0210 fun t => s.chargingReq t (t.u 0 1) (s.complete t St.ok (s.hsLaneBytes (t.u 0 1))))

/-- R129: HS_CNT0-HS_CNT3 of a lane read 0. -/
def CntHs.cleared (c : CntHs) : CntHs := { missAt := c.missAt, missSince := c.missSince }

/-- R129: HS_COUNT_CLEAR; 0xFF clears every lane. -/
def execHsCountClear (tk : Nat) (s : State) : Out :=
  fin s (s.onTicket tk 0x0211 fun t =>
    if t.u 0 1 = 0xFF then ((List.range 64).foldl (fun (s : State) n => s.onCnt n CntHs.cleared) s).complete t St.ok
    else s.chargingReq t (t.u 0 1) ((s.onCnt (t.u 0 1) CntHs.cleared).complete t St.ok))

/-- R129: HS_CERT_FETCH. -/
def execHsCertFetch (tk : Nat) (s : State) : Out :=
  fin s (s.onTicket tk 0x0212 fun t =>
    match s.certReq (t.u 0 4) with
    | some c => s.complete t St.ok (c.exi.take 8192)
    | none => s.complete t St.badArgument)

/-- R119, R129: HS_CERT_ANSWER is in time when its REQ_ACCEPTED is no later than 4 s after the request's arrival. -/
def execHsCertAnswer (tk : Nat) (s : State) : Out :=
  fin s (s.onTicket tk 0x0213 fun t =>
    match s.certReq (t.u 0 4) with
    | some c =>
      if 1 < t.u 4 1 then s.complete t St.badArgument
      else if t.acceptTime ≤ c.arrived + sec 4 then
        (s.certAnswer c (if t.u 4 1 = 0 then some (t.rest 5) else none)).complete t St.ok
      else s.complete t St.refusedState
    | none => s.complete t St.refusedState)

end Sys2Proof.Machine
end

