-- ==== Sys2Proof/Machine/PowerPath.lean ====
section
/-! DEFINITION. PowerPath.lean: contactors, cable check, socket lock and power module of a lane (R131-R153). -/
namespace Sys2Proof.Machine

/-! ### Cable check (R134, R182) -/

/-- R179: U_REF of a group in mV: the highest RATED_U of its DC lanes. -/
def State.uRef (s : State) (g : Nat) : Nat :=
  (s.lanesOf g).foldl (fun m n => if (s.typ n).isDc then max m (s.slot n).ratedU else m) 0

/-- R179: the warning threshold of a group in Ω. -/
def State.isoWarnOhm (s : State) (g : Nat) : Nat := s.sf.block.isoWarn * s.uRef g / 1000

/-- R179: the fault threshold of a group in Ω. -/
def State.isoFaultOhm (s : State) (g : Nat) : Nat := s.sf.block.isoFault * s.uRef g / 1000

/-- An insulation of conductance `g` pS lies at or above `r` Ω. -/
def ohmAtLeast (g r : Nat) : Bool := decide (g * r ≤ 10 ^ 12)

/-- R134, R182: phase 6: the verdict on the lowest value of the window; an INVALID group fails. -/
def State.verdict (s : State) (n : Nat) : State :=
  let g := s.groupOf n
  let s := s.onPp n fun p => { p with phase := 6, phaseAt := s.now }
  match (s.efl n).winLow with
  | none => s.hazard n .isolation
  | some w =>
    if (s.efg g).state = 4 || !ohmAtLeast w (s.isoFaultOhm g) then s.hazard n .isolation
    else
      let s := (s.onPp n fun p => { p with isoPass := true }).stopTimer n Tm.cableCheck
      let s := s.onLane n fun l => { l with isoWarn := !ohmAtLeast w (s.isoWarnOhm g) }
      if s.energyGuard n then s.go n .precharge .none .external else s.holdGuard n

/-- R134: the phase in progress ends when its conditions hold. -/
def State.cableStep (s : State) (n : Nat) : State :=
  let p := s.ppl n
  let into (s : State) (k : Nat) : State := s.onPp n fun p => { p with phase := k, phaseAt := s.now }
  let near (d : Nat) : Bool := match p.nearSince with | some t => decide (t + d ≤ s.now) | none => false
  if (s.lane n).st != .isolationTest then s
  else match p.phase with
    | 1 => if p.phaseAt + ms 20 ≤ s.now then into (s.contact n 3 true) 2 else s
    | 2 =>
      if p.phaseAt + ms 40 ≤ s.now then
        (into s 3).onPp n fun p =>
          { p with nearSince := none, confEnd := if 1000 < p.ucc then some (2, s.now + ms 300) else p.confEnd }
      else s
    | 3 => if p.phaseAt + p.ucc * 100000 ≤ s.now && p.cDcneg then into s 4 else s
    | 4 =>
      if near (ms 100) && (s.efl n).settled then (into s 5).onEfl n fun e => { e with winLow := none } else s
    | 5 => if p.phaseAt + ms 300 ≤ s.now then s.verdict n else s
    | _ => s

/-- R134: a timed phase of the cable check ends. -/
def execCableCheckPhaseEnd (n : Nat) (s : State) : Out := fin s (s.cableStep n)

/-- R134, R151: in phase 3 or 4 the outlet has stayed below 20 V for 200 ms while the power module reports its limit. -/
def execOutletShort (n : Nat) (s : State) : Out :=
  fin s (
    let p := s.ppl n
    if (s.lane n).st == .isolationTest && (p.phase == 3 || p.phase == 4) && decide ((s.lane n).uOut < 200) then
      (s.evContactor n 2 1 2 0).hazard n .isolation
    else s)

/-! ### Confirmation of contactors (R133) -/

/-- R147: U_SET of the present setpoint in 0.1 V. -/
def State.uSet (s : State) (n : Nat) : Nat :=
  let p := s.ppl n
  let rated := (s.slot n).ratedU / 100
  match (s.lane n).st with
  | .isolationTest =>
    if p.isoPass || p.phase ≤ 2 then 0 else if p.phase = 3 then min p.ucc ((s.now - p.phaseAt) / 100000) else p.ucc
  | .precharge => p.target.getD p.ucc
  | .energy | .degraded | .suspended | .rampDown =>
    if p.currentMode then min (s.hsl n).l.evMaxU rated else p.target.getD p.ucc
  | .offline | .idle | .plugged | .identify | .authorise | .negotiate | .openCheck | .unlock | .fault => 0

/-- R133: the peak of a phase voltage of an AC lane over the last period lies at 70 % or more of RATED_U·√2: by squares, in mV. -/
def State.phaseUp (s : State) (n : Nat) (f : MtSamp → Rat) : Bool :=
  let m := s.mtl n
  let pk := (m.win.take (m.period.getD 640)).foldl (fun u x => max u (f x)) 0
  decide ((49 * (s.slot n).ratedU ^ 2 : Nat) ≤ 50000000 * pk * pk)

/-- R133: the voltage channels show what confirms the function. -/
def State.confirms (s : State) (n fn : Nat) : Bool :=
  let p := s.ppl n
  if fn = 1 then decide ((p.vLink - p.vPos).natAbs < 50)
  else if fn = 2 then decide (1000 < s.uSet n) && decide (s.uSet n ≤ 2 * (s.lane n).uOut)
  else fn == 4 && s.phaseUp n MtSamp.pk1 && (s.typ n != .ac3 || (s.phaseUp n MtSamp.pk2 && s.phaseUp n MtSamp.pk3))

/-- R133, R136, R151: a closing is confirmed within its limit. -/
def execContactorConfirmed (n : Nat) (s : State) : Out :=
  fin s (match (s.ppl n).confEnd with
    | none => s
    | some (fn, e) =>
      if e < s.now || !s.confirms n fn then s
      else
        let t := (s.now - (s.ppl n).confFrom) / 1000000
        let s := s.onPp n fun p => { p.confirm fn with confEnd := none }
        let s := s.evContactor n fn 1 0 t
        if fn = 1 then s.onPp n fun p => { p with preOpenDue := some (s.now + ms 20) }
        else if fn = 4 then s.onPs n fun q => { q with acSince := some s.now }
        else (s.evContactor n 3 1 0 t).cableStep n)

/-- R133, R151: a closing is not confirmed within its limit: OUTPUT. -/
def execContactorConfirmTimeout (n : Nat) (s : State) : Out :=
  fin s (match (s.ppl n).confEnd with
    | none => s
    | some (fn, e) =>
      if s.now < e then s
      else
        let t := (s.now - (s.ppl n).confFrom) / 1000000
        let s := s.onPp n fun p => { p with confEnd := none, contactFail := satU 16 (p.contactFail + 1) }
        (s.evContactor n fn 1 1 t).outputFault n 2)

/-! ### Power delivery (R136) -/

/-- R136: 20 ms after DCPOS is confirmed PRECHARGE opens, the power module goes to current mode and the vehicle gets its
answer. -/
def execPrechargeOpenDelay (n : Nat) (s : State) : Out :=
  fin s (match (s.ppl n).preOpenDue with
    | none => s
    | some t =>
      if s.now < t then s
      else
        let s := (s.onPp n fun p => { p with preOpenDue := none, currentMode := true }).contact n 3 false
        let s := s.onLane n fun l => { l with dir := 1, rampFrom := 20, rampAt := s.now }
        s.answer n 0 true)

/-- R136: a power-delivery request held for 150 ms is answered FAILED and is a session failure. -/
def execPowerDeliveryHoldExpiry (n : Nat) (s : State) : Out :=
  fin s (match (s.ppl n).pdSince with
    | none => s
    | some t =>
      if s.now < t + ms 150 then s
      else ((s.onPp n fun p => { p with pdSince := none }).answer n 2 true).hlcFailure n)

/-! ### Opening and the weld check (R137-R140) -/

/-- R137: DCNEG opens 40 ms after OPEN_CHECK entry. -/
def execDcnegOpenDelay (n : Nat) (s : State) : Out :=
  fin s (match (s.ppl n).dcnegDue with
    | none => s
    | some t => if s.now < t then s else (s.contact n 2 false).onPp n fun p => { p with dcnegDue := none })

/-- R84, R139, R151: the outlet is below 60 V while WELD runs: the check passes; from OPEN_CHECK the lane goes to UNLOCK, or to
FAULT with the first fault-class cause that stands. -/
def execWeldCheckPass (n : Nat) (s : State) : Out :=
  fin s (
    let l := s.lane n
    if (l.timer Tm.weld).isSome && (s.ppl n).belowSince.isSome then
      let t := (s.now - (s.ppl n).openAt) / 1000000
      let s := (s.onPp n fun p => { p with weld := 1, weldMs := satU 32 t }).stopTimer n Tm.weld
      let s := s.evLane .external n 0x1202 (leBytes 1 0 ++ leBytes 1 0 ++ leBytes 2 l.uOut ++ leBytes 2 (satU 16 t))
      if l.st == .openCheck then
        match l.causes with
        | [] => s.go n .unlock .none .external
        | c :: _ => s.go n .fault c .external
      else s
    else s)

/-- R140: the unlock guard turns true. -/
def execUnlockGuardTrue (n : Nat) (s : State) : Out := fin s (s.tryUnlock n)

/-! ### Socket lock (R141) -/

/-- R141: with feedback, 200 ms after the pulse end the lock or unlock is decided. -/
def execLockConfirmWindow (n : Nat) (s : State) : Out :=
  fin s (match (s.ppl n).lockWin with
    | none => s
    | some t =>
      if (s.ppl n).feedbackFits then (s.lockDecided n true).advance n
      else if s.now < t then s else (s.lockDecided n false).advance n)

/-- R141: a lock not confirmed is pulsed once more, 1 s after the first pulse ended, while the lane is in PLUGGED. -/
def execLockRetry (n : Nat) (s : State) : Out :=
  fin s (match (s.ppl n).lockRetry with
    | none => s
    | some t => if t ≤ s.now && (s.lane n).st == .plugged && !(s.lane n).pulsing then s.lockPulse n 1 2 else s)

/-- R141, R140: an unlock not confirmed is pulsed every 30 s while the lane stays in UNLOCK. -/
def execUnlockRetry (n : Nat) (s : State) : Out :=
  fin s (match (s.ppl n).unlockRetry with
    | none => s
    | some t =>
      if t ≤ s.now && (s.lane n).st == .unlock && !(s.lane n).pulsing && s.unlockGuard n then
        s.lockPulse n 2 ((s.ppl n).lockTry + 1)
      else s)

/-- R141: the feedback input opens in IDENTIFY to SUSPENDED: LOCK_RESULT lost, and one further lock pulse. -/
def execLockFeedbackLost (n : Nat) (s : State) : Out :=
  fin s (
    if (s.lockInput n).isSome && !(s.ppl n).feedback && (s.ppl n).cLock && LState.between .identify .suspended (s.lane n).st &&
        !(s.lane n).pulsing then
      (s.evLock n 0 2 (s.ppl n).lockTry).lockPulse n 1 ((s.ppl n).lockTry + 1)
    else s)

/-! ### Direction and setpoint (R143, R144, R147, R149) -/

/-- R144: the 100 ms at 0 A end: the other direction ramps up. -/
def execDirectionHoldEnd (n : Nat) (s : State) : Out :=
  fin s (match (s.ppl n).dirHold with
    | none => s
    | some t =>
      if s.now < t then s
      else
        let d := (s.ppl n).dirTarget
        let s := s.onPp n fun p => { p with dirTarget := 0, dirHold := none }
        let s := s.onLane n fun l => { l with dir := d, rampFrom := 0, rampAt := s.now }
        s.evLane .external n 0x1206 (leBytes 1 d ++ leBytes 2 (satU 16 ((s.now - (t - ms 100)) / 1000000))))

/-- R143: whether the lane may export. -/
def State.exportOk (s : State) (n : Nat) : Bool :=
  let h := (s.hsl n).l
  s.typ n == .dcb && h.service == 3 && (s.ppl n).fb.sink && h.evDisI != 0 && h.evDisP != 0

/-- R103: LN_POWER.I_LIMIT of a DC lane in 0.1 A. -/
def State.dcLimit (s : State) (n : Nat) : Nat :=
  let l := s.lane n
  let rated := (s.slot n).ratedI / 100
  match l.st with
  | .isolationTest | .precharge => 20
  | .offline | .idle | .plugged | .identify | .authorise | .negotiate | .energy | .rampDown | .openCheck | .unlock | .fault
  | .degraded | .suspended =>
    let a := if l.uOut = 0 then rated else min rated (l.pAlloc.natAbs * 10000 / l.uOut)
    if l.st == .degraded then min a l.degCapI else a

/-- R91: the magnitude, in 0.1 A, of a ramp that began at `from_` A/10 `dt` ns ago: the faster of RAMP_RATE and the rate that
reaches 5 A in 1.5 s. -/
def rampMag (rate from_ dt : Nat) : Nat := from_ - max (rate * 100 * dt / 1000000000) ((from_ - 50) * dt / 1500000000)

/-- R136, R91, R97, R144: I_SET in 0.1 A in current mode, from the setpoint last sent. -/
def State.iSet (s : State) (n : Nat) : Int :=
  let l := s.lane n
  let p := s.ppl n
  let h := (s.hsl n).l
  let ramp : Int := let m := rampMag l.rampRate l.rampFrom.natAbs (s.now - l.rampAt); if l.rampFrom < 0 then -(m : Int) else m
  let rise := l.rampRate * 100 * (s.now - p.spTx.sentAt) / 1000000000
  match l.st with
  | .suspended | .rampDown => ramp
  | .energy | .degraded =>
    if p.dirHold.isSome then 0
    else if p.dirTarget != 0 then ramp
    else if l.dir = 2 then
      if s.exportOk n then
        -((min (min (min (s.dcLimit n) h.evDisI) ((s.slot n).ratedI / 100)) ((-p.spTx.i).toNat + rise) : Nat) : Int)
      else 0
    else ((min (min (if h.dynamic then s.dcLimit n else h.evTargetI.toNat) (s.dcLimit n)) (p.spTx.i.toNat + rise) : Nat) : Int)
  | .offline | .idle | .plugged | .identify | .authorise | .negotiate | .isolationTest | .precharge | .openCheck | .unlock
  | .fault => 0

/-- R134-R137: MODE of the present setpoint. -/
def State.modeSet (s : State) (n : Nat) : Nat :=
  match (s.lane n).st with
  | .isolationTest | .precharge => 1
  | .energy | .degraded | .suspended | .rampDown => if (s.ppl n).currentMode then 2 else 1
  | .offline | .idle | .plugged | .identify | .authorise | .negotiate | .openCheck | .unlock | .fault => 0

/-- R147: the setpoint a lane would send now; `counter` and the sending time follow at the sending. -/
def State.setpoint (s : State) (n : Nat) : Setpt :=
  let m := s.modeSet n
  let a := (s.lane n).pAlloc
  { mode := m, u := if m = 0 then 0 else s.uSet n, i := if m = 0 then 0 else if m = 1 then 20 else s.iSet n,
    p := if a < 0 && !s.exportOk n then 0 else a, permit := s.permit (s.groupOf n), side := s.rd.active == 1 }

/-- R147: the sixteen bytes of a setpoint message. -/
def Setpt.bytes (x : Setpt) (n : Nat) : Bytes :=
  let b := leBytes 1 x.counter ++ leBytes 1 x.mode ++ leBytes 2 x.u ++ leBytes 2 (satS 16 x.i) ++ leBytes 2 (satS 16 x.p) ++
    leBytes 1 n ++ leBytes 1 (b2n x.permit ||| 2 * b2n x.side) ++ leBytes 4 0
  b ++ leBytes 2 (crc16 b)

/-- R154: the setpoint path of a lane: 0-3 a CAN controller, 4 the Kryuz link. -/
def State.pathOf (s : State) (n : Nat) : Option Nat :=
  if (s.typ n).isDc then
    match s.cfg.group (s.groupOf n) with | some g => if g.path ≤ 4 then some g.path else none | none => none
  else none

/-- R146: the CAN entry of a lane: role 0 setpoint, 1 feedback. -/
def State.canEnt (s : State) (n role : Nat) : Option CanEnt :=
  s.cfg.cans.find? fun c => c.owner == laneOwner n && c.role == role

/-- R149, R150: PERIOD of a lane in ns. -/
def State.periodOf (s : State) (n : Nat) : Nat :=
  if s.pathOf n = some 4 then ms 100 else ms ((s.canEnt n 0).map (·.period) |>.getD 10)

/-- R149, R150: TIMEOUT of a lane in ns. -/
def State.fbTimeout (s : State) (n : Nat) : Nat :=
  if s.pathOf n = some 4 then ms 500 else ms ((s.canEnt n 1).map (·.timeout) |>.getD 50)

/-- R145, R146: a setpoint goes out on its controller, under its identifier there: its bytes, 8 of them in a classic frame. -/
def State.sendSetpoint (s : State) (n k : Nat) (x : Setpt) : State :=
  match s.canEnt n 0 with
  | some e =>
    if (s.can k).enable && !(s.can k).isOff then
      let b := if e.dlc = 8 then (x.bytes n).take 8 else x.bytes n
      { s with pp := { s.pp with canOut := s.pp.canOut ++ [(k, e.resource % 2 ^ 30, b)] } }.traceCan k (e.resource % 2 ^ 30) b
    else s
  | none => s

/-- R147: the setpoint a lane sends now, numbered after its last one. -/
def State.nextSetpoint (s : State) (n : Nat) : Setpt :=
  let c := ((s.ppl n).spTx.counter + 1) % 256
  { s.setpoint n with counter := c, sentAt := s.now, mirror := c }

/-- R103, R147: a lane has sent a setpoint. -/
def State.setpointSent (s : State) (n : Nat) (x : Setpt) : State :=
  let lim := s.dcLimit n
  (s.onPp n fun p => { p with spTx := x }).onLane n fun l => { l with iLimit := lim }

/-- R404, R408: the SETPOINT frame of a group: the setpoints of its DC lanes, to the cabinet bound to it; without one none goes out. -/
def State.kzSetpoints (s : State) (g : Nat) : State :=
  match s.kz.peers.find? fun x => x.role == 2 && x.group == g with
  | none => s
  | some c =>
    match s.kzPairOf c.eui with
    | none => s
    | some q =>
      let xs := ((s.lanesOf g).filter fun n => (s.typ n).isDc && (s.lane n).st != .offline).map fun n => (n, s.nextSetpoint n)
      let s := xs.foldl (fun (s : State) (x : Nat × Setpt) => s.setpointSent x.1 x.2) s
      s.kzUnicast 6 q.addr (leBytes 1 g ++ leBytes 1 xs.length ++ xs.flatMap fun x => x.2.bytes x.1)

/-- R103, R147, R149: a lane sends its setpoint when its period is over, or at once when MODE, a limit or PERMIT changed; on the
Kryuz link its group's setpoints go together. -/
def execSetpointSend (n : Nat) (s : State) : Out :=
  fin s (match s.pathOf n with
    | none => s
    | some k =>
      let old := (s.ppl n).spTx
      let x := s.setpoint n
      if (s.lane n).st == .offline || (s.now < old.sentAt + s.periodOf n && x.mode == old.mode && x.u == old.u && x.i == old.i &&
          x.p == old.p && x.permit == old.permit) then s
      else if k = 4 then s.kzSetpoints (s.groupOf n)
      else (s.sendSetpoint n k (s.nextSetpoint n)).setpointSent n (s.nextSetpoint n))

/-! ### Feedback (R148, R149) -/

/-- R148: the CRC of a feedback is good, or the frame is classic and carries none. -/
def fbCrcOk (classic : Bool) (b : Bytes) : Bool :=
  if classic then decide (8 ≤ b.length) else decide (16 ≤ b.length) && leNat (sub b 14 2) == crc16 (b.take 14)

/-- R148, R149, R283: a feedback message of a lane; STATE 4 raises PM_FAULT and faults the lane in ISOLATION_TEST to
SUSPENDED. -/
def State.feedback (s : State) (n : Nat) (classic : Bool) (b : Bytes) : State :=
  let old := (s.ppl n).fb
  let c := leNat (sub b 0 1)
  if !fbCrcOk classic b || (old.atT.isSome && c == old.counter) then s.onPp n fun p => { p with badFb := satU 16 (p.badFb + 1) }
  else
    let b := if classic then b.take 8 ++ List.replicate 8 0 else b
    let f : Feed := { counter := c, state := leNat (sub b 1 1) % 8, sink := bit (leNat (sub b 11 1)) 0, u := leNat (sub b 2 2),
                      i := ofBits 16 (leNat (sub b 4 2)), pAvail := leNat (sub b 6 2), faultCode := leNat (sub b 8 2),
                      temp := ofBits 8 (leNat (sub b 10 1)), atT := some s.now, lost := false }
    let gap := match old.atT with | some t => decide (t + s.fbTimeout n < s.now) | none => true
    let bad := leNat (sub b 1 1) == 4
    let s := s.onPp n fun p => { p with fb := f, fbGood := if bad then none else if gap then some s.now else some (p.fbGood.getD s.now) }
    if bad then
      let s := s.evLane .external n 0x1205 (leBytes 2 f.faultCode ++ leBytes 1 (toBits 8 f.temp))
      if LState.between .isolationTest .suspended (s.lane n).st then s.outputFault n 3 else s
    else s.settleOutput n

/-- R148: a feedback message arrives on the lane's CAN identifier. -/
def execFeedbackReceived (n : Nat) (b : Bytes) (s : State) : Out :=
  fin s (match s.canEnt n 1 with
    | some e => if (s.typ n).isDc && (match s.pathOf n with | some k => k < 4 && (s.can k).enable | none => false) then
        (s.traceCan ((s.pathOf n).getD 0) (e.resource % 2 ^ 30) b).feedback n (e.dlc == 8) b else s
    | none => s)

/-- R149: TIMEOUT has passed without an accepted feedback. -/
def execFeedbackTimeout (n : Nat) (s : State) : Out :=
  fin s (
    let p := s.ppl n
    let st := (s.lane n).st
    let runs := LState.between .isolationTest .suspended st
    match s.pathOf n with
    | none => s
    | some k =>
      if (runs || st == .rampDown || st == .openCheck) && !p.fb.lost && max (p.fb.atT.getD 0) p.isoAt + s.fbTimeout n ≤ s.now then
        let s := s.onPp n fun p => { p with fb := { p.fb with lost := true }, fbLost := satU 16 (p.fbLost + 1), fbGood := none }
        let s := s.evLane .external n 0x1204 (leBytes 1 k ++ leBytes 1 p.fb.state)
        if runs then s.outputFault n 3 else s
      else s)

/-! ### CAN controllers (R145, R153) -/

/-- R145: a controller enters bus-off: counted. -/
def execCanBusOff (k : Nat) (s : State) : Out :=
  fin s (s.onCan k fun c => if c.isOff then c else { c with isOff := true, busOff := satU 8 (c.busOff + 1), tec := 255 })

/-- R145: a bus-off controller has seen 128 × 11 recessive bits. -/
def execCanBusOffRecovery (k : Nat) (s : State) : Out :=
  fin s (s.onCan k fun c => if c.isOff then { c with isOff := false, tec := 0, recErr := 0 } else c)

/-- R153: a written PP_CANk takes effect once no lane using the controller is in ISOLATION_TEST to RAMP_DOWN. -/
def execPpCanApply (k : Nat) (s : State) : Out := fin s (if s.canFree k then s.onCan k PpCan.applied else s)

/-! ### Requests (R152) -/

/-- R152: PP_LANE_READ. -/
def execPpLaneRead (tk : Nat) (s : State) : Out :=
  fin s (s.onTicket tk 0x0220 fun t => s.chargingReq t (t.u 0 1) (s.complete t St.ok (s.ppLaneBytes (t.u 0 1))))

/-- R153: PP_CNT of a lane reads 0. -/
def PpLane.cleared (p : PpLane) : PpLane := { p with badFb := 0, fbLost := 0, contactFail := 0, lockFail := 0 }

/-- R152: PP_COUNT_CLEAR; 0xFF clears every lane. -/
def execPpCountClear (tk : Nat) (s : State) : Out :=
  fin s (s.onTicket tk 0x0221 fun t =>
    if t.u 0 1 = 0xFF then ((List.range 64).foldl (fun (s : State) n => s.onPp n PpLane.cleared) s).complete t St.ok
    else s.chargingReq t (t.u 0 1) ((s.onPp (t.u 0 1) PpLane.cleared).complete t St.ok))

end Sys2Proof.Machine
end

