-- ==== Sys2Proof/Machine/SafetyOps.lean ====
section
/-! DEFINITION. SafetyOps.lean: what the safety cores and the Graver share: grants of the cores (R248-R250), the loss of a PERMIT
(R85), a lane gate closed by the cores (R249), faults of shared dies (R13). -/
namespace Sys2Proof.Machine

/-- R248, R85: something happens to the conditions of the permits: the PERMIT balls follow, `f` gives the triggers of the lanes
it concerns, and the other lanes of a group whose PERMIT fell act with PERMIT_LOST. -/
def State.withPermits (s : State) (f : State → State) : State :=
  let old := s.sf.grv.permit
  (List.range 16).foldl (fun (s : State) g =>
    if bit old g && !s.permit g then (s.lanesOf g).foldl (fun (s : State) n => s.permitLost n) s else s) (f s.settlePermits)

/-- R183, R238, R248, R252, R263, R269: the safety cores grant a group: it has a GROUP entry, the block is good, no power-fail
warning stands, no Graver input,
latch or self-check stands against it, no hazardous disagreement, no group reaction and no lock. -/
def State.coreGrant (s : State) (g : Nat) : Bool :=
  (s.cfg.group g).isSome && s.sf.blockOk && s.en.warnAt.isNone && (s.permitLow g &&& 0xBE) == 0 && !s.dieBad 8 && (s.efg g).state != 5 &&
    !(s.efg g).held && !(s.sf.hazGroups.any fun x => x.1 == g)

/-- R249, R260, R263, R269: the safety cores grant a lane: it has a lane type, no confirmed pilot fault, no residual stage or
located isolation and no hazardous disagreement. -/
def State.coreLaneGrant (s : State) (n : Nat) : Bool :=
  (s.typ n).charges && s.sf.blockOk && !(s.sfl n).resGate && (s.hsl n).p.fault.isNone &&
    !(s.cfg.comps.any fun c => c.owner == laneOwner n && (s.wat c.comp).hazard)

/-- R183, R192: what ends a withdrawal ends: the group hold once no lane of the group holds ISOLATION, a lane's gate once its
ISOLATION and RESIDUAL have cleared. -/
def State.releaseHolds (s : State) : State :=
  let s := (List.range 16).foldl (fun (s : State) g =>
    if (s.efg g).held && !((s.lanesOf g).any fun n => (s.lane n).causes.contains .isolation) then
      s.onEfg g fun e => { e with held := false }
    else s) s
  (List.range 64).foldl (fun (s : State) n =>
    if (s.sfl n).resGate && !(s.lane n).causes.contains .isolation && !(s.lane n).causes.contains .residual then
      s.onSfl n fun l => { l with resGate := false }
    else s) s

/-- R250: the grants the safety cores would write now. -/
def State.settleGrants (s : State) : State :=
  let s := s.releaseHolds
  let s := (List.range 64).foldl (fun (s : State) n => let b := s.coreLaneGrant n; s.onSfl n fun l => { l with grant := b }) s
  { s with sf := { s.sf with groupGrant := maskOf ((List.range 16).filter fun g => s.coreGrant g) } }

/-- R183, R263: the safety cores withdraw a group's grant at once. -/
def State.withdrawGroup (s : State) (g : Nat) (f : State → State) : State :=
  let s := { s with sf := { s.sf with groupGrant := setBit s.sf.groupGrant g false } }
  (s.onGrv fun v => { v with grants := setBit v.grants g false }).withPermits f

/-- R249: the safety cores withdraw a lane's grant at once: its gated outputs go off. -/
def State.withdrawLane (s : State) (n : Nat) : State :=
  ((s.onSfl n fun l => { l with grant := false }).onGrv fun v => { v with laneGrants := setBit v.laneGrants n false }).driveGated

/-- R13, R11: the lanes whose work a shared die carries. -/
def State.lanesOnDie (s : State) (d : Nat) : List Nat :=
  (List.range 64).filter fun n =>
    (s.typ n).isLane && (d == 8 || d == tracerDie n || (d == pilotDie n && (s.typ n).charges) ||
      (s.cfg.outputs.any fun o => o.owner == laneOwner n && d == switchDie o.output))

/-- R13: the diagnostics event that names a die; the specification gives its code nowhere (log entry 1). -/
def State.evDie (s : State) (d : Nat) : State := (s.evMod .diag d 0 (s.free 16) (leBytes 1 d)).drawn

/-- R13, R85: a shared die is faulty: its bit sets and stands, the event names it, the lanes it carries react. -/
def State.dieFails (s : State) (d : Nat) : State :=
  if s.dieBad d then s
  else
    let s := { s with ident := { s.ident with dieFault := setBit s.ident.dieFault d true,
                                              dieStanding := setBit s.ident.dieStanding d true } }
    let s := s.evDie d
    if d = 13 then (List.range 64).foldl (fun (s : State) n => s.plateFault n) s
    else (s.lanesOnDie d).foldl (fun (s : State) n => s.faultAny n .dieFault) s

/-- R205: the Tracer channels of a lane, those of slot n+1 of an AC3 lane included. -/
def State.laneChans (s : State) (n : Nat) : List Nat :=
  (List.range (if s.typ n == .ac3 then 10 else 5)).filterMap fun j => if s.cfg.chanFunc (5 * n + j) = 0 then none else some (5 * n + j)

/-- R216: the inputs a lane counts on: PULSE_IN and its partner. -/
def State.laneInputs (s : State) (n : Nat) : List Nat :=
  match s.cfg.pulse (s.slot n).pulseIn with
  | some p => if p.partner < 32 then [p.input, p.partner] else [p.input]
  | none => []

/-- R13, R205, R216, R509: a source of DIE_FAULT still stands for the lane. -/
def State.dieHolds (s : State) (n : Nat) : Bool :=
  s.standing n == some .dieFault || s.dieBad 13 || bit s.rs.rail12Lanes n || ((s.laneChans n).any fun c => (s.chan c).fault) ||
    (s.laneInputs n).any fun i => (s.pls i).fault != 0

/-- R100: DIE_FAULT of a lane clears once none of its sources stands. -/
def State.settleDie (s : State) (n : Nat) : State := if s.dieHolds n then s else s.clearCause n .dieFault 0

/-- R13, R100: a shared die is found sound again; DIE_FAULT of the lanes it carried clears at its source. -/
def State.dieSound (s : State) (d : Nat) : State :=
  if s.dieBad d then
    let s := { s with ident := { s.ident with dieStanding := setBit s.ident.dieStanding d false } }
    (List.range 64).foldl (fun (s : State) n => s.settleDie n) s
  else s

end Sys2Proof.Machine
end

