-- ==== Sys2Proof/Machine/EarthFault.lean ====
section
/-! DEFINITION. EarthFault.lean: insulation monitoring of the groups and residual current of the lanes (R173-R196, R544, R545). -/
namespace Sys2Proof.Machine

/-! State codes of R179. -/
namespace Iso
abbrev idle : Nat := 0
abbrev normal : Nat := 1
abbrev warning : Nat := 2
abbrev fault : Nat := 3
abbrev invalid : Nat := 4
abbrev locked : Nat := 5
end Iso

/-- R195: an earth-fault event of a group. -/
def State.evGroup (s : State) (cls : EvClass) (g code : Nat) (data : Bytes) : State := s.evMod cls s.rd.active g code data

/-- R176: the connected lanes of a group: DC lanes with DCNEG commanded closed. -/
def State.connected (s : State) (g : Nat) : List Nat := (s.lanesOf g).filter fun n => (s.typ n).isDc && (s.ppl n).dcneg

/-- R177, R190: a lane's fluxgate gives an estimate. -/
def State.fluxOk (s : State) (n : Nat) : Bool := bit (s.slot n).options 0 && !(s.efl n).flux

/-- R179: a conductance in pS as an insulation in Ω, reported from 1 kΩ to 10 MΩ; the rounding is open (log entry 1). -/
def State.ohmOf (s : State) (g : Nat) : Nat := if g = 0 then 10000000 else max 1000 (min 10000000 (s.roundDiv (10 ^ 12) g))

/-- R183, R184: a lane's share in whole per cent, rounded down. -/
def shareOf (gEst gn : Nat) : Nat := if gEst = 0 then 0 else 100 * gn / gEst

/-- R184: lanes by the greatest conductance, the lowest lane first among equals. -/
def rankLanes (l : List (Nat × Nat)) : List (Nat × Nat) :=
  l.mergeSort fun a b => decide (b.2 < a.2) || (a.2 == b.2 && decide (a.1 ≤ b.1))

/-- R184: the location: a lane, 0xFE CABINET or 0xFF unlocated. -/
def State.locate (s : State) (g : Nat) (f : ChipFit) : Nat :=
  let e := s.efg g
  match e.state, e.located, rankLanes f.lanes with
  | 3, some n, _ => n
  | st, _, top :: _ =>
    if st = Iso.warning && 50 ≤ shareOf f.gEst top.2 then top.1
    else if (f.lanes.map fun x => shareOf f.gEst x.2).sum < 50 then 0xFE else 0xFF
  | _, _, [] => 0xFE

/-- R184, R195: ISO_LOCATED at an entry, or when the named lane changes. -/
def State.tellLocation (s : State) (g : Nat) (f : ChipFit) (always : Bool) : State :=
  let w := s.locate g f
  let e := s.efg g
  let old := if e.locValid then e.locLane else if e.locCabinet then 0xFE else 0xFF
  if !always && w == old then s
  else
    let gn := ((f.lanes.find? fun x => x.1 == w).map (·.2)).getD 0
    let r := if w < 64 then s.ohmOf gn else 0
    let sh := if w < 64 then shareOf f.gEst gn else 0
    let (n2, sh2) := match (rankLanes f.lanes).drop 1 with | x :: _ => (x.1, shareOf f.gEst x.2) | [] => (0, 0)
    let s := s.onEfg g fun e =>
      { e with locLane := if w < 64 then w else 0, locValid := decide (w < 64), locCabinet := w == 0xFE, locShare := satU 8 sh,
               locR := r, locSecond := n2, locShare2 := satU 8 sh2 }
    (s.evGroup .safety g 0xD002 (leBytes 1 g ++ leBytes 1 w ++ leBytes 1 (satU 8 sh) ++ leBytes 4 r ++ leBytes 1 n2 ++
      leBytes 1 (satU 8 sh2))).drawn

/-- R196: R_OHM of a group: 0xFFFF_FFFF while IDLE. -/
def EfGroup.rOhm (e : EfGroup) : Nat := if e.state = Iso.idle then 0xFFFFFFFF else e.rGrp

/-- R196: C_NF of a group: 0xFFFF while IDLE or INVALID. -/
def EfGroup.cNano (e : EfGroup) : Nat := if e.state = Iso.idle || e.state = Iso.invalid then 0xFFFF else e.cNf

/-- R195: a group takes a state: ISO_STATE, and the counters of R196. -/
def State.isoState (s : State) (g new : Nat) : State :=
  let e := s.efg g
  if e.state = new then s
  else
    let s := s.onEfg g fun e =>
      { e with state := new, cntValid := if new = Iso.invalid then 0 else e.cntValid,
               invalidAt := if new = Iso.invalid then some s.now else none }
    let s := { s with ef := { s.ef with isoFaults := satU 16 (s.ef.isoFaults + b2n (new == Iso.fault)),
                                        isoWarnings := satU 16 (s.ef.isoWarnings + b2n (new == Iso.warning)) } }
    s.evGroup .safety g 0xD001 (leBytes 1 g ++ leBytes 1 new ++ leBytes 1 e.state ++
      leBytes 4 (s.efg g).rOhm ++ leBytes 2 (s.efg g).cNano)

/-- R185: three group reactions within 3,600 s lock the group. -/
def State.lockGroup (s : State) (g : Nat) : State :=
  let r := (s.efg g).reactions
  if r.length < 3 then s
  else
    let s := (s.onEfg g fun e => { e with locked := true }).isoState g Iso.locked
    s.evGroup .safety g 0xD006 (leBytes 1 g ++ leBytes 1 (satU 8 r.length) ++
      leBytes 2 (satU 16 ((s.now - r.getLast?.getD s.now) / 1000000000)))

/-- R183: the group reaction: the DC lanes from ISOLATION_TEST to SUSPENDED enter FAULT and the PERMIT is withdrawn. -/
def State.groupReaction (s : State) (g : Nat) : State :=
  let s := s.onEfg g fun e =>
    { e with located := none, verifyEnd := none, reacted := true, held := true,
             reactions := s.now :: e.reactions.filter fun t => s.now < t + sec 3600 }
  let s := s.withdrawGroup g fun s =>
    (s.lanesOf g).foldl (fun (s : State) n =>
      if (s.typ n).isDc && LState.between .isolationTest .suspended (s.lane n).st then s.hazard n .isolation else s) s
  s.lockGroup g

/-- R183: the decision at the entry into FAULT. -/
def State.decideFault (s : State) (g : Nat) (f : ChipFit) (invalid : Bool) : State :=
  let th := s.isoFaultOhm g
  let best := match rankLanes f.lanes with | x :: _ => some x | [] => none
  let loc := match best with
    | some (n, gn) => if !invalid && decide (10 ^ 12 ≤ gn * th) && decide ((f.gEst - gn) * th < 10 ^ 12) then some n else none
    | none => none
  let s := s.onEfg g fun e => { e with located := loc, reacted := false }
  let s := s.tellLocation g f true
  match loc with
  | some n =>
    let s := s.onEfg g fun e => { e with verifyEnd := some (s.now + ms 480) }
    (((s.onSfl n fun l => { l with resGate := true }).withdrawLane n).hazard n .isolation)
  | none => s.groupReaction g

/-- R179, R184: a group enters a state for which its location matters. -/
def State.isoEnter (s : State) (g new : Nat) (f : ChipFit) (invalid : Bool) : State :=
  let s := s.isoState g new
  if new = Iso.warning then (s.onEfg g fun e => { e with located := none }).tellLocation g f true
  else if new = Iso.fault then s.decideFault g f invalid
  else s

/-- R179: the counts of consecutive counted updates after an update of conductance `x`. -/
def State.isoCount (s : State) (g x : Nat) (invalid : Bool) : State :=
  let w := s.isoWarnOhm g
  let low := !ohmAtLeast x (s.isoFaultOhm g)
  let warn := !low && !ohmAtLeast x w
  let norm := decide (x * w * 11 ≤ 10 ^ 13)
  s.onEfg g fun e =>
    if invalid then { e with cntNormal := 0, cntWarn := 0, cntFault := 0, cntValid := 0 }
    else { e with cntNormal := if norm then min 2 (e.cntNormal + 1) else 0, cntWarn := if warn then min 2 (e.cntWarn + 1) else 0,
                  cntFault := if low then min 2 (e.cntFault + 1) else 0, cntValid := min 2 (e.cntValid + 1) }

/-- R179, R183, R545: what a counted update does to the state of a group. -/
def State.isoStep (s : State) (g : Nat) (f : ChipFit) (invalid : Bool) : State :=
  let s := s.isoCount g f.gEst invalid
  let e := s.efg g
  let warnOk := ohmAtLeast f.gEst (s.isoWarnOhm g)
  let faultOk := ohmAtLeast f.gEst (s.isoFaultOhm g)
  match e.state with
  | 0 =>
    if invalid then s.isoEnter g Iso.invalid f true
    else s.isoEnter g (if warnOk then Iso.normal else Iso.warning) f false
  | 4 =>
    if invalid then
      (match e.invalidAt with
        | some t => if t + sec 1 ≤ s.now then s.isoEnter g Iso.fault f true else s
        | none => s)
    else if e.cntValid < 2 then s
    else if e.cntFault = 2 then s.isoEnter g Iso.fault f false
    else s.isoEnter g (if warnOk then Iso.normal else Iso.warning) f false
  | 3 =>
    if e.reacted then s.tellLocation g f false
    else
      let s := if !invalid && faultOk then s.onEfg g fun e => { e with verifyEnd := none } else s
      if (s.efg g).verifyEnd.isSome then s
      else if invalid then s.isoEnter g Iso.invalid f true
      else if e.cntNormal = 2 then s.isoEnter g Iso.normal f false
      else if e.cntWarn = 2 then s.isoEnter g Iso.warning f false
      else if e.cntFault = 2 then s.decideFault g f false
      else s.tellLocation g f false
  | 5 => s
  | st =>
    if invalid then s.isoEnter g Iso.invalid f true
    else if e.cntFault = 2 then s.isoEnter g Iso.fault f false
    else if e.cntWarn = 2 && st != Iso.warning then s.isoEnter g Iso.warning f false
    else if e.cntNormal = 2 && st != Iso.normal then s.isoEnter g Iso.normal f false
    else if st = Iso.warning then s.tellLocation g f false else s

/-- R182: an update while lanes of the group are in their cable check: the count since the outlet came within 2 %, the
settling, the lowest value of the window. -/
def State.checkUpdate (s : State) (g : Nat) (f : ChipFit) (counted : Bool) : State :=
  (s.connected g).foldl (fun (s : State) n =>
    if (s.lane n).st != .isolationTest then s
    else
      let gn := if s.fluxOk n then ((f.lanes.find? fun x => x.1 == n).map (·.2)).getD 0 else 0
      let v := max 100000 (min 1000000000 (max f.gEst gn))
      let s := s.onEfl n fun e =>
        if (s.ppl n).nearSince.isNone then { e with settleN := 0, settled := false, lastV := if counted then some v else e.lastV }
        else
          let k := e.settleN + 1
          let close := match e.lastV with
            | some u => decide ((max u v - min u v) * 20 ≤ v) || (u == 100000 && v == 100000)
            | none => false
          { e with settleN := k, settled := e.settled || (decide (8 ≤ k) && counted && close),
                   lastV := if counted then some v else e.lastV,
                   winLow := if (s.ppl n).phase = 5 then some (max v (e.winLow.getD 0)) else e.winLow }
      s.cableStep n) s

/-- R186: foreign codes of a counted update. -/
def State.crossUpdate (s : State) (g : Nat) (f : ChipFit) : State :=
  if !s.ef.crossEn then s
  else f.foreign.foldl (fun (s : State) (n, code, ua) =>
    let c := (((s.efl n).cross.find? fun x => x.1 == code).map (·.2)).getD (0, 0)
    let k := if 100 ≤ ua then min 2 (c.1 + 1) else 0
    let due := k == 2 && (c.2 == 0 || decide (c.2 + sec 3600 ≤ s.now))
    let s := s.onEfl n fun e =>
      { e with cross := (e.cross.filter fun x => x.1 != code) ++ [(code, k, if due then s.now else c.2)] }
    if due then
      s.raise { cls := .diag, die := s.rd.active, unit := n, lane := n, code := 0xD005, time := s.now,
                data := leBytes 1 g ++ leBytes 1 code ++ leBytes 4 ua }
    else s) s

/-- R178: an update whose eight chips overlap a contactor command and the 60 ms after it. -/
def EfGroup.disturbed (e : EfGroup) (b : Nat) : Bool :=
  e.disturbedTo != 0 && decide (e.disturbedFrom < b) && decide (b < e.disturbedTo + ms 320)

/-- R544, R177, R178: a group at a chip boundary. -/
def State.groupChip (s : State) (f : ChipFit) : State :=
  let g := f.group
  let e := s.efg g
  if (s.cfg.group g).isNone then s
  else if (s.connected g).isEmpty then
    let s := s.onEfg g fun e =>
      { e with chips := 0, skipped := 0, rGrp := 0xFFFFFFFF, cNf := 0xFFFF, stFail := false, coupOpen := false, drvFails := 0, cntNormal := 0, cntWarn := 0,
               cntFault := 0, cntValid := 0, located := none, verifyEnd := none, reacted := false, testDue := false }
    let s := (s.lanesOf g).foldl (fun (s : State) n => s.onEfl n fun x => { x with rLane := 0xFFFFFFFF }) s
    if e.state = Iso.idle || e.state = Iso.locked then s else s.isoState g Iso.idle
  else
    let drv := if f.driverOk then 0 else min 2 (e.drvFails + 1)
    let s := if drv = 2 && e.drvFails < 2 then { s with ef := { s.ef with testFails := satU 16 (s.ef.testFails + 1) } } else s
    let s := s.onEfg g fun e => { e with chips := min 9 (e.chips + 1), drvFails := drv, testDue := e.testDue || e.chips = 0 }
    if (s.efg g).chips < 9 then s
    else
      let invalid := decide (f.cNf < 10) || decide (20000 < f.cNf) || e.stFail || drv == 2
      let counted := !e.disturbed s.now || decide (10 ≤ e.skipped)
      let lanes := f.lanes.filter fun x => (s.connected g).contains x.1 && s.fluxOk x.1
      let f := { f with lanes := lanes }
      let s := s.onEfg g fun e =>
        { e with rGrp := s.ohmOf f.gEst, cNf := if invalid then 0xFFFF else satU 16 f.cNf,
                 skipped := if counted then 0 else e.skipped + 1, coupOpen := decide (f.cNf < 10) }
      let s := if f.cNf < 10 && !e.coupOpen then { s with ef := { s.ef with testFails := satU 16 (s.ef.testFails + 1) } } else s
      let s := (s.lanesOf g).foldl (fun (s : State) n => s.onEfl n fun x =>
        { x with rLane := match lanes.find? fun y => y.1 == n with | some y => s.ohmOf y.2 | none => 0xFFFFFFFF }) s
      let s := s.drawn
      let s := if counted then (s.isoStep g f invalid).crossUpdate g f else s
      s.checkUpdate g f counted

/-- R175, R177: a chip boundary: TIME a multiple of 40 ms. -/
def execChipBoundary (fits : List ChipFit) (s : State) : Out :=
  fin s (if s.now % ms 40 != 0 then s else fits.foldl State.groupChip s)

/-- R183: no counted update has shown the group sound within 480 ms of isolating a lane. -/
def execIsolationVerifyDeadline (g : Nat) (s : State) : Out :=
  fin s (match (s.efg g).verifyEnd with
    | some t => if t ≤ s.now then s.groupReaction g else s
    | none => s)

/-- R185: 10 s after every contactor of the lane is confirmed open its ISOLATION cause clears. -/
def execIsolationCauseClear (n : Nat) (s : State) : Out :=
  fin s (match (s.efl n).openSince with
    | some t => if t + sec 10 ≤ s.now then s.clearCause n .isolation 0 else s
    | none => s)

/-! ### Self-tests (R187) -/

/-- R187: a cable-check measurement window of the group is open. -/
def State.windowOpen (s : State) (g : Nat) : Bool :=
  (s.lanesOf g).any fun n => (s.lane n).st == .isolationTest && (s.ppl n).phase == 5

/-- The test of a group starts. -/
def State.startTest (s : State) (g : Nat) (tk : Option Nat) : State :=
  s.onEfg g fun e => { e with testing := true, testTicket := tk, testFrom := s.now, testDue := false }

/-- R187: a current-sense test falls due: at the first connection, or TEST_MIN after the last. -/
def execCurrentSenseTest (g : Nat) (s : State) : Out :=
  fin s (
    let e := s.efg g
    if !e.testing && !(s.connected g).isEmpty && !s.windowOpen g &&
        (e.testDue || (e.state != Iso.idle && decide (e.testAt + sec (60 * s.ef.testMin) ≤ s.now))) then s.startTest g none else s)

/-- R187, R194, R195: the two symbols of the test have passed: `nA` is the increase in correlated driver current. A failure makes
the group INVALID. -/
def execCurrentSenseTestEnd (g nA : Nat) (s : State) : Out :=
  fin s (
    let e := s.efg g
    if !e.testing || s.now < e.testFrom + ms 640 then s
    else
      let want := (match s.cfg.group g with | some x => x.amplitude | none => 0) * 10000
      let ok := decide ((max nA want - min nA want) * 20 ≤ want)
      let res := if e.drvFails = 2 then 1 else if !ok then 2 else if e.coupOpen then 3 else 0
      let s := s.onEfg g fun e =>
        { e with testing := false, testTicket := none, testAt := s.now, testPass := ok, testFail := !ok, stFail := !ok }
      let s := { s with ef := { s.ef with lastMs := s.nowMs, testFails := satU 16 (s.ef.testFails + b2n (!ok)) } }
      let s := s.evGroup .diag g 0xD004 (leBytes 1 g ++ leBytes 1 res ++ leBytes 4 nA)
      let s := if !ok && (e.state = Iso.normal || e.state = Iso.warning) then s.isoState g Iso.invalid else s
      match e.testTicket with
      | some tk => s.onTicket tk 0x0F11 fun t => s.complete t St.ok (leBytes 1 res)
      | none => s)

/-! ### Residual current (R189-R193) -/

/-- R191: the mains period in ns: measured at ZC, 20 ms without a valid ZC. -/
def State.mainsPeriod (s : State) : Nat :=
  if s.zcOk && !s.kz.zcPers.isEmpty then s.kz.zcPers.sum / s.kz.zcPers.length else ms 20

/-- R192, R195: a residual trip: RESIDUAL_TRIP, AC_MAIN gated off, FAULT with cause RESIDUAL. -/
def State.residualTrip (s : State) (n stage : Nat) (dc : Int) (ac : Nat) : State :=
  let s := { s with ef := { s.ef with resTrips := satU 16 (s.ef.resTrips + 1) } }
  let s := s.evLane .safety n 0xD003 (leBytes 1 stage ++ leBytes 4 (satS 32 dc) ++ leBytes 4 (satU 32 ac))
  ((s.onSfl n fun l => { l with resGate := true }).withdrawLane n).hazard n .residual

/-- R192: the residual stages. `mp`, `m5` and `m200` are the means in µA of the fluxgate current over the last 1, 5 and 200 mains
periods, `rms` the rms about the mean over the last period; `period` tells that a mains period ends. -/
def execResidualEval (n : Nat) (period : Bool) (mp m5 m200 : Int) (rms : Nat) (s : State) : Out :=
  fin s (
    if !(bit (s.slot n).options 0) then s
    else
      let z := (s.efl n).zeroUa
      let s := if period then s.onEfl n fun e => { e with iDc := (mp - z) / 10, iAc := satU 16 (rms / 10) } else s
      if !(s.typ n).isAc || !(s.ppl n).acMain then s
      else if 150000 ≤ (mp - z).natAbs then s.residualTrip n 2 (mp - z) rms
      else if !period then s
      else
        let k := if 25000 ≤ rms then min 5 ((s.efl n).acRuns + 1) else 0
        let s := s.onEfl n fun e => { e with acRuns := k }
        if 45000 ≤ (m5 - z).natAbs then s.residualTrip n 1 (m5 - z) rms
        else if 5000 ≤ (m200 - z).natAbs && (s.efl n).zeroAt + 200 * s.mainsPeriod ≤ s.now then s.residualTrip n 0 (m200 - z) rms
        else if k = 5 then s.residualTrip n 3 (mp - z) rms
        else s)

/-- R190: a fluxgate fault: on an AC lane a residual trip of stage 5, on a DC lane its estimate is withdrawn. -/
def execFluxgateFault (n : Nat) (s : State) : Out :=
  fin s (
    if !(bit (s.slot n).options 0) then s
    else
      let e := s.efl n
      let s := s.onEfl n fun e => { e with flux := true, rLane := 0xFFFFFFFF }
      if (s.typ n).isAc then s.residualTrip n 5 (e.iDc * 10) (e.iAc * 10) else s)

/-! ### Registers and requests (R194, R196) -/

/-- R196: EF_STATUS. -/
def State.efStatus (s : State) : Nat :=
  let m (k : Nat) : Nat := maskOf ((List.range 16).filter fun g => (s.efg g).state == k)
  regOf [(0, 16, m Iso.fault), (16, 16, m Iso.warning), (32, 16, m Iso.invalid),
    (48, 16, maskOf ((List.range 16).filter fun g => (s.efg g).locked))]

/-- R196: EF_GROUP of a group. -/
def State.efGroup (s : State) (g : Nat) : Nat :=
  let e := s.efg g
  regOf [(0, 32, e.rOhm), (32, 16, e.cNano), (48, 3, e.state), (52, 3, (match s.cfg.group g with | some x => x.code | none => 0)),
    (55, 1, b2n e.testing), (56, 8, e.skipped)]

/-- R196: EF_THRESH of a group. -/
def State.efThresh (s : State) (g : Nat) : Nat := regOf [(0, 32, s.isoWarnOhm g), (32, 32, s.isoFaultOhm g)]

/-- R196: EF_LOC of a group. -/
def State.efLoc (s : State) (g : Nat) : Nat :=
  let e := s.efg g
  regOf [(0, 6, e.locLane), (6, 1, b2n e.locValid), (7, 1, b2n e.locCabinet), (8, 8, e.locShare), (16, 32, e.locR),
    (48, 6, e.locSecond), (54, 8, e.locShare2)]

/-- R196: EF_LANE of a lane. -/
def State.efLaneReg (s : State) (n : Nat) : Nat :=
  let e := s.efl n
  regOf [(0, 32, e.rLane), (32, 16, satS 16 e.iDc), (48, 16, e.iAc)]

/-- R196: EF_TEST. -/
def State.efTest (s : State) : Nat :=
  regOf [(0, 16, maskOf ((List.range 16).filter fun g => (s.efg g).testPass)),
    (16, 16, maskOf ((List.range 16).filter fun g => (s.efg g).testFail)), (32, 32, s.ef.lastMs)]

/-- R196: EF_COUNT. -/
def State.efCount (s : State) : Nat :=
  regOf [(0, 16, s.ef.isoFaults), (16, 16, s.ef.isoWarnings), (32, 16, s.ef.resTrips), (48, 16, s.ef.testFails)]

/-- R196: a write of EF_COUNT. -/
def State.writeEfCount (s : State) (v : Nat) : State :=
  { s with ef := { s.ef with isoFaults := onesClear s.ef.isoFaults v 0 16, isoWarnings := onesClear s.ef.isoWarnings v 16 16,
                             resTrips := onesClear s.ef.resTrips v 32 16, testFails := onesClear s.ef.testFails v 48 16 } }

/-- R196: EF_CFG. -/
def State.efCfg (s : State) : Nat := regOf [(0, 8, s.ef.testMin), (8, 1, b2n s.ef.crossEn)]

/-- R196: a write of EF_CFG; 0 minutes are stored as 1. -/
def State.writeEfCfg (s : State) (v : Nat) : State :=
  { s with ef := { s.ef with testMin := max 1 (fieldOf v 0 8), crossEn := flagOf v 8 } }

/-- R194: a request about a group with an injection driver. -/
def State.efReq (s : State) (t : Ticket) (f : Nat → State) : State :=
  match s.cfg.group (t.u 0 1) with
  | some x => if x.driver = 0xFF then s.complete t St.badArgument else f x.group
  | none => s.complete t St.badArgument

/-- R194: EF_READ. -/
def execEfRead (tk : Nat) (s : State) : Out :=
  fin s (s.onTicket tk 0x0F10 fun t => s.efReq t fun g =>
    s.complete t St.ok (regBytes (s.efGroup g) ++ regBytes (s.efThresh g) ++ regBytes (s.efLoc g) ++ regBytes s.efTest ++
      regBytes s.efCount))

/-- R194, R187: EF_SELFTEST starts a current-sense test, whose end completes it. -/
def execEfSelftest (tk : Nat) (s : State) : Out :=
  fin s (s.onTicket tk 0x0F11 fun t => s.efReq t fun g =>
    if (s.efg g).state = Iso.idle then s.complete t St.refusedState
    else if (s.efg g).testing || s.windowOpen g then
      (if (s.efg g).testTicket = some tk then s else s.complete t St.busy)
    else s.startTest g (some tk))

/-- R185, R194: EF_GROUP_CLEAR ends LOCKED and starts the count from zero. -/
def execEfGroupClear (tk : Nat) (s : State) : Out :=
  fin s (s.onTicket tk 0x0F12 fun t => s.efReq t fun g =>
    if !(s.efg g).locked then s.complete t St.refusedState
    else ((s.onEfg g fun e => { e with locked := false, reactions := [] }).isoState g Iso.idle).complete t St.ok)

/-- R194: EF_COUNT_CLEAR. -/
def execEfCountClear (tk : Nat) (s : State) : Out :=
  fin s (s.onTicket tk 0x0F13 fun t =>
    { s with ef := { s.ef with isoFaults := 0, isoWarnings := 0, resTrips := 0, testFails := 0 } }.complete t St.ok)

end Sys2Proof.Machine
end

