-- ==== Sys2Proof/Machine/Graver.lean ====
section
/-! DEFINITION. Graver.lean: the safety functions: grants, comparators, safety inputs, disagreement, stipple pulses, guard test and
the safety parameter block (R248-R275). -/
namespace Sys2Proof.Machine

/-! ### Grants (R250-R252) -/

/-- R250: the grant word of the safety cores, with its counter and whether its CRC-8 is good, as the Graver finds it. -/
def execGrantWord (ctr : Nat) (crcOk : Bool) (s : State) : Out :=
  fin s (
    let v := s.sf.grv
    let s := if v.wd && !v.wdTold then
        (s.onGrv fun v => { v with wdTold := true }).evMod .safety s.rd.active 0 0x2008
          (leBytes 4 (satU 32 ((s.now - v.takenAt) / 1000)))
      else s
    let s := s.settleGrants
    let taken := crcOk && v.powered && v.counter != some (ctr % 256) && s.rd.holder == s.rd.active
    let s := if taken then
        s.onGrv fun v => { v with grants := s.sf.groupGrant, laneGrants := maskOf ((List.range 64).filter fun n => (s.sfl n).grant),
                                  counter := some (ctr % 256), takenAt := s.now, everTaken := true, wd := false, wdTold := false }
      else s
    s.withPermits id)

/-- R250: no grant word taken for 8 ms: every grant counts as withdrawn. -/
def execGrantWatchdogExpiry (s : State) : Out :=
  fin s (
    let v := s.sf.grv
    if v.everTaken && !v.wd && v.takenAt + ms 8 ≤ s.now then
      let s := s.onGrv fun v => { v with wd := true, wdTold := false }
      { s with sf := { s.sf with grantTimeouts := satU 16 (s.sf.grantTimeouts + 1) } }.withPermits id
    else s)

/-- R251: VGRV rises: permits low, lane gates closed, latches clear, until the block is loaded and a grant word taken. -/
def execVgrvRise (s : State) : Out :=
  fin s (
    let b := s.sf.block
    let s := { s with sf := { s.sf with grvPar := { discTime := b.discTime, estMask := b.estMask, grdMask := b.grdMask,
                                                    xtripMask := b.xtripMask } } }
    (s.onGrv fun v => { v with powered := true, loaded := s.sf.blockOk, latches := [], taken := [], inside := [], grants := 0, laneGrants := 0,
                               counter := none, everTaken := false, wd := false, wdTold := false }).withPermits id)

/-- R252, R13: a self-check of the Graver fails: every permit low and every lane gate closed until a module reset; the Graver die is
faulty and every lane enters FAULT. -/
def execGraverSelfCheckFail (s : State) : Out :=
  fin s ((s.onGrv fun v => { v with selfFail := true }).withPermits fun s => s.dieFails 8)

/-! ### Comparators (R254-R257, R262, R263) -/

/-- R255: a comparator is armed while its owner lane, or a lane of its owner group, is not OFFLINE. -/
def State.armed (s : State) (c : Comp) : Bool :=
  match ownerLane c.owner, ownerGroup c.owner with
  | some n, _ => (s.lane n).st != .offline
  | none, some g => (s.lanesOf g).any fun n => (s.lane n).st != .offline
  | none, none => false

/-- R256: the lanes a comparator concerns. -/
def State.compLanes (s : State) (c : Comp) : List Nat :=
  match ownerLane c.owner, ownerGroup c.owner with
  | some n, _ => [n]
  | none, some g => (s.lanesOf g).filter fun n => LState.between .plugged .suspended (s.lane n).st
  | none, none => []

/-- R256, R193: an armed threshold is crossed (`edge` 0 HIGH, 1 LOW): the latch sets and the PERMIT falls, the lanes of the
comparator enter FAULT with its cause; RESIDUAL on an AC lane is residual stage 4. -/
def execComparatorCrossing (k edge : Nat) (sample : Int) (s : State) : Out :=
  fin s (match s.cfg.comp k with
    | none => s
    | some c =>
      let cause := (Cause.ofCompCode c.cause).getD .overcurrent
      if !s.armed c || !bit c.flags edge || s.sf.grv.latches.contains k || 1 < edge then s
      else
        let g := (s.cfg.groupOfOwner c.owner).getD 0
        let s := s.onGrv fun v => { v with latches := v.latches ++ [k], inside := v.inside.filter fun x => x.1 != k }
        let s := { s with sf := { s.sf with trips := satU 16 (s.sf.trips + 1) } }
        let s := s.evMod .safety 8 k 0x2001
          (leBytes 1 k ++ leBytes 1 g ++ leBytes 1 c.cause ++ leBytes 1 edge ++ leBytes 4 (satS 32 sample))
        let s := match ownerLane c.owner with
          | some n => if cause == Cause.residual && (s.typ n).isAc then
              { s with ef := { s.ef with resTrips := satU 16 (s.ef.resTrips + 1) } }.raise
                { cls := .safety, die := 8, unit := n, lane := n, code := 0xD003, time := s.now,
                  data := leBytes 1 4 ++ leBytes 4 (satS 32 ((s.efl n).iDc * 10)) ++ leBytes 4 ((s.efl n).iAc * 10) }
            else s
          | none => s
        let lanes := s.compLanes c
        let s := s.withPermits fun s => lanes.foldl (fun (s : State) n => s.hazard n cause) s
        s.onGrv fun v =>
          { v with taken := v.taken ++ (lanes.filter fun n => (s.lane n).causes.contains cause).map fun n => (k, n) })

/-- R256: the watched input has stayed inside the watch window for 100 ms and every lane that took the cause has had it cleared. -/
def execTripLatchClear (k : Nat) (s : State) : Out :=
  fin s (
    let v := s.sf.grv
    let cause := match s.cfg.comp k with | some c => (Cause.ofCompCode c.cause).getD .overcurrent | none => .overcurrent
    let inside := match v.inside.find? fun x => x.1 == k with | some x => decide (x.2 + ms 100 ≤ s.now) | none => false
    if v.latches.contains k && inside && v.taken.all fun x => x.1 != k || !(s.lane x.2).causes.contains cause then
      (s.onGrv fun v => { v with latches := v.latches.filter (· != k), taken := v.taken.filter fun x => x.1 != k }).withPermits id
    else s)

/-- R262: every sample lies inside `p` % of each armed threshold. -/
def Comp.allInside (c : Comp) (p lo hi : Int) : Bool :=
  (!bit c.flags 0 || decide (hi * 100 ≤ p * c.high)) && (!bit c.flags 1 || decide (p * c.low ≤ lo * 100))

/-- R262, R263: every sample lies beyond `p` % of an armed threshold. -/
def Comp.allBeyond (c : Comp) (p lo hi : Int) : Bool :=
  (bit c.flags 0 && decide (p * c.high < lo * 100)) || (bit c.flags 1 && decide (hi * 100 < p * c.low))

/-- R274: DISAGREE. -/
def State.evDisagree (s : State) (c : Comp) (kind hazard st : Nat) : State :=
  let d := leBytes 1 kind ++ leBytes 1 c.comp ++ leBytes 1 hazard ++ leBytes 1 st
  match ownerLane c.owner with
  | some n => s.evLane .safety n 0x2004 d
  | none => s.evMod .safety s.rd.active c.comp 0x2004 d

/-- R262: a disagreement of a comparator begins. -/
def State.disagree (s : State) (c : Comp) (hazard : Bool) : State :=
  let s := s.onWatch c.comp fun w => { w with stands := true, hazard := w.hazard || hazard }
  let s := { s with sf := { s.sf with disagrees := satU 16 (s.sf.disagrees + 1) } }
  s.evDisagree c 0 (b2n hazard) 1

/-- R263: samples beyond a threshold with no latch set: grants withdrawn, FAULT with the comparator's cause. -/
def State.hazardousDisagree (s : State) (c : Comp) : State :=
  let cause := (Cause.ofCompCode c.cause).getD .overcurrent
  let g := (s.cfg.groupOfOwner c.owner).getD 0
  let lanes := s.compLanes c
  let s := s.disagree c true
  let s := { s with sf := { s.sf with hazGroups := s.sf.hazGroups ++ [(g, c.comp)] } }
  let s := lanes.foldl (fun (s : State) n => s.withdrawLane n) s
  s.withdrawGroup g fun s => lanes.foldl (fun (s : State) n => s.hazard n cause) s

/-- R255, R256: the watch report of a comparator: since when its input has stayed inside the watch window. -/
def Graver.report (v : Graver) (k : Nat) (inside : Bool) (t : Nat) : Graver :=
  { v with inside := if !inside then v.inside.filter fun x => x.1 != k
                     else if v.inside.any fun x => x.1 == k then v.inside else v.inside ++ [(k, t)] }

/-- R262, R263: the comparison of 1 ms: the watch report of the Graver, and the least and greatest sample of the cores; a comparator
that is not armed is not compared. -/
def execWatchComparison (k : Nat) (inside : Bool) (lo hi : Int) (s : State) : Out :=
  fin s (match s.cfg.comp k with
    | none => s
    | some c =>
      let s := s.onGrv fun v => v.report k inside s.now
      if !s.armed c then s
      else
        let w := s.wat k
        let mis := (c.allInside 70 lo hi && !inside) || (c.allBeyond 80 lo hi && inside)
        if c.allBeyond 105 lo hi && !s.sf.grv.latches.contains k then
          if w.hazard then s else (s.onWatch k fun w => { w with matchAt := none, mism := min 8 (w.mism + b2n mis) }).hazardousDisagree c
        else if mis then
          let s := s.onWatch k fun w => { w with mism := min 8 (w.mism + 1), matchAt := none }
          if w.mism = 7 && !w.stands then
            (s.compLanes c).foldl (fun (s : State) n => s.degrade n .disagree) (s.disagree c false)
          else s
        else
          let t := w.matchAt.getD s.now
          let s := s.onWatch k fun w => { w with mism := 0, matchAt := some t }
          if w.stands && t + sec 1 ≤ s.now then
            let s := s.onWatch k fun w => { w with stands := false, hazard := false }
            let s := { s with sf := { s.sf with hazGroups := s.sf.hazGroups.filter fun x => x.2 != k } }
            s.evDisagree c 0 (b2n w.hazard) 0
          else s)

/-! ### Safety inputs (R258, R259, R268) -/

/-- R258, R259: the causes the safety inputs hold against a lane. -/
def State.inputCauses (s : State) (n : Nat) : List Cause :=
  let v := s.sf.grv
  let p := s.sf.grvPar
  let g := s.groupOf n
  if 16 ≤ g || !(s.typ n).isLane then []
  else
    (if (!(bit v.pairs 0 && bit v.pairs 1) || v.estFault) && bit p.estMask g then [Cause.estop] else []) ++
    (if (!(bit v.pairs 2 && bit v.pairs 3) || v.grdFault) && bit p.grdMask g then [Cause.guardOpen] else []) ++
    (if (List.range 4).any fun x => bit v.xtrip x && bit (p.xtripMask.getD x 0) g then [Cause.xtrip] else [])

/-- R258: causes newly held act on the lanes, causes no longer held clear at their source. -/
def State.inputsChanged (s old : State) : State :=
  (List.range 64).foldl (fun (s : State) n =>
    let a := old.inputCauses n
    let b := s.inputCauses n
    let s := (b.filter fun c => !a.contains c).foldl (fun (s : State) c => s.faultAny n c) s
    (a.filter fun c => !b.contains c).foldl (fun (s : State) c => s.clearCause n c 0) s) s

/-- R274: SAFETY_INPUT. -/
def State.evInput (s : State) (i : Nat) (bad : Bool) : State :=
  let v := s.sf.grv
  let f := if i < 2 then v.estFault else if i < 4 then v.grdFault else false
  s.evMod .safety 8 i 0x2003 (leBytes 1 i ++ leBytes 1 (b2n bad) ++ leBytes 1 (b2n f))

/-- R259: the other channel of a pair. -/
def pairOf (i : Nat) : Nat := if i % 2 = 0 then i + 1 else i - 1

/-- R259: both channels of a pair have moved within DISC_TIME of each other. -/
def State.together (s : State) (i : Nat) : Bool :=
  match s.sf.grv.moveAt.getD i none, s.sf.grv.moveAt.getD (pairOf i) none with
  | some a, some b => decide (max a b - min a b ≤ ms s.sf.grvPar.discTime)
  | _, _ => false

/-- R259: the clearing of a pair's fault: opened together, then closed together. -/
def State.pairClearing (s : State) (i : Nat) : State :=
  let p := i / 2
  let v := s.sf.grv
  if bit v.pairs i != bit v.pairs (pairOf i) then s
  else if !s.together i then s.onGrv fun v => { v with cleared := v.cleared.set p 0 }
  else if !bit v.pairs i then s.onGrv fun v => { v with cleared := v.cleared.set p 1 }
  else if v.cleared.getD p 0 = 1 then
    s.onGrv fun v => { v with cleared := v.cleared.set p 0, estFault := v.estFault && p != 0, grdFault := v.grdFault && p != 1 }
  else s

/-- R268: the guard moves while it is tested: phase 2 waits for both open, phase 3 for both closed. -/
def State.guardMoved (s : State) : State :=
  let v := s.sf.grv
  let ph := if s.sf.phase = 1 && v.grdFault = false && (bit v.pairs 2 || bit v.pairs 3) then 2 else s.sf.phase
  let open_ := !bit v.pairs 2 && !bit v.pairs 3
  let closed := bit v.pairs 2 && bit v.pairs 3
  let held := ((ph == 2 && open_) || (ph == 3 && closed)) && s.together 2 && !v.grdFault
  { s with sf := { s.sf with phase := ph, phaseAt := if held then some s.now else none } }

/-- R258: an input takes a level that has held: 0 ESTA, 1 ESTB, 2 GRDA, 3 GRDB closed or open, 4-7 XTRIP0-3. -/
def State.inputTakes (s : State) (i : Nat) (bad : Bool) : State :=
  let s' := if i < 4 then
      (s.onGrv fun v => { v with pairs := setBit v.pairs i (!bad), moveAt := v.moveAt.set i (some s.now) }).pairClearing i
    else s.onGrv fun v => { v with xtrip := setBit v.xtrip (i - 4) bad }
  let s' := if i = 2 ∨ i = 3 then s'.guardMoved else s'
  (s'.evInput i bad).withPermits fun t => t.inputsChanged s

/-- R258: an opening or an assertion has held for 50 µs. -/
def execSafetyInputOpen (i : Nat) (s : State) : Out :=
  fin s (
    let v := s.sf.grv
    if (i < 4 && bit v.pairs i) || (4 ≤ i && i < 8 && !bit v.xtrip (i - 4)) then s.inputTakes i true else s)

/-- R258: a closing or a de-assertion has held for 10 ms. -/
def execSafetyInputClose (i : Nat) (s : State) : Out :=
  fin s (
    let v := s.sf.grv
    if (i < 4 && !bit v.pairs i) || (4 ≤ i && i < 8 && bit v.xtrip (i - 4)) then s.inputTakes i false else s)

/-- R259, R268: the second channel of a pair (0 emergency stop, 1 guard) has not followed within DISC_TIME: the fault latches;
during the guard test it is a discrepancy. -/
def execDualChannelFault (p : Nat) (s : State) : Out :=
  fin s (
    let v := s.sf.grv
    let i := 2 * p
    let first := if (v.moveAt.getD i none).getD 0 < (v.moveAt.getD (i + 1) none).getD 0 then i + 1 else i
    let lag := pairOf first
    if p < 2 && bit v.pairs i != bit v.pairs (i + 1) && !(if p = 0 then v.estFault else v.grdFault) &&
        (match v.moveAt.getD first none with | some t => decide (t + ms s.sf.grvPar.discTime ≤ s.now) | none => false) then
      let t := s.onGrv fun v => { v with estFault := v.estFault || p == 0, grdFault := v.grdFault || p == 1, cleared := v.cleared.set p 0 }
      let t := t.evInput lag (!bit v.pairs lag)
      let t := if p = 1 && (s.sf.phase = 2 || s.sf.phase = 3) then
          { t with sf := { t.sf with phase := 2, phaseAt := none } }.evMod .safety s.rd.active 0 0x2006
            (leBytes 1 1 ++ leBytes 1 s.sf.required)
        else t
      t.withPermits fun t => t.inputsChanged s
    else s)

/-- R268, R274: the guard test advances: from phase 1 at once when the guard is found open, from phase 2 after 100 ms open, from
phase 3 after 100 ms closed. -/
def execGuardTestHold (s : State) : Out :=
  fin s (
    let v := s.sf.grv
    let held := (match s.sf.phaseAt with | some t => decide (t + ms 100 ≤ s.now) | none => false) && !v.grdFault
    let into (k : Nat) : State := { s with sf := { s.sf with phase := k, phaseAt := none } }
    match s.sf.phase with
    | 1 => if !bit v.pairs 2 && !bit v.pairs 3 then into 3 else (into 2).guardMoved
    | 2 => if held then into 3 else s
    | 3 =>
      if held then
        { s with sf := { s.sf with phase := 4, phaseAt := none, guardTested := true } }.evMod .safety s.rd.active 0 0x2006
          (leBytes 1 0 ++ leBytes 1 s.sf.required)
      else s
    | _ => s)

/-! ### The pilot fault line (R260) -/

/-- R260, R249: a Pilot die reports a confirmed pilot fault of a lane to the Graver, or its end: the lane gate follows. Where the
safety cores hold otherwise, DISAGREE records it. -/
def execPilotFaultLine (n : Nat) (bad : Bool) (s : State) : Out :=
  fin s (
    if !(s.typ n).charges || bit s.sf.grv.pilotBad n == bad then s
    else
      let s := (s.onGrv fun v => { v with pilotBad := setBit v.pilotBad n bad }).driveGated
      let s := if bad && (s.hsl n).p.fault.isNone then
          { s with sf := { s.sf with disagrees := satU 16 (s.sf.disagrees + 1) } }.evLane .safety n 0x2004
            (leBytes 1 1 ++ leBytes 1 0xFF ++ leBytes 1 0 ++ leBytes 1 1)
        else s
      if bad then s.hazard n .pilotFault else s)

/-! ### Stipple pulses (R264-R267) -/

/-- The stipple state of an output (kind 0) or PERMIT ball (kind 1). -/
def State.stip (s : State) (kind i : Nat) : Stip := if kind = 0 then s.sf.stipO.getD i {} else s.sf.stipP.getD i {}

/-- Changes a stipple state. -/
def State.onStip (s : State) (kind i : Nat) (f : Stip → Stip) : State :=
  if kind = 0 then { s with sf := { s.sf with stipO := s.sf.stipO.modify i f } }
  else { s with sf := { s.sf with stipP := s.sf.stipP.modify i f } }

/-- R267: a channel becomes suspect: its owner lane, or every lane of the group of a PERMIT ball, acts with STIPPLE. -/
def State.suspectLanes (s : State) (kind i : Nat) : State :=
  let lanes := if kind = 0 then
      (match s.cfg.output i with | some o => (match ownerLane o.owner with | some n => [n] | none => []) | none => [])
    else s.lanesOf i
  lanes.foldl (fun (s : State) n => s.degrade n .stipple) s

/-- R264, R266: a scheduled or deferred pulse of a channel falls at this TIME. -/
def State.stippleDue (s : State) (i : Nat) : Bool :=
  let t := s.now % 500000000
  if (s.stip 0 i).deferred then t % 15625000 == 7812500 && (s.swd (i / 32)).midAt != s.now
  else t == i % 32 * 15625000

/-- R265-R267: a stipple pulse is given and its read-back sampled at `mv`; one that falls due in the blanking window is deferred.
Two misses in a row make the channel suspect, two good pulses in a row clear it. -/
def execStipplePulse (kind i mv : Nat) (s : State) : Out :=
  fin s (
    let gated := match s.cfg.output i with | some o => bit o.flags 0 | none => false
    let c := s.och i
    let on := if kind = 0 then gated && c.cmd && c.out && s.stippleDue i else kind == 1 && s.permit i
    if !on then s
    else if kind = 0 && (match c.blankEnd with | some e => decide (s.now < e) | none => false) then
      s.onStip kind i fun p => { p with deferred := true }
    else
      let p := s.stip kind i
      let s := if p.deferred then s.onDie (i / 32) fun d => { d with midAt := s.now } else s
      let miss := decide ((if kind = 0 then 2000 else 800) < mv)
      if miss then
        let s := s.onStip kind i fun p => { p with misses := p.misses + 1, goods := 0, deferred := false }
        let s := { s with sf := { s.sf with stippleMiss := satU 16 (s.sf.stippleMiss + 1) } }
        if p.misses = 1 && !p.suspect then
          let s := s.onStip kind i fun p => { p with suspect := true }
          (s.evMod .safety s.rd.active i 0x2005 (leBytes 1 kind ++ leBytes 1 i ++ leBytes 1 2 ++ leBytes 2 (satU 16 mv))).suspectLanes
            kind i
        else s
      else s.onStip kind i fun p =>
        { p with misses := 0, goods := p.goods + 1, deferred := false, suspect := p.suspect && decide (p.goods + 1 < 2) })

/-- R267: a suspect channel has been held off for 100 ms with its read-back below the threshold. -/
def execSuspectClearHold (kind i : Nat) (s : State) : Out :=
  fin s (
    if (if kind = 0 then !(s.och i).cmd else kind == 1 && !s.permit i) then
      s.onStip kind i fun p => { p with suspect := false, misses := 0, goods := 0 }
    else s)

/-! ### The safety parameter block (R269-R272) -/

/-- The parameters of the block: key and value, in the order of their keys. -/
def SpBlock.params (b : SpBlock) : List (Nat × Nat) :=
  [(0x100, b.isoWarn), (0x200, b.isoFault), (0x300, b.degFraction), (0x400, b.degTime), (0x500, b.curWinMin), (0x600, b.curWinMax),
   (0x700, b.voltWinMax), (0x800, b.resWinMax), (0x900, b.tWarn), (0xA00, b.tStop), (0xB00, b.stippleW), (0xC00, b.discTime),
   (0xD00, b.estMask), (0xE00, b.grdMask)] ++
  b.xtripMask.mapIdx (fun i v => (0xF00 + i, v)) ++ b.groupPBound.mapIdx (fun i v => (0x1000 + i, v)) ++
  b.fgScale.mapIdx (fun i v => (0x1100 + i, v)) ++ b.fgGain.mapIdx (fun i v => (0x1200 + i, v))

/-- The value of a key; none for a key that names no parameter. -/
def SpBlock.value (b : SpBlock) (key : Nat) : Option Nat := (b.params.find? fun x => x.1 == key).map (·.2)

/-- The block with a parameter at another value. -/
def SpBlock.put (b : SpBlock) (key v : Nat) : SpBlock :=
  let i := key % 256
  match key / 256 with
  | 0x01 => { b with isoWarn := v }
  | 0x02 => { b with isoFault := v }
  | 0x03 => { b with degFraction := v }
  | 0x04 => { b with degTime := v }
  | 0x05 => { b with curWinMin := v }
  | 0x06 => { b with curWinMax := v }
  | 0x07 => { b with voltWinMax := v }
  | 0x08 => { b with resWinMax := v }
  | 0x09 => { b with tWarn := v }
  | 0x0A => { b with tStop := v }
  | 0x0B => { b with stippleW := v }
  | 0x0C => { b with discTime := v }
  | 0x0D => { b with estMask := v }
  | 0x0E => { b with grdMask := v }
  | 0x0F => { b with xtripMask := b.xtripMask.set i v }
  | 0x10 => { b with groupPBound := b.groupPBound.set i v }
  | 0x11 => { b with fgScale := b.fgScale.set i v }
  | 0x12 => { b with fgGain := b.fgGain.set i v }
  | _ => b

/-- R269: the range of a parameter in a block. -/
def SpBlock.range (b : SpBlock) (key : Nat) : Nat × Nat :=
  match key / 256 with
  | 0x01 => (b.isoFault, 1000)
  | 0x02 => (100, 500)
  | 0x03 => (10, 90)
  | 0x04 => (0, 600)
  | 0x05 => (100, b.curWinMax)
  | 0x06 => (b.curWinMin, 400)
  | 0x07 => (100, 130)
  | 0x08 => (100, 250)
  | 0x09 => (40, b.tStop)
  | 0x0A => (b.tWarn, 130)
  | 0x0B => (50, 300)
  | 0x0C => (20, 3000)
  | 0x0D => (1, 0xFFFF)
  | 0x0E => (0, 0xFFFF)
  | 0x0F => (0, 0xFFFF)
  | 0x10 => (0, 0xFFFFFFFF)
  | 0x11 => (100, 1000)
  | _ => (9000, 11000)

/-- R269: the first parameter of a block outside its range. -/
def SpBlock.firstBad (b : SpBlock) : Option Nat :=
  (b.params.find? fun x => decide (x.2 < (b.range x.1).1) || decide ((b.range x.1).2 < x.2)).map (·.1)

/-- R275: the CRC-32 of the block in force (log entry 1). -/
def SpBlock.crc (b : SpBlock) : Nat := Config.blockCrc (b.params.map (·.2)) % 2 ^ 32

/-- R272: a change-log entry, and its PARAM_CHANGED, whose SEQ the entry takes when it is numbered. -/
def State.logParam (s : State) (role : Role) (key old new : Nat) : State :=
  let s := { s with sf := { s.sf with log := (({ legal := s.legal, role := role.code, key := key, old := old, new := new } : SpLog) :: s.sf.log).take 256,
                                      logNext := (s.sf.logNext + 1) % 256 } }
  s.evMod .host s.rd.active 0 0x2009 (leBytes 2 key ++ leBytes 4 old ++ leBytes 4 new)

/-- R271: a password as it may be: 8-32 printable ASCII characters. -/
def passwordOk (p : Bytes) : Bool :=
  decide (8 ≤ p.length) && decide (p.length ≤ 32) && p.all fun b => decide (0x20 ≤ b.toNat) && decide (b.toNat ≤ 0x7E)

/-- R271: the lock of the password requests. -/
def State.pwLocked (s : State) : Bool := match s.sf.pwLock with | some t => decide (s.now < t) | none => false

/-- R271, R274: a wrong password: PASSWORD_FAIL; the fifth within 300 s locks. -/
def State.pwFail (s : State) (t : Ticket) : State :=
  let l := s.now :: s.sf.pwFails.filter fun x => decide (s.now < x + sec 300)
  let lock := decide (5 ≤ l.length)
  let s := { s with sf := { s.sf with pwFails := if lock then [] else l, pwLock := if lock then some (s.now + sec 300) else s.sf.pwLock } }
  (s.evMod .host s.rd.active 0 0x200A (leBytes 1 t.role.code ++ leBytes 1 (satU 8 l.length) ++ leBytes 1 (b2n lock))).complete t
    St.checkFailed

/-- R270: the parameters of an SP_WRITE: key and value. -/
def spItems (b : Bytes) : Nat → List (Nat × Nat)
  | 0 => []
  | k + 1 => (leNat (sub b 0 2), leNat (sub b 2 4)) :: spItems (b.drop 6) k

/-- R270: a commit of the block: the change log, the guard test, the reload of the Graver. -/
def State.spCommit (s : State) (role : Role) (b : SpBlock) : State :=
  let old := s.sf.block.params
  let changed := b.params.filter fun x => !old.contains x
  let s := changed.foldl (fun (s : State) x => s.logParam role x.1 ((s.sf.block.value x.1).getD 0) x.2) s
  let restore := !s.sf.blockOk
  let s := { s with sf := { s.sf with block := b, blockOk := true, changes := satU 16 (s.sf.changes + changed.length), guardTested := false,
                                      phase := 1, phaseAt := none, required := 1 } }
  let s : State := s.onGrv fun v => { v with reloadDue := some (s.now + ms 10) }
  if restore then s.logParam role 0xFFFE 0 b.crc else s

/-- R270, R271: SP_WRITE. -/
def execSpWrite (tk : Nat) (s : State) : Out :=
  fin s (s.onTicket tk 0x0C03 fun t =>
    let k := t.u 0 1
    let c := t.u (1 + k) 1
    if s.pwLocked then s.complete t St.busy
    else match s.sf.password with
      | none => s.complete t St.refusedState
      | some pw =>
        if sub t.arg 1 k != pw then s.pwFail t
        else if c < 1 || 16 < c || t.arg.length != 2 + k + 6 * c then s.complete t St.badArgument
        else
          let items := spItems (t.rest (2 + k)) c
          match items.find? fun x => (s.sf.block.value x.1).isNone with
          | some x => s.complete t St.badArgument (leBytes 2 x.1)
          | none =>
            let b := items.foldl (fun b x => b.put x.1 x.2) s.sf.block
            match b.firstBad with
            | some key => s.complete t St.badArgument (leBytes 2 key)
            | none =>
              if b = s.sf.block && s.sf.blockOk then s.complete t St.ok else (s.spCommit t.role b).complete t St.ok)

/-- R270: the Graver reloads its part of the block within 10 ms of a commit; its masks act at once. -/
def execGraverBlockReload (s : State) : Out :=
  fin s (
    if s.sf.grv.reloadDue.isNone then s
    else
      let b := s.sf.block
      let t := { s with sf := { s.sf with grvPar := { discTime := b.discTime, estMask := b.estMask, grdMask := b.grdMask,
                                                      xtripMask := b.xtripMask } } }
      (t.onGrv fun v => { v with reloadDue := none, loaded := s.sf.blockOk }).withPermits fun t => t.inputsChanged s)

/-- R271: the first password, a change, or a half of a replacement. -/
def execSpPasswordSet (tk : Nat) (s : State) : Out :=
  fin s (s.onTicket tk 0x0C04 fun t =>
    let a := t.u 0 1
    let old := sub t.arg 1 a
    let new := sub t.arg (2 + a) (t.u (1 + a) 1)
    let set (s : State) : State :=
      (State.logParam { s with sf := { s.sf with password := some new, replace := none } } t.role 0xFFFF 0 0).complete t St.ok
    if s.pwLocked then s.complete t St.busy
    else if !passwordOk new || t.arg.length != 2 + a + t.u (1 + a) 1 then s.complete t St.badArgument
    else match s.sf.password with
      | none => if a = 0 then set s else s.pwFail t
      | some pw =>
        if a != 0 then (if old == pw then set s else s.pwFail t)
        else if t.role == .service then
          (State.logParam { s with sf := { s.sf with replace := some (new, s.now + sec 300) } } t.role 0xFFFF 0 0).complete t St.ok
        else match s.sf.replace with
          | some (p, e) => if t.role == .metrology && p == new && s.now ≤ e then set s else s.pwFail t
          | none => s.pwFail t)

/-- R271: the 300 s of the lock end. -/
def execPasswordLockEnd (s : State) : Out :=
  fin s (if s.pwLocked then s else { s with sf := { s.sf with pwLock := none } })

/-- R271: the 300 s for the second half of a replacement pass. -/
def execPasswordReplaceWindowEnd (s : State) : Out :=
  fin s (match s.sf.replace with
    | some (_, e) => if e < s.now then { s with sf := { s.sf with replace := none } } else s
    | none => s)

/-! ### Registers and requests (R273, R275) -/

/-- R275: SF_STATUS. -/
def State.sfStatus (s : State) : Nat :=
  let v := s.sf.grv
  regOf [(0, 16, v.permit), (16, 16, if v.wd then 0 else v.grants), (32, 16, maskOf ((List.range 16).filter fun g => s.groupLatched g)),
    (48, 1, b2n s.sf.blockOk), (49, 1, b2n v.estFault), (50, 1, b2n v.grdFault), (51, 1, b2n v.wd), (52, 1, b2n v.selfFail)]

/-- R275: SF_INPUTS. -/
def State.sfInputs (s : State) : Nat := regOf [(0, 4, s.sf.grv.pairs), (4, 4, s.sf.grv.xtrip), (8, 3, s.sf.phase)]

/-- R275: SF_LANEGATE. -/
def State.sfLanegate (s : State) : Nat := maskOf ((List.range 64).filter fun n => s.laneGate n)

/-- R275: SF_TRIPi. -/
def State.sfTrip (s : State) (i : Nat) : Nat := maskOf ((List.range 64).filter fun b => s.sf.grv.latches.contains (64 * i + b))

/-- R275: SF_SUSPECTi. -/
def State.sfSuspect (s : State) (i : Nat) : Nat := maskOf ((List.range 64).filter fun b => (s.stip 0 (64 * i + b)).suspect)

/-- R275: SF_SUSPECT_P. -/
def State.sfSuspectP (s : State) : Nat := maskOf ((List.range 16).filter fun g => (s.stip 1 g).suspect)

/-- R275: SF_BLOCK. -/
def State.sfBlock (s : State) : Nat :=
  regOf [(0, 32, s.sf.block.crc), (32, 16, s.sf.changes), (48, 8, s.sf.logNext), (56, 1, b2n s.sf.password.isSome), (57, 1, b2n s.pwLocked)]

/-- R275: SF_COUNT. -/
def State.sfCount (s : State) : Nat :=
  regOf [(0, 16, s.sf.trips), (16, 16, s.sf.disagrees), (32, 16, s.sf.stippleMiss), (48, 16, s.sf.grantTimeouts)]

/-- R275: a write of SF_COUNT. -/
def State.writeSfCount (s : State) (v : Nat) : State :=
  { s with sf := { s.sf with trips := onesClear s.sf.trips v 0 16, disagrees := onesClear s.sf.disagrees v 16 16,
                             stippleMiss := onesClear s.sf.stippleMiss v 32 16, grantTimeouts := onesClear s.sf.grantTimeouts v 48 16 } }

/-- R273: SF_READ. -/
def execSfRead (tk : Nat) (s : State) : Out :=
  fin s (s.onTicket tk 0x0C01 fun t =>
    s.complete t St.ok ([s.sfStatus, s.sfInputs, s.sfLanegate, s.sfTrip 0, s.sfTrip 1, s.sfSuspect 0, s.sfSuspect 1, s.sfSuspectP,
      s.sfBlock, s.sfCount].flatMap regBytes))

/-- R273: SP_READ. -/
def execSpRead (tk : Nat) (s : State) : Out :=
  fin s (s.onTicket tk 0x0C02 fun t =>
    let one (x : Nat × Nat) : Bytes := leBytes 2 x.1 ++ leBytes 4 x.2
    if t.u 0 2 = 0xFFFF then s.complete t St.ok (s.sf.block.params.flatMap one)
    else match s.sf.block.value (t.u 0 2) with
      | some v => s.complete t St.ok (one (t.u 0 2, v))
      | none => s.complete t St.badArgument (leBytes 2 (t.u 0 2)))

/-- R272: the 32 bytes of a change-log entry. -/
def SpLog.bytes (l : SpLog) : Bytes :=
  let b := leBytes 8 l.seq ++ leBytes 8 l.legal ++ leBytes 1 l.role ++ leBytes 1 0 ++ leBytes 2 l.key ++ leBytes 4 l.old ++ leBytes 4 l.new
  b ++ leBytes 4 (crc32 b)

/-- R272, R275: an entry of the change-log ring; a slot never written reads 0. -/
def State.logEntry (s : State) (i : Nat) : Bytes :=
  match s.sf.log[(s.sf.logNext + 511 - i) % 256]? with
  | some l => l.bytes
  | none => List.replicate 32 0

/-- R273: SP_LOG_READ. -/
def execSpLogRead (tk : Nat) (s : State) : Out :=
  fin s (s.onTicket tk 0x0C05 fun t =>
    let k := t.u 1 1
    if k < 1 || 32 < k then s.complete t St.badArgument
    else s.complete t St.ok ((List.range k).flatMap fun i => s.logEntry ((t.u 0 1 + i) % 256)))

end Sys2Proof.Machine
end

