-- ==== Sys2Proof/Machine/Outputs.lean ====
section
/-! DEFINITION. Outputs.lean: the protected output channels: blanking, trips and retries, the die limiter, open loads, clamp events,
supplies, proof cycles and the output requests (R277-R292). -/
namespace Sys2Proof.Machine

/-- R279: a channel lies in its blanking window. -/
def State.blanking (s : State) (k : Nat) : Bool :=
  match (s.och k).blankEnd with | some e => decide (s.now < e) | none => false

/-- R279: the blanking window ends; stipple pulses deferred in it are given at the slot midpoints that follow (R266). -/
def execBlankingEnd (k : Nat) (s : State) : Out :=
  fin s (if s.blanking k then s else s.onCh k fun c => { c with blankEnd := none })

/-! ### Trips and retries (R280-R283, R285) -/

/-- R283: a trip of a lane's channel of functions 1-5 while the lane commands it on faults the lane with OUTPUT. -/
def State.chanTrip (s : State) (k kind : Nat) : State :=
  let held := (s.och k).cmd
  let t := s.trip k kind
  match s.cfg.output k with
  | some o =>
    match ownerLane o.owner with
    | some n => if held && decide (1 ≤ o.func) && decide (o.func ≤ 5) then t.outputFault n 0 else t
    | none => t
  | none => t

/-- R280: a channel has carried its current limit for 5 ms outside blanking; a lowered limit has the 50 ms of R281. -/
def execOverloadTrip (k : Nat) (s : State) : Out :=
  fin s (if (s.och k).out && !s.blanking k && (s.och k).lowered == 0 then s.chanTrip k 1 else s)

/-- R280: the current of a channel, in 0.1 mA, crosses its short threshold: twice the nominal limit in force. -/
def execShortTrip (k cur : Nat) (s : State) : Out :=
  fin s (if (s.och k).out && decide ((if s.blanking k then 90000 else 60000) ≤ cur) then
      (s.onCh k fun c => { c with current := cur }).chanTrip k 0
    else s)

/-- R282: a channel's junction reaches its shutdown threshold, at `tj` °C + 50. -/
def execThermalShutdown (k tj : Nat) (s : State) : Out :=
  fin s (if (s.och k).out then (s.onCh k fun c => { c with tj := tj }).chanTrip k 2 else s)

/-- R282: an automatic restart. -/
def State.restart (s : State) (k : Nat) : State :=
  let s := s.onCh k fun c => { c with tripped := false, retryAt := none, waitCool := false, used := satU 4 (c.used + 1) }
  (s.evChan k 0xC003 (leBytes 1 k ++ leBytes 1 (s.och k).used)).drive k

/-- R282: RETRY_DELAY has passed; `cool` tells whether the junction lies below its restart threshold. -/
def execRetryDelayEnd (k : Nat) (cool : Bool) (s : State) : Out :=
  fin s (
    let c := s.och k
    if c.tripped && (match c.retryAt with | some t => decide (t ≤ s.now) | none => false) then
      if cool then (s.onCh k fun c => { c with thermal := false }).restart k
      else s.onCh k fun c => { c with retryAt := none, waitCool := true }
    else s)

/-- R282, R283: a junction falls below the restart threshold: a restart that waits for it proceeds. -/
def execThermalRestart (k : Nat) (s : State) : Out :=
  fin s (
    let w := (s.och k).waitCool
    let s := s.onCh k fun c => { c with thermal := false }
    let s := if w then s.restart k else s
    match s.cfg.output k with
    | some o => match ownerLane o.owner with | some n => s.settleOutput n | none => s
    | none => s)

/-- R282: 10 s of conduction without a trip. -/
def execUsedReset (k : Nat) (s : State) : Out :=
  fin s (match (s.och k).onSince with
    | some t => if t + sec 10 ≤ s.now then s.onCh k fun c => { c with used := 0 } else s
    | none => s)

/-- R285: a turn-off below −20 V: OUTPUT_TRIP of kind clamp without a trip, and the third within 60 s trips the channel. -/
def execClampEvent (k : Nat) (s : State) : Out :=
  fin s (
    let l := s.now :: (s.och k).clamps.filter fun t => decide (s.now < t + sec 60)
    if 3 ≤ l.length then (s.onCh k fun c => { c with clamps := [] }).chanTrip k 3
    else
      let c := s.och k
      (s.onCh k fun c => { c with clamps := l }).evChan k 0xC001 (leBytes 1 k ++ leBytes 1 3 ++ leBytes 2 (satU 16 (c.current / 10)) ++
        leBytes 1 c.tj ++ leBytes 1 c.used ++ leBytes 1 (b2n c.latched)))

/-! ### The die limiter (R281) -/

/-- R281: the class of a channel: 1 GENERAL without SAFETY, 2 LOCK, 3 safety-gated. -/
def State.limitClass (s : State) (k : Nat) : Nat :=
  match s.cfg.output k with
  | some o => if bit o.flags 0 then 3 else if o.func = 5 then 2 else 1
  | none => 1

/-- R281: the channels whose limit may be lowered next: those that carry the most current in the earliest class that remains,
outside blanking; in blanking, and no lower than 3.0 A, only when no channel outside it carries current. -/
def State.limitNext (s : State) (d : Nat) : List Nat :=
  let chans := (List.range 32).map fun i => 32 * d + i
  let out := chans.filter fun k => decide (0 < (s.och k).current) && !s.blanking k
  let cand := if out.isEmpty then chans.filter fun k => decide (0 < (s.och k).current) && decide ((s.och k).lowered < 15)
    else out.filter fun k => decide ((s.och k).lowered < 30)
  let cls := cand.foldl (fun m k => min m (s.limitClass k)) 4
  let cand := cand.filter fun k => s.limitClass k == cls
  let top := cand.foldl (fun m k => max m (s.och k).current) 0
  cand.filter fun k => (s.och k).current == top

/-- R291: DIE_LIMIT. -/
def State.evDieLimit (s : State) (d st : Nat) : State :=
  let low := ((List.range 32).filter fun i => 0 < (s.och (32 * d + i)).lowered).length
  s.raise { cls := .diag, die := 9 + d, unit := 0xFF, lane := 0xFF, code := 0xC004, time := s.now,
            data := leBytes 1 d ++ leBytes 1 st ++ leBytes 2 (satU 16 (s.swd d).total) ++ leBytes 1 low }

/-- R281: what a die measures every 100 µs: currents (0.1 mA), junctions (°C + 50), which channels are in current limit, VSWk
(0.1 V). It lowers one limit by 0.1 A above 10.0 A, the first in the order of R281 (among equals the order is open), and restores
lowered limits below 9.5 A. -/
def execDieLimiterTick (d : Nat) (cur tj : List Nat) (lim vsw : Nat) (s : State) : Out :=
  fin s (
    if 4 ≤ d then s
    else
      let s := (List.range 32).foldl (fun (s : State) i => s.onCh (32 * d + i) fun c =>
        { c with current := if c.out then cur.getD i 0 else 0, tj := tj.getD i 0, limit := c.out && bit lim i }) s
      let sum := (List.range 32).foldl (fun a i => a + (s.och (32 * d + i)).current) 0
      let s := s.onDie d fun x => { x with total := sum / 10, vsw := vsw }
      if 100000 < sum then
        let l := s.limitNext d
        match l[s.free 8 % l.length]? with
        | none => s
        | some k =>
          let s := (s.onCh k fun c => { c with lowered := c.lowered + 1, lowAt := some (c.lowAt.getD s.now) }).drawn
          if (s.swd d).limiting then s else (s.onDie d fun x => { x with limiting := true }).evDieLimit d 1
      else if sum < 95000 then
        let s := (List.range 32).foldl (fun (s : State) i => s.onCh (32 * d + i) fun c =>
          { c with lowered := c.lowered - 1, lowAt := if c.lowered ≤ 1 then none else c.lowAt }) s
        if (s.swd d).limiting && (List.range 32).all fun i => (s.och (32 * d + i)).lowered == 0 then
          (s.onDie d fun x => { x with limiting := false }).evDieLimit d 0
        else s
      else s)

/-- R281: a channel has been held at a lowered limit for 50 ms. -/
def execLoweredLimitTrip (k : Nat) (s : State) : Out :=
  fin s (match (s.och k).lowAt with
    | some t => if t + ms 50 ≤ s.now && (s.och k).out && (s.och k).limit then s.chanTrip k 1 else s
    | none => s)

/-! ### Open loads (R284) -/

/-- R284: OUTPUT_OPEN at most once a minute when a condition begins, and once more when it clears. -/
def State.evOpen (s : State) (k check cur : Nat) (old new : Bool) : State :=
  let rec_ (st : Nat) (s : State) : State :=
    s.evChan k 0xC002 (leBytes 1 k ++ leBytes 1 check ++ leBytes 1 st ++ leBytes 2 (satU 16 cur))
  if new && !old then
    if (match (s.och k).openAt with | some t => decide (s.now < t + sec 60) | none => false) then s
    else rec_ 1 (s.onCh k fun c => { c with openAt := some s.now })
  else if old && !new then rec_ 0 s
  else s

/-- R284: the on-state threshold in force, in 0.1 mA. -/
def Output.openThreshold (o : Output) : Nat := if bit o.flags 1 then o.olFine else 100

/-- R284, R283, R267: what has held for 10 ms: of a channel that is on, its current against the threshold in force; of one that is
off, whether its output lies above VSWk − 1.0 V with the test current off. -/
def execOpenLoadCheck (k cur : Nat) (high : Bool) (s : State) : Out :=
  fin s (
    let c := s.och k
    let o := (s.cfg.output k).getD {}
    if c.out then
      if s.blanking k then s
      else
        let opn := decide (cur < o.openThreshold)
        let t := (s.onCh k fun c => { c with openOn := opn }).evOpen k 0 cur c.openOn opn
        match ownerLane o.owner with
        | some n => if opn && !c.openOn && c.cmd && decide (1 ≤ o.func) && decide (o.func ≤ 4) then t.outputFault n 1 else t
        | none => t
    else
      let t := (s.onCh k fun c => { c with shortSup := high }).evOpen k 2 cur c.shortSup high
      if high && !c.shortSup && bit o.flags 0 && !(t.stip 0 k).suspect then
        (t.onStip 0 k fun p => { p with suspect := true }).suspectLanes 0 k
      else t)

/-- R284: the 1 ms test current of an off channel with OFF_DIAG. -/
def execOffStateTest (k : Nat) (above : Bool) (s : State) : Out :=
  fin s (
    let c := s.och k
    if c.out || !bit ((s.cfg.output k).getD {}).flags 3 then s
    else (s.onCh k fun c => { c with openOff := above }).evOpen k 1 c.current c.openOff above)

/-! ### Supplies (R287, R288) -/

/-- R291: OUTPUT_UV. -/
def State.evUv (s : State) (d st vsw : Nat) : State :=
  s.raise { cls := .diag, die := 9 + d, unit := 0xFF, lane := 0xFF, code := 0xC006, time := s.now,
            data := leBytes 1 d ++ leBytes 1 st ++ leBytes 2 (satU 16 vsw) }

/-- R287: VSWk has been below 8.0 V for 1 ms: every channel of the die goes off, which is no trip. -/
def execVswUndervoltage (d vsw : Nat) (s : State) : Out :=
  fin s (
    if 4 ≤ d || (s.swd d).uv || 80 ≤ vsw then s
    else
      let s := s.onDie d fun x => { x with uv := true, vsw := vsw }
      ((List.range 32).foldl (fun (s : State) i => s.drive (32 * d + i)) s).evUv d 1 vsw)

/-- R287: VSWk has been above 8.5 V for 10 ms: every channel returns to its commanded state. -/
def execVswRestored (d vsw : Nat) (s : State) : Out :=
  fin s (
    if 4 ≤ d || !(s.swd d).uv || vsw ≤ 85 then s
    else
      let s := s.onDie d fun x => { x with uv := false, vsw := vsw }
      ((List.range 32).foldl (fun (s : State) i => s.drive (32 * d + i)) s).evUv d 0 vsw)

/-- R288: VSWk rises: every channel of the die starts off, unlatched, with its counters at 0. -/
def execVswRise (d vsw : Nat) (s : State) : Out :=
  fin s (
    if 4 ≤ d then s
    else
      let s := s.onDie d fun _ => { vsw := vsw }
      (List.range 32).foldl (fun (s : State) i => (s.onCh (32 * d + i) fun _ => {}).drive (32 * d + i)) s)

/-! ### Requests (R290, R292) -/

/-- R292: PO_CHn. -/
def State.poCh (s : State) (k : Nat) : Nat :=
  let c := s.och k
  let o := (s.cfg.output k).getD {}
  regOf [(0, 1, b2n c.cmd), (1, 1, b2n c.out), (2, 1, b2n c.gated), (3, 1, b2n (s.blanking k)), (4, 1, b2n c.limit),
    (5, 1, b2n (c.lowered != 0)), (6, 1, b2n c.thermal), (7, 1, b2n c.latched), (8, 1, b2n c.openOn), (9, 1, b2n c.openOff),
    (10, 1, b2n c.shortSup), (11, 1, b2n (s.chanUv k)), (12, 1, b2n c.proofFail), (16, 4, c.used), (20, 3, o.func),
    (23, 1, b2n (bit o.flags 0)), (24, 16, satU 16 c.current), (40, 8, satU 8 c.tj), (48, 8, c.trips)]

/-- R290: PO_SET. -/
def execPoSet (tk : Nat) (s : State) : Out :=
  fin s (s.onTicket tk 0x0E01 fun t =>
    let k := t.u 0 1
    match s.cfg.output k with
    | none => s.complete t St.badArgument
    | some o =>
      if o.func != 0 || 1 < t.u 1 1 then s.complete t St.badArgument
      else if (s.och k).latched || (s.och k).proofFail then s.complete t St.refusedState
      else (s.command k (t.u 1 1 == 1)).complete t St.ok)

/-- R291: PROOF_RESULT of a channel, or of all (0xFF); the die a result of all names in SOURCE is open (log entry 1). -/
def State.evProof (s : State) (k failed : Nat) : State :=
  if k = 0xFF then
    (s.raise { cls := .diag, die := 9 + s.free 2, unit := 0xFF, lane := 0xFF, code := 0xC005, time := s.now,
               data := leBytes 1 k ++ leBytes 1 (b2n (failed == 0)) ++ leBytes 1 failed }).drawn
  else s.evChan k 0xC005 (leBytes 1 k ++ leBytes 1 (b2n (failed == 0)) ++ leBytes 1 failed)

/-- R289: proof cycles of a list of channels: those in `bad` fail, those in `above` lie above 4.0 V in the off-state check; a channel
its owner lane commands on is deferred (R46). -/
def State.proofAll (s : State) (chans bad above : List Nat) : State :=
  chans.foldl (fun (s : State) k =>
    if s.laneHolds k then (s.onCh k fun c => { c with proofDue := true }).drive k else s.proofCycle k (!bad.contains k) (above.contains k)) s

/-- R290, R282, R283: PO_CLEAR: the latched channels named are cleared and proved. -/
def execPoClear (tk : Nat) (bad above : List Nat) (s : State) : Out :=
  fin s (s.onTicket tk 0x0E02 fun t =>
    let k := t.u 0 1
    if k != 0xFF && (s.cfg.output k).isNone then s.complete t St.badArgument
    else
      let chans := ((s.cfg.outputs.map (·.output)).filter fun c => (k == 0xFF || c == k) && (s.och c).latched)
      if chans.isEmpty then s.complete t St.ok
      else
        let s := chans.foldl (fun (s : State) c => s.onCh c fun x => { x with latched := false, used := 0 }) s
        let s := s.proofAll chans bad above
        let s := s.evProof k (chans.filter fun c => (s.och c).proofFail).length
        ((List.range 64).foldl (fun (s : State) n => s.settleOutput n) s).complete t St.ok)

/-- R290: PO_PROOF: the channels of the matrix, or one of them. -/
def execPoProof (tk : Nat) (bad above : List Nat) (s : State) : Out :=
  fin s (s.onTicket tk 0x0E03 fun t =>
    let k := t.u 0 1
    if k != 0xFF && (s.cfg.output k).isNone then s.complete t St.badArgument
    else if k != 0xFF && s.laneHolds k then s.complete t St.busy
    else
      let chans := (s.cfg.outputs.map (·.output)).filter fun c => k == 0xFF || c == k
      let res := chans.map fun c => if s.laneHolds c then 2 else b2n (bad.contains c)
      ((s.proofAll chans bad above).evProof k (res.filter (· == 1)).length).complete t St.ok (res.flatMap fun r => leBytes 1 r))

/-- R290: PO_READ. -/
def execPoRead (tk : Nat) (s : State) : Out :=
  fin s (s.onTicket tk 0x0E04 fun t =>
    let d := t.u 0 1
    if 4 ≤ d then s.complete t St.badArgument
    else s.complete t St.ok (((List.range 32).flatMap fun i => regBytes (s.poCh (32 * d + i))) ++ leBytes 2 (satU 16 (s.swd d).total) ++
      leBytes 2 (s.swd d).vsw))

end Sys2Proof.Machine
end

