-- ==== Sys2Proof/Machine/Sharing.lean ====
section
/-! DEFINITION. Sharing.lean: power sharing (R154-R172): who takes part, the allocation round, budgets and curtailments, dispatch, phase
sectors, and the sharing requests. -/
namespace Sys2Proof.Machine

/-! ### The fill (R158, R159) -/

/-- One lane that takes part in a round (R156, R157). -/
structure Sharer where
  /-- The lane, or at hub level the place in the order of R159. -/
  key : Nat
  prio : Nat
  /-- The entry time the round orders by. -/
  since : Nat
  active : Bool
  /-- The unsheddable floor of a basic AC lane in W, else 0. -/
  floor0 : Nat
  /-- MIN_POWER in W. -/
  minP : Nat
  /-- The cap in W. -/
  cap : Nat
  /-- Current per phase, in 0.1 A, of 1 W. -/
  per : Rat
  /-- The phases loaded, 0-2. -/
  loads : List Nat
  ac1 : Bool

/-- A budget: its limit, and the weight of 1 W of each lane it contains. -/
structure Budget where
  limit : Rat
  ws : List (Nat × Rat)

/-- Allocations in W. -/
abbrev Shares := List (Nat × Rat)

/-- The allocation of a lane. -/
def Shares.get (a : Shares) (k : Nat) : Rat := ((a.find? fun x => x.1 == k).map (·.2)).getD 0

/-- A lane takes an allocation. -/
def Shares.put (a : Shares) (k : Nat) (v : Rat) : Shares := a.map fun x => if x.1 == k then (k, v) else x

/-- What the lanes of a budget use of it. -/
def Budget.used (b : Budget) (a : Shares) : Rat := b.ws.foldl (fun t (k, w) => t + w * a.get k) 0

/-- R158: a further allocation fits every budget that contains the lane. -/
def fitsAll (bs : List Budget) (a : Shares) (k : Nat) (d : Rat) : Bool :=
  bs.all fun b => match b.ws.find? fun x => x.1 == k with | some (_, w) => decide (b.used a + w * d ≤ b.limit) | none => true

/-- Places an item before the first that an order puts after it. -/
def insertBy {α : Type} (lt : α → α → Bool) (x : α) : List α → List α
  | [] => [x]
  | y :: l => if lt x y then x :: y :: l else y :: insertBy lt x l

/-- A list in an order. -/
def sortBy {α : Type} (lt : α → α → Bool) : List α → List α
  | [] => []
  | x :: l => insertBy lt x (sortBy lt l)

/-- R158, R159: the order of floors and admissions: priority, entry time, lane. -/
def Sharer.before (x y : Sharer) : Bool :=
  decide (x.prio < y.prio) || (x.prio == y.prio && (decide (x.since < y.since) || (x.since == y.since && decide (x.key < y.key))))

/-- From `cur`, where the value is `v` and rises by `slope`, the level at which it reaches `target`; each later item adds its slope at
its place. -/
def reachFrom (cur v slope target : Rat) : List (Rat × Rat) → Option Rat
  | [] => if target ≤ v then some cur else if 0 < slope then some (cur + (target - v) / slope) else none
  | (x, w) :: l =>
    if target ≤ v then some cur
    else if 0 < slope && decide (target ≤ v + slope * (x - cur)) then some (cur + (target - v) / slope)
    else reachFrom x (v + slope * (x - cur)) (slope + w) target l

/-- The level from `level` on at which `base` and the items `w * max a level` reach a target. -/
def reach (level base target : Rat) (items : List (Rat × Rat)) : Option Rat :=
  let low := items.filter fun x => decide (x.1 ≤ level)
  let high := sortBy (fun (x y : Rat × Rat) => decide (x.1 < y.1)) (items.filter fun x => decide (level < x.1))
  reachFrom level (base + (items.foldl (fun t (a, w) => t + w * max a level) 0)) (low.foldl (fun t x => t + x.2) 0) target high

/-- R167: what lane `x` adds to phase `p` less what it adds to phase `q`, per W. -/
def Sharer.tilt (x : Sharer) (p q : Nat) : Rat := x.per * (((b2n (x.loads.contains p) : Nat) : Rat) - ((b2n (x.loads.contains q) : Nat) : Rat))

/-- R167: the allocated current of a phase. -/
def phaseCurrent (xs : List Sharer) (a : Shares) (p : Nat) : Rat :=
  xs.foldl (fun t x => if x.loads.contains p then t + x.per * a.get x.key else t) 0

/-- R167: the current of a phase less that of the least-loaded phase. -/
def phaseExcess (xs : List Sharer) (a : Shares) (p : Nat) : Rat :=
  phaseCurrent xs a p - min (phaseCurrent xs a 0) (min (phaseCurrent xs a 1) (phaseCurrent xs a 2))

/-- R158, R167: the filling of the lanes `free`, from a level on: the level rises until a lane reaches its cap or a budget fills; an
unbalance (0.1 A) that is reached counts as a full budget for the AC1 lanes that load the phase. -/
def fillN (xs : List Sharer) (bs : List Budget) (unbal : Option Rat) : Nat → List Sharer → Rat → Shares → Shares
  | 0, _, _, a => a
  | fuel + 1, free, level, a =>
    match free with
    | [] => a
    | f :: fs =>
      let isFree (k : Nat) : Bool := free.any fun x => x.key == k
      let cap := fs.foldl (fun m x => min m (x.cap : Rat)) (f.cap : Rat)
      let lower (m : Rat) (o : Option Rat) : Rat := match o with | some l => min m l | none => m
      let byBudget := bs.foldl (fun m b =>
        if b.ws.any fun x => isFree x.1 then
          lower m (reach level ((b.ws.filter fun x => !isFree x.1).foldl (fun t (k, w) => t + w * a.get k) 0) b.limit
            ((b.ws.filter fun x => isFree x.1).map fun (k, w) => (a.get k, w)))
        else m) cap
      let tight (p : Nat) : Bool := free.any fun x => x.ac1 && x.loads.contains p
      let byPhase := match unbal with
        | none => byBudget
        | some u => [(0, 1), (0, 2), (1, 0), (1, 2), (2, 0), (2, 1)].foldl (fun m (p, q) =>
            if tight p then
              lower m (reach level ((xs.filter fun x => !isFree x.key).foldl (fun t x => t + x.tilt p q * a.get x.key) 0) u
                (free.map fun x => (a.get x.key, x.tilt p q)))
            else m) byBudget
      let top := max level byPhase
      let a' := free.foldl (fun (a : Shares) x => a.put x.key (max (a.get x.key) top)) a
      let full := bs.filter fun (b : Budget) => decide (b.limit ≤ b.used a')
      let fullPhases := match unbal with | none => [] | some u => [0, 1, 2].filter fun p => decide (u ≤ phaseExcess xs a' p)
      let free' := free.filter fun x =>
        decide (a'.get x.key < x.cap) && !(full.any fun b => b.ws.any fun y => y.1 == x.key) &&
          !(x.ac1 && fullPhases.any fun p => x.loads.contains p)
      fillN xs bs unbal fuel free' top a'

/-- R158, R159: one tier: filled, rounded down to 100 W, and one further unit in ascending order where it fits. -/
def fillTier (xs : List Sharer) (bs : List Budget) (unbal : Option Rat) (tier : Nat) (a : Shares) : Shares :=
  let mine := sortBy (fun (x y : Sharer) => decide (x.key < y.key)) (xs.filter fun x => x.active && x.prio == tier)
  let a := fillN xs bs unbal (mine.length + 1) (mine.filter fun x => decide (a.get x.key < x.cap)) 0 a
  let a := mine.foldl (fun (a : Shares) x => a.put x.key (((a.get x.key).floor.toNat / 100 * 100 : Nat) : Rat)) a
  mine.foldl (fun (a : Shares) x =>
    let b := a.put x.key (a.get x.key + 100)
    if a.get x.key + 100 ≤ x.cap && fitsAll bs a x.key 100 &&
        (match unbal with | some u => !(x.ac1 && x.loads.any fun p => decide (u < phaseExcess xs b p)) | none => true) then b else a) a

/-- What a round gives. -/
structure Shared where
  /-- Allocations in W, multiples of 100. -/
  a : Shares
  admitted : List Nat
  shed : Nat
  waiting : Nat
  unmet : Nat
  /-- Power the floors lack, in W. -/
  short : Nat

/-- R158: floors, admissions and the tiers 0 to 7. -/
def shareOut (xs : List Sharer) (bs : List Budget) (unbal : Option Rat) : Shared :=
  let zero : Shares := xs.map fun x => (x.key, 0)
  let (a, unmet, short0) := (sortBy (fun (x y : Sharer) => decide (x.key < y.key)) (xs.filter fun x => x.active && decide (0 < x.floor0))).foldl
    (fun ((a : Shares), unmet, short) x =>
      (a.put x.key x.floor0, if fitsAll bs a x.key x.floor0 then (unmet, short) else (unmet + 1, short + x.floor0))) (zero, 0, 0)
  let (a, shed, short1) := (sortBy Sharer.before (xs.filter fun x => x.active)).foldl (fun ((a : Shares), shed, short) x =>
    let d := (x.minP : Rat) - a.get x.key
    if d ≤ 0 then (a, shed, short)
    else if fitsAll bs a x.key d then (a.put x.key x.minP, shed, short)
    else (a, shed + 1, short + d.floor.toNat)) (a, 0, short0)
  let (a, adm, wait, short2) := (sortBy Sharer.before (xs.filter fun x => !x.active)).foldl (fun ((a : Shares), adm, wait, short) x =>
    if fitsAll bs a x.key x.minP then (a.put x.key x.minP, adm ++ [x.key], wait, short) else (a, adm, wait + 1, short + x.minP))
    (a, ([] : List Nat), 0, short1)
  let a := (List.range 8).foldl (fun (a : Shares) t => fillTier xs bs unbal t a) a
  { a := a, admitted := adm, shed := shed, waiting := wait, unmet := unmet, short := short2 }

/-! ### Who takes part (R156, R157, R166) -/

/-- R160: the RMS phase voltage of a lane in 0.1 V. -/
def State.rmsOf (s : State) (n : Nat) : Nat :=
  let rated := (s.slot n).ratedU / 100
  match (s.psl n).acSince with
  | some t => if t + sec 1 ≤ s.now then ((s.psl n).uRms).getD rated else rated
  | none => rated

/-- The phase count of a lane. -/
def State.phasesOf (s : State) (n : Nat) : Nat := if s.typ n == .ac3 then 3 else 1

/-- R166, R167: the phases a lane loads: 0 L1, 1 L2, 2 L3; all of them while its sector is unknown. -/
def State.loadsOf (s : State) (n : Nat) : List Nat :=
  match s.typ n with
  | .ac3 => [0, 1, 2]
  | .ac1 => (match (s.psl n).sector with | 0 | 3 => [0] | 2 | 5 => [1] | 4 | 1 => [2] | _ => [0, 1, 2])
  | .none | .dcx | .dcb | .meter | .paired => []

/-- R156: an active lane. -/
def State.isActive (s : State) (n : Nat) : Bool := (s.lane n).st == .energy || (s.lane n).st == .degraded

/-- R156: a claimant. -/
def State.isClaimant (s : State) (n : Nat) : Bool :=
  match (s.lane n).st with
  | .negotiate | .isolationTest | .precharge | .suspended => true
  | .offline | .idle | .plugged | .identify | .authorise | .energy | .rampDown | .openCheck | .unlock | .fault | .degraded => false

/-- Up to a multiple of 100. -/
def up100 (w : Nat) : Nat := (w + 99) / 100 * 100

/-- R156: the demand of a lane in W. -/
def State.demandOf (s : State) (n : Nat) : Nat :=
  let h := (s.hsl n).l
  if (s.typ n).isAc && !(s.lane n).hlc then (s.psl n).pAvg + (s.slot n).maxPower / 10
  else if h.dynamic then h.evTargetP * 100
  else if (s.typ n).isAc then h.evTargetI.toNat * s.rmsOf n * s.phasesOf n / 100
  else h.evTargetI.toNat * (s.lane n).uOut / 100

/-- R156: the cap of an active lane in W before its floor. -/
def State.capOf (s : State) (n : Nat) : Nat :=
  let c := min (s.slot n).maxPower (s.demandOf n)
  let c := match (s.psl n).capW with | some w => min c w | none => c
  let c := if (s.typ n).isDc then min c ((s.ppl n).fb.pAvail * 100) else c
  if (s.lane n).st == .degraded then min c ((s.lane n).degCapP * 100) else c

/-- R156, R157: a lane as the round sees it. Floors go up and caps down to steps of 100 W. -/
def State.sharer (s : State) (n : Nat) : Sharer :=
  let l := s.lane n
  let act := s.isActive n
  let ac := (s.typ n).isAc
  let u := s.rmsOf n
  let minP := up100 (s.slot n).minPower
  let floor0 := if act && ac && !l.hlc then up100 ((6 * s.phasesOf n * u + 9) / 10) else 0
  let floor := if floor0 = 0 then minP else floor0
  { key := n, prio := (s.slot n).priority, since := if act then l.energyAt else l.negotiateAt, active := act, floor0 := floor0, minP := minP,
    cap := if act then max floor (s.capOf n / 100 * 100) else minP,
    per := if ac && u != 0 then (100 : Rat) / ((s.phasesOf n * u : Nat) : Rat) else 0, loads := s.loadsOf n, ac1 := s.typ n == .ac1 }

/-- R155, R156: a lane takes part: its type charges, its state shares and its group's PERMIT is high. -/
def State.takesPart (s : State) (n : Nat) : Bool :=
  (s.typ n).charges && (s.isActive n || s.isClaimant n) && (s.cfg.group (s.groupOf n)).isSome && s.permit (s.groupOf n)

/-! ### Budgets (R162, R165, R167) -/

/-- The least of a list of limits. -/
def leastOf : List Nat → Option Nat
  | [] => none
  | x :: l => some (l.foldl min x)

/-- R162: the module is a hub member. -/
def State.hubMember (s : State) : Bool :=
  s.kz.enable && (if s.kz.master then s.kz.nodes.any fun x => x.kind == 0 && x.departed.isNone && x.eui != s.ident.eui64 else s.kz.joined)

/-- R162, R164: the limits of a scope: requests that stand and limits held after their release. -/
def State.scopeLimits (s : State) (scope : Nat) : List Nat :=
  (s.ps.curtails.filter fun c => c.scope == scope).map (·.limit) ++ (s.ps.releases.filter fun r => r.scope == scope).map (·.limit)

/-- R162: the terms of the module import budget but those of GLIM; no grant bounds a member that has had none yet. -/
def State.plainTerms (s : State) : List Nat :=
  (if s.ps.moduleW = 0 then [] else [s.ps.moduleW]) ++
  ((s.ps.curtails.filter fun c => c.scope == 0xFF).map (·.limit)) ++
  ((s.ps.releases.filter fun r => r.scope == 0xFF && decide (2 ≤ r.source)).map (·.limit)) ++
  (if s.hubMember && (s.ps.fallback || s.ps.grantAt.isSome) then [s.ps.grantW] else []) ++
  (if 1 ≤ s.pw.state && s.pw.state ≤ 3 then [0] else [])

/-- R162: the GLIM terms. -/
def State.glimTerms (s : State) : List Nat :=
  (if s.ps.glim0Act then [s.ps.glim0W] else []) ++ (if s.ps.glim1Act then [s.ps.glim1W] else []) ++
  ((s.ps.releases.filter fun r => r.scope == 0xFF && decide (r.source < 2)).map (·.limit))

/-- R162, R165: the module import budget, none when no term applies; EXPORT_CREDIT raises it by the export measured. -/
def State.moduleBudget (s : State) : Option Nat :=
  match leastOf (s.plainTerms ++ s.glimTerms) with
  | none => none
  | some b =>
    if s.ps.exportCredit then
      let top := if s.ps.moduleW != 0 then s.ps.moduleW
        else (leastOf s.plainTerms).getD ((s.cfg.groups.map (·.pMax)).sum)
      some (max b (min top (b + s.ps.exportMeas)))
    else some b

/-- R162: P_MAX of a group after curtailment. -/
def State.groupBudget (s : State) (g : Nat) : Nat :=
  match s.cfg.group g with
  | none => 0
  | some e => (s.scopeLimits g).foldl min e.pMax

/-- R158, R167: every budget of the import fill of a list of lanes. -/
def State.budgets (s : State) (xs : List Sharer) : List Budget :=
  let mod : List Budget := match s.moduleBudget with | some b => [{ limit := b, ws := xs.map fun x => (x.key, 1) }] | none => []
  let phase (limit : Nat) (ys : List Sharer) : List Budget :=
    if limit = 0 then []
    else [0, 1, 2].map fun p => { limit := limit, ws := (ys.filter fun x => x.loads.contains p).map fun x => (x.key, x.per) }
  mod ++ phase s.ps.phaseLimit xs ++ s.cfg.groups.flatMap fun g =>
    let ys := xs.filter fun x => s.groupOf x.key == g.group
    { limit := s.groupBudget g.group, ws := ys.map fun x => (x.key, 1) } :: phase g.iPhaseMax ys

/-- R167: UNBAL_A in 0.1 A, when it is not 0. -/
def State.unbal (s : State) : Option Rat := if s.ps.unbalA = 0 then none else some ((s.ps.unbalA * 10 : Nat) : Rat)

/-! ### Events (R171) -/

/-- R171: CURTAIL_START, at a stamp. -/
def State.evCurtailStart (s : State) (src scope limit stamp : Nat) : State :=
  s.raise { cls := if src = 2 then .host else .external, die := s.rd.active, unit := 0, lane := 0xFF, code := 0x5101, time := stamp,
            data := leBytes 1 src ++ leBytes 1 scope ++ leBytes 4 limit }

/-- R171: CURTAIL_END. -/
def State.evCurtailEnd (s : State) (src scope hold : Nat) : State :=
  s.evMod (if src = 2 then .host else .external) s.rd.active 0 0x5102 (leBytes 1 src ++ leBytes 1 scope ++ leBytes 1 hold)

/-- R171: DISPATCH. -/
def State.evDispatch (s : State) (status lanes target : Nat) : State :=
  s.evMod .diag s.rd.active 0 0x5107 (leBytes 1 status ++ leBytes 1 lanes ++ leBytes 4 target)

/-! ### The round (R158-R161, R165) -/

/-- R170, R79: PS_LANE_CAP and PS_DISPATCH requests that are still outstanding take effect with the round. -/
def State.roundRequests (s : State) : State :=
  s.ps.roundTickets.foldl (fun (s : State) tk =>
    let s := s.onTicket tk 0x0304 fun t =>
      (s.onPs (t.u 0 1) fun l => { l with capW := if t.u 1 4 = 0xFFFFFFFF then none else some (t.u 1 4) }).complete t St.ok
    s.onTicket tk 0x0303 fun t =>
      let dur := t.u 12 4
      let prev := match s.ps.dispatch with | some d => d.started || d.prev | none => false
      { s with ps := { s.ps with dispatch := some { mask := t.u 0 8, target := t.u 8 4, prev := prev,
                                                    until_ := if dur = 0 then none else some (s.now + sec dur) } } }.complete t St.ok)
    { s with ps := { s.ps with roundTickets := [] } }

/-- R165: the lanes that share the export target. -/
def State.exporters (s : State) : List Nat :=
  match s.ps.dispatch with
  | none => []
  | some d =>
    if d.target = 0 then []
    else (bitsOf 64 d.mask).filter fun n =>
      s.isActive n && s.takesPart n && s.exportOk n && (match s.cfg.group (s.groupOf n) with | some g => g.exportOk | none => false)

/-- R165: the export fill: the vehicles' discharge limits against the target and each group's EXPORT_MAX. -/
def State.exportFill (s : State) (lanes : List Nat) (target : Nat) : Shares :=
  let xs := lanes.map fun n =>
    let h := (s.hsl n).l
    let c := min (h.evDisP * 100) (h.evDisI * (s.lane n).uOut / 100)
    { s.sharer n with active := true, floor0 := 0, minP := 0, cap := c / 100 * 100, loads := [], per := 0, ac1 := false }
  let bs := ({ limit := target, ws := xs.map fun x => (x.key, 1) } : Budget) ::
    s.cfg.groups.map fun g => { limit := g.exportMax, ws := (xs.filter fun x => s.groupOf x.key == g.group).map fun x => (x.key, 1) }
  (shareOut xs bs none).a

/-- R144: an allocation of another sign than the present direction asks for a change of direction; one asked during a change
replaces its target. -/
def State.steer (s : State) (n : Nat) (u : Int) : State :=
  let want := if u < 0 then 2 else if 0 < u then 1 else 0
  let l := s.lane n
  if !(s.isActive n && s.typ n == .dcb && (s.ppl n).currentMode) || want = 0 then s
  else if (s.ppl n).dirTarget != 0 then s.onPp n fun p => { p with dirTarget := want }
  else if l.dir != want && l.dir != 0 then (s.onPp n fun p => { p with dirTarget := want }).startRamp n
  else s

/-- R160: an allocation, in 100 W, reaches its lane: P_ALLOC, the current per phase and the duty. -/
def State.allot (s : State) (n : Nat) (u : Int) (admitted : Bool) : State :=
  let s := s.onLane n fun l => { l with pAlloc := u, admitted := admitted }
  let s := if (s.typ n).isAc then
      let v := s.phasesOf n * s.rmsOf n
      s.onPs n fun q => { q with iPhase := if v = 0 then 0 else u.toNat * 10000 / v }
    else s
  let l := s.lane n
  let s := if (s.typ n).isAc && !l.hlc && (l.cp == .pwm || (match l.cpNext with | some (m, _, _) => m == .pwm | none => false)) then
      s.cpPwm n else s
  s.steer n u

/-- R165, R171: a dispatch starts or ends with the round. -/
def State.dispatchEvents (s : State) (exporters : Nat) : State :=
  match s.ps.dispatch with
  | none => s
  | some d =>
    if d.target = 0 ∨ d.mask = 0 then
      let t := { s with ps := { s.ps with dispatch := none } }
      if d.prev || d.started then t.evDispatch 1 0 d.target else t
    else if d.started then s
    else { s with ps := { s.ps with dispatch := some { d with started := true } } }.evDispatch 0 exporters d.target

/-- R158-R161, R164, R165: an allocation round; a regular one takes the budgets raised since. -/
def State.allocRound (s : State) (regular : Bool) : State :=
  let s := if regular then
      { s with ps := { s.ps with releases := s.ps.releases.filter fun r => !r.ended,
                                 exportMeas := s.ps.expQ / 2 ^ 32 * 36 / 1000, expQ := 0 } }
    else s
  let s := s.roundRequests
  let ex := s.exporters
  let target := match s.ps.dispatch with | some d => d.target | none => 0
  let xs := ((List.range 64).filter fun n => s.takesPart n && !ex.contains n).map s.sharer
  let r := shareOut xs (s.budgets xs) s.unbal
  let ea := s.exportFill ex target
  let budget := s.moduleBudget
  let units (n : Nat) : Int := if ex.contains n then -(((ea.get n).floor.toNat / 100 : Nat) : Int) else (((r.a.get n).floor.toNat / 100 : Nat) : Int)
  let s := (List.range 64).foldl (fun (s : State) n =>
    if (s.typ n).charges then s.allot n (units n) (r.admitted.contains n || (s.isActive n && (s.lane n).admitted)) else s) s
  let cur (p : Nat) : Nat := satU 16 (phaseCurrent xs r.a p).floor.toNat
  let imp := (xs.map fun x => (r.a.get x.key).floor.toNat).sum
  let exp := (ex.map fun n => (ea.get n).floor.toNat).sum
  let s := { s with ps := { s.ps with
    budgetW := match budget with | some b => satU 32 b | none => 0xFFFFFFFF,
    activeN := ((List.range 64).filter fun n => s.takesPart n && s.isActive n).length, waitingN := r.waiting, short := decide (0 < r.unmet),
    importW := satU 32 imp, exportW := satU 32 exp, l1 := cur 0, l2 := cur 1, l3 := cur 2, lastRound := s.now } }
  let s := s.dispatchEvents ex.length
  if r.shed + r.waiting + r.unmet = 0 then s
  else s.evMod .diag s.rd.active 0 0x5103 (leBytes 4 (satU 32 r.short) ++ leBytes 1 r.shed ++ leBytes 1 r.waiting ++ leBytes 1 r.unmet)

/-- R158: the regular round, every 100 ms at multiples of 100,000,000 ns. -/
def execAllocationRound (s : State) : Out := fin s (s.allocRound true)

/-! ### Curtailment (R161-R164, R169) -/

/-- R164: a new lowering of a source starts the holds of that source afresh; one of the same scope ends the hold. -/
def State.lowered (s : State) (src scope : Nat) : State :=
  { s with ps := { s.ps with releases := (s.ps.releases.filter fun r => !(r.source == src && r.scope == scope)).map fun r =>
    if r.source == src && !r.ended then { r with until_ := s.now + sec s.ps.releaseS } else r } }

/-- R164: a curtailment is lifted: its limit is held for RELEASE_S. -/
def State.lifted (s : State) (src scope limit : Nat) : State :=
  { s with ps := { s.ps with releases := (s.ps.releases.filter fun r => !(r.source == src && r.scope == scope)) ++
    [{ source := src, scope := scope, limit := limit, until_ := s.now + sec s.ps.releaseS, hold := s.ps.releaseS }] } }

/-- R162, R161: a level of GLIM0 or GLIM1 has held since `stamp`, 1 ms or more. -/
def execGlimChange (k : Nat) (high : Bool) (stamp : Nat) (s : State) : Out :=
  fin s (
    let on := high == (if k = 0 then s.ps.glim0Pol else s.ps.glim1Pol)
    let was := if k = 0 then s.ps.glim0Act else s.ps.glim1Act
    let w := if k = 0 then s.ps.glim0W else s.ps.glim1W
    if 1 < k || on == was || s.now < stamp + ms 1 then s
    else
      let s := { s with ps := { s.ps with glim0Act := if k = 0 then on else s.ps.glim0Act, glim1Act := if k = 1 then on else s.ps.glim1Act } }
      if on then ((s.lowered k 0xFF).evCurtailStart k 0xFF w stamp).allocRound false
      else s.lifted k 0xFF w)

/-- R164, R171: RELEASE_S has passed without a new lowering: the budget rises at the next regular round. -/
def execReleaseHoldEnd (src scope : Nat) (s : State) : Out :=
  fin s (match s.ps.releases.find? fun r => r.source == src && r.scope == scope && !r.ended with
    | some r =>
      if s.now < r.until_ then s
      else
        let s := { s with ps := { s.ps with releases := s.ps.releases.map fun (x : Release) =>
          if x.source == src && x.scope == scope then { x with ended := true } else x } }
        s.evCurtailEnd src scope r.hold
    | none => s)

/-- R162: a request curtailment reaches its end in legal time. -/
def execCurtailExpiry (scope : Nat) (s : State) : Out :=
  fin s (match s.ps.curtails.find? fun c => c.scope == scope with
    | some c =>
      if (match c.endLegal with | some e => decide (e ≤ s.legalSec) | none => false) then
        { s with ps := { s.ps with curtails := s.ps.curtails.filter fun x => x.scope != scope } }.lifted 2 scope c.limit
      else s
    | none => s)

/-- R165: an export dispatch reaches its duration; its lanes return to the import fill at the next round. -/
def execDispatchExpiry (s : State) : Out :=
  fin s (match s.ps.dispatch with
    | some d =>
      if (match d.until_ with | some t => decide (t ≤ s.now) | none => false) then
        { s with ps := { s.ps with dispatch := none } }.evDispatch 2 s.exporters.length d.target
      else s
    | none => s)

/-- R161, R162, R169: a grant in force, or the fallback: a lower one applies with a new round at once, a higher one at the next round. -/
def State.grantTakes (s : State) (w : Nat) (fallback : Bool) : State :=
  let old := if s.ps.fallback || s.ps.grantAt.isSome then some s.ps.grantW else none
  let s : State := { s with ps := { s.ps with grantW := w, fallback := fallback } }
  let s : State := if fallback then s else { s with ps := { s.ps with grantAt := some s.now, grantFrom := s.now, newMaster := false } }
  let down := match old with | some o => decide (w < o) | none => true
  let up := match old with | some o => decide (o < w) | none => false
  if down && s.hubMember then
    ({ s with ps := { s.ps with grantCut := true } }.evCurtailStart 3 0xFF w s.now).allocRound false
  else if up && s.ps.grantCut then { s with ps := { s.ps with grantCut := false } }.evCurtailEnd 3 0xFF 0
  else s

/-- R169: a hub member has had no grant for 3 s. -/
def execGrantLoss (s : State) : Out :=
  fin s (
    if s.hubMember && !s.ps.fallback && s.ps.grantFrom + sec 3 ≤ s.now then
      (s.evMod .diag s.rd.active 0 0x5105 (leBytes 1 (b2n s.ps.newMaster) ++ leBytes 4 s.ps.fallbackW)).grantTakes s.ps.fallbackW true
    else s)

/-- R169: the master has had no report from a module for 3 s. -/
def execModuleReportLoss (addr : Nat) (s : State) : Out :=
  fin s (match s.ps.reports.find? fun r => r.addr == addr with
    | some r =>
      if s.kz.master && !r.absent && r.atT + sec 3 ≤ s.now then
        let s := { s with ps := { s.ps with reports := s.ps.reports.map fun (x : HubRep) => if x.addr == addr then { x with absent := true } else x } }
        s.evMod .diag s.rd.active 0 0x5106 (leBytes 2 addr ++ leBytes 4 r.fallback)
      else s
    | none => s)

/-! ### Phase sectors (R166) -/

/-- R166, R405: the L1 reference: an edge of it and its period; the hub master's on a member, else the module's own ZC. -/
def State.lineRef (s : State) : Option (Nat × Nat) :=
  if s.hubMember && !s.kz.master then s.kz.refAt
  else match s.kz.zcAt with
    | some t => if s.zcOk then some (t, s.zcPeriod) else none
    | none => none

/-- R166: the TIME `edge` of a zero crossing of a lane's V_L1N is measured against the reference, within 200 ms of AC_MAIN's
confirmation. -/
def execPhaseSectorMeasure (n edge : Nat) (s : State) : Out :=
  fin s (match s.lineRef with
    | some (ref, period) =>
      let old := (s.psl n).sector
      if (s.typ n).isAc && (match (s.psl n).acSince with | some t => decide (s.now ≤ t + ms 200) | none => false) then
        let x := phaseLag edge ref period
        let sect := phaseSector x period
        let t := s.onPs n fun q => { q with sector := sect }
        if sect = old then t
        else (t.evLane .diag n 0x5104 (leBytes 1 old ++ leBytes 1 sect ++ leBytes 2 (s.phaseTenths x period))).drawn
      else s
    | none => s)

/-! ### Requests and registers (R170, R172) -/

/-- R170: PS_CURTAIL. -/
def execPsCurtail (tk : Nat) (s : State) : Out :=
  fin s (s.onTicket tk 0x0301 fun t =>
    let sc := t.u 0 1
    let w := t.u 1 4
    let dur := t.u 5 4
    if sc != 0xFF && (15 < sc || (s.cfg.group sc).isNone) then s.complete t St.badArgument
    else
      let e := { scope := sc, limit := w, endLegal := if dur = 0 then none else some (s.legalSec + dur) : Curtail }
      let s := s.lowered 2 sc
      let s := { s with ps := { s.ps with curtails := (s.ps.curtails.filter fun (c : Curtail) => c.scope != sc) ++ [e] } }
      ((s.evCurtailStart 2 sc w s.now).allocRound false).complete t St.ok)

/-- R170: PS_CURTAIL_CLEAR. -/
def execPsCurtailClear (tk : Nat) (s : State) : Out :=
  fin s (s.onTicket tk 0x0302 fun t =>
    let sc := t.u 0 1
    match s.ps.curtails.find? fun c => c.scope == sc with
    | some c => ({ s with ps := { s.ps with curtails := s.ps.curtails.filter fun x => x.scope != sc } }.lifted 2 sc c.limit).complete t St.ok
    | none => s.complete t St.ok)

/-- R165, R170: PS_DISPATCH: it takes effect, and completes, at the next round. -/
def execPsDispatch (tk : Nat) (s : State) : Out :=
  fin s (s.onTicket tk 0x0303 fun t =>
    if (bitsOf 64 (t.u 0 8)).any fun n => s.typ n != .dcb then s.complete t St.badArgument
    else if s.ps.roundTickets.contains tk then s
    else { s with ps := { s.ps with roundTickets := s.ps.roundTickets ++ [tk] } })

/-- R170: PS_LANE_CAP: it takes effect, and completes, at the next round. -/
def execPsLaneCap (tk : Nat) (s : State) : Out :=
  fin s (s.onTicket tk 0x0304 fun t =>
    if s.nLanes ≤ t.u 0 1 then s.complete t St.badArgument
    else if s.ps.roundTickets.contains tk then s
    else { s with ps := { s.ps with roundTickets := s.ps.roundTickets ++ [tk] } })

/-- R170: PS_HUB_LIMIT: it takes effect, and completes, at the next hub round. -/
def execPsHubLimit (tk : Nat) (s : State) : Out :=
  fin s (s.onTicket tk 0x0305 fun t =>
    if !s.kz.master then s.complete t St.refusedState
    else if s.ps.hubTickets.contains tk then s
    else { s with ps := { s.ps with hubTickets := s.ps.hubTickets ++ [tk] } })

/-- R172: PS_CFG. -/
def State.psCfg (s : State) : Nat :=
  regOf [(0, 8, s.ps.unbalA), (8, 8, s.ps.releaseS), (16, 1, b2n s.ps.exportCredit), (17, 1, b2n s.ps.glim0Pol), (18, 1, b2n s.ps.glim1Pol)]

/-- R172: a write of PS_CFG; RELEASE_S 0 is stored as 1. -/
def State.writePsCfg (s : State) (v : Nat) : State :=
  { s with ps := { s.ps with unbalA := fieldOf v 0 8, releaseS := max 1 (fieldOf v 8 8), exportCredit := flagOf v 16,
                             glim0Pol := flagOf v 17, glim1Pol := flagOf v 18 } }

/-- R172: PS_PHASE. -/
def State.psPhase (s : State) : Nat := regOf [(0, 16, s.ps.phaseLimit), (16, 16, s.ps.l1), (32, 16, s.ps.l2), (48, 16, s.ps.l3)]

/-- R172: PS_STATUS. -/
def State.psStatus (s : State) : Nat :=
  regOf [(0, 32, s.ps.budgetW), (32, 8, s.ps.activeN), (40, 8, s.ps.waitingN), (48, 1, b2n s.ps.glim0Act), (49, 1, b2n s.ps.glim1Act),
    (50, 1, b2n (!s.ps.curtails.isEmpty)), (51, 1, b2n s.kz.master), (52, 1, b2n s.ps.fallback), (53, 1, b2n s.ps.short)]

/-- R172: PS_HUB. -/
def State.psHub (s : State) : Nat :=
  regOf [(0, 32, s.ps.grantW), (32, 8, if s.kz.master then (s.ps.reports.filter fun r => !r.absent).length else 0),
    (40, 8, if s.kz.master then (s.ps.reports.filter fun r => r.absent).length else 0),
    (48, 16, match s.ps.grantAt with | some t => satU 16 ((s.now - t) / 1000000) | none => 0xFFFF)]

/-- R172: PS_GROUP of the group PS_SEL shows. -/
def State.psGroup (s : State) : Nat :=
  regOf [(0, 32, satU 32 (((s.lanesOf s.ps.sel).map fun n => (s.lane n).pAlloc.toNat * 100).sum)), (32, 32, s.groupBudget s.ps.sel)]

/-- R172: PS_SECTORi. -/
def State.psSector (s : State) (i : Nat) : Nat :=
  regOf ((List.range 16).map fun j => (4 * j, 4, if (s.typ (16 * i + j)).isAc then (s.psl (16 * i + j)).sector else 6))

/-- R170: PS_READ. -/
def execPsRead (tk : Nat) (s : State) : Out :=
  fin s (s.onTicket tk 0x0306 fun t =>
    s.complete t St.ok (regBytes s.psStatus ++ regBytes (regOf [(0, 32, s.ps.importW), (32, 32, s.ps.exportW)]) ++ regBytes s.psPhase ++
      regBytes s.psHub ++ (List.range 64).flatMap fun n => leBytes 2 (toBits 16 (s.lane n).pAlloc)))

end Sys2Proof.Machine
end

