-- ==== Sys2Proof/Machine/Tracer.lean ====
section
/-! DEFINITION. Tracer.lean: what a sample instant does (R197-R204, R222-R225, R232): channels, their validity, power and energy of the
lanes, and what the other chapters take from the measured values. -/
namespace Sys2Proof.Machine

/-! ### Channels (R198-R204, R207) -/

/-- R36-R38: the lane a channel belongs to: slot n+1 of an AC3 lane belongs to it. -/
def State.chanLane (s : State) (c : Nat) : Nat := if s.typ (c / 5) == .paired then c / 5 - 1 else c / 5

/-- R33: the GAIN code of a channel. -/
def State.chanGain (s : State) (c : Nat) : Nat := fieldOf (s.slot (c / 5)).gain (2 * (c % 5)) 2

/-- The integer square root, by Newton's method from above. -/
def isqrtFrom : Nat → Nat → Nat → Nat
  | 0, _, r => r
  | fuel + 1, n, r => let q := (r + n / r) / 2; if q < r then isqrtFrom fuel n q else r

/-- The greatest number whose square is at most `n`. -/
def isqrt (n : Nat) : Nat := if n = 0 then 0 else isqrtFrom 200 n (2 ^ (n.log2 / 2 + 1))

/-- R198: full scale of a GAIN code, in mV. -/
def fullScale (g : Nat) : Rat := if g = 2 then 125 / 4 else if g = 1 then 250 else 1000

/-- R203: a current channel of a coil lane. -/
def State.isCoil (s : State) (c : Nat) : Bool := (s.slot (s.chanLane c)).sensor == 2 && isCurrentFunc (s.cfg.chanFunc c)

/-- The channels in use. -/
def State.usedChans (s : State) : List Nat := (List.range 320).filter fun c => s.cfg.chanFunc c != 0 && s.chanGain c != 3

/-- R204: the channel delivers valid samples. -/
def State.chanValid (s : State) (c : Nat) : Bool :=
  let h := s.chan c
  h.seen && h.actOk && s.mt.refOk.getD (c / 80) false && !h.clipTimeout && h.settleEnd.isNone && s.chanGain c != 3

/-- R207, R199: the corrected sample; an input beyond full scale yields the end of the range. -/
def MtChan.corrected (h : MtChan) (x : ChanIn) : Rat :=
  let raw : Int := if x.clip then (if x.raw < 0 then -8388607 else 8388607) else x.raw
  ((raw - h.offset : Int) : Rat) * ((h.gain : Nat) : Rat) / (2 ^ 30 : Nat)

/-- R220: samples of the runs that lie within the last minute. -/
def clipCount (t : Nat) (l : List (Nat × Nat)) : Nat :=
  let lo := t + 31250 - sec 60
  l.foldl (fun k (a, b) => if lo ≤ b then k + (b - max a lo) / 31250 + 1 else k) 0

/-- R199, R204: a clipped sample of stamp `t` joins the runs of the last minute. -/
def clipRuns (t : Nat) (l : List (Nat × Nat)) : List (Nat × Nat) :=
  (match l with
    | (a, b) :: r => if b + 31250 = t then (a, t) :: r else (t, t) :: l
    | [] => [(t, t)]).filter fun x => decide (t < x.2 + sec 60)

/-- R197-R204: a channel takes a sample; the register shows the nearest sample, its rounding open (log entry 1). -/
def State.takeChan (s : State) (t : Nat) (x : ChanIn) : State :=
  let c := x.chan
  let old := s.chan c
  let v := old.corrected x
  let r : Int := v.floor + (if v.den = 1 then 0 else ((s.free 512 >>> c) % 2 : Nat))
  let settle := if s.isCoil c && !old.seen then some (t + sec 5) else old.settleEnd
  let s := s.onChan c fun h =>
    { h with sample := max (-8388608) (min 8388607 r), clip := x.clip, seen := true, actOk := x.act, settleEnd := settle,
             clips := if x.clip then satU 16 (h.clips + 1) else h.clips, clipRuns := if x.clip then clipRuns t h.clipRuns else h.clipRuns,
             clipSince := if x.clip then some (h.clipSince.getD t) else none, clipTimeout := x.clip && h.clipTimeout }
  let ok := s.chanValid c
  let s := s.onChan c fun h => { h with validSince := if ok then some (h.validSince.getD t) else none }
  let h := s.chan c
  if x.clip && (match h.clipAt with | some a => decide (a + sec 60 ≤ t) | none => true) then
    let n := s.chanLane c
    let s := s.onChan c fun h => { h with clipAt := some t }
    let s := { s with mt := { s.mt with clipEvents := satU 16 (s.mt.clipEvents + 1) } }
    s.raise { cls := .diag, die := tracerDie (c / 5), unit := c / 5, lane := n, code := 0x3002, time := t,
              data := leBytes 2 c ++ leBytes 4 (clipCount t h.clipRuns) }
  else s

/-! ### Lanes -/

/-- The channel of a lane that carries a function. -/
def State.funcChan (s : State) (n f : Nat) : Option Nat := (s.laneChans n).find? fun c => s.cfg.chanFunc c == f

/-- R201: volts of a corrected sample of a voltage channel of a lane. -/
def State.volts (s : State) (n : Nat) (x : Rat) : Rat := x * ((s.slot n).divider : Nat) / (1000 * 2 ^ 23 : Nat)

/-- R198, R201: amperes of a corrected sample of a current channel of a lane. -/
def State.amps (s : State) (n c : Nat) (x : Rat) : Rat :=
  let mv := x * fullScale (s.chanGain c) / (2 ^ 23 : Nat)
  let k : Rat := ((s.slot n).scale : Nat)
  if (s.slot n).sensor = 1 then mv * k / 100000 else mv * 1000 / k

/-- The corrected value of the lane's channel of a function, 0 without one. -/
def State.value (s : State) (n f : Nat) (xs : List ChanIn) : Rat :=
  match s.funcChan n f with
  | some c =>
    let v := (s.chan c).corrected ((xs.find? fun x => x.chan == c).getD { chan := c })
    if isCurrentFunc f then s.amps n c v else s.volts n v
  | none => 0

/-- R223: the delayed voltage of the lane's channel of a function. -/
def State.lagged (s : State) (n f : Nat) (xs : List ChanIn) : Rat :=
  match s.funcChan n f with
  | some c => s.volts n ((((xs.find? fun x => x.chan == c).getD { chan := c }).lag : Int) : Rat)
  | none => 0

/-- R222, R37: the lane measures AC: its channels have V_L1N. -/
def State.measuresAc (s : State) (n : Nat) : Bool := (s.funcChan n 0x10).isSome

/-- R222, R223, R232: the products and squares of one sample of an AC lane. -/
def State.acSample (s : State) (n : Nat) (xs : List ChanIn) : MtSamp :=
  let v (k : Nat) := s.value n (0x10 + k) xs
  let i (k : Nat) := s.value n (0x14 + k) xs
  { s := v 0 * i 0 + v 1 * i 1 + v 2 * i 2,
    q := s.lagged n 0x10 xs * i 0 + s.lagged n 0x11 xs * i 1 + s.lagged n 0x12 xs * i 2,
    i1 := i 0 * i 0, i2 := i 1 * i 1, i3 := i 2 * i 2, pk1 := (v 0).abs, pk2 := (v 1).abs, pk3 := (v 2).abs }

/-- R223: samples of the period mean: those of the last whole period, 640 without a valid one. -/
def MtLane.periodN (m : MtLane) : Nat := m.period.getD 640

/-- R223: the mean of a quantity over the samples of a window. -/
def meanOf (f : MtSamp → Rat) (l : List MtSamp) : Rat := if l.isEmpty then 0 else (l.foldl (fun a x => a + f x) 0) / (l.length : Nat)

/-- R223: a rising zero crossing of V_L1N closes a whole period; one outside 45-65 Hz is no valid period. -/
def MtLane.cross1 (m : MtLane) (v : Rat) : MtLane :=
  let k := m.cross.map (· + 1)
  if m.neg && decide (0 ≤ v) then
    let p := match k with | some n => if 492 ≤ n ∧ n ≤ 711 then some n else none | none => none
    let w := m.win.take (p.getD 640)
    { m with neg := false, cross := some 0, period := p,
             acRms := max (meanOf MtSamp.i1 w) (max (meanOf MtSamp.i2 w) (meanOf MtSamp.i3 w)) :: m.acRms }
  else
    { m with neg := decide (v < 0), cross := match k with | some n => if 711 < n then none else some n | none => none,
             period := match k with | some n => if 711 < n then none else m.period | none => none }

/-- What one sample instant gives a lane (R222, R232). -/
structure Power where
  p : Rat
  q : Rat
  /-- Σ i² of the loss. -/
  ii : Rat
  /-- U_OUT, and the current LN_POWER and the ramps take, signed. -/
  u : Rat
  i : Rat
  /-- Mean over the phases of the squared phase voltage, for R160. -/
  v2 : Rat

/-- R222-R224: `q` of an amount of energy p × 31.25 µs in 2^-32 of 10^-6 Wh; its rounding is open (log entry 1). -/
def State.energyQ (s : State) (p : Rat) (k : Nat) : Nat :=
  let e := p.abs * (2 ^ 32 * 10 : Nat) / 1152
  e.floor.toNat + (if e.den = 1 then 0 else (s.free 1024 >>> k) % 2)

/-- R160, R156: the 100 ms in progress take a sample, and close at their end. -/
def State.takeBlk (s : State) (n t : Nat) (w : Power) : State :=
  let s := s.onMtl n fun m => { m with blk := { v2 := m.blk.v2 + w.v2, p := m.blk.p + w.p, n := m.blk.n + 1 } }
  if t % ms 100 = 0 then
    let s := s.onMtl n fun m => { m with blks := (m.blk :: m.blks).take 10, blk := {} }
    let l := (s.mtl n).blks
    let k := (l.map (·.n)).sum
    if l.length = 10 then
      s.onPs n fun q =>
        { q with uRms := some (isqrt (100 * (l.foldl (fun a b => a + MtBlk.v2 b) 0) / (k : Nat)).floor.toNat),
                 pAvg := (((l.foldl (fun a b => a + MtBlk.p b) 0) / (k : Nat)).abs).floor.toNat }
    else s
  else s

/-- R225: a quadrant register takes reactive energy. -/
def Acc.addQ (a : Acc) (p q : Rat) (e : Nat) : Acc :=
  if 0 ≤ p then (if 0 ≤ q then { a with q1 := a.q1 + e } else { a with q4 := a.q4 + e })
  else if 0 ≤ q then { a with q2 := a.q2 + e } else { a with q3 := a.q3 + e }

/-- R224, R225, R232, R315: a sample advances the registers of a lane. -/
def State.register (s : State) (n : Nat) (w : Power) : State :=
  let ex := decide (w.p < 0)
  let e := s.energyQ w.p (4 * n)
  let loss := w.ii * (((s.enr false n).cableR : Nat) : Rat) / 1000000
  let c := if w.p = 0 then 0 else if ex then s.energyQ (-w.p + loss) (4 * n + 1) else s.energyQ (max (w.p - loss) 0) (4 * n + 1)
  let c := if (s.enr false n).cableR = 0 then e else c
  let s1 := (s.addActive false n ex e).addConn n ex c
  let s1 := if s.measuresAc n then s1.onEn false n fun r => { r with acc := r.acc.addQ w.p w.q (s.energyQ w.q (4 * n + 2)) } else s1
  let s1 := if 0 < e && !s1.bl.advanced.contains n then { s1 with bl := { s1.bl with advanced := s1.bl.advanced ++ [n] } } else s1
  if ex && (s.typ n).charges then { s1 with ps := { s1.ps with expQ := s1.ps.expQ + e } } else s1

/-- R235: the reverse current of a lane has held since. -/
def State.reverse (s : State) (n t : Nat) (w : Power) : State :=
  let lim : Rat := ((s.slot n).ratedI : Nat) / 50000
  let rev := if s.measuresAc n then decide (w.p < 0) && decide (lim < w.i.abs) else decide (w.i < -lim)
  s.onEn false n fun e => { e with revSince := if rev then some (e.revSince.getD t) else none }

/-- R222-R225, R240, R213: power and energy of a lane at a sample instant. -/
def State.laneEnergy (s : State) (n t : Nat) (w : Power) : State :=
  let ok := (s.laneChans n).all fun c => s.chanValid c
  let m := s.mtl n
  let s := s.takeBlk n t w
  let s := s.reverse n t w
  if (s.slot n).sensor = 3 then s
  else if m.test then
    if m.run && ok then
      let e := s.energyQ w.p (4 * n)
      s.onMtl n fun m => if w.p < 0 then { m with testExp := m.testExp + e } else { m with testImp := m.testImp + e }
    else s
  else if (s.lane n).st == .offline then s
  else if !ok then s.onEn false n fun e => { e with gap := true, intGap := true, sess := e.sess.map fun x => { x with gap := true } }
  else
    let s := s.onEn false n fun e => { e with gap := false }
    if m.run then s.register n w else s

/-- R204, R84: a METER lane in IDLE goes to ENERGY once its channels deliver valid samples, or its pulse input is free of faults. -/
def State.settleMeter (s : State) (n : Nat) : State :=
  if s.typ n == .meter && (s.lane n).st == .idle then
    if (if (s.slot n).sensor = 3 then (s.laneInputs n).all fun i => (s.pls i).fault == 0 else (s.laneChans n).all fun c => s.chanValid c) then
      s.go n .energy .none .external
    else s
  else s

/-- R103: U_OUT, the present current and P_ACT, their rounding open (log entry 1). A lane with SENSOR 3 has no current channel, and what its
present current and power are taken from is open (log entry 1). -/
def State.showPower (s : State) (n : Nat) (w : Power) : State :=
  let bits := s.free 8192 >>> (64 * n)
  let up (x : Rat) (k : Nat) : Int := x.floor + (if x.den = 1 then 0 else ((bits >>> k) % 2 : Nat))
  let ext := (s.slot n).sensor = 3
  s.onLane n fun l =>
    { l with uOut := satUI 16 (up (w.u.abs * 10) 0), iAct := if ext then ofBits 16 (bits >>> 3) else up (w.i * 10) 1,
             pAct := if ext then ofBits 16 (bits >>> 19) else up (w.p / 100) 2 }

/-- R91, R134-R136, R139, R144: what the power path takes from the outlet voltage and the current. -/
def State.outlet (s : State) (n t : Nat) (w : Power) (vp vn vl : Int) : State :=
  let s := s.onPp n fun p =>
    let d := 50 * ((((s.lane n).uOut : Nat) : Int) - (p.ucc : Nat)).natAbs
    { p with vPos := vp, vNeg := vn, vLink := vl, belowSince := if w.u.abs < 60 then some (p.belowSince.getD t) else none,
             nearSince := if (s.lane n).st == .isolationTest && decide (d ≤ p.ucc) then some (p.nearSince.getD t) else none }
  let s := s.noteOpen n
  let s := if (s.lane n).st == .precharge then
      let s := s.rematch n
      if (s.ppl n).pdSince.isSome && s.mayClose n then s.deliver n else s
    else s
  let s := if (s.ppl n).dirTarget != 0 && (s.ppl n).dirHold.isNone && decide ((s.lane n).iAct.natAbs ≤ 50) then
      (s.onPp n fun p => { p with dirHold := some (s.now + ms 100) }).onLane n fun l => { l with dir := 0 }
    else s
  let s := if (s.lane n).st == .rampDown then s.advance n else s
  s.settleOutput n

/-- R222, R223: a lane with channels takes a sample instant. -/
def State.laneSample (s : State) (n t : Nat) (xs : List ChanIn) : State :=
  let s := if s.measuresAc n then
      s.onMtl n fun m => MtLane.cross1 { m with win := (s.acSample n xs :: m.win).take 712 } (s.value n 0x10 xs)
    else s
  let m := s.mtl n
  let i := s.value n 4 xs
  let pos := s.value n 1 xs
  let neg := s.value n 2 xs
  let link := s.value n 3 xs
  let w : Power :=
    if s.measuresAc n then
      let l := m.win.take m.periodN
      let a := meanOf MtSamp.i1 l
      let b := meanOf MtSamp.i2 l
      let c := meanOf MtSamp.i3 l
      let rms : Rat := ((isqrt (max a (max b c) * 1000000).floor.toNat : Nat) : Rat) / 1000
      let p := meanOf MtSamp.s l
      let v (k : Nat) := s.value n (0x10 + k) xs
      { p := p, q := meanOf MtSamp.q l, ii := a + b + c, u := max (l.foldl (fun u x => max u x.pk1) 0) (max (l.foldl (fun u x => max u x.pk2) 0) (l.foldl (fun u x => max u x.pk3) 0)), i := if p < 0 then -rms else rms,
        v2 := (v 0 * v 0 + v 1 * v 1 + v 2 * v 2) / (s.phasesOf n : Nat) }
    else
      let u := if s.typ n == .meter then pos else pos - neg
      { p := u * i, q := 0, ii := i * i, u := u, i := i, v2 := 0 }
  let s := if s.measuresAc n then s else s.onMtl n fun m => { m with dcSum := m.dcSum + i, dcN := m.dcN + 1 }
  let s := s.laneEnergy n t w
  let d (x : Rat) : Int := (x * 10).floor
  let s := s.showPower n w
  if (s.typ n).charges then s.outlet n t w (d pos) (d neg) (d link) else s

/-- R190: the mean of the fluxgate signal over the last 100 ms. -/
def State.takeFlux (s : State) (l : List (Nat × Int)) : State := l.foldl (fun (s : State) x => s.onEfl x.1 fun e => { e with meanUa := x.2 }) s

/-- R197, R222, R238: a sample instant `t` not yet consumed: every channel in use, then every lane; samples stamped after a power-fail
warning are not registered. `xs` gives what the channels yield (a channel not listed yields 0), `flux` the means of R190. -/
def execTracerSample (t : Nat) (xs : List ChanIn) (flux : List (Nat × Int)) (s : State) : Out :=
  fin s (
    if t % 31250 != 0 || t ≤ s.en.lastStamp || s.now < t then s
    else
      let s := s.usedChans.foldl (fun (s : State) c => s.takeChan t ((xs.find? fun x => x.chan == c).getD { chan := c })) s
      let s := s.takeFlux flux
      let s := { s with en := { s.en with lastStamp := t } }
      let s := s.drawn
      if (match s.en.warnAt with | some w => decide (w < t) | none => false) then s
      else
        ((List.range 64).foldl (fun (s : State) n =>
          let s := if (s.laneChans n).isEmpty || !(s.typ n).isLane then s else s.laneSample n t xs
          s.settleMeter n) s).drawn)

end Sys2Proof.Machine
end

