-- ==== Sys2Proof/Machine/Measure.lean ====
section
/-! DEFINITION. Measure.lean: channel faults, calibration, temperature, creep gate, test mode and pulse inputs (R204-R221), overtemperature
(R261) and fold-back of pulse sources (R530). -/
namespace Sys2Proof.Machine

/-! ### Channel faults (R203-R205) -/

/-- R220: MT_CHANNEL_FAULT. -/
def State.evChanFault (s : State) (die chan check st slot : Nat) (lane : Nat) : State :=
  s.raise { cls := .metering, die := die, unit := slot, lane := lane, code := 0x3001, time := s.now,
            data := leBytes 1 die ++ leBytes 2 chan ++ leBytes 1 check ++ leBytes 1 st }

/-- R204, R205: a channel fails its activity check. -/
def execActivityCheckFail (c : Nat) (s : State) : Out :=
  fin s (
    if s.usedChans.contains c then
      let s' := s.onChan c fun h => { h with actOk := false, validSince := none }
      if (s.chan c).fault then s'
      else
        let n := s.chanLane c
        let s := s'.onChan c fun h => { h with fault := true }
        let s := { s with mt := { s.mt with chanFaults := satU 16 (s.mt.chanFaults + 1) } }
        (s.evChanFault (tracerDie (c / 5)) c 0 1 (c / 5) n).faultAny n .dieFault
    else s)

/-- R204, R205, R13: the reference check of Tracer die `k` passes or fails; the event names no channel (log entry 1). -/
def execReferenceCheck (k : Nat) (ok : Bool) (s : State) : Out :=
  fin s (
    if 3 < k then s
    else
      let old := s.dieBad (2 + k)
      let s := { s with mt := { s.mt with refOk := s.mt.refOk.set k ok } }
      let s := if old == ok then (s.evChanFault (2 + k) (s.free 16) 1 (b2n (!ok)) (s.free 8) 0xFF).drawn else s
      if ok then s.dieSound (2 + k) else s.dieFails (2 + k))

/-- R204, R205: a channel has been clipped for 10 ms: its samples no longer count as valid. -/
def execClipTimeout (c : Nat) (s : State) : Out :=
  fin s (match (s.chan c).clipSince with
    | some t =>
      if t + ms 10 ≤ s.now && (s.chan c).clip then s.onChan c fun h => { h with clipTimeout := true, validSince := none } else s
    | none => s)

/-- R205, R100: a faulted channel has delivered valid samples for 1 s. -/
def execChannelFaultClear (c : Nat) (s : State) : Out :=
  fin s (
    let h := s.chan c
    if h.fault && s.chanValid c && (match h.validSince with | some t => decide (t + sec 1 ≤ s.now) | none => false) then
      let n := s.chanLane c
      let s := s.onChan c fun h => { h with fault := false }
      ((s.evChanFault (tracerDie (c / 5)) c 0 0 (c / 5) n).settleDie n).settleMeter n
    else s)

/-- R203: the integrator of a coil channel has settled. -/
def execCoilSettled (c : Nat) (s : State) : Out :=
  fin s (match (s.chan c).settleEnd with
    | some e =>
      if e ≤ s.now then
        let s := s.onChan c fun h => { h with settleEnd := none }
        s.settleMeter (s.chanLane c)
      else s
    | none => s)

/-! ### Connector temperature (R206, R261) -/

/-- R274: OVERTEMP. -/
def State.evOvertemp (s : State) (n stage : Nat) (temp : Int) : State :=
  s.evLane .safety n 0x2007 (leBytes 1 stage ++ leBytes 2 (satS 16 temp))

/-- R261: the safety cores evaluate a reading in 0.1 °C. -/
def State.evalTemp (s : State) (n : Nat) (temp : Int) : State :=
  let b := s.sf.block
  let s := s.onSfl n fun l =>
    { l with warnN := if 10 * (b.tWarn : Int) ≤ temp then min 3 (l.warnN + 1) else 0,
             stopN := if 10 * (b.tStop : Int) ≤ temp then min 3 (l.stopN + 1) else 0,
             coolAt := if temp < 10 * (b.tStop : Int) - 150 then some (l.coolAt.getD s.now) else none }
  let s := if (s.sfl n).warnN = 3 && !(s.lane n).overtempWarned then
      (s.onLane n fun l => { l with overtempWarned := true }).evOvertemp n 0 temp
    else s
  let s := if (s.sfl n).stopN = 3 then
      let t := s.overtempFault n
      if !(s.lane n).causes.contains .overtemp && (t.lane n).causes.contains .overtemp then t.evOvertemp n 1 temp else t
    else s
  if (s.lane n).causes.contains .overtemp && (match (s.sfl n).coolAt with | some t => decide (t + sec 60 ≤ s.now) | none => false) then
    (s.clearCause n .overtemp 0).evOvertemp n 2 temp
  else s

/-- R220: TEMP_SENSOR_FAULT. -/
def State.evTempSensor (s : State) (n ohm st : Nat) : State :=
  s.raise { cls := .metering, die := tracerDie n, unit := n, lane := n, code := 0x3007, time := s.now,
            data := leBytes 2 (if 0xFFFF ≤ ohm then 0xFFFF else ohm) ++ leBytes 1 st }

/-- R206, R261: a PT1000 reading: its resistance in Ω (0xFFFF open) and, in range, its temperature in 0.1 °C. A sensor out of range for
30 ms is lost, and counts as a reading at T_STOP. -/
def execPt1000Reading (n ohm : Nat) (temp : Int) (s : State) : Out :=
  fin s (
    if !bit (s.slot n).options 1 then s
    else if 700 ≤ ohm && ohm ≤ 2000 then
      let was := (s.mtl n).tempFault
      let s := s.onMtl n fun m => { m with temp := temp, tempBad := none, tempFault := false }
      (if was then s.evTempSensor n ohm 0 else s).evalTemp n temp
    else
      let from_ := (s.mtl n).tempBad.getD s.now
      let lost := decide (from_ + ms 30 ≤ s.now)
      let was := (s.mtl n).tempFault
      let s := s.onMtl n fun m => { m with tempBad := some from_, tempFault := m.tempFault || lost, temp := if lost then -32768 else m.temp }
      let s := if lost && !was then (s.evTempSensor n ohm 1).evOvertemp n 3 (-32768) else s
      if lost then s.evalTemp n (10 * (s.sf.block.tStop : Int)) else s)

/-! ### The creep gate and test mode (R212, R213) -/

/-- R212: the start threshold in parts per million of RATED_I: within 0.040 % ± 0.005 %, a constant of the module (log entry 1). -/
def creepPpm : Nat := 350 + Config.creepStart % 101

/-- R212: the squares of the currents an evaluation goes by, in A²: the mean over the 100 ms on DC channels, one per whole period on AC
channels. -/
def State.creepCurrents (s : State) (n : Nat) : List Rat :=
  let m := s.mtl n
  if s.measuresAc n then
    if m.acRms.isEmpty then
      let w := m.win.take m.periodN
      [max (meanOf MtSamp.i1 w) (max (meanOf MtSamp.i2 w) (meanOf MtSamp.i3 w))]
    else m.acRms
  else if m.dcN = 0 then [0] else [(m.dcSum / (m.dcN : Nat)) * (m.dcSum / (m.dcN : Nat))]

/-- R220: CREEP_GATE; the rounding of its current is open (log entry 1). -/
def State.evCreep (s : State) (n : Nat) (i2 : Rat) : State :=
  let r := (s.slot n).ratedI
  let ua := isqrt (i2 * 1000000000000).floor.toNat
  (s.evLane .metering n 0x3004 (leBytes 1 (b2n (s.mtl n).run) ++ leBytes 2 (satU 16 (if r = 0 then 0 else s.roundDiv (ua * 100) r)))).drawn

/-- R212: the gate of a lane is evaluated every 100 ms. -/
def execCreepGateEval (n : Nat) (s : State) : Out :=
  fin s (
    if !(s.typ n).isLane || (s.slot n).sensor = 3 then s
    else
      let l := s.creepCurrents n
      let th : Rat := ((s.slot n).ratedI * creepPpm : Nat) / (1000000000 : Nat)
      let up := l.all fun x => decide (th * th ≤ x)
      let down := l.all fun x => decide (16 * x < 9 * (th * th))
      let was := (s.mtl n).run
      let s := s.onMtl n fun m =>
        let a := if up then min 10 (m.above + 1) else 0
        let b := if down then min 10 (m.under + 1) else 0
        { m with above := a, under := b, run := if m.run then b != 10 else a == 10, dcSum := 0, dcN := 0, acRms := [] }
      if (s.mtl n).run == was then s else s.evCreep n (l.headD 0))

/-- R213: test mode ends after 24 h. -/
def execTestModeExpiry (n : Nat) (s : State) : Out :=
  fin s (match (s.mtl n).testEnd with
    | some t => if t ≤ s.now then s.endTest n else s
    | none => s)

/-! ### Pulse inputs (R214-R218) -/

/-- R214: FILTER of an entry in ns. -/
def Pulse.filterNs (p : Pulse) : Nat := if p.mode = 3 then ms p.filter else p.filter * 10000

/-- The lanes whose PULSE_IN, or its partner, is an input. -/
def State.pulseLanes (s : State) (i : Nat) : List Nat := (List.range 64).filter fun n => (s.typ n).isLane && (s.laneInputs n).contains i

/-- R220: a pulse event: its SOURCE the switch die and the input, LANE the owner lane. -/
def State.evPulse (s : State) (cls : EvClass) (i code : Nat) (data : Bytes) : State :=
  let o := (s.cfg.pulse i).map (·.owner)
  s.raise { cls := cls, die := 9 + i / 8, unit := i, lane := (o.bind ownerLane).getD 0xFF, code := code, data := data, time := s.now }

/-- R214, R216: an input has held a level for `dur` ns from TIME `stamp` on: rejected when shorter than FILTER, else accepted, and
counted when it is the transition that counts. A faulty input counts nothing, nor does one without supply. -/
def execPulseLevelAccepted (i : Nat) (on : Bool) (stamp dur : Nat) (s : State) : Out :=
  fin s (match s.cfg.pulse i with
    | none => s
    | some p =>
      if p.mode = 0 || 2 < s.pw.state || s.now < stamp + dur then s
      else if dur < p.filterNs then s.onPls i fun x => { x with rejected := satU 12 (x.rejected + 1) }
      else
        let x := s.pls i
        let s := s.onPls i fun x => { x with level := on }
        let s := match ownerLane p.owner with
          | some n => if bit p.flags 0 then s.onPp n fun q => { q with feedback := on } else s
          | none => s
        if x.level != on && on != bit p.flags 2 && x.fault = 0 then
          s.onPls i fun x => { x with count := (x.count + 1) % 2 ^ 32, inSec := x.inSec + 1, stamps := x.stamps ++ [stamp] }
        else s)

/-- R217: `k` pulses of an input enter the registers of the owner. -/
def State.enterPulses (s : State) (p : Pulse) (k : Nat) : State :=
  let q := k * p.weight * 2 ^ 32
  let ex := bit p.flags 1
  match ownerLane p.owner, ownerCustody p.owner with
  | some n, _ =>
    if k = 0 || (s.slot n).sensor != 3 || !(s.laneInputs n).contains p.input then s
    else if (s.mtl n).test then
      s.onMtl n fun m => if ex then { m with testExp := m.testExp + q } else { m with testImp := m.testImp + q }
    else
      let s := (s.addActive false n ex q).addConn n ex q
      if s.bl.advanced.contains n then s else { s with bl := { s.bl with advanced := s.bl.advanced ++ [n] } }
  | none, some c => if k = 0 then s else s.addActive true c ex q
  | none, none => s

/-- R218, R217, R238: the plate cores take the change of every count; pulses stamped after a power-fail warning are not entered. -/
def execPulseCollect (s : State) : Out :=
  fin s (s.cfg.pulses.foldl (fun (s : State) (p : Pulse) =>
    let x := s.pls p.input
    let k := (match s.en.warnAt with | some w => x.stamps.filter fun t => decide (t ≤ w) | none => x.stamps).length
    (s.onPls p.input fun x => { x with taken := x.count, stamps := [] }).enterPulses p k) s)

/-- R218, R236: a second ends for an input: its rate is compared with MAX_RATE; the excess is a tamper condition of a lane with SENSOR 3
or a custody channel. -/
def State.pulseSecond (s : State) (p : Pulse) : State :=
  let x := s.pls p.input
  let k := x.inSec
  let s := s.onPls p.input fun x => { x with rate := satU 16 k, inSec := 0 }
  let s := match ownerCustody p.owner with
    | some c =>
      if bit p.flags 1 then
        s.onEn true c fun e => { e with revSince := if p.maxRate < 50 * k then some (e.revSince.getD (s.now - sec 1)) else none }
      else s
    | none => s
  if k ≤ p.maxRate then s
  else
    let s := match ownerLane p.owner, ownerCustody p.owner with
      | some n, _ => if (s.slot n).sensor = 3 && (s.laneInputs n).contains p.input then s.setTamper false n 4 else s
      | none, some c => s.setTamper true c 4
      | none, none => s
    if (match x.rateAt with | some t => decide (t + sec 60 ≤ s.now) | none => true) then
      (s.onPls p.input fun x => { x with rateAt := some s.now }).evPulse .diag p.input 0x3006
        (leBytes 1 p.input ++ leBytes 2 (satU 16 k) ++ leBytes 2 p.maxRate)
    else s

/-- R218: a second ends. -/
def execPulseRateCheck (s : State) : Out := fin s (s.cfg.pulses.foldl (fun (s : State) (p : Pulse) => s.pulseSecond p) s)

/-- R216, R240: an input is in fault: it stops counting, its lane faults and billing has a gap. -/
def State.pulseFails (s : State) (i kind : Nat) : State :=
  if (s.pls i).fault != 0 then s
  else
    let o := ((s.cfg.pulse i).map (·.owner)).getD 0
    let s := s.onPls i fun x => { x with fault := kind }
    let s := { s with mt := { s.mt with plsFaults := satU 16 (s.mt.plsFaults + 1) } }
    let s := s.evPulse .metering i 0x3005 (leBytes 1 i ++ leBytes 1 kind ++ leBytes 2 o)
    let s := match ownerCustody o with
      | some c => s.onEn true c fun e => { e with gap := true, intGap := true }
      | none => s
    (s.pulseLanes i).foldl (fun (s : State) n =>
      let s := if (s.slot n).sensor = 3 then
          s.onEn false n fun e => { e with gap := true, intGap := true, sess := e.sess.map fun x => { x with gap := true } }
        else s
      s.faultAny n .dieFault) s

/-- R216: a line break (1) or short (2) of a NAMUR input has held for 10 ms, or VSWk lies below 9 V (3), which faults the eight inputs of
the die. -/
def execPulseInputFault (i kind : Nat) (s : State) : Out :=
  fin s (
    if 31 < i then s
    else if kind = 3 then (List.range 8).foldl (fun (s : State) j => s.pulseFails (i / 8 * 8 + j) 3) s
    else if (kind = 1 || kind = 2) && (match s.cfg.pulse i with | some p => p.mode == 2 | none => false) then s.pulseFails i kind
    else s)

/-- R216, R100: an input has been free of faults for 1 s. -/
def execPulseFaultClear (i : Nat) (s : State) : Out :=
  fin s (
    if 31 < i || (s.pls i).fault = 0 then s
    else
      let o := ((s.cfg.pulse i).map (·.owner)).getD 0
      let s := s.onPls i fun x => { x with fault := 0 }
      let s := s.evPulse .metering i 0x3005 (leBytes 1 i ++ leBytes 1 0 ++ leBytes 2 o)
      let free (s : State) : Bool := s.cfg.pulses.all fun p => p.owner != o || (s.pls p.input).fault == 0
      let s := match ownerCustody o with
        | some c => if free s then s.onEn true c fun e => { e with gap := false } else s
        | none => s
      (s.pulseLanes i).foldl (fun (s : State) n =>
        let s := if (s.slot n).sensor = 3 && free s then s.onEn false n fun e => { e with gap := false } else s
        (s.settleDie n).settleMeter n) s)

/-- R530: an input in its current limit for 100 ms folds its source back to 2 mA; no count changes. -/
def execPulseFoldback (i : Nat) (s : State) : Out :=
  fin s (if (s.pls i).folded then s else s.onPls i fun x => { x with folded := true, foldAt := s.now })

/-- R530: the ball has stayed above 6 V for 1 ms: the full source returns. -/
def execPulseFoldbackRestore (i : Nat) (s : State) : Out :=
  fin s (if (s.pls i).folded && (s.pls i).foldAt + ms 1 ≤ s.now then s.onPls i fun x => { x with folded := false } else s)

/-! ### Requests (R208, R219) -/

/-- R3, R219: a measurement request about a lane: an absent lane is BAD_ARGUMENT, one of type NONE or PAIRED NOT_SUPPORTED. -/
def State.measureReq (s : State) (t : Ticket) (n : Nat) (f : State) : State :=
  if s.nLanes ≤ n then s.complete t St.badArgument
  else if !(s.typ n).isLane then s.complete t St.notSupported
  else f

/-- R36, R208: the channels that exist on a lane, those of slot n+1 of an AC3 lane included. -/
def State.existChans (s : State) (n : Nat) : List Nat :=
  (List.range (if s.typ n == .ac3 then 10 else 5)).filterMap fun j =>
    if j % 5 != 0 && bit (s.slot (n + j / 5)).pairing (j % 5 - 1) then none else some (5 * n + j)

/-- The coefficients a MT_CAL_WRITE carries: channel, GAIN, OFFSET, DELAY. -/
def Ticket.coeffs (t : Ticket) : List (Nat × Nat × Int × Int) :=
  (List.range (t.u 1 1)).map fun k => (t.u (2 + 12 * k) 2, t.u (4 + 12 * k) 4, t.i (8 + 12 * k) 4, t.i (12 + 12 * k) 2)

/-- R207: coefficients inside their ranges. -/
def coeffOk (gain : Nat) (offset delay : Int) : Bool :=
  decide (9 * 2 ^ 30 ≤ 10 * gain) && decide (10 * gain ≤ 11 * 2 ^ 30) && decide (offset.natAbs ≤ 65536) && decide (delay.natAbs ≤ 30000)

/-- R220: CAL_APPLIED: reason 0 a write, 1 a reset by a matrix. -/
def State.evCal (s : State) (n count reason : Nat) : State :=
  s.evLane .metering n 0x3003 (leBytes 1 count ++ leBytes 4 (s.mtl n).calGen ++ leBytes 1 reason)

/-- R207-R209: coefficients of a lane change together. -/
def State.calibrate (s : State) (n : Nat) (l : List (Nat × Nat × Int × Int)) : State :=
  let s := if s.typ n == .meter then s.impress false n 4 0 s.legal else s
  let s := l.foldl (fun (s : State) (c, g, o, d) =>
    let coil := s.isCoil c
    s.onChan c fun h => { h with gain := g, offset := o, delay := d, settleEnd := if coil then some (s.now + sec 5) else h.settleEnd }) s
  let all := (s.existChans n).all fun c => !(s.chan c).reset_ || l.any fun x => x.1 == c
  let s := if all then (s.existChans n).foldl (fun (s : State) c => s.onChan c fun h => { h with reset_ := false }) s else s
  let s := s.onMtl n fun m => { m with calGen := (m.calGen + 1) % 2 ^ 32, uncal := m.uncal && !all }
  let s := { s with mt := { s.mt with calWrites := satU 16 (s.mt.calWrites + 1) } }
  s.evCal n l.length 0

/-- R208: MT_CAL_WRITE. -/
def execMtCalWrite (tk : Nat) (s : State) : Out :=
  fin s (s.onTicket tk 0x0401 fun t =>
    let n := t.u 0 1
    s.measureReq t n (
      let l := t.coeffs
      if s.isPending n then s.complete t St.busy
      else if l.isEmpty || 10 < l.length || t.arg.length != 2 + 12 * l.length ||
          l.any (fun (c, g, o, d) => !(s.existChans n).contains c || !coeffOk g o d) then s.complete t St.badArgument
      else if (s.typ n).charges && (s.lane n).session != 0 then s.complete t St.refusedState
      else
        let s := s.calibrate n l
        s.complete t St.ok (leBytes 4 (s.mtl n).calGen)))

/-- R219: MT_CAL_READ. -/
def execMtCalRead (tk : Nat) (s : State) : Out :=
  fin s (s.onTicket tk 0x0402 fun t =>
    let n := t.u 0 1
    s.measureReq t n (s.complete t St.ok (leBytes 4 (s.mtl n).calGen ++ leBytes 1 (b2n (s.mtl n).uncal) ++
      (s.existChans n).flatMap fun c =>
        leBytes 2 c ++ leBytes 4 (s.chan c).gain ++ leBytes 4 (toBits 32 (s.chan c).offset) ++ leBytes 2 (toBits 16 (s.chan c).delay))))

/-- R213: MT_TEST: 0 stop, 1 start. -/
def execMtTest (tk : Nat) (s : State) : Out :=
  fin s (s.onTicket tk 0x0403 fun t =>
    let n := t.u 0 1
    s.measureReq t n (
      if 1 < t.u 1 1 then s.complete t St.badArgument
      else if t.u 1 1 = 0 then (s.endTest n).complete t St.ok
      else if (s.lane n).st != .offline || (s.lane n).enable then s.complete t St.refusedState
      else (s.onMtl n fun m => { m with test := true, testEnd := some (s.now + sec 86400), testImp := 0, testExp := 0 }).complete t St.ok))

/-- R219: MT_TEST_READ. -/
def execMtTestRead (tk : Nat) (s : State) : Out :=
  fin s (s.onTicket tk 0x0404 fun t =>
    let n := t.u 0 1
    let m := s.mtl n
    s.measureReq t n (s.complete t St.ok
      (leBytes 8 (reading m.testImp) ++ leBytes 8 (reading m.testExp) ++ leBytes 1 (b2n m.run) ++ leBytes 8 s.now)))

/-! ### Registers (R221) -/

/-- R221: MT_STATUS. -/
def State.mtStatus (s : State) : Nat :=
  regOf [(0, 4, maskOf ((List.range 4).filter fun k => s.mt.refOk.getD k false)),
    (8, 32, maskOf ((List.range 32).filter fun i => (s.pls i).fault != 0))]

/-- R221: MT_SEL. -/
def State.mtSel (s : State) : Nat := regOf [(0, 9, min 319 s.mt.selChan), (16, 6, s.mt.selLane), (24, 5, s.mt.selPls)]

/-- R221: a write of MT_SEL. -/
def State.writeMtSel (s : State) (v : Nat) : State :=
  { s with mt := { s.mt with selChan := fieldOf v 0 9, selLane := fieldOf v 16 6, selPls := fieldOf v 24 5 } }

/-- R221: MT_CHAN of the channel MT_SEL shows. -/
def State.mtChan (s : State) : Nat :=
  let c := min 319 s.mt.selChan
  let h := s.chan c
  regOf [(0, 24, toBits 24 h.sample), (24, 1, b2n (s.chanValid c)), (25, 1, b2n h.clip), (26, 1, b2n h.fault), (32, 2, s.chanGain c),
    (40, 8, s.cfg.chanFunc c), (48, 16, h.clips)]

/-- R221: MT_CAL. -/
def State.mtCal (s : State) : Nat :=
  let h := s.chan (min 319 s.mt.selChan)
  regOf [(0, 32, h.gain), (32, 32, toBits 32 h.offset)]

/-- R221: MT_DELAY. -/
def State.mtDelay (s : State) : Nat := regOf [(0, 16, toBits 16 (s.chan (min 319 s.mt.selChan)).delay)]

/-- R221: MT_LANE. -/
def State.mtLaneReg (s : State) : Nat :=
  let m := s.mtl s.mt.selLane
  regOf [(0, 1, b2n m.run), (1, 1, b2n m.uncal), (2, 1, b2n m.test), (3, 1, b2n m.tempFault), (16, 16, toBits 16 m.temp), (32, 32, m.calGen)]

/-- R221: MT_PLS of an input. -/
def State.mtPls (s : State) (i : Nat) : Nat :=
  let x := s.pls i
  regOf [(0, 32, x.count), (32, 16, x.rate), (48, 2, ((s.cfg.pulse i).map (·.mode)).getD 0), (50, 1, b2n x.level),
    (51, 1, b2n (x.fault != 0)), (52, 12, x.rejected)]

/-- R221: MT_COUNT. -/
def State.mtCount (s : State) : Nat := regOf [(0, 16, s.mt.chanFaults), (16, 16, s.mt.clipEvents), (32, 16, s.mt.plsFaults), (48, 16, s.mt.calWrites)]

/-- R221: a write of MT_COUNT: all ones clear a counter. -/
def State.writeMtCount (s : State) (v : Nat) : State :=
  { s with mt := { s.mt with chanFaults := onesClear s.mt.chanFaults v 0 16, clipEvents := onesClear s.mt.clipEvents v 16 16,
                             plsFaults := onesClear s.mt.plsFaults v 32 16 } }

/-- R219: MT_PULSE_READ. -/
def execMtPulseRead (tk : Nat) (s : State) : Out :=
  fin s (s.onTicket tk 0x0405 fun t => s.complete t St.ok ((List.range 32).flatMap fun i => regBytes (s.mtPls i)))

/-- R219: MT_COUNT_CLEAR. -/
def execMtCountClear (tk : Nat) (s : State) : Out :=
  fin s (s.onTicket tk 0x0406 fun t => (s.writeMtCount (2 ^ 64 - 1)).complete t St.ok)

end Sys2Proof.Machine
end

