-- ==== Sys2Proof/Machine/Energy.lean ====
section
/-! DEFINITION. Energy.lean: the mirror and the commit of the registers, tamper conditions, session records and the register requests
(R226-R247). The power-fail save stands with the supplies (Reset.lean). -/
namespace Sys2Proof.Machine

/-! ### Mirror and commit (R230, R231) -/

/-- R230, R299: the active side mirrors every accumulator to the standby side. -/
def State.mirror (s : State) : State :=
  { s with en := { s.en with mirror := s.en.lanes, mirrorCust := s.en.cust, mirrorStamp := s.en.lastStamp } }

/-- R230: the mirror of every 1 ms. -/
def execAccumulatorMirror (s : State) : Out := fin s (if s.twin then s.mirror else s)

/-- R231: a register copy takes the state of the registers. -/
def State.commitCopy (s : State) (saved : Bool) (tw lw : Nat) : State :=
  let opens := ((List.range 64).filter fun n => (s.enr false n).sess.isSome).map fun n =>
    ({ lane := n, src := (s.lane n).idSource, account := (s.lane n).account, ramp := (s.lane n).rampForced } : OpenSess)
  let c : EnSave := { lanes := s.en.lanes, cust := s.en.cust, seq := s.seqAsked, crcOk := true, saved := saved, tw := tw, lw := lw, opens := opens }
  { s with en := { s.en with copyA := if s.en.nextCopy = 0 then c else s.en.copyA, copyB := if s.en.nextCopy = 0 then s.en.copyB else c,
                             nextCopy := 1 - s.en.nextCopy },
           clock := { s.clock with savedLegal := lw } }

/-- R231: the commit of every 100 ms, to the two copies in turn, from restore (R239) to a power-fail warning (R238). -/
def execRegisterCommit (s : State) : Out :=
  fin s (if s.en.warnAt.isNone && decide (5 ≤ s.rs.phase) then s.commitCopy false s.now s.legal else s)

/-! ### Tamper (R234-R237) -/

/-- R217: a custody channel exists. -/
def State.custExists (s : State) (c : Nat) : Bool := s.cfg.pulses.any fun p => p.owner == custodyOwner c

/-- R234: bidirectional lanes and custody channels. -/
def State.isBidir (s : State) (cust : Bool) (n : Nat) : Bool :=
  if cust then bit s.en.bidirCust n else s.typ n == .dcb || (s.typ n == .meter && bit s.en.bidir n)

/-- R235: reverse current or rate above its limit for more than 5 s. -/
def State.revHeld (s : State) (cust : Bool) (n : Nat) : Bool :=
  !s.isBidir cust n && match (s.enr cust n).revSince with | some t => decide (t + sec 5 < s.now) | none => false

/-- R235: the export that counts, in the unit of the register: since the start of the session, or since the last REVERSE_FLOW. -/
def State.revQuantity (s : State) (cust : Bool) (n : Nat) : Nat :=
  let e := s.enr cust n
  if cust || s.typ n == .meter then reading e.acc.exp - e.revExp
  else match e.sess with | some x => if x.started then reading e.acc.exp - reading x.start.exp else 0 | none => 0

/-- R235: the quantity beyond which export is a reversal: 10 Wh, or 10 partner pulses of another unit. -/
def State.revLimit (s : State) (cust : Bool) (n : Nat) : Nat :=
  match if cust then s.cfg.pulses.find? fun p => p.owner == custodyOwner n && bit p.flags 1 else none with
  | some p => if p.unit = 0 then 10000000 else 10 * p.weight
  | none => 10000000

/-- R235: REVERSE_FLOW has not been raised in this session, or in this hour. -/
def State.revFresh (s : State) (cust : Bool) (n : Nat) : Bool :=
  match (s.enr cust n).revAt with
  | none => true
  | some t => if cust || s.typ n == .meter then decide (t + sec 3600 ≤ s.now) else decide (t < (s.lane n).negotiateAt)

/-- R235, R246: reverse flow of a lane or custody channel. The current a custody channel reports and the rounding of a lane's are open
(log entry 1). -/
def execReverseFlow (cust : Bool) (n : Nat) (s : State) : Out :=
  fin s (
    let q := s.revQuantity cust n
    let held := s.revHeld cust n
    if (if cust then !s.custExists n else !(s.typ n).isLane) || s.isBidir cust n || !s.revFresh cust n ||
        !(held || decide (s.revLimit cust n < q)) then s
    else
      let r := (s.slot n).ratedI
      let cur := if cust then s.free 16 else if r = 0 then 0 else s.roundDiv ((s.lane n).iAct.natAbs * 100000) r
      let s1 := (s.setTamper cust n 0).onEn cust n fun e => { e with revAt := some s.now, revExp := reading e.acc.exp }
      (s1.raise { cls := .metering, die := s.rd.active, unit := n, lane := if cust then 0xFF else n, code := 0x4001, time := s.now,
                  data := leBytes 1 (b2n cust) ++ leBytes 1 n ++ leBytes 1 (b2n (!held)) ++ leBytes 2 (satU 16 cur) ++
                          leBytes 4 (satU 32 (q / 1000000)) }).drawn)

/-- R236: the mismatch (mA) of a lane's currents has held for 10 s: on AC1 lanes between I_L1 and I_N, of which `larger` is the larger; on
DC lanes in ENERGY between I_DC and the power module's. -/
def State.bypassed (s : State) (n mis larger : Nat) : Bool :=
  let r := (s.slot n).ratedI
  match s.typ n with
  | .ac1 => decide (6 * larger < 100 * mis) && decide (r < 200 * mis)
  | .dcx | .dcb => (s.lane n).st == .energy && decide (r + 100000 < 50 * mis)
  | .none | .ac3 | .meter | .paired => false

/-- R236, R246: BYPASS; the condition stands until it is found not to hold. -/
def execBypass (n mis larger : Nat) (s : State) : Out :=
  fin s (
    if s.bypassed n mis larger then
      let s := (s.setTamper false n 1).onEn false n fun e => { e with bypass := true }
      (s.evLane .metering n 0x4002 (leBytes 2 (satU 16 (s.roundDiv mis 100)) ++ leBytes 1 (b2n (s.typ n).isDc))).drawn
    else s.onEn false n fun e => { e with bypass := false })

/-- R236, R246: V_NPE and the greatest phase voltage (0.1 V rms) have held for 1 s. -/
def execMissingNeutral (n vnpe vphase : Nat) (s : State) : Out :=
  fin s (
    if (s.typ n).isAc && 500 < vnpe && (s.slot n).ratedU ≤ 200 * vphase then
      ((s.setTamper false n 2).onEn false n fun e => { e with noNeutral := true }).evLane .metering n 0x4003 (leBytes 2 (satU 16 vnpe))
    else s.onEn false n fun e => { e with noNeutral := false })

/-- R246: COVER_OPEN; FLAGS bit 4 marks an opening seen outside RUN. -/
def State.evCover (s : State) (opened : Bool) (legal : Nat) (flags : Nat := 0) : State :=
  s.evMod .metering s.rd.active 0 0x4004 (leBytes 1 (b2n opened) ++ leBytes 4 (legal / 2 ^ 32)) flags

/-- R236: the TAMPER ball has been open for 50 ms. Outside RUN its legal time is latched; in OFF nothing watches it. -/
def execCoverOpen (s : State) : Out :=
  fin s (
    if s.pw.state = 4 || s.en.coverNow then s
    else if s.pw.state = 0 then
      { s with en := { s.en with coverNow := true, coverOpen := true } }.evCover true s.legal
    else { s with en := { s.en with coverNow := true, coverPend := some (s.en.coverPend.getD s.legal) } })

/-- R236, R247: the TAMPER ball reads closed again. -/
def execCoverClosed (s : State) : Out :=
  fin s (
    if !s.en.coverNow then s
    else
      let s : State := { s with en := { s.en with coverNow := false } }
      if s.pw.state = 0 then s.evCover false s.legal else s)

/-- R237: the tamper bits whose condition still holds. -/
def State.tamperHolds (s : State) (cust : Bool) (n : Nat) : Nat :=
  let e := s.enr cust n
  let tooFast := s.cfg.pulses.any fun p => decide (p.maxRate < (s.pls p.input).rate) &&
    (if cust then p.owner == custodyOwner n
     else p.owner == laneOwner n && (s.slot n).sensor == 3 && (s.laneInputs n).contains p.input)
  b2n (s.revHeld cust n) ||| 2 * b2n e.bypass ||| 4 * b2n e.noNeutral ||| 16 * b2n tooFast

/-! ### Session records (R241-R244) -/

/-- R242, R243: a record with its SEQs, its key generation and its signature; unsigned when there is none. -/
def RecPend.record (x : RecPend) (gen : Nat) (sig : Option Bytes) : Bytes :=
  let flags := leNat (sub x.head 0xC2 2) ||| 32 * b2n sig.isNone
  let h := patch x.head 0x20 (leBytes 8 (if x.startSeq = 0 then x.endSeq else x.startSeq))
  let h := patch h 0x28 (leBytes 8 x.endSeq)
  let h := patch (patch h 0xC2 (leBytes 2 flags)) 0xC8 (leBytes 4 gen)
  h ++ match sig with | some b => padTo 64 b | none => List.replicate 64 0

/-- R241, R243, R244: the oldest closed record whose SEQ is known is signed and stored, and SESSION_RECORD raised. -/
def execSessionRecord (s : State) : Out :=
  fin s (match s.en.closing with
    | x :: rest =>
      if x.endSeq = 0 || s.dieBad 13 then s
      else
        let gen := match s.kvNode 2 with | some k => k.gen | none => 0
        let orphan := s.isOrphan 2
        let signed := x.record gen (some [])
        let r := x.record gen (if orphan then none else s.signature 2 (sha256 (signed.take 0xD0)))
        let idx := s.en.recordNext
        let finals := s.ds.finals.map fun (f : DsFinal) => if f.lane == x.lane && f.session == x.session then { f with sig := if orphan then 2 else 1 } else f
        let en := { s.en with closing := rest, records := (r :: s.en.records).take recordSlots, recordNext := (idx + 1) % recordSlots,
                              recordCount := (s.en.recordCount + 1) % 2 ^ 32 }
        let s := { s with en := en, ds := { s.ds with finals := finals } }.signed 2
        s.evLane .metering x.lane 0x4010 (leBytes 4 x.session ++ leBytes 2 idx ++ leBytes 2 (if orphan then St.orphaned else St.ok) ++
          sub r 0xC2 2)
    | [] => s)

/-! ### Requests (R245) -/

/-- R247: EN_LSTAT of a lane or custody channel. -/
def State.enLstat (s : State) (cust : Bool) (n : Nat) : Nat :=
  let e := s.enr cust n
  regOf [(0, 16, e.tamper), (16, 1, b2n (s.isBidir cust n)), (17, 1, b2n e.sess.isSome), (18, 1, b2n e.gap), (32, 32, if cust then 0 else e.cableR)]

/-- R247: the registers EN_IMPORT to EN_LSTAT of a lane or custody channel. -/
def State.enRegs (s : State) (cust : Bool) (n : Nat) : List Nat :=
  let e := s.enr cust n
  let a := e.acc
  [reading a.imp, reading a.exp, reading a.cImp, reading a.cExp, reading a.q1, reading a.q2, reading a.q3, reading a.q4,
    regOf [(0, 32, e.demImp), (32, 32, e.demExp)], regOf [(0, 32, e.maxImp), (32, 32, e.maxExp)], s.enLstat cust n]

/-- R245: a request about a KIND and index. -/
def State.energyReq (s : State) (t : Ticket) (kind n : Nat) (f : State) : State :=
  if 1 < kind || (if kind = 1 then 31 < n else s.nLanes ≤ n) then s.complete t St.badArgument
  else if (if kind = 1 then !s.custExists n else !(s.typ n).isLane) then s.complete t St.notSupported
  else f

/-- R245: EN_READ. -/
def execEnRead (tk : Nat) (s : State) : Out :=
  fin s (s.onTicket tk 0x0410 fun t =>
    s.energyReq t (t.u 0 1) (t.u 1 1) (s.complete t St.ok ((s.enRegs (t.u 0 1 == 1) (t.u 1 1)).flatMap regBytes)))

/-- R244: the entry of a ring index, newest first, of a ring of `slots` whose next index is `next`. -/
def ringAge (next slots idx : Nat) : Nat := (next + 2 * slots - 1 - idx) % slots

/-- R245: EN_RECORD_READ: by lane and session number, or by ring index under lane 0xFF. -/
def execEnRecordRead (tk : Nat) (s : State) : Out :=
  fin s (s.onTicket tk 0x0411 fun t =>
    let k := t.u 1 4
    let r := if t.u 0 1 = 0xFF then
        (if k < recordSlots then s.en.records[ringAge s.en.recordNext recordSlots k]? else none)
      else s.en.records.find? fun b => leNat (sub b 0x10 1) == t.u 0 1 && leNat (sub b 0x14 4) == k
    match r with
    | some b => s.complete t St.ok b
    | none => s.complete t St.badArgument)

/-- R245: EN_IMPRESSION_READ. -/
def execEnImpressionRead (tk : Nat) (s : State) : Out :=
  fin s (s.onTicket tk 0x0412 fun t =>
    let idx := t.u 0 2
    let k := t.u 2 1
    let a := ringAge s.en.imprNext imprSlots idx
    if k = 0 || 10 < k || imprSlots ≤ idx || s.en.imprs.length ≤ a || a + 1 < k then s.complete t St.badArgument
    else s.complete t St.ok ((List.range k).flatMap fun j => s.en.imprs.getD (a - j) []))

/-- R233, R245: EN_CABLE_WRITE: the impression first, then the new value. -/
def execEnCableWrite (tk : Nat) (s : State) : Out :=
  fin s (s.onTicket tk 0x0413 fun t =>
    let n := t.u 0 1
    s.energyReq t 0 n (
      if (s.slot n).sensor = 3 then s.complete t St.notSupported
      else if (s.typ n).charges && (s.lane n).session != 0 then s.complete t St.refusedState
      else
        let old := (s.enr false n).cableR
        let s := (s.impress false n 5 0 s.legal).onEn false n fun e => { e with cableR := t.u 1 4 }
        (s.evLane .metering n 0x3012 (leBytes 4 old ++ leBytes 4 (t.u 1 4))).complete t St.ok))

/-- R237, R245: EN_TAMPER_CLEAR; a condition that still holds sets its bit again. -/
def execEnTamperClear (tk : Nat) (s : State) : Out :=
  fin s (s.onTicket tk 0x0414 fun t =>
    let k := t.u 0 1
    let n := t.u 1 1
    let m := t.u 2 2
    let ev (s : State) (bits : Nat) : State :=
      s.raise { cls := .metering, die := s.rd.active, unit := if k = 2 then 0 else n, lane := if k = 0 then n else 0xFF, code := 0x4005,
                time := s.now, data := leBytes 1 k ++ leBytes 1 n ++ leBytes 2 bits }
    if k = 2 then
      let hit := s.en.coverOpen && bit m 3
      let s : State := { s with en := { s.en with coverOpen := (s.en.coverOpen && !hit) || s.en.coverNow } }
      (ev s (8 * b2n hit)).complete t St.ok
    else s.energyReq t k n (
      let cust := k == 1
      let old := (s.enr cust n).tamper
      let s := s.impress cust n 7 0 s.legal
      let again := s.tamperHolds cust n
      let s := s.onEn cust n fun e => { e with tamper := (e.tamper - (e.tamper &&& m)) ||| again }
      (ev s (old &&& m)).complete t St.ok))

/-- R240, R245: EN_IMPRESS; index 0xFF takes every lane or channel of the kind. -/
def execEnImpress (tk : Nat) (s : State) : Out :=
  fin s (s.onTicket tk 0x0415 fun t =>
    let k := t.u 0 1
    let n := t.u 1 1
    let first := s.en.imprNext
    if 1 < k then s.complete t St.badArgument
    else if n = 0xFF then
      let l := if k = 1 then (List.range 32).filter fun c => s.custExists c else (List.range 64).filter fun n => (s.typ n).isLane
      (l.foldl (fun (s : State) n => s.impress (k == 1) n 6 0 s.legal) s).complete t St.ok (leBytes 2 first)
    else s.energyReq t k n ((s.impress (k == 1) n 6 0 s.legal).complete t St.ok (leBytes 2 first)))

/-! ### Registers (R247) -/

/-- R247: EN_SEL. -/
def State.enSel (s : State) : Nat := regOf [(0, 6, s.en.selIndex), (8, 1, s.en.selKind)]

/-- R247: a write of EN_SEL. -/
def State.writeEnSel (s : State) (v : Nat) : State := { s with en := { s.en with selIndex := fieldOf v 0 6, selKind := fieldOf v 8 1 } }

/-- R247: EN_IMPORT to EN_LSTAT of what EN_SEL shows, by their place from 0 on. -/
def State.enReg (s : State) (k : Nat) : Nat :=
  if s.en.selKind = 1 then (s.enRegs true (s.en.selIndex % 32)).getD k 0 else (s.enRegs false s.en.selIndex).getD k 0

/-- R247: EN_BIDIR. -/
def State.enBidir (s : State) : Nat := maskOf ((List.range 64).filter fun n => s.isBidir false n)

/-- R247: a write of EN_BIDIR; only the bits of METER lanes take it. -/
def State.writeEnBidir (s : State) (v : Nat) : State :=
  { s with en := { s.en with bidir := maskOf ((List.range 64).filter fun n => if s.typ n == .meter then bit v n else bit s.en.bidir n) } }

/-- R247: EN_MODULE. -/
def State.enModule (s : State) : Nat := regOf [(0, 32, s.en.bidirCust), (32, 1, b2n s.en.coverOpen), (33, 1, b2n s.en.coverNow)]

/-- R247: EN_RING. -/
def State.enRing (s : State) : Nat := regOf [(0, 16, s.en.recordNext), (16, 16, s.en.imprNext), (32, 32, s.en.recordCount)]

/-- R247: EN_SAVE. -/
def State.enSave (s : State) : Nat := regOf [(0, 32, s.en.saveLegal), (32, 16, s.en.saveDur), (48, 1, b2n s.en.saveLost), (49, 1, s.en.restored)]

end Sys2Proof.Machine
end

