-- ==== Sys2Proof/Machine/ResetOps.lean ====
section
/-! DEFINITION. ResetOps.lean: what a module reset leaves (R518, R519): each part keeps what MRAM, NOR, the real-time clock and the switch
dies hold, and starts otherwise as right after reset. -/
namespace Sys2Proof.Machine

/-- R17, R19, R518: TIME restarts at 0; legal time goes on in the real-time clock. -/
def State.resetClock (s : State) : Clock :=
  let l := s.legal
  { anchorLegal := l, prevLegal := l, rtcOk := s.clock.rtcOk, rtcLost := s.clock.rtcLost, savedLegal := s.clock.savedLegal }

/-- R57, R66, R518: no session survives; the addresses in MRAM do. -/
def Port.afterReset (p : Port) : Port := { ip4Addr := p.ip4Addr, ip4Prefix := p.ip4Prefix, ip4Enable := p.ip4Enable, ip4Used := p.ip4Used }

/-- R47, R55: the stored copies and the pointer remain. -/
def Matrix.afterReset (m : Matrix) : Matrix := { copyA := m.copyA, copyB := m.copyB, active := m.active, appliedCount := m.appliedCount }

/-- R103: what MRAM holds of a lane tile. -/
def Lane.afterReset (l : Lane) : Lane :=
  { sessionLast := l.sessionLast, authMode := l.authMode, hostAuthTo := l.hostAuthTo, enable := l.enable, rampRate := l.rampRate }

/-- R130. -/
def Hs.afterReset (h : Hs) : Hs :=
  { proto := h.proto, acHlc := h.acHlc, acFallback := h.acFallback, tls2 := h.tls2, pnc := h.pnc, control := h.control, certRef := h.certRef }

/-- R141, R153. -/
def Pp.afterReset (p : Pp) : Pp :=
  { lanes := p.lanes.map fun x => { lockPos := x.lockPos, feedback := x.feedback },
    cans := p.cans.map fun x => { nominal := x.nominal, data := x.data, enable := x.enable } }

/-- R162, R169, R172. -/
def Ps.afterReset (p : Ps) : Ps :=
  { lanes := p.lanes.map fun x => { sector := x.sector }, unbalA := p.unbalA, releaseS := p.releaseS, exportCredit := p.exportCredit,
    glim0Pol := p.glim0Pol, glim1Pol := p.glim1Pol, moduleW := p.moduleW, fallbackW := p.fallbackW, glim0W := p.glim0W, glim1W := p.glim1W,
    phaseLimit := p.phaseLimit, curtails := p.curtails, hubLimit := p.hubLimit }

/-- R185, R196. -/
def Ef.afterReset (e : Ef) : Ef :=
  { groups := e.groups.map fun g => { locked := g.locked, state := if g.locked then 5 else 0 }, testMin := e.testMin, crossEn := e.crossEn }

/-- R207, R209, R221. -/
def Mt.afterReset (m : Mt) : Mt :=
  { chans := m.chans.map fun c => { gain := c.gain, offset := c.offset, delay := c.delay, reset_ := c.reset_ },
    lanes := m.lanes.map fun l => { uncal := l.uncal, calGen := l.calGen }, calWrites := m.calWrites }

/-- R231, R244, R247: the register copies, the rings and the settings. -/
def En.afterReset (e : En) : En :=
  { copyA := e.copyA, copyB := e.copyB, nextCopy := e.nextCopy, bidir := e.bidir, bidirCust := e.bidirCust, coverOpen := e.coverOpen,
    coverNow := e.coverNow, coverPend := e.coverPend, records := e.records, recordNext := e.recordNext, recordCount := e.recordCount,
    imprs := e.imprs, imprNext := e.imprNext, closing := e.closing, saveLegal := e.saveLegal, saveDur := e.saveDur, saveLost := e.saveLost,
    restored := e.restored }

/-- R251, R268-R272: the block, its log and its password; the Graver restarts as after VGRV rises. -/
def Sf.afterReset (f : Sf) : Sf :=
  { grv := { powered := f.grv.powered }, block := f.block, blockOk := f.blockOk, changes := f.changes, log := f.log, logNext := f.logNext,
    password := f.password }

/-- R288, R292: the switch dies keep their channel states; their counters read 0. -/
def Po.afterReset (p : Po) : Po :=
  { chans := p.chans.map fun (c : PoCh) => { c with trips := 0, retryAt := none, waitCool := false, onSince := none, blankEnd := none, lowAt := none,
                                                    clamps := [], openAt := none, pulseEnd := none, proofed := false, proofDue := false },
    dies := p.dies.map fun d => { uv := d.uv, vsw := d.vsw } }

/-- R308. -/
def Rd.afterReset (r : Rd) : Rd :=
  { active := r.active, holder := r.holder, lastReason := r.lastReason, lastSide := r.lastSide, lastKind := r.lastKind, lastGap := r.lastGap,
    lastLegal := r.lastLegal, unplanned := r.unplanned, planned := r.planned, postponed := r.postponed, stbFaults := r.stbFaults,
    digestA := r.digestA, digestB := r.digestB }

/-- R335: the tables, marks and history, with the demand interval in progress. -/
def Bl.afterReset (b : Bl) : Bl := { b with rselIndex := 0, rselKind := 0, rselDir := 0, hubCorrAt := none }

/-- R336-R354: the account region; a bulk load that is not committed is dropped. -/
def Ac.afterReset (a : Ac) : Ac :=
  { a with credStby := 0, indexDone := false, frNow := 0,
           charges := a.charges.map fun c => c.map fun (x : Charge) => { x with timeAt := 0, debitAt := 0 },
           custody := a.custody.map fun c => c.map fun (x : Charge) => { x with timeAt := 0, debitAt := 0 },
           bulk := match a.bulk with | some b => if b.committed then some b else none | none => none }

/-- R363, R365. -/
def Cosem.afterReset (c : Cosem) : Cosem := { invRx := c.invRx, invTx := (c.invTx + 2 ^ 24) % 2 ^ 32 }

/-- R376-R390. -/
def Kv.afterReset (k : Kv) : Kv :=
  { nodes := k.nodes, rootEpoch := k.rootEpoch, objects := k.objects, anchors := k.anchors, mask := k.mask, reseeds := k.reseeds }

/-- R399, R404, R407, R414. -/
def Kz.afterReset (k : Kz) : Kz :=
  { keyNode := k.keyNode, keyEn := k.keyEn, beaconMode := k.beaconMode, maxMode := k.maxMode, enable := k.enable, distShare := k.distShare,
    nodes := k.nodes.map fun (n : KzNode) => { n with heardAt := 0, departed := n.departed.map fun _ => 0 }, peers := k.peers,
    counter := (k.committed + 4096) % 2 ^ 32, committed := (k.committed + 4096) % 2 ^ 32 }

/-- R430. -/
def Tg.afterReset (t : Tg) : Tg :=
  { qInit := t.qInit, session := t.session, blf := t.blf, encoding := t.encoding, tari := t.tari, holdoff := t.holdoff,
    writeRssi := t.writeRssi, writePtag := t.writePtag,
    ports := t.ports.map fun p => { enable := p.enable, power := p.power, rlMin := p.rlMin }, qfp := 10 * (t.qInit : Int), q := t.qInit }

/-- R438, R444: the panels' settings and journaled rectangles, and the waveform table. -/
def Ds.afterReset (d : Ds) : Ds :=
  { panels := d.panels.map fun p => { width := p.width, height := p.height, enable := p.enable, vcom := p.vcom, cfgWidth := p.cfgWidth,
                                      cfgHeight := p.cfgHeight, cfgEnable := p.cfgEnable, cfgVcom := p.cfgVcom, journal := p.journal },
    waveOk := d.waveOk, waveCrc := d.waveCrc, waveModes := d.waveModes, waveCnt := d.waveCnt, waveBnd := d.waveBnd, waveBody := d.waveBody,
    finals := d.finals }

/-- R471. -/
def Pw.afterReset (p : Pw) : Pw :=
  { lastWake := p.lastWake, wakeUs := p.wakeUs, parkS := p.parkS, compat := p.compat, wakeEn := p.wakeEn, alarmS := p.alarmS, armed := p.armed,
    lastUa := p.lastUa, borLp := p.borLp, wakeLane := p.wakeLane, refusedN := p.refusedN, abortedN := p.abortedN }

/-- R473, R485: the transfers of kinds 2-4 are closed at the start-up that follows. -/
def Up.afterReset (u : Up) : Up :=
  { u with sel := 0, xfers := u.xfers.map fun (x : Xfer) => { x with inUse := false },
           sides := u.sides.map fun (x : UpSide) => { x with ticket := none } }

/-- R488, R492. -/
def Mon.afterReset (m : Mon) : Mon := { level := m.level, passwords := m.passwords }

/-- R519, R525: the cause and the counts. -/
def Rs.afterReset (r : Rs) (cause : Nat) : Rs :=
  { cause := cause, prev := r.cause, saved := r.saved, resets := satU 16 (r.resets + 1), cPfw := r.cPfw, cVmain := r.cVmain,
    cBor := if cause = 2 then satU 16 (r.cBor + 1) else r.cBor, cXin := r.cXin, trim := r.trim, rstn := r.rstn,
    vsw := r.vsw, vp12 := r.vp12, vn12 := r.vn12, vana := r.vana, vio33 := r.vio33, vio18 := r.vio18, vcore := r.vcore, vddq := r.vddq,
    vaon := r.vaon, vgrv := r.vgrv, pfw := r.pfw, vmain := r.vmain, vio33Mv := r.vio33Mv, vanaMv := r.vanaMv,
    rail12Lanes := 0, rail12At := r.rail12At, pfClearAt := r.pfClearAt, clkLost := r.clkLost }

/-- R518, R519, R79: a module reset of a cause: the module stands before its release. Events still waiting at the sequencer are lost,
and so are sessions and tickets. -/
def State.moduleReset (s : State) (cause : Nat) : State :=
  let t : State :=
    { ident := { s.ident with dieFault := 0, dieStanding := 0 }, clock := s.resetClock, seqr := s.seqr,
      host := { ports := s.host.ports.mapIdx fun p (q : Port) => if p < 2 then { q.afterReset with outbox := q.outbox } else q.afterReset }, mx := s.mx.afterReset, lanes := s.lanes.map Lane.afterReset, hs := s.hs.afterReset,
      pp := s.pp.afterReset, ps := s.ps.afterReset, ef := s.ef.afterReset, mt := s.mt.afterReset, en := s.en.afterReset, sf := s.sf.afterReset,
      po := s.po.afterReset, rd := s.rd.afterReset, bl := s.bl.afterReset, ac := s.ac.afterReset, cosem := s.cosem.afterReset,
      kv := s.kv.afterReset, kz := s.kz.afterReset, tg := s.tg.afterReset, ds := s.ds.afterReset, pw := s.pw.afterReset,
      up := s.up.afterReset, mon := s.mon.afterReset, rs := s.rs.afterReset cause, emits := s.emits, draws := s.draws, pending := s.pending }
  (((t.ask .flush).ask .clearOverflows)).driveGated

end Sys2Proof.Machine
end

