-- ==== Sys2Proof/Machine/Calendar.lean ====
section
/-! DEFINITION. Calendar.lean: tariff time, calendar tables, boundaries and what they capture, corrections of legal time (R309-R335). -/
namespace Sys2Proof.Machine

/-! ### Dates: days and seconds since 2000-01-01 (R18) -/

/-- The year, month and day of a day since 2000-01-01. -/
def civilOf (d : Nat) : Nat × Nat × Nat :=
  let z := d + 730425
  let era := z / 146097
  let doe := z % 146097
  let yoe := (doe - doe / 1460 + doe / 36524 - doe / 146096) / 365
  let doy := doe - (365 * yoe + yoe / 4 - yoe / 100)
  let mp := (5 * doy + 2) / 153
  let m := if mp < 10 then mp + 3 else mp - 9
  (yoe + era * 400 + b2n (decide (m ≤ 2)), m, doy - (153 * mp + 2) / 5 + 1)

/-- The day since 2000-01-01 of a date. -/
def dayOf (y m d : Nat) : Nat :=
  let y := if m ≤ 2 then y - 1 else y
  let yoe := y % 400
  let doy := (153 * (if 2 < m then m - 3 else m + 9) + 2) / 5 + d - 1
  y / 400 * 146097 + yoe * 365 + yoe / 4 - yoe / 100 + doy - 730425

/-- The weekday of a day: 1 Monday to 7 Sunday. -/
def weekdayOf (d : Nat) : Nat := (d + 5) % 7 + 1

/-- Days of a month. -/
def monthDays (y m : Nat) : Nat :=
  if m = 2 then (if y % 4 = 0 && (y % 100 != 0 || y % 400 == 0) then 29 else 28) else if [4, 6, 9, 11].contains m then 30 else 31

/-- Legal seconds of 2020-01-01 and of 2100-01-01, the bounds of a target (R326). -/
def legalFrom : Nat := 7305 * 86400
def legalTo : Nat := 36525 * 86400

/-! ### Tariff time (R309, R310) -/

/-- R309: local standard time of a legal second. -/
def CalTab.local (c : CalTab) (x : Nat) : Nat := ((x : Int) + c.stdOffset * 60).toNat
/-- R309: the legal second of a local standard time. -/
def CalTab.legal (c : CalTab) (x : Nat) : Nat := ((x : Int) - c.stdOffset * 60).toNat

/-- R310, R311: the local standard time of a daylight-saving instant in a year. -/
def DstRule.instant (r : DstRule) (y : Nat) : Nat :=
  let f := dayOf y r.month 1
  let d := f + (r.weekday + 7 - weekdayOf f) % 7
  let d := if r.week ≤ 4 then d + 7 * (r.week - 1) else if d + 28 < f + monthDays y r.month then d + 28 else d + 21
  d * 86400 + r.hour * 3600

/-- The year of a local second. -/
def yearOf (x : Nat) : Nat := (civilOf (x / 86400)).1

/-- R310: daylight saving is in force at a local standard time. -/
def CalTab.inDst (c : CalTab) (x : Nat) : Bool :=
  c.dst &&
    let a := c.dstStart.instant (yearOf x)
    let b := c.dstEnd.instant (yearOf x)
    if a ≤ b then decide (a ≤ x) && decide (x < b) else decide (x < b) || decide (a ≤ x)

/-- R309: tariff time of a legal second. -/
def CalTab.tariff (c : CalTab) (x : Nat) : Nat := c.local x + if c.inDst (c.local x) then 60 * c.dstShift else 0

/-- R310: the legal second at which a tariff time is processed: its first occurrence, or the jump that skips it. -/
def CalTab.instantOf (c : CalTab) (t : Nat) : Nat :=
  c.legal (
    if !c.dst then t
    else
      let a := t - 60 * c.dstShift
      if c.inDst a then a else if !c.inDst t then t else c.dstStart.instant (yearOf t))

/-! ### The rate in force (R313, R314) -/

/-- R314: the season in force on a date: the latest start on or before it, or the latest start in the year. -/
def CalTab.seasonOn (c : CalTab) (d : Nat) : Option Season :=
  let (_, m, dd) := civilOf d
  let key (x : Season) : Nat := 32 * x.month + x.day
  let best (l : List Season) : Option Season := l.foldl (fun b x => match b with
    | some y => if key y < key x then some x else b
    | none => some x) none
  match best (c.seasons.filter fun x => decide (key x ≤ 32 * m + dd)) with
  | some x => some x
  | none => best c.seasons

/-- R314: the special day a date is. -/
def CalTab.specialOn (c : CalTab) (d : Nat) : Option SpDay :=
  let (y, m, dd) := civilOf d
  match c.specials.find? fun x => x.year == y && x.month == m && x.day == dd with
  | some x => some x
  | none => c.specials.find? fun x => x.year == 0xFFFF && x.month == m && x.day == dd

/-- R314: the day profile of a tariff date. -/
def CalTab.profileOn (c : CalTab) (d : Nat) : Nat :=
  if c.kind = 0 then b2n (bit c.restMask (weekdayOf d - 1))
  else match c.specialOn d with
    | some x => x.profile
    | none => match c.seasonOn d with
      | some x => (c.weeks.getD x.week []).getD (weekdayOf d - 1) 0
      | none => 0

/-- The switch points of a tariff date. -/
def CalTab.pointsOn (c : CalTab) (d : Nat) : List SwPt := c.days.getD (c.profileOn d) []

/-- R314: the rate in force at a tariff time. -/
def CalTab.rateAt (c : CalTab) (t : Nat) : Nat :=
  (c.pointsOn (t / 86400)).foldl (fun r p => if p.minute ≤ t % 86400 / 60 then p.rate else r) 1

/-! ### Where boundaries fall (R314, R316, R317) -/

/-- R316: the first demand boundary after a legal second. -/
def CalTab.nextDemand (c : CalTab) (x : Nat) : Nat :=
  let q := 60 * c.demandMin
  c.legal ((c.local x / q + 1) * q)

/-- R314: the switch points of a date as legal seconds with their rates; of points at one instant the last counts. -/
def CalTab.switchesOn (c : CalTab) (d : Nat) : List (Nat × Nat) :=
  (c.pointsOn d).foldl (fun l p =>
    let i := c.instantOf (d * 86400 + p.minute * 60)
    l.filter (fun y => y.1 != i) ++ [(i, p.rate)]) []

/-- R314: the first switch to another rate after a legal second, on the `k` dates from `d` on. -/
def CalTab.nextSwitchFrom (c : CalTab) (rate after : Nat) : Nat → Nat → Option (Nat × Nat)
  | 0, _ => none
  | k + 1, d =>
    match (c.switchesOn d).find? fun y => decide (after < y.1) && y.2 != rate with
    | some y => some y
    | none => c.nextSwitchFrom rate after k (d + 1)

/-- R314: the first switch to another rate after a legal second and up to another one. -/
def CalTab.nextSwitch (c : CalTab) (rate after upTo : Nat) : Option (Nat × Nat) :=
  let d := c.tariff after / 86400
  c.nextSwitchFrom rate after (c.tariff upTo / 86400 + 2 - d) d

/-- R317: the billing period closes on a tariff date. -/
def CalTab.closesOn (c : CalTab) (d : Nat) : Bool :=
  match c.bpMode with
  | 0 => (civilOf d).2.2 == c.bpDay
  | 1 => weekdayOf d == c.bpDay
  | _ => true

/-- R317: the first billing period close after a legal second, on the `k` dates from `d` on. -/
def CalTab.nextPeriodFrom (c : CalTab) (after : Nat) : Nat → Nat → Option Nat
  | 0, _ => none
  | k + 1, d =>
    let i := c.instantOf (d * 86400 + c.bpHour * 3600)
    if c.closesOn d && decide (after < i) then some i else c.nextPeriodFrom after k (d + 1)

/-- R317: the first billing period close after a legal second and up to another one. -/
def CalTab.nextPeriod (c : CalTab) (after upTo : Nat) : Option Nat :=
  let d := c.tariff after / 86400
  c.nextPeriodFrom after (c.tariff upTo / 86400 + 2 - d) d

/-- The boundaries of R324 in its order, with the rate a switch brings. -/
inductive Bound where
  | demand
  | activation
  | switch (rate : Nat)
  | period
deriving DecidableEq, Repr

/-- R324: the place of a boundary among those of one instant. -/
def Bound.order : Bound → Nat
  | .demand => 0 | .activation => 1 | .switch _ => 2 | .period => 3

/-- R324, R328: the first boundary after its high-water mark and up to a legal second. -/
def State.nextBound (s : State) (upTo : Nat) : Option (Nat × Bound) :=
  let c := s.bl.cal
  let sw : List (Nat × Bound) := match c.nextSwitch s.bl.rate (s.bl.hwmT / 2 ^ 32) upTo with | some (i, r) => [(i, .switch r)] | none => []
  let pd : List (Nat × Bound) := match c.nextPeriod (max (s.bl.hwmP / 2 ^ 32) s.bl.perFrom) upTo with | some i => [(i, .period)] | none => []
  let ac : List (Nat × Bound) := match s.bl.passive with | some (_, i) => [(i, .activation)] | none => []
  let l : List (Nat × Bound) := (c.nextDemand (s.bl.hwmD / 2 ^ 32), .demand) :: (ac ++ sw ++ pd)
  (l.filter fun y => decide (y.1 ≤ upTo)).foldl (fun b y => match b with
    | some z => if y.1 < z.1 || (y.1 == z.1 && decide (y.2.order < z.2.order)) then some y else b
    | none => some y) none

/-- R328, R331: boundaries are processed: the marks are set, legal time is valid, and the restore of R239 is done. -/
def State.boundsRun (s : State) : Bool := s.bl.hwmSet && !s.dieBad 13 && s.clock.legalValid && decide (5 ≤ s.rs.phase)

/-- The boundary that is due now. -/
def State.dueBound (s : State) : Option (Nat × Bound) := if s.boundsRun then s.nextBound s.legalSec else none

/-! ### What boundaries capture (R321-R323) -/

/-- R321: lanes of types 1-5, ascending. -/
def State.typedLanes (s : State) : List Nat := (List.range 64).filter fun n => (s.typ n).isLane
/-- R321: custody channels, ascending. -/
def State.custChans (s : State) : List Nat := (List.range 32).filter fun c => s.custExists c

/-- R334: the BOUNDARY event of a boundary closed at a legal second. -/
def State.evBound (s : State) (typ flags at_ run : Nat) : State :=
  s.evMod .metering s.rd.active 0 0x4021 (leBytes 1 typ ++ leBytes 2 flags ++ leBytes 4 at_ ++ leBytes 2 (satU 16 run) ++ leBytes 1 s.bl.rate)

/-- R229: the demand of an interval of `l` seconds whose energy, in 2^-32 of the unit, is `e`. -/
def demandOf (e l : Nat) : Nat := satU 32 (e * 36 / (2 ^ 32 * 10000 * l))

/-- R229: the open interval closes: its demand, and the maxima with the legal time at which it ended. -/
def EnSet.closeInterval (e : EnSet) (l at_ : Nat) : EnSet :=
  let i := demandOf (e.acc.imp - e.intAcc.imp) l
  let x := demandOf (e.acc.exp - e.intAcc.exp) l
  { e with intAcc := e.acc, demImp := i, demExp := x, maxImp := max e.maxImp i, maxExp := max e.maxExp x,
           maxImpAt := if e.maxImp < i then at_ else e.maxImpAt, maxExpAt := if e.maxExp < x then at_ else e.maxExpAt }

/-- R229: every lane and custody channel closes its interval, at a legal time (64 bits). -/
def State.closeIntervals (s : State) (at_ : Nat) : State :=
  let l := 60 * s.bl.cal.demandMin
  { s with en := { s.en with lanes := s.en.lanes.map (·.closeInterval l at_), cust := s.en.cust.map (·.closeInterval l at_) } }

/-- R321: the impressions of a demand close: METER lanes, lanes that advanced, custody channels. -/
def State.imprDemand (s : State) (flags at_ : Nat) : State :=
  let adv := s.bl.advanced
  let s := (s.typedLanes.filter fun n => s.typ n == .meter || adv.contains n).foldl (fun (s : State) n => s.impress false n 0 flags at_) s
  s.custChans.foldl (fun (s : State) c => s.impress true c 0 flags at_) s

/-- R321, R323: the impressions of a tariff switch (1) or of a billing period close (2), the latter with its history. -/
def State.imprAll (s : State) (reason flags at_ : Nat) : State :=
  let one (s : State) (cust : Bool) (n : Nat) : State :=
    let s := s.impress cust n reason flags at_
    if reason = 2 then
      let e := ((s.en.imprs.take 3).reverse).flatten
      let old := match s.bl.history.find? fun y => y.1 == b2n cust && y.2.1 == n with | some y => y.2.2 | none => []
      { s with bl := { s.bl with history :=
        (b2n cust, n, (e :: old).take 13) :: s.bl.history.filter (fun y => !(y.1 == b2n cust && y.2.1 == n)) } }
    else s
  let s := s.typedLanes.foldl (fun (s : State) n => one s false n) s
  s.custChans.foldl (fun (s : State) c => one s true c) s

/-- R316, R321: a demand interval closes at a legal time (64 bits); `told` says whether it takes impressions and its event, of type
`typ` and with a run length. -/
def State.demandClose (s : State) (typ flags at_ run : Nat) (told : Bool) : State :=
  let fl := flags ||| s.bl.intFlags
  let s := s.closeIntervals at_
  let s := if told then (s.imprDemand fl at_).evBound typ fl (at_ / 2 ^ 32) run else s
  let keep := if bit flags 0 then 2 else 0
  { s with bl := { s.bl with advanced := [], intFlags := keep, intStart := at_ },
           en := { s.en with lanes := s.en.lanes.map fun (e : EnSet) => { e with intGap := false },
                             cust := s.en.cust.map fun (e : EnSet) => { e with intGap := false } } }

/-- R314, R321: the rate switches. -/
def State.tariffSwitch (s : State) (rate flags i run : Nat) (told : Bool) : State :=
  let s : State := { s with bl := { s.bl with rate := rate, hwmT := max s.bl.hwmT (i * 2 ^ 32) } }
  if told then (s.imprAll 1 flags (i * 2 ^ 32)).evBound 1 flags i run else s

/-- R317, R322, R323: the billing period closes; the maxima return to 0 after the last impression. -/
def State.periodClose (s : State) (flags i : Nat) : State :=
  let s : State := { s with bl := { s.bl with hwmP := max s.bl.hwmP (i * 2 ^ 32) } }
  let s := (s.imprAll 2 flags (i * 2 ^ 32)).evBound 2 flags i 1
  { s with en := { s.en with lanes := s.en.lanes.map fun (e : EnSet) => { e with maxImp := 0, maxExp := 0, maxImpAt := 0, maxExpAt := 0 },
                             cust := s.en.cust.map fun (e : EnSet) => { e with maxImp := 0, maxExp := 0, maxImpAt := 0, maxExpAt := 0 } } }

/-- R318, R311: the 32-byte header and body of the default table. -/
def defaultTable : Bytes :=
  let b : Bytes := [0x59, 0x47, 0x43, 0x4C, 0, 15, 0, 1, 0, 0, 0, 0] ++ List.replicate 10 0 ++ asciiBytes "DEFAULT " ++ [0, 0] ++
    ([0x00, 0x88] ++ List.replicate 22 0) ++ ([0x00, 0x88] ++ List.replicate 22 0)
  b ++ leBytes 4 (crc32 b)

/-- R333: a table with its CRC. -/
def CalTab.image (c : CalTab) : Bytes := if c.raw.isEmpty then defaultTable else c.raw
/-- R335: the CRC-32 of a table. -/
def CalTab.crc (c : CalTab) : Nat := leNat (c.image.drop (c.image.length - 4))

/-- R310: whether daylight saving is in force now. -/
def State.dstNow (s : State) : Bool := s.bl.cal.inDst (s.bl.cal.local s.legalSec)

/-- R334: CALENDAR_ACTIVATED. -/
def State.evCalendar (s : State) (kind at_ : Nat) : State :=
  s.evMod .metering s.rd.active 0 0x4022 (leBytes 1 kind ++ leBytes 1 s.bl.rate ++ leBytes 4 at_ ++ leBytes 4 s.bl.cal.crc)

/-- R320: the passive table becomes the active table. -/
def State.activate (s : State) (flags i : Nat) : State :=
  match s.bl.passive with
  | none => s
  | some (c, _) =>
    let s : State := { s with bl := { s.bl with cal := c, passive := none, rate := c.rateAt (c.tariff i), hwmT := max s.bl.hwmT (i * 2 ^ 32),
                                                perFrom := i, dst := c.inDst (c.local i) } }
    ((s.imprAll 1 flags (i * 2 ^ 32)).evBound 3 flags i 1).evCalendar c.kind i

/-! ### Processing of boundaries (R324, R325, R330) -/

/-- Where a run of missed boundaries stands: boundaries closed, demand closes and tariff switches of the present runs. -/
structure Run where
  total : Nat := 0
  dem : Nat := 0
  tar : Nat := 0
deriving DecidableEq, Repr

/-- R325: one boundary of those missed or skipped up to a legal second; only the first and last of a run are told. -/
def State.catchOne (s : State) (r : Run) (upTo flags i : Nat) : Bound → State × Run
  | .demand =>
    let last := decide (upTo < s.bl.cal.nextDemand i)
    let t := s.demandClose 0 flags (i * 2 ^ 32) (if last then r.dem + 1 else 1) (r.dem == 0 || last)
    ({ t with bl := { t.bl with hwmD := max t.bl.hwmD (i * 2 ^ 32) } }, { r with total := r.total + 1, dem := r.dem + 1 })
  | .activation => (s.activate flags i, { r with total := r.total + 1, tar := 0 })
  | .switch rate =>
    let last := match s.bl.cal.nextSwitch rate i upTo with
      | some (j, _) => decide (upTo < j) || (match s.bl.passive with | some (_, k) => decide (k ≤ j) | none => false)
      | none => true
    (s.tariffSwitch rate flags i (if last then r.tar + 1 else 1) (r.tar == 0 || last), { r with total := r.total + 1, tar := r.tar + 1 })
  | .period => (s.periodClose flags i, { r with total := r.total + 1 })

/-- R325, R330: the boundaries up to a legal second, in chronological order and R324 at each instant. -/
def State.catchUp (upTo flags : Nat) : Nat → State → Run → State × Run
  | 0, s, r => (s, r)
  | k + 1, s, r =>
    match s.nextBound upTo with
    | none => (s, r)
    | some (i, b) =>
      let (t, r) := s.catchOne r upTo flags i b
      State.catchUp upTo flags k t r

/-- Boundaries that can fall up to a legal second: at most four a minute after the lowest mark. -/
def State.boundsMost (s : State) (upTo : Nat) : Nat :=
  4 * ((upTo - min s.bl.hwmD (min s.bl.hwmT s.bl.hwmP) / 2 ^ 32) / 60 + 2)

/-- R325, R330: every boundary missed or skipped up to now is closed; and how many they are. -/
def State.catchAll (s : State) (flags : Nat) : State × Nat :=
  let (t, r) := State.catchUp s.legalSec flags (s.boundsMost s.legalSec) s {}
  (t, r.total)

/-- R316, R324: DEMAND_CLOSE. -/
def execDemandClose (s : State) : Out :=
  fin s (match s.dueBound with
    | some (i, .demand) =>
      let t := s.demandClose 0 0 (i * 2 ^ 32) 1 true
      { t with bl := { t.bl with hwmD := max t.bl.hwmD (i * 2 ^ 32) } }
    | some _ | none => s)

/-- R314, R324: TARIFF_SWITCH. -/
def execTariffSwitch (s : State) : Out :=
  fin s (match s.dueBound with
    | some (i, .switch r) => s.tariffSwitch r 0 i 1 true
    | some _ | none => s)

/-- R317, R324: BILLING_PERIOD_CLOSE. -/
def execBillingPeriodClose (s : State) : Out :=
  fin s (match s.dueBound with
    | some (i, .period) => s.periodClose 0 i
    | some _ | none => s)

/-- R320, R324: CALENDAR_ACTIVATION. -/
def execCalendarActivation (s : State) : Out :=
  fin s (match s.dueBound with
    | some (i, .activation) => s.activate 0 i
    | some _ | none => s)

/-- R310: tariff time jumps: BL_STATUS.DST changes, and a switch point or close of the skipped span is processed at the jump. -/
def execDaylightSavingChange (s : State) : Out :=
  fin s (
    if s.bl.dst == s.dstNow then s
    else
      let jump := s.bl.cal.legal (s.bl.cal.dstStart.instant (yearOf (s.bl.cal.local s.legalSec)))
      let s : State := { s with bl := { s.bl with dst := s.dstNow } }
      let s := match s.dueBound with
        | some (i, .switch r) => if i = jump then s.tariffSwitch r 0 i 1 true else s
        | some _ | none => s
      match s.dueBound with
      | some (i, .period) => if i = jump then s.periodClose 0 i else s
      | some _ | none => s)

/-! ### Legal time (R326-R332) -/

/-- R19: legal time takes a value now; both anchors of the pair are at it. -/
def State.setLegal (s : State) (v : Nat) : State :=
  { s with clock := { s.clock with anchorTime := s.now, anchorLegal := v, prevTime := s.now, prevLegal := v,
                                   slewDelta := 0, slewEnd := none } }

/-- R334: CLOCK_SET. Its rounding to ms is open (log entry 1). -/
def State.evClockSet (s : State) (mode source : Nat) (delta : Int) (skipped : Nat) : State :=
  (s.evMod (if source = 2 then .external else .host) s.rd.active 0 0x4020
    (leBytes 1 mode ++ leBytes 1 source ++ leBytes 4 (satS 32 (delta.sign * (s.roundDiv delta.natAbs 1000000 : Nat))) ++
      leBytes 2 (satU 16 skipped))).drawn

/-- R326: what a correction is: 0 a slew, 1 a step, 2 a first setting. -/
def State.corrMode (s : State) (delta : Int) : Nat :=
  if !s.clock.legalValid then 2 else if delta.natAbs ≤ 2 * 2 ^ 32 then 0 else 1

/-- R326: a correction to a target (32.32) taken at a TIME is refused. -/
def State.corrRefused (s : State) (target : Nat) (delta : Int) : Bool :=
  decide (target < legalFrom * 2 ^ 32) || decide (legalTo * 2 ^ 32 ≤ target) ||
    (s.clock.legalValid && decide (((400 * 86400 * 2 ^ 32 : Nat) : Int) < delta))

/-- R328: the marks of a new module, and the interval, rate and period that open there. -/
def State.firstMarks (s : State) (v : Nat) : State :=
  let c := s.bl.cal
  { s with bl := { s.bl with hwmD := v, hwmT := v, hwmP := v, hwmSet := true, rate := c.rateAt (c.tariff (v / 2 ^ 32)), intStart := v,
                             advanced := [], intFlags := 8 },
           en := { s.en with lanes := s.en.lanes.map fun (e : EnSet) => { e with intAcc := e.acc },
                             cust := s.en.cust.map fun (e : EnSet) => { e with intAcc := e.acc } } }

/-- R242, R330: the sessions open across a step. -/
def State.markStep (s : State) : State :=
  { s with en := { s.en with lanes := s.en.lanes.map fun (e : EnSet) =>
      { e with sess := e.sess.map fun x => { x with timeChanged := true } } } }

/-- R329, R330: legal time steps to a value: back, the interval in progress closes short; forward, the skipped boundaries close. The
count is that of the boundaries skipped. -/
def State.step_ (s : State) (v : Nat) (delta : Int) : State × Nat :=
  let old := s.legal
  let s := s.markStep
  let s : State := if delta < 0 && s.bl.hwmSet then
    let t := s.demandClose 4 8 old 1 true
    { t with bl := { t.bl with intFlags := 8 } } else s
  let s := s.setLegal v
  let s : State := { s with clock := { s.clock with legalValid := true } }
  if !s.bl.hwmSet then (s.firstMarks v, 0)
  else if delta < 0 then (s, 0)
  else
    let s : State := { s with bl := { s.bl with intFlags := s.bl.intFlags ||| 8 } }
    s.catchAll 4

/-- R326-R331: a correction accepted at a TIME and completing now; source as in CLOCK_SET. -/
def State.correct (s : State) (target acceptTime source : Nat) (delta deltaNs : Int) : State :=
  let mode := s.corrMode delta
  let due : State → State := fun s => { s with clock := { s.clock with rtcSetDue := some (s.now + sec 1) } }
  if mode = 0 then
    let s := s.setLegal s.legal
    let s := if s.bl.hwmSet then s else s.firstMarks s.legal
    let s : State := { s with clock := { s.clock with slewDelta := deltaNs, slewStart := s.now, slewEnd := some (s.now + sec 60) },
                              bl := { s.bl with slews := satU 16 (s.bl.slews + 1) } }
    (due s).evClockSet 0 source deltaNs 0
  else
    let v := target + (s.now - acceptTime) * 2 ^ 32 / 1000000000
    let skipped := (s.step_ v delta).2
    let s := s.evClockSet mode source deltaNs skipped
    let s := (s.step_ v delta).1
    let s : State := { s with bl := { s.bl with steps := satU 16 (s.bl.steps + 1), skipped := satU 16 (s.bl.skipped + skipped),
                                                dst := s.dstNow } }
    due s

/-- R327: the slew ends. -/
def execSlewEnd (s : State) : Out :=
  fin s (match s.clock.slewEnd with
    | some e =>
      if s.now < e then s
      else
        let v := s.legalAt e
        { s with clock := { s.clock with prevTime := s.clock.anchorTime, prevLegal := s.clock.anchorLegal, anchorTime := e, anchorLegal := v,
                                         slewDelta := 0, slewEnd := none } }
    | none => s)

/-- R332: corrections are taken only from the hub master's time. -/
def State.hubTime (s : State) : Bool := s.bl.tmSource && !s.kz.master

/-- R326: delta of a target against legal time at a TIME, in 2^-32 s. -/
def State.corrDelta (s : State) (target t : Nat) : Int := (target : Int) - (s.legalAt t : Nat)
/-- R326, R333: delta in ns; its rounding is open (log entry 1). -/
def State.corrNs (s : State) (delta : Int) : Int := delta.sign * (s.roundDiv (delta.natAbs * 1000000000) (2 ^ 32) : Nat)

/-- R326, R332, R333: TM_SET. -/
def execTmSet (tk : Nat) (s : State) : Out :=
  fin s (s.onTicket tk 0x0563 fun t =>
    let target := t.u 0 8
    let delta := s.corrDelta target t.acceptTime
    if s.hubTime then s.complete t St.refusedState
    else if s.corrRefused target delta then s.complete t St.badArgument
    else
      let ns := s.corrNs delta
      (s.drawn.correct target t.acceptTime 0 delta ns).complete t St.ok (leBytes 1 (s.corrMode delta) ++ leBytes 8 (toBits 64 ns)))

/-! ### Loading (R319) -/

/-- R312: the used switch points of a day profile of 24 bytes, or none when it breaks R312. -/
def parseProfile (b : Bytes) : Option (List SwPt) :=
  let ws := (List.range 12).map fun i => leNat (sub b (2 * i) 2)
  let used := ws.takeWhile fun w => bit w 15
  let pts : List SwPt := used.map fun w => { minute := w % 2048, rate := w / 2048 % 16 }
  let ok := (ws.drop used.length).all (· == 0) && pts.all (fun p => p.minute ≤ 1439 && 1 ≤ p.rate && p.rate ≤ 8) &&
    (pts.zip (pts.drop 1)).all (fun (p, q) => decide (p.minute < q.minute)) && (match pts with | p :: _ => p.minute == 0 | [] => true)
  if ok then some pts else none

/-- R311: a daylight-saving instant. -/
def parseDst (b : Bytes) : DstRule :=
  { month := leNat (sub b 0 1), week := leNat (sub b 1 1), weekday := leNat (sub b 2 1), hour := leNat (sub b 3 1) }
/-- R311: its fields are in range. -/
def DstRule.ok (r : DstRule) : Bool :=
  decide (1 ≤ r.month) && decide (r.month ≤ 12) && decide (1 ≤ r.week) && decide (r.week ≤ 5) && decide (1 ≤ r.weekday) &&
    decide (r.weekday ≤ 7) && decide (r.hour ≤ 23)

/-- R311-R313: the table a byte string spells; fields that break a rule are found by `CalTab.headerOk` and `CalTab.fullOk`. -/
def parseTable (b : Bytes) : Option CalTab :=
  let u (o k : Nat) : Nat := leNat (sub b o k)
  let full := u 4 1 == 1
  let profs := if full then (List.range 16).map fun i => parseProfile (sub b (0x20 + 0x50 + 24 * i) 24)
    else [parseProfile (sub b 0x20 24), parseProfile (sub b 0x38 24)]
  if profs.all (·.isSome) then
    some { kind := u 4 1, demandMin := u 5 1, bpMode := u 6 1, bpDay := u 7 1, bpHour := u 8 1, dst := u 9 1 == 1,
           stdOffset := ofBits 16 (u 10 2), dstStart := parseDst (sub b 0x0C 4), dstEnd := parseDst (sub b 0x10 4), dstShift := u 0x14 1,
           restMask := u 0x15 1 % 128, days := profs.map fun p => p.getD [],
           seasons := if full then (List.range 4).filterMap fun i =>
               let o := 0x20 + 4 * i
               if u (o + 3) 1 = 1 then some { month := u o 1, day := u (o + 1) 1, week := u (o + 2) 1, index := i } else none else [],
           weeks := if full then (List.range 8).map fun i => (sub b (0x30 + 8 * i) 7).map (·.toNat) else [],
           specials := if full then (List.range 128).filterMap fun i =>
               let o := 0x20 + 0x1D0 + 6 * i
               if u (o + 5) 1 = 1 then some { year := u o 2, month := u (o + 2) 1, day := u (o + 3) 1, profile := u (o + 4) 1 } else none else [],
           raw := b }
  else none

/-- R311: check 4 of R319 on the header. -/
def CalTab.headerOk (c : CalTab) : Bool :=
  let b := c.raw
  let u (o k : Nat) : Nat := leNat (sub b o k)
  [1, 2, 3, 4, 5, 6, 10, 12, 15, 20, 30, 60].contains c.demandMin &&
    (match c.bpMode with
      | 0 => decide (1 ≤ c.bpDay) && decide (c.bpDay ≤ 28)
      | 1 => decide (1 ≤ c.bpDay) && decide (c.bpDay ≤ 7)
      | 2 => c.bpDay == 0
      | _ => false) &&
    decide (c.bpHour ≤ 23) && decide (u 9 1 ≤ 1) && c.stdOffset % 15 == 0 && decide (-720 ≤ c.stdOffset) && decide (c.stdOffset ≤ 840) &&
    (if c.dst then c.dstStart.ok && c.dstEnd.ok && (c.dstShift == 30 || c.dstShift == 60) else c.dstShift == 0) &&
    (if c.kind = 0 then decide (u 0x15 1 < 128) else u 0x15 1 == 0) &&
    (sub b 0x16 8).all (fun x => decide (0x20 ≤ x.toNat) && decide (x.toNat ≤ 0x7E)) && u 0x1E 2 == 0 &&
    (c.kind != 0 || c.days.all fun p => !p.isEmpty)

/-- R319: no two entries of a list are alike. -/
def distinctBy (l : List Nat) : Bool :=
  match l with
  | [] => true
  | x :: r => !r.contains x && distinctBy r

/-- R313, R319: check 5 on a full table. -/
def CalTab.fullOk (c : CalTab) : Bool :=
  let exists_ (p : Nat) : Bool := !(c.days.getD p []).isEmpty
  !c.seasons.isEmpty && distinctBy (c.seasons.map fun x => 256 * x.month + x.day) &&
    c.seasons.all (fun x => decide (x.week < 8) && (c.weeks.getD x.week []).all exists_) && c.specials.all (fun x => exists_ x.profile) &&
    distinctBy (c.specials.map fun x => 65536 * x.year + 256 * x.month + x.day)

/-- R319: checks 1-5 on the bytes of a table. -/
def State.checkTable (s : State) (b : Bytes) : Nat ⊕ CalTab :=
  let kind := leNat (sub b 4 1)
  if sub b 0 4 != [0x59, 0x47, 0x43, 0x4C] || !((kind == 0 && b.length == 84) || (kind == 1 && b.length == 1268)) then .inl St.badArgument
  else if kind = 1 && s.ident.variant != .fx then .inl St.notSupported
  else if leNat (b.drop (b.length - 4)) != crc32 (b.take (b.length - 4)) then .inl St.checkFailed
  else match parseTable b with
    | none => .inl St.badArgument
    | some c => if !c.headerOk || (kind == 1 && !c.fullOk) then .inl St.badArgument else .inr c

/-- R319: the first whole hour of local standard time under a table that lies 1 s or more after the completion and after the tariff
high-water mark. -/
def State.firstHour (s : State) (c : CalTab) : Nat :=
  let x := max ((s.legal + 2 ^ 32 - 1) / 2 ^ 32 + 1) (if s.bl.hwmSet then s.bl.hwmT / 2 ^ 32 + 1 else 0)
  c.legal ((c.local x + 3599) / 3600 * 3600)

/-- R319: check 6. -/
def State.instantOk (s : State) (c : CalTab) (i : Nat) : Bool :=
  c.local i % 3600 == 0 && decide (s.legal < i * 2 ^ 32) && (!s.bl.hwmSet || decide (s.bl.hwmT < i * 2 ^ 32))

/-- R319, R333: CAL_LOAD. -/
def execCalLoad (tk : Nat) (s : State) : Out :=
  fin s (s.onTicket tk 0x0560 fun t =>
    match s.checkTable (t.rest 4) with
    | .inl st => s.complete t st
    | .inr c =>
      let i := if t.u 0 4 = 0 then s.firstHour c else t.u 0 4
      if !s.instantOk c i then s.complete t St.badArgument
      else { s with bl := { s.bl with passive := some (c, i) } }.complete t St.ok (leBytes 4 i))

/-- R333: CAL_CANCEL. -/
def execCalCancel (tk : Nat) (s : State) : Out :=
  fin s (s.onTicket tk 0x0561 fun t => { s with bl := { s.bl with passive := none } }.complete t St.ok)

/-- R333: CAL_READ. -/
def execCalRead (tk : Nat) (s : State) : Out :=
  fin s (s.onTicket tk 0x0562 fun t =>
    match t.u 0 1, s.bl.passive with
    | 0, _ => s.complete t St.ok s.bl.cal.image
    | 1, some (c, _) => s.complete t St.ok c.image
    | _, _ => s.complete t St.badArgument)

/-! ### Registers (R335) and the reading requests (R333) -/

/-- R335: BL_STATUS. -/
def State.blStatus (s : State) : Nat :=
  let c := s.bl.cal
  let d := c.tariff s.legalSec / 86400
  let se := if c.kind = 0 then none else c.seasonOn d
  regOf [(0, 1, c.kind), (1, 1, b2n s.bl.passive.isSome), (2, 1, b2n s.bl.dst), (3, 1, b2n (c.kind != 0 && (c.specialOn d).isSome)),
    (4, 1, b2n s.clock.slewEnd.isSome), (8, 4, s.bl.rate), (12, 2, match se with | some x => x.index | none => 0), (16, 4, c.profileOn d),
    (20, 3, match se with | some x => x.week | none => 0), (24, 8, c.demandMin), (32, 32, c.crc)]

/-- R335: BL_PASSIVE. -/
def State.blPassive (s : State) : Nat :=
  match s.bl.passive with
  | some (c, i) => regOf [(0, 32, c.crc), (32, 32, i)]
  | none => 0

/-- R335: BL_SLEW; how its values are rounded is open (log entry 1). -/
def State.blSlew (s : State) : Nat :=
  match s.clock.slewEnd with
  | some e =>
    let left := min (sec 60) (e - s.now)
    let r := s.roundDiv (s.clock.slewDelta.natAbs * left) (sec 60)
    regOf [(0, 32, toBits 32 (s.clock.slewDelta.sign * (r : Nat))), (32, 8, s.roundDiv left (sec 1))]
  | none => 0

/-- R335: BL_CFG. -/
def State.blCfg (s : State) : Nat := regOf [(0, 1, b2n s.bl.tmSource), (16, 16, s.bl.steps), (32, 16, s.bl.slews), (48, 16, s.bl.skipped)]

/-- R335: a write of BL_CFG. -/
def State.writeBlCfg (s : State) (v : Nat) : State := { s with bl := { s.bl with tmSource := flagOf v 0 } }

/-- R335: BL_RSEL. -/
def State.blRsel (s : State) : Nat := regOf [(0, 6, s.bl.rselIndex), (8, 1, s.bl.rselKind), (9, 1, s.bl.rselDir)]

/-- R335: a write of BL_RSEL. -/
def State.writeBlRsel (s : State) (v : Nat) : State :=
  { s with bl := { s.bl with rselIndex := fieldOf v 0 6, rselKind := fieldOf v 8 1, rselDir := fieldOf v 9 1 } }

/-- R315, R335: the rate registers of a lane or custody channel and direction. -/
def State.rates (s : State) (cust exp : Bool) (n : Nat) : List Nat :=
  (if exp then (s.enr cust n).acc.rExp else (s.enr cust n).acc.rImp).map reading

/-- R335: BL_RATE1 to BL_RATE8, by their place from 0 on. -/
def State.blRate (s : State) (k : Nat) : Nat :=
  let cust := s.bl.rselKind == 1
  (s.rates cust (s.bl.rselDir == 1) (if cust then s.bl.rselIndex % 32 else s.bl.rselIndex)).getD k 0

/-- R333: TM_READ. -/
def execTmRead (tk : Nat) (s : State) : Out :=
  fin s (s.onTicket tk 0x0564 fun t =>
    let off := s.bl.cal.stdOffset + (if s.bl.dst then s.bl.cal.dstShift else 0 : Nat)
    s.complete t St.ok (leBytes 8 s.legal ++ leBytes 8 s.now ++ leBytes 2 (toBits 16 off) ++ leBytes 8 s.blStatus ++ leBytes 8 s.blSlew))

/-- R333: BL_HISTORY_READ. -/
def execBlHistoryRead (tk : Nat) (s : State) : Out :=
  fin s (s.onTicket tk 0x0565 fun t =>
    s.energyReq t (t.u 0 1) (t.u 1 1) (
      let l := match s.bl.history.find? fun y => y.1 == t.u 0 1 && y.2.1 == t.u 1 1 with | some y => y.2.2 | none => []
      match l[t.u 2 1]? with
      | some e => s.complete t St.ok e
      | none => s.complete t St.badArgument))

/-- R333: BL_RATE_READ. -/
def execBlRateRead (tk : Nat) (s : State) : Out :=
  fin s (s.onTicket tk 0x0566 fun t =>
    s.energyReq t (t.u 0 1) (t.u 1 1) (
      let cust := t.u 0 1 == 1
      s.complete t St.ok ((s.rates cust false (t.u 1 1) ++ s.rates cust true (t.u 1 1)).flatMap (leBytes 8))))

end Sys2Proof.Machine
end

