-- ==== Sys2Proof/Machine/Twin.lean ====
section
/-! DEFINITION. Twin.lean: the twin sides: heartbeats, take-over, planned swaps, the standby side (R293-R308, R79, R80). -/
namespace Sys2Proof.Machine

/-! ### Events and registers (R307, R308) -/

/-- R307: STANDBY_STATE. -/
def State.evStandby (s : State) (kind mismatch : Nat) : State :=
  s.evMod .diag s.rd.active 0 0x6002 (leBytes 1 s.rd.standby ++ leBytes 1 kind ++ leBytes 1 mismatch)

/-- R516, R525: the PLLs of a side run and its cores run on them, or neither. -/
def Rs.sideClock (r : Rs) (side : Nat) (up : Bool) : Rs :=
  if side = 0 then { r with lockA := if up then 15 else 0, hfrcA := !up } else { r with lockB := if up then 15 else 0, hfrcB := !up }

/-- R295, R299, R308: the standby side takes a state, which is reported. -/
def State.setStandby (s : State) (code kind mismatch : Nat) : State :=
  let sync := code == 4
  { s with rs := s.rs.sideClock (1 - s.rd.active) (decide (3 ≤ code) && code != 5),
           rd := { s.rd with standby := code, sync := sync, syncAt := if sync then s.now else s.rd.syncAt,
                             heldReset := if code = 1 then s.rd.heldReset else none } }.evStandby kind mismatch

/-- R304: the preferred side; none without one. -/
def State.preferred (s : State) : Option Nat :=
  match s.cfg.prefSide with
  | 0 => some (if s.twin then b2n s.ident.sidepref else 0)
  | 1 => some 0
  | 2 => some 1
  | _ => none

/-- R298, R308: the failures of a side in the last 3,600 s. -/
def State.failsOf (s : State) (side : Nat) : List Nat :=
  (if side = 0 then s.rd.failsA else s.rd.failsB).filter fun t => decide (s.now < t + sec 3600)

/-- R298: a failure of a side counts; the third within 3,600 s holds it in reset. -/
def State.countFailure (s : State) (side : Nat) : State :=
  let l := s.now :: s.failsOf side
  let s : State := if side = 0 then { s with rd := { s.rd with failsA := l } } else { s with rd := { s.rd with failsB := l } }
  if l.length < 3 then s
  else
    let s : State := { s with rd := { s.rd with swap := s.rd.swap.filter fun w => w.reason == 4 && w.drainEnd.isNone } }
    (s.setStandby 5 0 0).evMod .diag s.rd.active 0 0x6005 (leBytes 1 side ++ leBytes 1 (satU 8 l.length))

/-! ### Work in flight (R66, R73, R79, R80) -/

/-- R66, R73, R79, R80: a session on the new active side: its tickets are discarded, its serial and counter move on, and host frames must
lie above the last counter mirrored. -/
def Session.changeSide (c : Session) : Session :=
  let c := c.outstanding.foldl (fun (c : Session) t => c.ends t.id St.discarded) c
  let next := ((c.serial - 1) / 65536 + 1) * 65536
  { c with serial := if 0x0FFFFFFF < next then 0x10000 else next, txCtr := c.txCtr + 2 ^ 24, tags := [], parts := [], replayTk := none,
           rxWindow := (List.range 64).filterMap fun k => if k ≤ c.rxHigh then some (c.rxHigh - k) else none }

/-- R79: the tickets without a completion. -/
def State.openTickets (s : State) : Nat :=
  ((List.range 4).map fun p => match s.sess p with | some c => c.outstanding.length | none => 0).sum

/-- R50, R79: no lane is pending any more; a pilot transition deferred meanwhile is acted on with its original TIME. -/
def State.unpend (s : State) : State :=
  let s : State := { s with mx := { s.mx with pending := 0, job := none } }
  (List.range 64).foldl (fun (s : State) n =>
    match (s.lane n).deferPilot with
    | some (p, t) => (s.onLane n fun l => { l with deferPilot := none }).pilotReact n (s.lane n).pilot p t
    | none => s) s

/-- R354: a bulk load that has not committed holds a transfer. -/
def State.bulkWaits (s : State) (num : Nat) : Bool := match s.ac.bulk with | some b => b.xfer == num && !b.committed | none => false

/-- R79, R410, R424, R428, R440: what waits for a ticket is dropped with it. -/
def State.dropTickets (s : State) : State :=
  { s with ps := { s.ps with roundTickets := [], hubTickets := [] },
           ef := { s.ef with groups := s.ef.groups.map fun g => { g with testTicket := none } },
           rd := { s.rd with restartTk := none },
           kz := { s.kz with bindTk := none, dist := none, txs := s.kz.txs.map fun x => { x with bind := false } },
           tg := { s.tg with write := none, inv := [], carrier := false },
           ds := { s.ds with panels := s.ds.panels.map fun p =>
             { p with flight := [], queue := [], needProof := true } },
           pw := { s.pw with entry := none },
           up := { s.up with sides := s.up.sides.map fun x => { x with ticket := none },
                             xfers := s.up.xfers.map fun (x : Xfer) => { x with inUse := x.inUse && !s.bulkWaits x.num } },
           ac := { s.ac with bulk := match s.ac.bulk with | some b => if b.committed then some b else none | none => none } }

/-- R375: COSEM_RELEASED for every association (R365). -/
def State.dropAssocs (s : State) : State :=
  s.cosem.assocs.foldl (fun (s : State) a => s.evMod .host s.rd.active 0 0x7022 (leBytes 1 a.transport ++ leBytes 1 a.sap ++ leBytes 1 2))
    { s with cosem := { s.cosem with assocs := [], hdlc := false } }

/-! ### A change of active side (R296, R298, R301) -/

/-- R66, R79, R80, R88, R150, R213, R242, R363, R365, R411, R439, R487: what every change of active side does, planned or not, before
SIDE_CHANGE. -/
def State.changeSide (s : State) : State :=
  let new := 1 - s.rd.active
  let s := { s with rd := { s.rd with active := new, holder := new, swap := none, cpBase := s.now, cpPostpone := 0 },
                    host := { s.host with mon := none, ports := s.host.ports.map fun p =>
                      { p with bind := none, session := p.session.map Session.changeSide } },
                    mon := { s.mon with sides := s.mon.sides.map fun m => { m with role := .pub }, trace := {} },
                    pp := { s.pp with lanes := s.pp.lanes.map fun p => { p with spTx := { p.spTx with counter := (p.spTx.mirror + 16) % 256 } } },
                    kz := { s.kz with counter := (s.kz.counter + 2 ^ 16) % 2 ^ 32, committed := (s.kz.counter + 2 ^ 16) % 2 ^ 32 },
                    cosem := { s.cosem with invTx := (s.cosem.invTx + 2 ^ 24) % 2 ^ 32 },
                    en := { s.en with lanes := s.en.lanes.map fun e =>
                      { e with sess := e.sess.map fun x => { x with sideChange := true } } } }
  let s := (List.range 64).foldl (fun (s : State) n => s.endTest n) s
  s.dropTickets

/-- R307: SIDE_CHANGE, numbered as the first event of the new side, and the register of it. -/
def State.evSideChange (s : State) (reason kind gap discarded skipped : Nat) : State :=
  let energy := ((List.range 64).filter fun n => (s.lane n).st == .energy).length
  let s := s.direct { cls := .safety, die := s.rd.active, unit := 0, lane := 0xFF, code := 0x6001, time := s.now,
                      data := leBytes 1 reason ++ leBytes 1 kind ++ leBytes 1 s.rd.active ++ leBytes 2 (satU 16 gap) ++ leBytes 1 energy ++
                        leBytes 2 (satU 16 discarded) ++ leBytes 2 (satU 16 skipped) }
  { s with rd := { s.rd with lastReason := reason, lastSide := s.rd.active, lastKind := kind, lastGap := satU 24 gap, lastLegal := s.legalSec } }

/-- R296-R298: the active side has failed: the standby takes over when it is synchronised, else the module resets (R5, R297). In DOZE no
take-over is possible (R461). The length of the gap is open below its limit (log entry 1). -/
def State.sideFails (s : State) (reason kind : Nat) : State :=
  if !s.twin || !s.rd.sync || s.pw.state = 2 then s.moduleReset 5
  else
    let old := s.rd.active
    let disc := s.openTickets
    let gap := s.free 32 % (if reason = 0 then 3007 else 7)
    let s := (s.drawn.ask .flush).ask (.skip false)
    let before := (s.seqr.absorb s.rd.active s.now (s.emits.dropLast)).seqLast
    let skipped := s.seqAsked - before
    let s := (s.changeSide.evSideChange reason kind gap disc skipped).dropAssocs
    let s := { s with rd := { s.rd with unplanned := satU 16 (s.rd.unplanned + 1), heldReset := some s.now, linkA := false, linkB := false,
                                        hbAt := s.now } }
    let s := ((s.setStandby 1 kind 0).countFailure old).unpend
    s.settlePermits

/-- R294: a heartbeat falls due; `a` and `b` tell whether the inter-side link and the holder-latch path deliver it. -/
def execHeartbeat (a b : Bool) (s : State) : Out :=
  fin s (
    if !s.twin then (if b then { s with rd := { s.rd with hbAt := s.now } } else s)
    else if !a && !b then { s with rd := { s.rd with linkA := false, linkB := false, missed := satU 16 (s.rd.missed + 1) } }
    else
      let okA := a && s.rd.faultA
      let okB := b && s.rd.faultB
      let s := { s with rd := { s.rd with hbAt := s.now, linkA := a, linkB := b, faultA := s.rd.faultA && !a, faultB := s.rd.faultB && !b } }
      let s := if okA then s.evMod .diag s.rd.active 0 0x6004 (leBytes 1 0 ++ leBytes 1 0) else s
      if okB then s.evMod .diag s.rd.active 0 0x6004 (leBytes 1 1 ++ leBytes 1 0) else s)

/-- R294: 3.0 ms without a heartbeat on either path. -/
def execHeartbeatLoss (s : State) : Out :=
  fin s (if s.twin && s.rs.phase = 7 && s.rd.hbAt + ms 3 ≤ s.now then s.sideFails 0 0 else s)

/-- R303, R307: SWAP_POSTPONED. -/
def State.evPostponed (s : State) (kind reason lanes : Nat) : State :=
  s.evMod .diag s.rd.active 0 0x6003 (leBytes 1 kind ++ leBytes 1 reason ++ leBytes 1 lanes)

/-- R295, R302: the standby side has a fault: it is restarted; a swap in its drain is abandoned and counts as postponed. -/
def State.standbyFault (s : State) (kind : Nat) : State :=
  let side := 1 - s.rd.active
  let s := { s with rd := { s.rd with stbFaults := satU 16 (s.rd.stbFaults + 1), heldReset := some s.now } }
  let s := match s.rd.swap with
    | some w =>
      if w.drainEnd.isSome then
        let s := { s with rd := { s.rd with swap := none, postponed := satU 16 (s.rd.postponed + 1),
                                            cpPostpone := if w.reason = 2 then s.rd.cpPostpone + sec 3600 else s.rd.cpPostpone } }
        if w.reason = 4 then s else s.evPostponed w.reason 3 0
      else s
    | none => s
  ((s.setStandby 1 kind 0).countFailure side)

/-- R295: a side reports a fault of its own, of kinds 1-7. -/
def State.sideFault (s : State) (side kind : Nat) : State :=
  if side = s.rd.active then s.sideFails 1 kind
  else if s.twin && side = 1 - s.rd.active && s.rd.standby != 5 then s.standbyFault kind
  else s

/-- R459, R460: MEM_UNCORRECTABLE (effect 0 side fault, 1 rebuilt, 2 owner rule) and the register of it. -/
def State.memUe (s : State) (side mem offset effect : Nat) : State :=
  { s with mm := { s.mm with ueMem := mem, ueSide := if mem = 4 then 0 else side, ueOffset := offset } }.evMod .diag
    (if mem = 4 then 13 else side) mem 0x8002 (leBytes 1 mem ++ leBytes 4 offset ++ leBytes 1 effect)

/-- R445, R456, R459: a refused access to a memory, by 0 a margin core, 1 DMA, 2 the standby side, 3 another initiator. -/
def State.memRefused (s : State) (side mem offset initiator : Nat) : State :=
  { s with mm := { s.mm with refused := satU 16 (s.mm.refused + 1) } }.evMod .diag (if mem = 4 then 13 else side) mem 0x8004
    (leBytes 1 mem ++ leBytes 4 offset ++ leBytes 1 initiator)

/-- R295, R445, R452: a side reports a fault; faults 3 and 7 are uncorrectable errors in a memory of the side, at an offset. -/
def execSideFaultReport (side kind mem offset : Nat) (s : State) : Out :=
  fin s (
    if kind = 0 || 7 < kind || 1 < side then s
    else
      let s := if kind = 3 then s.memUe side (min 2 mem) offset 0 else if kind = 7 then s.memUe side 3 offset 0 else s
      s.sideFault side kind)

/-- R294: heartbeats are lost on one path only: 0 the inter-side link, 1 the holder latch. The standby resynchronises. -/
def execLinkFault (path : Nat) (s : State) : Out :=
  fin s (
    if !s.twin || 1 < path || (if path = 0 then s.rd.faultA else s.rd.faultB) then s
    else
      let s := { s with rd := { s.rd with linkFaults := satU 16 (s.rd.linkFaults + 1), linkA := s.rd.linkA && path != 0,
                                          linkB := s.rd.linkB && path != 1, faultA := s.rd.faultA || path == 0,
                                          faultB := s.rd.faultB || path == 1 } }
      let s := s.evMod .diag s.rd.active 0 0x6004 (leBytes 1 path ++ leBytes 1 1)
      if s.rd.standby = 4 then s.setStandby 3 0 0 else s)

/-- R293: a side that believed itself active finds the latch naming the other: `refused` of its writes were refused, and it restarts as
standby. No event is raised. -/
def execHolderLatchLost (refused : Nat) (s : State) : Out :=
  fin s (
    if !s.twin then s
    else { s with rd := { s.rd with refused := satU 16 (s.rd.refused + refused), sync := false, standby := if s.rd.standby = 5 then 5 else 1,
                                    heldReset := if s.rd.standby = 5 then none else some s.now } })

/-- R298: 10 ms after the take-over the failed side is released to boot as standby. -/
def execFailedSideRelease (s : State) : Out :=
  fin s (match s.rd.heldReset with
    | some t => if t + ms 10 ≤ s.now && s.rd.standby = 1 then s.setStandby 2 0 0 else s
    | none => s)

/-- R300: what keeps the standby side from synchronising: bit 0 the plate digest, bit 2 the mirror format. -/
def State.mismatch (s : State) : Nat :=
  b2n (s.rd.digestA != s.rd.digestB) ||| 4 * b2n ((s.ups 0).mirror != (s.ups 1).mirror)

/-- R299, R300: the standby side has received a complete mirror and becomes synchronised. -/
def execStandbySynchronised (s : State) : Out :=
  fin s (
    if !s.twin || s.rd.standby != 3 || s.rd.faultA then s
    else if s.mismatch != 0 then s.setStandby 6 0 s.mismatch
    else
      let s := (s.setStandby 4 0 0).mirror
      let s : State := { s with ac := { s.ac with credStby := s.ac.credGen } }
      match s.rd.restartTk with
      | some (tk, _) =>
        let s : State := { s with rd := { s.rd with restartTk := none } }
        s.onTicket tk 0x0D03 fun t => s.complete t St.ok
      | none => s)

/-! ### Planned swaps (R301-R304) -/

/-- R301: lanes in PRECHARGE or RAMP_DOWN. -/
def State.swapBlockers (s : State) : List Nat :=
  (List.range 64).filter fun n => (s.lane n).st == .precharge || (s.lane n).st == .rampDown

/-- R301: the conditions of a planned swap of a reason. -/
def State.swapOk (s : State) (reason : Nat) : Bool := s.rd.sync && s.swapBlockers.isEmpty && (reason == 4 || !s.rd.swapHold)

/-- R301: the opcodes of protected tickets: matrix loads, account bulk loads, calendar loads, update fragments. -/
def isProtected (op : Nat) : Bool := [0x0101, 0x0102, 0x0501, 0x0560, 0x0702].contains op

/-- R301: a protected ticket is outstanding. -/
def State.protectedOpen (s : State) : Bool :=
  (List.range 4).any fun p => match s.sess p with | some c => c.outstanding.any fun t => isProtected t.opcode | none => false

/-- R298: a side is held. -/
def State.sideHeld (s : State) : Bool := s.rd.standby == 5

/-- R303: the TIME the counterproof swap falls due. -/
def State.cpDue (s : State) : Nat := s.rd.cpBase + s.cfg.cpInterval * sec 3600 + s.rd.cpPostpone

/-- R303: a counterproof swap falls due. -/
def execCounterproofDue (s : State) : Out :=
  fin s (
    if s.twin && s.cfg.cpInterval != 0 && s.cpDue ≤ s.now && s.rd.swap.isNone && !s.sideHeld then
      { s with rd := { s.rd with swap := some { reason := 2, since := s.now } } }
    else s)

/-- R303: a due swap not taken within 600 s is postponed by 1 h. -/
def execSwapPostpone (s : State) : Out :=
  fin s (match s.rd.swap with
    | some w =>
      if w.reason = 2 && w.drainEnd.isNone && w.since + sec 600 ≤ s.now then
        let b := s.swapBlockers.length
        let s := { s with rd := { s.rd with swap := none, cpPostpone := s.rd.cpPostpone + sec 3600, postponed := satU 16 (s.rd.postponed + 1) } }
        s.evPostponed 2 (if 0 < b then 0 else if !s.rd.sync then 1 else if s.rd.swapHold then 2 else 3) b
      else s
    | none => s)

/-- R304: the preferred side, standby, has stayed synchronised for the revert delay. -/
def execRevertDelayEnd (s : State) : Out :=
  fin s (
    if s.twin && s.preferred == some (1 - s.rd.active) && s.rd.sync && s.rd.syncAt + sec s.cfg.revertS ≤ s.now && s.rd.swap.isNone &&
        !s.sideHeld then
      { s with rd := { s.rd with swap := some { reason := 3, since := s.now } } }
    else s)

/-- R301, R306: a waiting swap finds its conditions met: the drain begins, and RD_SWAP completes. -/
def execSwapConditionsMet (s : State) : Out :=
  fin s (match s.rd.swap with
    | some w =>
      if w.drainEnd.isNone && s.swapOk w.reason && (!s.protectedOpen || w.waited) then
        let s : State := { s with rd := { s.rd with swap := some { w with drainEnd := some (s.now + ms 2), ticket := none } } }
        match w.ticket with
        | some tk => s.onTicket tk 0x0D02 fun t => s.complete t St.ok
        | none => s
      else s
    | none => s)

/-- R301: the wait of 60 s for protected tickets ends. -/
def execProtectedTicketWaitEnd (s : State) : Out :=
  fin s (match s.rd.swap with
    | some w => if w.since + sec 60 ≤ s.now && w.drainEnd.isNone then { s with rd := { s.rd with swap := some { w with waited := true } } } else s
    | none => s)

/-- R301, R24: the drain ends: the latch is passed, SEQ goes on without a gap, and the former active side stays synchronised. -/
def execDrainEnd (s : State) : Out :=
  fin s (match s.rd.swap with
    | some w =>
      if w.drainEnd.isSome && s.rd.sync then
        let disc := s.openTickets
        let s := (s.changeSide.evSideChange w.reason 0 1 disc 0).dropAssocs
        ({ s with rd := { s.rd with planned := satU 16 (s.rd.planned + 1), syncAt := s.now } }).unpend
      else s
    | none => s)

/-! ### Requests and registers (R306, R308) -/

/-- R308: RD_STATUS. -/
def State.rdStatus (s : State) : Nat :=
  regOf [(0, 1, s.rd.active), (1, 2, s.preferred.getD 3), (3, 1, b2n s.rd.sync), (4, 1, b2n (s.rd.linkA && s.rd.linkB)),
    (8, 4, if s.twin then s.rd.standby else 0), (32, 32, if s.rd.sync then satU 32 ((s.now - s.rd.syncAt) / 1000000000) else 0)]

/-- R308: RD_CFG. -/
def State.rdCfg (s : State) : Nat :=
  regOf [(0, 8, if s.twin then s.cfg.cpInterval else 0), (8, 12, s.cfg.revertS), (20, 2, s.cfg.prefSide), (32, 1, b2n s.rd.swapHold)]

/-- R308: a write of RD_CFG. -/
def State.writeRdCfg (s : State) (v : Nat) : State := { s with rd := { s.rd with swapHold := flagOf v 32 } }

/-- Seconds from now to a TIME, rounded up; 0 when it has passed. -/
def State.secondsTo (s : State) (t : Nat) : Nat := satU 32 ((t - s.now + 999999999) / 1000000000)

/-- R308: RD_NEXT. -/
def State.rdNext (s : State) : Nat :=
  let cp := if s.twin && s.cfg.cpInterval != 0 then s.secondsTo s.cpDue else 0xFFFFFFFF
  let rv := if s.twin && s.preferred == some (1 - s.rd.active) && s.rd.sync then s.secondsTo (s.rd.syncAt + sec s.cfg.revertS) else 0xFFFFFFFF
  regOf [(0, 32, cp), (32, 32, rv)]

/-- R308: RD_LAST. -/
def State.rdLast (s : State) : Nat :=
  regOf [(0, 3, s.rd.lastReason), (3, 1, s.rd.lastSide), (4, 4, s.rd.lastKind), (8, 24, s.rd.lastGap), (32, 32, satU 32 (s.legalSec - s.rd.lastLegal))]

/-- R308: RD_COUNT. -/
def State.rdCount (s : State) : Nat := regOf [(0, 16, s.rd.unplanned), (16, 16, s.rd.planned), (32, 16, s.rd.postponed), (48, 16, s.rd.stbFaults)]

/-- R308: RD_HB. -/
def State.rdHb (s : State) : Nat :=
  regOf [(0, 16, s.rd.missed), (16, 16, s.rd.linkFaults), (32, 16, s.rd.refused), (48, 8, satU 8 (s.failsOf 0).length),
    (56, 8, satU 8 (s.failsOf 1).length)]

/-- R308: a write of RD_HB: all ones clear a counter. -/
def State.writeRdHb (s : State) (v : Nat) : State :=
  { s with rd := { s.rd with missed := onesClear s.rd.missed v 0 16, linkFaults := onesClear s.rd.linkFaults v 16 16,
                             refused := onesClear s.rd.refused v 32 16 } }

/-- R306: RD_READ. -/
def execRdRead (tk : Nat) (s : State) : Out :=
  fin s (s.onTicket tk 0x0D01 fun t =>
    s.complete t St.ok ([s.rdStatus, s.rdCfg, s.rdNext, s.rdLast, s.rdCount, s.rdHb].flatMap regBytes))

/-- R306, R70: RD_SWAP: it waits for the conditions of R301; one RD_SWAP waits at a time. -/
def execRdSwap (tk : Nat) (s : State) : Out :=
  fin s (s.onTicket tk 0x0D02 fun t =>
    if !s.twin then s.complete t St.notSupported
    else if !s.rd.sync then s.complete t St.refusedState
    else match s.rd.swap with
      | some w => if w.ticket == some tk || w.drainEnd.isSome then s
        else if w.ticket.isSome then s.complete t St.busy
        else { s with rd := { s.rd with swap := some { reason := 4, since := s.now, ticket := some tk } } }
      | none => { s with rd := { s.rd with swap := some { reason := 4, since := s.now, ticket := some tk } } })

/-- R306: phase 1 of an RD_SWAP has not begun within 10 s: it ends TIMEOUT and the swap is abandoned. -/
def execRdSwapTimeout (s : State) : Out :=
  fin s (match s.rd.swap with
    | some w =>
      match w.ticket with
      | some tk =>
        if w.drainEnd.isNone && w.since + sec 10 ≤ s.now then
          let s : State := { s with rd := { s.rd with swap := none } }
          s.onTicket tk 0x0D02 fun t => s.complete t St.timeout
        else s
      | none => s
    | none => s)

/-- R306, R70: RD_STANDBY_RESTART; a held side stays held (R298), a swap in its drain is abandoned, and one restart runs at a time. -/
def execRdStandbyRestart (tk : Nat) (s : State) : Out :=
  fin s (s.onTicket tk 0x0D03 fun t =>
    if !s.twin then s.complete t St.notSupported
    else if s.sideHeld then s.complete t St.refusedState
    else match s.rd.restartTk with
      | some (k, _) => if k = tk then s else s.complete t St.busy
      | none =>
        { s with rd := { s.rd with restartTk := some (tk, t.acceptTime + sec 30),
                                   swap := s.rd.swap.filter fun w => w.drainEnd.isNone } }.setStandby 2 0 0)

/-- R306: 30 s have passed and the standby has not synchronised. -/
def execStandbyRestartTimeout (s : State) : Out :=
  fin s (match s.rd.restartTk with
    | some (tk, e) =>
      if e ≤ s.now then
        let s : State := { s with rd := { s.rd with restartTk := none } }
        s.onTicket tk 0x0D03 fun t => s.complete t St.timeout
      else s
    | none => s)

/-- R4, R306: RD_RELEASE. -/
def execRdRelease (tk : Nat) (s : State) : Out :=
  fin s (s.onTicket tk 0x0D04 fun t =>
    if !s.twin then s.complete t St.notSupported
    else if s.sideHeld then (s.setStandby 2 0 0).complete t St.ok else s.complete t St.refusedState)

end Sys2Proof.Machine
end

