-- ==== Sys2Proof/Machine/Update.lean ====
section
/-! DEFINITION. Update.lean: transfers, images and their boot check, installation on a side (R472-R485), and the end of a side's boot
(R300). -/
namespace Sys2Proof.Machine

/-! ### Transfers (R473-R477) -/

/-- R473: the maximum size of a kind. -/
def xferMax (kind : Nat) : Nat := [48 * 1048576, 1048576, 8 * 1048576, 192 * 1048576, 4 * 1048576].getD kind 0

/-- The transfer of a number. -/
def State.xfer (s : State) (num : Nat) : Option Xfer := s.up.xfers.find? fun x => x.num == num
/-- The open transfer of a kind. -/
def State.xferKind (s : State) (kind : Nat) : Option Xfer := s.up.xfers.find? fun x => x.kind == kind
/-- Changes the transfer of a number. -/
def State.onXfer (s : State) (num : Nat) (f : Xfer → Xfer) : State :=
  { s with up := { s.up with xfers := s.up.xfers.map fun x => if x.num == num then f x else x } }

/-- The fragments a side holds. -/
def Xfer.held (x : Xfer) (side : Nat) : List Nat := if side = 0 then x.heldA else x.heldB
/-- A side's bitmap takes a value. -/
def Xfer.setHeld (x : Xfer) (side : Nat) (l : List Nat) : Xfer := if side = 0 then { x with heldA := l } else { x with heldB := l }
/-- A side holds one more fragment. -/
def Xfer.hold (x : Xfer) (side k : Nat) : Xfer := if (x.held side).contains k then x else x.setHeld side (x.held side ++ [k])

/-- R473: the object of a transfer, fragments in order. -/
def Xfer.bytes (x : Xfer) : Bytes :=
  (List.range x.frags).flatMap fun k => match x.store.find? fun y => y.1 == k with | some y => y.2 | none => []

/-- R473: bytes of a fragment. -/
def Xfer.fragLen (x : Xfer) (k : Nat) : Nat := if k + 1 < x.frags then 4096 else x.size - 4096 * k

/-- R484: an update event of the host class about the active side. -/
def State.evUp (s : State) (code : Nat) (data : Bytes) : State := s.evMod .host s.rd.active 0 code data

/-- R477, R484: a transfer closes: its store and bitmaps are freed. -/
def State.closeXfer (s : State) (num reason : Nat) : State :=
  { s with up := { s.up with xfers := s.up.xfers.filter fun x => x.num != num } }.evUp 0x9003 (leBytes 4 num ++ leBytes 1 reason)

/-- R473, R481: the archives in the STAGE partitions are discarded. -/
def State.dropArchives (s : State) : State :=
  { s with up := { s.up with sides := s.up.sides.map fun u => { u with archive := none } } }

/-- How many sides hold an archive. -/
def State.archives (s : State) : Nat := (s.up.sides.filter fun u => u.archive.isSome).length

/-- R354, R473: a bulk load holds the STAGE partitions. -/
def State.stageHeld (s : State) : Bool := s.ac.bulk.isSome

/-- R473: a transfer of a kind, a size and a hash is opened. -/
def State.openXfer (s : State) (kind size : Nat) (hash : Bytes) : State :=
  let num := s.up.nextNum
  let x : Xfer := { num := num, kind := kind, size := size, hash := hash, frags := (size + 4095) / 4096,
                    expires := s.legalSec + 86400 * s.up.expiryD }
  let s := if kind < 2 then
      match s.up.xfers.find? fun y => decide (y.kind < 2) with
      | some y => s.closeXfer y.num 4
      | none => s
    else s
  let s := if kind < 2 then s.dropArchives else s
  { s with up := { s.up with xfers := s.up.xfers ++ [x], nextNum := if num + 1 < 2 ^ 32 then num + 1 else 1 } }.evUp 0x9001
    (leBytes 4 num ++ leBytes 1 kind ++ leBytes 4 x.frags)

/-- R473: what refuses the opening of a kind and size; OK when nothing does. -/
def State.openRefusal (s : State) (kind size : Nat) : Nat :=
  if 4 < kind || size = 0 || xferMax kind < size then St.badArgument
  else if kind < 2 && (s.stageHeld || s.up.xfers.any fun x => x.kind != kind && decide (x.kind < 2) && x.inUse) then St.busy
  else if (s.xferKind kind).isSome then St.noResource
  else St.ok

/-- R473, R483: UP_OPEN. -/
def execUpOpen (tk : Nat) (s : State) : Out :=
  fin s (s.onTicket tk 0x0701 fun t =>
    let kind := t.u 0 1
    let size := t.u 1 4
    let r := s.openRefusal kind size
    if t.role = .service && 2 ≤ kind && kind ≤ 4 then s.complete t St.refusedRole
    else if r != St.ok then s.complete t r
    else
      let num := s.up.nextNum
      let a := if kind < 2 then s.archives else 0
      (s.openXfer kind size (sub t.arg 5 32)).complete t St.ok (leBytes 4 num ++ leBytes 4 ((size + 4095) / 4096) ++ leBytes 1 a))

/-- R476: the check when the active side holds every fragment. -/
def State.checkXfer (s : State) (num : Nat) : State :=
  match s.xfer num with
  | some x =>
    if x.complete || (x.held s.rd.active).length < x.frags then s
    else if sha256 x.bytes = x.hash then
      (s.onXfer num fun x => { x with complete := true }).evUp 0x9002 (leBytes 4 num ++ leBytes 1 0)
    else
      (s.onXfer num fun x => { x with heldA := [], heldB := [], store := [] }).evUp 0x9002 (leBytes 4 num ++ leBytes 1 1)
  | none => s

/-- R474: a fragment lands in the active side's store, and in the standby's when it is synchronised. -/
def State.putFragment (s : State) (num k : Nat) (data : Bytes) : State :=
  s.onXfer num fun x =>
    let x := { x with store := (k, data) :: x.store.filter fun y => y.1 != k }.hold s.rd.active k
    if s.rd.sync then x.hold (1 - s.rd.active) k else x

/-- R474, R483: UP_FRAGMENT. -/
def execUpFragment (tk : Nat) (s : State) : Out :=
  fin s (s.onTicket tk 0x0702 fun t =>
    let num := t.u 0 4
    let k := t.u 4 4
    match s.xfer num with
    | none => s.complete t St.badArgument
    | some x =>
      if t.role = .service && 2 ≤ x.kind then s.complete t St.refusedRole
      else if x.frags ≤ k || t.u 8 2 != x.fragLen k || (t.rest 14).length != x.fragLen k then s.complete t St.badArgument
      else if t.u 10 4 != crc32 (t.rest 14) then s.complete t St.checkFailed
      else if (x.held s.rd.active).contains k then s.complete t St.ok (leBytes 1 1)
      else ((s.putFragment num k (t.rest 14)).complete t St.ok (leBytes 1 0)).checkXfer num)

/-- R475: a side copies a fragment it lacks from the other side. While its STAGE partition holds an archive, an image transfer waits. -/
def execFragmentBackgroundCopy (side num k : Nat) (s : State) : Out :=
  fin s (match s.xfer num with
    | some x =>
      if s.twin && side ≤ 1 && (side = s.rd.active || 3 ≤ s.rd.standby) && !(x.held side).contains k && (x.held (1 - side)).contains k &&
          (2 ≤ x.kind || (s.ups side).archive.isNone) then
        (s.onXfer num fun x => x.hold side k).checkXfer num
      else s
    | none => s)

/-- R477: a transfer expires. -/
def execTransferExpiry (num : Nat) (s : State) : Out :=
  fin s (match s.xfer num with
    | some x => if x.expires ≤ s.legalSec && !x.inUse then s.closeXfer num 2 else s
    | none => s)

/-- R483: UP_STATUS. -/
def execUpStatus (tk : Nat) (s : State) : Out :=
  fin s (s.onTicket tk 0x0703 fun t =>
    match s.xfer (t.u 0 4) with
    | none => s.complete t St.badArgument
    | some x =>
      let first := ((List.range x.frags).find? fun k => !(x.held s.rd.active).contains k).getD x.frags
      s.complete t St.ok (leBytes 1 x.kind ++ leBytes 4 x.size ++ leBytes 4 x.heldA.length ++ leBytes 4 x.heldB.length ++ leBytes 4 first ++
        leBytes 4 x.expires ++ leBytes 1 (b2n x.complete)))

/-- R477, R483: UP_CANCEL. -/
def execUpCancel (tk : Nat) (s : State) : Out :=
  fin s (s.onTicket tk 0x0704 fun t =>
    match s.xfer (t.u 0 4) with
    | none => s.complete t St.badArgument
    | some x => if x.inUse then s.complete t St.busy else (s.closeXfer x.num 1).complete t St.ok)

/-- R476: the object of a complete transfer of a kind. -/
def State.xferBytes (s : State) (num kind : Nat) : Option Bytes :=
  match s.xfer num with
  | some x => if x.complete && x.kind == kind then some x.bytes else none
  | none => none

/-- R476: a consuming request closes the transfer of kinds 2-4 it named. -/
def State.consumeXfer (s : State) (num : Nat) : State := if (s.xfer num).isSome then s.closeXfer num 0 else s

/-! ### Images (R478, R479) -/

/-- R478: a field of an image's header. -/
def imgField (b : Bytes) (off k : Nat) : Nat := leNat (sub b off k)
/-- R478: ROLLBACK of an image. -/
def imgRollback (b : Bytes) : Nat := imgField b 0x08 4
/-- R478: MIRROR_FORMAT of an image. -/
def imgMirror (b : Bytes) : Nat := imgField b 0x0C 2
/-- R478: bytes of an image's trailer. -/
def imgTrailer (b : Bytes) : Nat := if bit (imgField b 7 1) 0 then 128 else 64
/-- R478: header and body of an image. -/
def imgSigned (b : Bytes) : Bytes := b.take (b.length - imgTrailer b)

/-- R479, R480: MAGIC, FORMAT, KIND and LENGTH, all that UP_APPLY checks. -/
def imgHeaderOk (b : Bytes) (image : Nat) : Bool :=
  sub b 0 4 == [0x59, 0x47, 0x46, 0x57] && imgField b 4 2 == 1 && imgField b 6 1 == image && imgField b 0x10 4 == b.length &&
    decide (128 + imgTrailer b ≤ b.length)

/-- R479: the boot check of an image: 0 when it passes, else the failure code. -/
def State.bootCheck (s : State) (b : Bytes) (image : Nat) : Nat :=
  let signed := imgSigned b
  let body := signed.drop 128
  let digest := sha256 signed
  let sig (off : Nat) : Bytes := sub b (signed.length + off) 64
  let plate := sub body (imgField b 0x14 4) (imgField b 0x18 4)
  if !imgHeaderOk b image || sha256 body != sub b 0x20 32 then 1
  else if !(match s.anchor 2 with | some k => P256.verify k digest (sig 0) | none => false) then 2
  else if !(match s.anchor 3 with | some k => bit (imgField b 7 1) 0 && P256.verify k digest (sig 64) | none => true) then 3
  else if imgRollback b < s.up.counter then 4
  else if image = 0 && !(sub b 0x40 32 == Config.plateDigest && sha256 plate == Config.plateDigest) then 5
  else 0

/-- R484: UPDATE_RESULT. -/
def State.evResult (s : State) (side image outcome failure : Nat) : State :=
  (s.onUps side fun u => { u with outcome := outcome, failure := failure }).evMod .diag side 0 0x9005
    (leBytes 1 side ++ leBytes 1 image ++ leBytes 1 outcome ++ leBytes 1 failure ++ leBytes 4 (s.ups side).running)

/-- R476: the side's copy of a transfer is gone; without a copy on the other side the transfer is no longer complete. -/
def Xfer.dropCopy (x : Xfer) (side : Nat) : Xfer :=
  { x.setHeld side [] with complete := x.complete && decide (x.frags ≤ (x.held (1 - side)).length) }

/-- R480, R481: the side's copy of a transfer is gone. -/
def State.loseCopy (s : State) (side num : Nat) : State := s.onXfer num fun x => x.dropCopy side

/-- R481: the archive is restored and booted; without one that passes, the side stays in its loader. -/
def State.bootArchive (s : State) (side failure : Nat) : State :=
  match (s.ups side).archive with
  | some (rb, mf) =>
    if s.up.counter ≤ rb then (s.onUps side fun u => { u with running := rb, mirror := mf, phase := 0, img := [] }).evResult side 0 1 failure
    else (s.onUps side fun u => { u with running := 0, phase := 0, img := [] }).evResult side 0 2 4
  | none => (s.onUps side fun u => { u with running := 0, phase := 0, img := [] }).evResult side 0 2 failure

/-- R481: a side resolves its PHASE at its start, before it runs MAIN. -/
def State.bootSide (s : State) (side : Nat) : State :=
  let u := s.ups side
  let f := if u.img.isEmpty then (if u.newRb < s.up.counter then 4 else 0) else s.bootCheck u.img u.image
  let done (s : State) : State :=
    (s.onUps side fun u =>
      if u.image = 0 then { u with running := u.newRb, mirror := u.newMf, phase := 0, img := [] } else { u with phase := 0, img := [] }).evResult
      side u.image 0 0
  match u.phase with
  | 0 => s
  | 1 | 2 =>
    ((s.loseCopy side u.xfer).onUps side fun u => { u with phase := 0, archive := none, img := [] }).evResult side u.image 4 0
  | 3 => s.bootArchive side 1
  | 4 =>
    if f = 0 then done s
    else if u.path = 0 then s.bootArchive side f
    else ((s.loseCopy side u.xfer).onUps side fun u => { u with phase := 0, img := [] }).evResult side u.image 3 f
  | _ => done s

/-! ### Installation (R480, R481) -/

/-- R480: an installation runs. -/
def State.applying (s : State) : Bool := s.up.sides.any fun u => decide (1 ≤ u.phase)

/-- R480: what refuses an installation on a side. -/
def State.applyRefused (s : State) (side : Nat) : Bool :=
  (side = 1 && !s.twin) || (side != s.rd.active && s.sideHeld) ||
    (side = s.rd.active && (s.rd.sync || (List.range 64).any fun n => (s.typ n).charges &&
      !((s.lane n).st == .offline || (s.lane n).st == .idle || (s.lane n).st == .fault)))

/-- R475, R480: an image of a transfer is to be written on a side: its copy is completed first, which takes the place of an archive. -/
def State.startApply (s : State) (x : Xfer) (side path tk : Nat) : State :=
  let lacks := decide ((x.held side).length < x.frags)
  let b := x.bytes
  let s := s.onXfer x.num fun x => { x.setHeld side (List.range x.frags) with inUse := true }
  s.onUps side fun u =>
    { u with phase := if path = 0 then 1 else 4, path := path, image := x.kind, xfer := x.num, newRb := imgRollback b, newMf := imgMirror b,
             img := b, ticket := some tk, archive := if lacks then none else u.archive }

/-- R480, R483: UP_APPLY; `room` tells whether the side's LPDDR-4X can reserve twice the image size. -/
def execUpApply (tk : Nat) (room : Bool) (s : State) : Out :=
  fin s (s.onTicket tk 0x0705 fun t =>
    let num := t.u 0 4
    let side := t.u 4 1
    match s.xfer num with
    | none => s.complete t St.badArgument
    | some x =>
      if !x.complete || 2 ≤ x.kind || 1 < side || 1 < t.u 5 1 then s.complete t St.badArgument
      else if (s.ups side).ticket = some tk then s
      else if s.applying then s.complete t St.busy
      else if s.applyRefused side then s.complete t St.refusedState
      else if !imgHeaderOk x.bytes x.kind then s.complete t St.checkFailed
      else s.startApply x side (if x.kind = 1 || !room then 1 else t.u 5 1) tk)

/-- R480, R297: a side restarts after the commit. -/
def State.restartSide (s : State) (side : Nat) : State :=
  if side = s.rd.active then (if s.twin && s.rd.sync then s.sideFails 1 0 else s.moduleReset 7)
  else s.setStandby 2 0 0

/-- R480: phase 4 ends: the request completes and the side restarts. -/
def State.commitApply (s : State) (side : Nat) : State :=
  let u := s.ups side
  let s := s.onXfer u.xfer fun x => { x with inUse := false }
  let s := s.onUps side fun u => { u with ticket := none }
  let s := if u.xfer = 0 then s else s.evUp 0x9004 (leBytes 4 u.xfer ++ leBytes 1 side ++ leBytes 1 u.path ++ leBytes 4 u.newRb)
  let op := if u.xfer = 0 then 0x0706 else 0x0705
  let s := match u.ticket with
    | some tk => s.onTicket tk op fun t => s.complete t St.ok (if u.xfer = 0 then [] else leBytes 1 u.path)
    | none => s
  s.restartSide side

/-- R480: a timed phase of an installation on a side ends. -/
def execApplyPhaseEnd (side : Nat) (s : State) : Out :=
  fin s (
    let u := s.ups side
    match u.phase with
    | 1 => (s.loseCopy side u.xfer).onUps side fun u => { u with phase := 2, archive := none }
    | 2 => s.onUps side fun u => { u with phase := 3, archive := some (u.running, u.mirror) }
    | 3 => s.onUps side fun u => { u with phase := 4 }
    | 4 => if s.rs.phase < 5 || (s.rd.standby = 2 && side != s.rd.active) then s else s.commitApply side
    | _ => s)

/-- R481, R483: UP_RESTORE. -/
def execUpRestore (tk : Nat) (s : State) : Out :=
  fin s (s.onTicket tk 0x0706 fun t =>
    let side := t.u 0 1
    if 1 < side then s.complete t St.badArgument
    else if (s.ups side).ticket = some tk then s
    else if s.applying then s.complete t St.busy
    else if s.applyRefused side then s.complete t St.refusedState
    else match (s.ups side).archive with
      | none => s.complete t St.refusedState
      | some (rb, mf) => s.onUps side fun u =>
          { u with phase := 3, path := 0, image := 0, xfer := 0, newRb := rb, newMf := mf, img := [], ticket := some tk })

/-- R479, R483: UP_COMMIT. -/
def execUpCommit (tk : Nat) (s : State) : Out :=
  fin s (s.onTicket tk 0x0707 fun t =>
    let v := t.u 0 4
    let old := s.up.counter
    if old < v && v ≤ (s.ups 0).running && (!s.twin || v ≤ (s.ups 1).running) then
      let s : State := { s with up := { s.up with counter := v, commits := (s.up.commits + 1) % 2 ^ 32 } }
      (s.evUp 0x9006 (leBytes 4 old ++ leBytes 4 v)).complete t St.ok
    else s.complete t St.refusedState)

/-- R300, R306, R481: a side restarted on its own ends its boot check and self-test. A side without a MAIN that passes stays in its loader
and RD_STANDBY_RESTART completes CHECK_FAILED. -/
def execSideBootEnd (s : State) : Out :=
  fin s (
    let side := 1 - s.rd.active
    if !s.twin || s.rd.standby != 2 then s
    else
      let s := s.bootSide side
      let s := match s.rs.clkLost with
        | some k => if decide (2 + 4 * side ≤ k) && decide (k < 6 + 4 * side) then
            { s with rs := { s.rs with clkLost := none } }.evMod .diag s.rd.active 0 0x5203 (leBytes 1 k ++ leBytes 1 0) else s
        | none => s
      if (s.ups side).running = 0 then
        match s.rd.restartTk with
        | some (tk, _) =>
          let s : State := { s with rd := { s.rd with restartTk := none } }
          s.onTicket tk 0x0D03 fun t => s.complete t St.checkFailed
        | none => s
      else if s.mismatch != 0 then s.setStandby 6 0 s.mismatch
      else s.setStandby 3 0 0)

/-! ### Registers (R485) -/

/-- R485: UP_STATUS. -/
def State.upStatus (s : State) : Nat := maskOf (s.up.xfers.map (·.kind)) ||| 32 * b2n s.applying
/-- R485: UP_COUNTER. -/
def State.upCounter (s : State) : Nat := regOf [(0, 32, s.up.counter), (32, 32, s.up.commits)]
/-- R485: UP_SIDE_A and UP_SIDE_B. -/
def State.upSide (s : State) (side : Nat) : Nat :=
  let u := s.ups side
  if side = 1 && !s.twin then 0
  else regOf [(0, 32, u.running), (32, 16, u.mirror), (48, 3, u.phase), (51, 1, b2n u.archive.isSome), (52, 4, u.outcome), (56, 3, u.failure)]
/-- R485: UP_XFER. -/
def State.upXfer (s : State) : Nat :=
  match s.xferKind s.up.sel with
  | some x => regOf [(0, 32, x.num), (32, 16, satU 16 x.heldA.length), (48, 16, if s.twin then satU 16 x.heldB.length else 0)]
  | none => 0
/-- R485: UP_XFER_T. -/
def State.upXferT (s : State) : Nat := match s.xferKind s.up.sel with | some x => regOf [(0, 32, x.size), (32, 32, x.expires)] | none => 0
/-- R485: a write of UP_SEL. -/
def State.writeUpSel (s : State) (v : Nat) : State := { s with up := { s.up with sel := fieldOf v 0 3 } }
/-- R485: a write of UP_CFG. -/
def State.writeUpCfg (s : State) (v : Nat) : State := { s with up := { s.up with expiryD := max 1 (min 365 (fieldOf v 0 9)) } }

end Sys2Proof.Machine
end

