-- ==== Sys2Proof/Machine/Accounts.lean ====
section
/-! DEFINITION. Accounts.lean: cells, credentials, prices, debits, credit checks, friendly time, bulk loads (R336-R358). -/
namespace Sys2Proof.Machine

/-! ### Debits (R344, R346) -/

/-- R344, R346: one second of a charge: the time part of the whole seconds elapsed, then the debit of the whole units accrued. -/
def State.debitSecond (s : State) (n : Nat) (c : Charge) : State × Charge :=
  let k := (s.now - c.debitAt) / 1000000000
  let c := { c.timeTo (c.timeAt + (s.now - c.timeAt) / 1000000000 * 1000000000) with debitAt := c.debitAt + sec k }
  s.debit n c c.undebited id

/-- R346: the charge of a lane is due for a debit. -/
def Charge.due (c : Charge) (now : Nat) : Bool := c.begun && decide (c.debitAt + sec 1 ≤ now)

/-- R346, R357: ACCOUNT_DEBIT: the sessions, then the custody channels. -/
def execAccountDebit (s : State) : Out :=
  fin s (
    let s := (List.range 64).foldl (fun (s : State) n => match s.ac.charges.getD n none with
      | some c => if c.due s.now then
          let (s, c) := s.debitSecond n c
          { s with ac := { s.ac with charges := s.ac.charges.set n (some c) } } else s
      | none => s) s
    (List.range 32).foldl (fun (s : State) n => match s.ac.custody.getD n none with
      | some c => if c.due s.now then
          let (s, c) := s.debitSecond 0xFF c
          { s with ac := { s.ac with custody := s.ac.custody.set n (some c) } } else s
      | none => s) s)

/-! ### Credit checks (R347, R348) -/

/-- R347: available credit as the check of a charge sees it: less the undebited of it and of those before it on the cell. -/
def State.availSeen (s : State) (cell : Nat) (l : List Charge) : Int :=
  let v := s.cell cell
  v.balance + (s.acClass v.cls).ecLimit - ((l.filter fun c => c.cell == cell).map Charge.undebited).sum

/-- R337, R347: LOW at a check, with CREDIT_LOW when it sets. -/
def State.checkLow (s : State) (n cell : Nat) (a : Int) : State :=
  let v := s.cell cell
  let low := decide (a < (s.acClass v.cls).lowCredit)
  let s := s.putCell cell { v with low := low, ecState := ecStateOf v.balance a }
  if low && !v.low then s.evAt .metering n 0x4030 (leBytes 4 cell ++ leBytes 4 (satS 32 a)) else s

/-- R347: the credit action of a lane: a stop trigger with cause CREDIT, or the credit suspension. -/
def State.creditAction (s : State) (n cls : Nat) : State :=
  if (s.acClass cls).action = 1 then s.suspend n .credit .timer else s.stopLane n .credit .timer

/-- R347, R358: CREDIT_EXHAUSTED; in friendly time it carries FLAGS bit 4. -/
def State.evExhausted (s : State) (n cell action : Nat) (a : Int) (friendly : Bool) : State :=
  s.evAt .metering n 0x4031 (leBytes 4 cell ++ leBytes 4 (satS 32 a) ++ leBytes 1 action) (if friendly then 16 else 0)

/-- R347: the check of a lane's session. -/
def State.creditLane (s : State) (n : Nat) : State :=
  match s.ac.charges.getD n none with
  | none => s
  | some c =>
    let v := s.cell c.cell
    let st := (s.lane n).st
    if !v.prepaid || !v.crcOk || !(st == .energy || st == .degraded || st == .suspended) then s
    else
      let a := s.availSeen c.cell ((s.ac.charges.take (n + 1)).filterMap id)
      let s := s.checkLow n c.cell a
      let fr := s.friendlyNow v.cls
      let hit := decide (a ≤ 0) && !c.exhausted
      let set (s : State) (b : Bool) : State := { s with ac := { s.ac with charges := s.ac.charges.set n (some { c with exhausted := b }) } }
      let s := if hit then (set s true).evExhausted n c.cell (if fr then 2 else (s.acClass v.cls).action) a fr else s
      let s := if hit && !fr then s.creditAction n v.cls else s
      if (hit || c.exhausted) && decide (((s.acClass v.cls).startMin : Int) ≤ a) then (set s false).unsuspend n .credit .timer else s

/-- R357: the check of a custody channel: it takes no action. -/
def State.creditCust (s : State) (n : Nat) : State :=
  match s.ac.custody.getD n none with
  | none => s
  | some c =>
    let v := s.cell c.cell
    if !v.prepaid || !v.crcOk then s
    else
      let a := s.availSeen c.cell ((s.ac.charges ++ s.ac.custody.take (n + 1)).filterMap id)
      let s := s.checkLow 0xFF c.cell a
      let fr := s.friendlyNow v.cls
      let hit := decide (a ≤ 0) && !c.exhausted
      let ex := (hit || c.exhausted) && !decide (((s.acClass v.cls).startMin : Int) ≤ a)
      let s : State := { s with ac := { s.ac with custody := s.ac.custody.set n (some { c with exhausted := ex }) } }
      if hit then s.evExhausted 0xFF c.cell 2 a fr else s

/-- R347: CREDIT_CHECK, of every 100 ms. -/
def execCreditCheck (s : State) : Out :=
  fin s (
    let s := (List.range 64).foldl (fun (s : State) n => s.creditLane n) s
    (List.range 32).foldl (fun (s : State) n => s.creditCust n) s)

/-! ### Friendly time (R349, R350) -/

/-- R349: the classes whose FRIENDLY parameter is 1. -/
def State.friendlyClasses (s : State) : Nat := maskOf ((List.range 16).filter fun k => (s.acClass k).friendly)

/-- R349: the classes that friendly time covers at a legal second. -/
def State.friendlyAt (s : State) (x : Nat) : Nat :=
  let t := s.bl.cal.tariff x
  let d := t / 86400
  let m := t % 86400 / 60
  let (yy, mm, dd) := civilOf d
  let w := (s.ac.windows.filter fun w => w.used && bit w.days (weekdayOf d - 1) && decide (w.start ≤ m) && decide (m < w.stop)).foldl
    (fun a w => a ||| w.classes) 0
  let day := s.ac.frDays.any fun y => y.used && (y.year == yy || y.year == 0xFFFF) && y.month == mm && y.day == dd
  (if day then 0xFFFF else w) &&& s.friendlyClasses

/-- R358: FRIENDLY. -/
def State.evFriendly (s : State) (st mask : Nat) : State := s.evMod .metering s.rd.active 0 0x4032 (leBytes 1 st ++ leBytes 2 mask)

/-- The bits of a number that are not in another. -/
def bitsLess (a b : Nat) : Nat := a - (a &&& b)

/-- R350: a span of friendly time begins for some classes. -/
def execFriendlyStart (s : State) : Out :=
  fin s (
    let new := bitsLess (s.friendlyAt s.legalSec) s.ac.frNow
    if new = 0 then s else { s with ac := { s.ac with frNow := s.ac.frNow ||| new } }.evFriendly 1 new)

/-- R350: a span ends: the sessions of the classes it covered whose credit is exhausted take their credit action. -/
def execFriendlyEnd (s : State) : Out :=
  fin s (
    let gone := bitsLess s.ac.frNow (s.friendlyAt s.legalSec)
    if gone = 0 then s
    else
      let s := { s with ac := { s.ac with frNow := bitsLess s.ac.frNow gone } }.evFriendly 0 gone
      (List.range 64).foldl (fun (s : State) n => match s.ac.charges.getD n none with
        | some c =>
          let k := (s.cell c.cell).cls
          if c.exhausted && bit gone k then s.creditAction n k else s
        | none => s) s)

/-! ### Prices (R342, R343) -/

/-- R342: the 80 bytes of a price group. -/
def PriceGrp.bytes (p : PriceGrp) : Bytes :=
  let i (x : Int) : Bytes := leBytes 4 (toBits 32 x)
  i p.startFee ++ i p.timePrice ++ p.imp.flatMap i ++ p.exp.flatMap i ++ leBytes 1 p.basis ++ List.replicate 7 0

/-- R342: the CRC-32 of a price table. -/
def PriceTab.crc (p : PriceTab) : Nat := crc32 (p.groups.flatMap PriceGrp.bytes)

/-- R342: a price group of 80 bytes, or none when R343 refuses it. -/
def parseGroup (b : Bytes) : Option PriceGrp :=
  let i (o : Nat) : Int := ofBits 32 (leNat (sub b o 4))
  if leNat (sub b 0x48 1) ≤ 1 && (sub b 0x49 7).all (· == 0) then
    some { startFee := i 0, timePrice := i 4, imp := (List.range 8).map fun k => i (8 + 4 * k), exp := (List.range 8).map fun k => i (0x28 + 4 * k),
           basis := leNat (sub b 0x48 1) }
  else none

/-- R343: PRICE_ACTIVATION. -/
def execPriceActivation (s : State) : Out :=
  fin s (match s.ac.pricePend with
    | some (p, i) =>
      if i ≤ s.legalSec then
        { s with ac := { s.ac with price := p, pricePend := none } }.evMod .metering s.rd.active 0 0x4035 (leBytes 4 p.crc ++ leBytes 4 i)
      else s
    | none => s)

/-- R343: the next whole minute that lies 1 s or more after now. -/
def State.nextMinute (s : State) : Nat := ((s.legal + 2 ^ 32 - 1) / 2 ^ 32 + 1 + 59) / 60 * 60

/-- R354: a bulk load runs. -/
def State.bulkRuns (s : State) : Bool := s.ac.bulk.isSome

/-- R343, R356: AC_PRICE_LOAD. -/
def execAcPriceLoad (tk : Nat) (s : State) : Out :=
  fin s (s.onTicket tk 0x0508 fun t =>
    let b := t.rest 4
    let gs := (List.range 64).map fun k => parseGroup (sub b (80 * k) 80)
    let i := if t.u 0 4 = 0 then s.nextMinute else t.u 0 4
    if s.bulkRuns then s.complete t St.busy
    else if b.length != 5124 then s.complete t St.badArgument
    else if leNat (sub b 5120 4) != crc32 (b.take 5120) then s.complete t St.checkFailed
    else if gs.any (·.isNone) || i % 60 != 0 || i * 2 ^ 32 ≤ s.legal then s.complete t St.badArgument
    else { s with ac := { s.ac with pricePend := some ({ groups := gs.map fun (g : Option PriceGrp) => g.getD {} }, i) } }.complete t St.ok (leBytes 4 i))

/-- R349: a window of 8 bytes. -/
def parseWindow (b : Bytes) : FrWin × Bool :=
  let u (o k : Nat) : Nat := leNat (sub b o k)
  let used := u 7 1 != 0
  ({ days := u 0 1 % 128, start := u 1 2, stop := u 3 2, classes := u 5 2, used := used },
    !used || (u 7 1 == 1 && decide (u 1 2 < u 3 2) && decide (u 1 2 ≤ 1439) && decide (u 3 2 ≤ 1440) && decide (u 0 1 < 128)))

/-- R349: a special day of 4 bytes. -/
def parseFrDay (b : Bytes) : FrDay × Bool :=
  let u (o k : Nat) : Nat := leNat (sub b o k)
  let used := u 0 4 != 0
  ({ year := u 0 2, month := u 2 1, day := u 3 1, used := used },
    !used || (decide (1 ≤ u 2 1) && decide (u 2 1 ≤ 12) && decide (1 ≤ u 3 1) && decide (u 3 1 ≤ monthDays 2000 (u 2 1))))

/-- R349, R356: AC_FRIENDLY_WRITE. -/
def execAcFriendlyWrite (tk : Nat) (s : State) : Out :=
  fin s (s.onTicket tk 0x0509 fun t =>
    let ws := (List.range 8).map fun k => parseWindow (sub t.arg (8 * k) 8)
    let ds := (List.range 32).map fun k => parseFrDay (sub t.arg (64 + 4 * k) 4)
    if s.bulkRuns then s.complete t St.busy
    else if t.arg.length != 192 || ws.any (fun w => !w.2) || ds.any (fun d => !d.2) then s.complete t St.badArgument
    else { s with ac := { s.ac with windows := ws.map fun (w : FrWin × Bool) => w.1, frDays := ds.map fun (d : FrDay × Bool) => d.1 } }.complete t St.ok)

/-! ### Cells and credentials (R336-R338, R351, R352) -/

/-- R336: cell numbers. -/
def cellCount : Nat := 1048576

/-- R336: the image of a cell, its STATE bit 6 apart; none when a field is out of its range. -/
def parseCell (b : Bytes) : Option (Cell × Bool) :=
  let u (o k : Nat) : Nat := leNat (sub b o k)
  let st := u 0x27 1
  if b.length = 48 && u 0x25 1 < 64 && u 0x26 1 < 16 && st < 128 && st / 8 % 4 < 3 && (u 0x24 1 < 64 || u 0x24 1 == 0xFF) then
    some ({ balance := ofBits 64 (u 0 8), importTotal := u 8 8, exportTotal := u 0x10 8, seq := u 0x18 8, lastSession := u 0x20 4,
            lastLane := u 0x24 1, tariffGroup := u 0x25 1, cls := u 0x26 1, used := bit st 0, blocked := bit st 1, prepaid := bit st 2,
            ecState := st / 8 % 4, low := bit st 5, expiry := u 0x28 4 }, bit st 6)
  else none

/-- R352: AC_CELL_WRITE. -/
def execAcCellWrite (tk : Nat) (s : State) : Out :=
  fin s (s.onTicket tk 0x0502 fun t =>
    let c := t.u 0 4
    match parseCell (t.rest 4) with
    | some (v, false) =>
      if cellCount ≤ c then s.complete t St.badArgument
      else
        let old := s.cell c
        (s.writeCell c { old with tariffGroup := v.tariffGroup, cls := v.cls, used := v.used, blocked := v.blocked, prepaid := v.prepaid,
                                  expiry := v.expiry, seq := s.seqAsked + 1 }).complete t St.ok
    | some (_, true) | none => s.complete t St.badArgument)

/-- R355: a cell as READER sees it: BALANCE, STATE and CLASS only. -/
def reducedCell (b : Bytes) : Bytes := sub b 0 8 ++ List.replicate 30 0 ++ sub b 0x26 2 ++ List.replicate 8 0

/-- R356: AC_CELL_READ. -/
def execAcCellRead (tk : Nat) (s : State) : Out :=
  fin s (s.onTicket tk 0x0503 fun t =>
    let c := t.u 0 4
    if cellCount ≤ c then s.complete t St.badArgument
    else s.complete t St.ok (if t.role = .reader then reducedCell (s.cell c).bytes else (s.cell c).bytes))

/-- R358: CREDIT_APPLIED. -/
def State.evCredit (s : State) (cell : Nat) (amount : Int) (again : Bool) : State :=
  s.evMod .metering s.rd.active 0 0x4033 (leBytes 4 cell ++ leBytes 4 (satS 32 amount)) (if again then 16 else 0)

/-- R351: AC_CREDIT. -/
def execAcCredit (tk : Nat) (s : State) : Out :=
  fin s (s.onTicket tk 0x0504 fun t =>
    let c := t.u 0 4
    let a := t.i 4 8
    let id := t.u 12 8
    let v := s.cell c
    let b := v.balance + a
    if cellCount ≤ c || id = 0 then s.complete t St.badArgument
    else if s.bulkRuns then s.complete t St.busy
    else match s.ac.txns.find? fun x => x.id == id with
      | some x => (s.evCredit c a true).complete t St.ok (leBytes 8 (toBits 64 x.balance))
      | none =>
        if b < -(2 ^ 63 : Int) || (2 ^ 63 : Int) ≤ b then s.complete t St.badArgument
        else
          let seq := s.seqAsked + 1
          let s := (s.evCredit c a false).writeCell c { v with balance := b, seq := seq }
          let s : State := { s with ac := { s.ac with txns := (({ id := id, balance := b } : Txn) :: s.ac.txns).take 4096 } }
          s.complete t St.ok (leBytes 8 (toBits 64 b)))

/-- R338: the lengths of an identifier of a kind. -/
def identLenOk (kind len : Nat) : Bool :=
  match kind with
  | 1 => decide (14 ≤ len) && decide (len ≤ 18)
  | 2 => decide (12 ≤ len) && decide (len ≤ 32)
  | 3 => len == 4 || len == 7 || len == 10
  | 4 => len == 8
  | _ => false

/-- R338: an entry of 64 bytes, or none when a field is out of its range; `stored` also asks for USED and a good CRC. -/
def parseEntry (b : Bytes) (stored : Bool) : Option CredEnt :=
  let u (o k : Nat) : Nat := leNat (sub b o k)
  let id := sub b 8 (u 1 1)
  let ok := b.length == 64 && identLenOk (u 0 1) (u 1 1) && decide (u 2 1 < 4) && u 3 1 == 0 && decide (u 4 4 < cellCount) &&
    (sub b (8 + u 1 1) (32 - u 1 1)).all (· == 0) && u 0x30 4 == 0 && u 0x34 8 == 0 && (u 0 1 != 1 || id == normaliseEmaid id) &&
    (!stored || (bit (u 2 1) 0 && u 0x3C 4 == crc32 (b.take 60)))
  if ok then some { kind := u 0 1, ident := id, blocked := bit (u 2 1) 1, cell := u 4 4, expiry := u 0x28 4, gen := u 0x2C 4 } else none

/-- Two entries carry the same KIND and identifier. -/
def CredEnt.same (a b : CredEnt) : Bool := a.kind == b.kind && a.ident == b.ident

/-- R338: entries of the store at most. -/
def credSlots : Nat := 2097152

/-- R352: the store takes a new generation. -/
def State.credCommit (s : State) (l : List CredEnt) : State :=
  { s with ac := { s.ac with creds := l, credGen := s.ac.credGen + 1, credStby := if s.rd.sync then s.ac.credGen + 1 else s.ac.credStby } }

/-- R352, R356: AC_CRED_WRITE. -/
def execAcCredWrite (tk : Nat) (s : State) : Out :=
  fin s (s.onTicket tk 0x0505 fun t =>
    let act := t.u 0 1
    match parseEntry (t.rest 1) false with
    | none => s.complete t St.badArgument
    | some e =>
      let old := s.ac.creds.find? e.same
      let rest := s.ac.creds.filter fun x => !e.same x
      let put (e : CredEnt) : State :=
        if credSlots ≤ s.ac.creds.length then s.complete t St.noResource
        else (s.credCommit (rest ++ [{ e with gen := s.ac.credGen + 1 }])).complete t St.ok (beBytes 4 (s.credRef e.kind e.ident))
      match act, old with
      | 0, _ => if 8 ≤ (rest.filter fun x => x.cell == e.cell).length then s.complete t St.badArgument else put e
      | 1, some x => put { x with blocked := true }
      | 2, some x => put { x with blocked := false }
      | 3, some x => (s.credCommit rest).complete t St.ok (beBytes 4 (s.credRef x.kind x.ident))
      | _, _ => s.complete t St.badArgument)

/-- R94, R355: the identifier of a reference: of a lane that awaits a host answer, or of the store for ADMIN. -/
def State.identOf (s : State) (ref : Nat) (store : Bool) : Option (Nat × Bytes) :=
  let lanes := (List.range 64).filterMap fun n => if (s.lane n).awaiting then (s.lane n).cred else none
  match lanes.find? fun c => s.credRef c.src c.ident == ref with
  | some c => some (c.src, c.ident)
  | none =>
    if store then (s.ac.creds.find? fun e => s.credRef e.kind e.ident == ref).map fun e => (e.kind, e.ident) else none

/-- R355, R356: AC_CRED_FETCH. -/
def execAcCredFetch (tk : Nat) (s : State) : Out :=
  fin s (s.onTicket tk 0x0506 fun t =>
    match s.identOf (beNat (sub t.arg 0 4)) (t.role == .admin) with
    | some (k, id) =>
      let cell := match s.ac.creds.find? fun e => e.kind == k && e.ident == id with | some e => e.cell | none => 0xFFFFFFFF
      s.complete t St.ok (leBytes 1 k ++ leBytes 1 id.length ++ id ++ leBytes 4 cell)
    | none => s.complete t St.badArgument)

/-- R341, R356: AC_CLASS_WRITE. -/
def execAcClassWrite (tk : Nat) (s : State) : Out :=
  fin s (s.onTicket tk 0x0507 fun t =>
    let k := t.u 0 1
    let m := 2000000000
    if 15 < k || m < t.u 1 4 || m < t.u 5 4 || m < t.u 9 4 || 64 < t.u 13 1 || 1 < t.u 14 1 || 1 < t.u 15 1 || t.u 16 1 != 0 then
      s.complete t St.badArgument
    else
      let c : AcClass := { ecLimit := t.u 1 4, startMin := t.u 5 4, lowCredit := t.u 9 4, maxSessions := t.u 13 1, action := t.u 14 1,
                           friendly := t.u 15 1 == 1 }
      { s with ac := { s.ac with classes := s.ac.classes.set k c } }.complete t St.ok)

/-- R356: AC_STATUS. -/
def execAcStatus (tk : Nat) (s : State) : Out :=
  fin s (s.onTicket tk 0x050A fun t =>
    s.complete t St.ok (leBytes 4 (s.ac.cells.filter fun x => x.2.used).length ++ leBytes 4 s.ac.creds.length ++
      leBytes 1 (s.ac.charges.filter (·.isSome)).length ++ leBytes 4 s.ac.price.crc ++
      leBytes 4 (match s.ac.pricePend with | some (_, i) => i | none => 0) ++ leBytes 1 (b2n (s.ac.frNow != 0)) ++ leBytes 2 s.ac.frNow))

/-- R357: AC_CUSTODY_BIND; what has accrued is debited from the cell bound before. -/
def execAcCustodyBind (tk : Nat) (s : State) : Out :=
  fin s (s.onTicket tk 0x050B fun t =>
    let n := t.u 0 1
    let c := t.u 1 4
    if 31 < n || (cellCount ≤ c && c != 0xFFFFFFFF) then s.complete t St.badArgument
    else if !s.custExists n then s.complete t St.notSupported
    else
      let s := match s.ac.custody.getD n none with
        | some x => (s.debit 0xFF x x.undebited id).1
        | none => s
      let new : Option Charge := if c = 0xFFFFFFFF then none else some { cell := c, begun := true, timeAt := s.now, debitAt := s.now }
      { s with ac := { s.ac with custody := s.ac.custody.set n new } }.complete t St.ok)

/-! ### Bulk loads (R353, R354) -/

/-- R353: the records of a stream with their offsets. -/
def streamRecs (off size : Nat) (b : Bytes) : Nat → List (Nat × Bytes)
  | 0 => []
  | k + 1 => (off, sub b off size) :: streamRecs (off + size) size b k

/-- R353: the offset of the first record that breaks a condition on it and those before it. -/
def firstBad {α : Type} (bad : List α → α → Bool) : List α → List (Nat × Option α) → Option Nat
  | _, [] => none
  | _, (o, none) :: _ => some o
  | seen, (o, some x) :: l => if bad seen x then some o else firstBad bad (seen ++ [x]) l

/-- R353: the store after a load. -/
def bulkCreds (old new : List CredEnt) (mode gen : Nat) : List CredEnt :=
  let new := new.map fun e => match old.find? fun x => { x with gen := e.gen } == e with | some x => x | none => { e with gen := gen }
  if mode = 0 then new else (old.filter fun x => !new.any fun e => e.same x) ++ new

/-- R353: the checks of a stream, in order: the status and the offset of the record, or the load. -/
def State.checkBulk (s : State) (b : Bytes) : (Nat × Nat) ⊕ (Nat × List (Nat × Cell × Bool) × List CredEnt) :=
  let u (o k : Nat) : Nat := leNat (sub b o k)
  let mode := u 4 1
  let nc := u 8 4
  let nk := u 12 4
  if sub b 0 4 != [0x59, 0x47, 0x41, 0x43] then .inl (St.badArgument, 0)
  else if u 28 4 != crc32 (b.drop 32) then .inl (St.checkFailed, 0)
  else if 1 < mode || b.length != 32 + 52 * nc + 64 * nk || u 5 3 != 0 || !(sub b 16 12).all (· == 0) then .inl (St.badArgument, 0)
  else
    let cells := (streamRecs 32 52 b nc).map fun (o, r) =>
      (o, if leNat (sub r 0 4) < cellCount then (parseCell (r.drop 4)).map fun v => (leNat (sub r 0 4), v) else none)
    let creds := (streamRecs (32 + 52 * nc) 64 b nk).map fun (o, r) => (o, parseEntry r true)
    let cl := cells.filterMap (·.2)
    let kl := creds.filterMap (·.2)
    let kept := if mode = 0 then [] else s.ac.creds.filter fun x => !kl.any fun e => e.same x
    match firstBad (fun seen x => seen.any fun y => y.1 == x.1) [] cells with
    | some o => .inl (St.badArgument, o)
    | none =>
      match firstBad (fun seen e => seen.any e.same || decide (8 ≤ ((kept ++ seen).filter fun x => x.cell == e.cell).length)) [] creds with
      | some o => .inl (St.badArgument, o)
      | none =>
        let opened := (List.range 64).filterMap fun n => (s.ac.charges.getD n none).map (·.cell)
        let drops (c : Nat) : Bool := !cl.any fun x => x.1 == c && x.2.1.used
        match if mode = 0 then opened.find? drops else none with
        | some c => .inl (St.refusedState, match cells.find? fun x => (x.2.map (·.1)) == some c with | some x => x.1 | none => 0)
        | none =>
          let fresh := (kl.filter fun e => !s.ac.creds.any fun x => { x with gen := e.gen } == e).length
          if credSlots < s.ac.creds.length + fresh || credSlots < kept.length + kl.length then .inl (St.noResource, 32 + 52 * nc)
          else .inr (mode, cl.map fun x => (x.1, x.2.1, x.2.2), kl)

/-- R353, R354: AC_BULK_LOAD: the checks, and the load waits for its commit. -/
def execAcBulkLoad (tk : Nat) (s : State) : Out :=
  fin s (s.onTicket tk 0x0501 fun t =>
    let num := t.u 0 4
    match s.ac.bulk with
    | some b => if b.ticket == tk then s else s.complete t St.busy
    | none =>
      if s.applying || s.up.xfers.any (fun x => decide (x.kind < 2)) then s.complete t St.busy
      else match s.xferBytes num 3 with
        | none => s.complete t St.badArgument
        | some b =>
          match s.checkBulk b with
          | .inl (st, off) => s.complete t st (leBytes 4 off)
          | .inr (mode, cells, creds) =>
            let a := s.archives
            let s := (s.onXfer num fun x => { x with inUse := true }).dropArchives
            { s with ac := { s.ac with bulk := some { ticket := tk, xfer := num, mode := mode, cells := cells, creds := creds, archives := a } } })

/-- R354: a cell image takes its place: under KEEP_BALANCE the present BALANCE and totals stay, else the sums debited since the
acceptance are debited again. -/
def State.applyCell (s : State) (b : Bulk) (seq : Nat) (c : Nat) (v : Cell) (keep : Bool) : State :=
  let old := s.cell c
  let d := match b.debits.find? fun x => x.1 == c with | some x => x.2 | none => 0
  s.writeCell c (if keep then { v with balance := old.balance, importTotal := old.importTotal, exportTotal := old.exportTotal, seq := seq,
                                       low := old.low }
    else { v with balance := v.balance - d, seq := seq, low := old.low })

/-- R354: BULK_COMMIT: the new store generation and the staged cells are in force, the completion is sent and BULK_APPLIED raised. -/
def execBulkCommit (s : State) : Out :=
  fin s (match s.ac.bulk with
    | some b =>
      if b.committed then s
      else
        let seq := s.seqAsked + 1
        let s0 : State := s.credCommit (bulkCreds s.ac.creds b.creds b.mode (s.ac.credGen + 1))
        let s1 : State := { s0 with ac := { s0.ac with bulk := some { b with committed := true, applyPtr := 0 },
                                                       cells := if b.mode = 0 then s0.ac.cells.filter fun x => b.cells.any fun y => y.1 == x.1
                                                                else s0.ac.cells } }
        let s1 := s1.onTicket b.ticket 0x0501 fun t =>
          s1.complete t St.ok (leBytes 4 b.cells.length ++ leBytes 4 b.creds.length ++ leBytes 1 b.archives)
        let s2 := b.cells.foldl (fun (s : State) (x : Nat × Cell × Bool) => s.applyCell b seq x.1 x.2.1 x.2.2) s1
        (s2.consumeXfer b.xfer).evMod .metering s.rd.active 0 0x4034
          (leBytes 4 b.cells.length ++ leBytes 4 b.creds.length ++ leBytes 1 b.mode)
    | none => s)

/-- R354: BULK_APPLY_END: the copy of the staged cells finishes and the STAGE partitions are free. -/
def execBulkApplyEnd (s : State) : Out :=
  fin s (match s.ac.bulk with
    | some b => if b.committed then { s with ac := { s.ac with bulk := none } } else s
    | none => s)

end Sys2Proof.Machine
end

