-- ==== Sys2Proof/Machine/Cosem.lean ====
section
/-! DEFINITION. Cosem.lean: DLMS/COSEM readout: the HDLC link, associations, objects, GET, SET and ACTION (R359-R375). -/
namespace Sys2Proof.Machine

/-! ### A-XDR data (IEC 62056) -/

/-- The length octets. -/
def axLen (n : Nat) : Bytes := if n < 128 then [byteOf n] else [0x82, byteOf (n / 256), byteOf n]
/-- unsigned8. -/
def axU8 (n : Nat) : Bytes := 17 :: beBytes 1 n
/-- unsigned16. -/
def axU16 (n : Nat) : Bytes := 18 :: beBytes 2 n
/-- unsigned32. -/
def axU32 (n : Nat) : Bytes := 6 :: beBytes 4 n
/-- unsigned64. -/
def axU64 (n : Nat) : Bytes := 21 :: beBytes 8 n
/-- integer8. -/
def axI8 (x : Int) : Bytes := 15 :: beBytes 1 (toBits 8 x)
/-- integer16. -/
def axI16 (x : Int) : Bytes := 16 :: beBytes 2 (toBits 16 x)
/-- integer32. -/
def axI32 (x : Int) : Bytes := 5 :: beBytes 4 (toBits 32 x)
/-- integer64. -/
def axI64 (x : Int) : Bytes := 20 :: beBytes 8 (toBits 64 x)
/-- boolean. -/
def axBool (b : Bool) : Bytes := [3, byteOf (b2n b)]
/-- enum. -/
def axEnum (n : Nat) : Bytes := 22 :: beBytes 1 n
/-- octet-string. -/
def axOct (b : Bytes) : Bytes := 9 :: (axLen b.length ++ b)
/-- structure. -/
def axStruct (l : List Bytes) : Bytes := 2 :: (axLen l.length ++ l.flatten)
/-- array. -/
def axArr (l : List Bytes) : Bytes := 1 :: (axLen l.length ++ l.flatten)
/-- scaler and unit. -/
def axScale (scaler : Int) (u : Nat) : Bytes := axStruct [axI8 scaler, axEnum u]

/-- R369: a legal second as a date-time: tariff time with the deviation of its zone and status bit 7 while daylight saving is in force. -/
def State.axTime (s : State) (x : Nat) : Bytes :=
  let c := s.bl.cal
  let t := c.tariff x
  let dst := c.inDst (c.local x)
  let (y, m, d) := civilOf (t / 86400)
  let w := t % 86400
  axOct (beBytes 2 y ++ beBytes 1 m ++ beBytes 1 d ++ beBytes 1 (weekdayOf (t / 86400)) ++ beBytes 1 (w / 3600) ++ beBytes 1 (w / 60 % 60) ++
    beBytes 1 (w % 60) ++ [0xFF] ++ beBytes 2 (toBits 16 (-(c.stdOffset + (if dst then (c.dstShift : Int) else 0)))) ++
    beBytes 1 (if dst then 0x80 else 0))

/-! ### Objects (R366-R369, R371) -/

/-- R371: the rows of the rights table: 0 energy and clock time, 1 reactive to tamper words, 2 lane state and record, 3 calibration,
4 calendar, 5 accounts. -/
def cosemRight (row : Nat) (r : Role) : Bool :=
  match row, r with
  | 0, _ | 3, _ => true
  | 5, .service => false
  | _, .pub => false
  | _, _ => true

/-- R371: the roles that may SET the clock or shift it. -/
def clockRight (r : Role) : Bool := r == .admin || r == .metrology

/-- R368: the entries of a profile a selection takes; each with its capture time. -/
def selectRows (l : List (Nat × Bytes)) : CosemSel → List Bytes
  | .all => l.map (·.2)
  | .range a b => (l.filter fun y => decide (a ≤ y.1) && decide (y.1 ≤ b)).map (·.2)
  | .entry a b => ((l.take b).drop (a - 1)).map (·.2)

/-- R366: the scaler and unit of a channel's energy or quantity registers. -/
def State.energyScale (s : State) (cust : Bool) (n : Nat) : Bytes :=
  if !cust then axScale (-6) 30
  else match s.cfg.pulses.find? fun p => p.owner == custodyOwner n with
    | some p => if p.unit = 0 then axScale (-6) 30 else if p.unit = 1 then axScale (-9) 13 else axScale (-9) (Config.dlmsUnit p.unit % 256)
    | none => axScale (-9) (Config.dlmsUnit 0xFF % 256)

/-- R368: the load profile of a channel, oldest first. -/
def State.loadRows (s : State) (cust : Bool) (n : Nat) : List (Nat × Bytes) :=
  (s.en.imprs.reverse.filter fun (b : Bytes) => sub b 0 3 == [byteOf (b2n cust), byteOf n, 0]).map fun (b : Bytes) =>
    let t := leNat (sub b 0x14 4)
    (t, axStruct [s.axTime t, axU64 (leNat (sub b 0x18 8)), axU64 (leNat (sub b 0x20 8)), axU32 (leNat (sub b 0x58 4)),
      axU32 (leNat (sub b 0x5C 4)), axU16 (leNat (sub b 4 2))])

/-- R368: the billing profile of a channel, oldest first. -/
def State.billRows (s : State) (cust : Bool) (n : Nat) : List (Nat × Bytes) :=
  let h : List Bytes := match s.bl.history.find? fun y => y.1 == b2n cust && y.2.1 == n with | some y => y.2.2.reverse | none => []
  h.map fun b =>
    let t := leNat (sub b 0x14 4)
    (t, axStruct (s.axTime t :: ((List.range 8).map fun k => axU64 (leNat (sub b (128 + 0x18 + 8 * k) 8))) ++
      (List.range 8).map fun k => axU64 (leNat (sub b (256 + 0x18 + 8 * k) 8))))

/-- R369: the billing event log, oldest first. -/
def State.logRows (s : State) : List (Nat × Bytes) :=
  (s.seqr.journal.reverse.filter fun r => r.ev.code / 4096 == 4).map fun r =>
    let t := s.legalAt r.ev.time / 2 ^ 32
    (t, axStruct [axU64 r.seq, axU64 r.ev.time, s.axTime t, axU16 r.ev.code, axU8 r.ev.lane])

/-- The attributes of a profile. -/
def profileAttrs (rows : List (Nat × Bytes)) (sel : CosemSel) : List (Nat × Bytes) :=
  [(2, axArr (selectRows rows sel)), (7, axU32 rows.length)]

/-- The attributes of a register. -/
def registerAttrs (v : Nat) (scale : Bytes) : List (Nat × Bytes) := [(2, axU64 v), (3, scale)]

/-- R368: the cell an account object shows: of the open session of a lane or of a bound custody channel. -/
def State.cosemCell (s : State) (cust : Bool) (n : Nat) : Option Nat :=
  if cust then (s.ac.custody.getD n none).map (·.cell)
  else if (s.lane n).session = 0 then none else (s.lane n).account

/-- R368: the objects of a lane or custody channel: their row in R371 and their attributes. -/
def State.chanObj (s : State) (cust : Bool) (n : Nat) (r : CosemRef) : Option (Nat × List (Nat × Bytes)) :=
  let e := s.enr cust n
  let a := e.acc
  let sc := s.energyScale cust n
  let whole := !cust && (s.slot n).sensor != 3
  let cell := s.cosemCell cust n
  let v := match cell with | some c => s.cell c | none => {}
  let k := s.acClass v.cls
  let dem (last from_ to_ : Nat) : Option (Nat × List (Nat × Bytes)) :=
    some (1, [(2, axU32 (Sys2Proof.Machine.demandOf (to_ - from_) (60 * s.bl.cal.demandMin))), (3, axU32 last), (4, axScale 0 27)])
  let mx (m at_ : Nat) : Option (Nat × List (Nat × Bytes)) := some (1, [(2, axU32 m), (3, axScale 0 27), (5, s.axTime (at_ / 2 ^ 32))])
  match r.cls, r.a, r.c, r.d, r.e with
  | 3, 1, 1, 8, 0 => some (0, registerAttrs (reading a.imp) sc)
  | 3, 1, 2, 8, 0 => some (0, registerAttrs (reading a.exp) sc)
  | 3, 1, 1, 8, t => if t ≤ 8 then some (0, registerAttrs (reading (a.rImp.getD (t - 1) 0)) sc) else none
  | 3, 1, 2, 8, t => if t ≤ 8 then some (0, registerAttrs (reading (a.rExp.getD (t - 1) 0)) sc) else none
  | 3, 1, 5, 8, 0 => if whole then some (1, registerAttrs (reading a.q1) (axScale (-6) 32)) else none
  | 3, 1, 6, 8, 0 => if whole then some (1, registerAttrs (reading a.q2) (axScale (-6) 32)) else none
  | 3, 1, 7, 8, 0 => if whole then some (1, registerAttrs (reading a.q3) (axScale (-6) 32)) else none
  | 3, 1, 8, 8, 0 => if whole then some (1, registerAttrs (reading a.q4) (axScale (-6) 32)) else none
  | 3, 1, 128, 8, 0 => if whole then some (1, registerAttrs (reading a.cImp) sc) else none
  | 3, 1, 129, 8, 0 => if whole then some (1, registerAttrs (reading a.cExp) sc) else none
  | 5, 1, 1, 4, 0 => dem e.demImp e.intAcc.imp a.imp
  | 5, 1, 2, 4, 0 => dem e.demExp e.intAcc.exp a.exp
  | 4, 1, 1, 6, 0 => mx e.maxImp e.maxImpAt
  | 4, 1, 2, 6, 0 => mx e.maxExp e.maxExpAt
  | 1, 0, 96, 5, 0 => some (1, [(2, axU16 e.tamper)])
  | 1, 0, 96, 128, 0 => if cust then none else some (2, [(2, axU8 (s.lane n).st.code)])
  | 1, 0, 96, 129, 0 => if cust then none else some (3, [(2, axStruct [axU32 (s.mtl n).calGen, axBool (s.mtl n).uncal])])
  | 1, 0, 96, 130, 0 =>
    if cust then none
    else some (2, [(2, axOct ((s.en.records.find? fun b => leNat (sub b 0x10 1) == n).getD []))])
  | 7, 1, 99, 1, 0 => some (1, profileAttrs (s.loadRows cust n) r.sel)
  | 7, 1, 98, 1, 0 => some (1, profileAttrs (s.billRows cust n) r.sel)
  | 111, 0, 19, 0, 0 =>
    some (5, [(2, axStruct [axEnum (if cell.isSome then (if v.prepaid then 2 else 1) else 0), axEnum (if cell.isSome then 2 else 0)]),
      (5, axI64 (match cell with | some c => s.available c | none => 0))])
  | 112, 0, 19, 10, 0 => some (5, [(2, axI64 v.balance)])
  | 112, 0, 19, 10, 1 => some (5, [(2, axU32 (if cell.isSome then k.ecLimit else 0)), (8, axEnum (if cell.isSome then v.ecState else 0))])
  | 113, 0, 19, 20, 0 =>
    let p := if cell.isSome then s.priceGrp v.tariffGroup else {}
    some (5, [(5, axArr ((p.startFee :: p.timePrice :: (p.imp ++ p.exp)).map axI32))])
  | _, _, _, _, _ => none

/-- R369: a day profile: the actions of its switch points, the script selector being the rate. -/
def axDayProfile (k : Nat) (l : List SwPt) : Bytes :=
  axStruct [axU8 k, axArr (l.map fun p => axStruct [axOct [byteOf (p.minute / 60), byteOf (p.minute % 60), 0, 0], axU16 p.rate])]

/-- R369: the calendar of a table: name, seasons, weeks, day profiles. -/
def axCalendar (c : CalTab) : List Bytes :=
  let weeks : List (Nat × List Nat) :=
    if c.kind = 0 then [(0, (List.range 7).map fun d => b2n (bit c.restMask d))] else (c.weeks.zip (List.range 8)).map fun x => (x.2, x.1)
  let seasons : List (Nat × Nat × Nat × Nat) :=
    if c.kind = 0 then [(0, 1, 1, 0)] else c.seasons.map fun x => (x.index, x.month, x.day, x.week)
  [axOct (sub c.image 0x16 8),
    axArr (seasons.map fun (i, m, d, w) =>
      axStruct [axOct [byteOf i], axOct ([0xFF, 0xFF, byteOf m, byteOf d] ++ List.replicate 8 0xFF), axOct [byteOf w]]),
    axArr (weeks.map fun (i, l) => axStruct (axOct [byteOf i] :: l.map axU8)),
    axArr ((c.days.zip (List.range 16)).map fun x => axDayProfile x.2 x.1)]

/-- R369: the module-wide objects. -/
def State.moduleObj (s : State) (r : CosemRef) : Option (Nat × List (Nat × Bytes)) :=
  let c := s.bl.cal
  let cal (from_ : Nat) (l : List Bytes) : List (Nat × Bytes) := (l.zip (List.range l.length)).map fun x => (from_ + x.2, x.1)
  match r.cls, r.a, r.c, r.d, r.e with
  | 8, 0, 1, 0, 0 => some (0, [(2, s.axTime s.legalSec), (3, axI16 (-c.stdOffset)), (4, axU8 (if s.bl.dst then 0x80 else 0))])
  | 20, 0, 13, 0, 0 => some (4, cal 2 (axCalendar c) ++ (match s.bl.passive with
      | some (p, i) => cal 6 (axCalendar p) ++ [(10, s.axTime i)]
      | none => []))
  | 11, 0, 11, 0, 0 => some (4, [(2, axArr ((c.specials.zip (List.range 128)).map fun x =>
      axStruct [axU16 x.2, axOct (beBytes 2 x.1.year ++ beBytes 1 x.1.month ++ beBytes 1 x.1.day ++ [0xFF]), axU8 x.1.profile]))])
  | 7, 0, 99, 98, 0 => some (1, profileAttrs s.logRows r.sel)
  | 1, 0, 96, 5, 0 => some (1, [(2, axU16 (8 * b2n s.en.coverOpen))])
  | 1, 0, 96, 1, 0 => some (0, [(2, axOct (beBytes 8 s.ident.eui64))])
  | _, _, _, _, _ => none

/-- R367: the object of a logical name. -/
def State.cosemObj (s : State) (r : CosemRef) : Option (Nat × List (Nat × Bytes)) :=
  let o := if r.b = 0 then s.moduleObj r
    else if r.b ≤ 64 then (if s.nLanes < r.b || !(s.typ (r.b - 1)).isLane then none else s.chanObj false (r.b - 1) r)
    else if r.b ≤ 96 then (if s.custExists (r.b - 65) then s.chanObj true (r.b - 65) r else none)
    else none
  o.map fun x => (x.1, (1, axOct [byteOf r.a, byteOf r.b, byteOf r.c, byteOf r.d, byteOf r.e, 0xFF]) :: x.2)

/-- R371, R374: the result of a GET of one reference, as a choice of data and result. -/
def State.cosemGet (s : State) (role : Role) (r : CosemRef) : Bytes :=
  match s.cosemObj r with
  | none => [1, 4]
  | some (row, l) =>
    if !cosemRight row role then [1, 3]
    else match l.find? fun x => x.1 == r.attr with
      | some x => 0 :: x.2
      | none => [1, 11]

/-! ### The link and associations (R359-R365) -/

/-- R360: an SNRM on MP negotiates the information field, 128 to 1,024 bytes. -/
def execHdlcSnrm (info : Nat) (s : State) : Out :=
  fin s { s with cosem := { s.cosem with hdlc := true, hdlcInfo := max 128 (min 1024 info), hdlcAt := s.now } }

/-- R10: the role of a client SAP. -/
def sapRole (sap : Nat) : Option Role :=
  match sap with
  | 16 => some .pub | 32 => some .reader | 48 => some .operator | 1 => some .admin | 2 => some .metrology | 64 => some .service | _ => none

/-- R375: an association event; the unit is its transport. -/
def State.evCosem (s : State) (transport code : Nat) (data : Bytes) : State := s.evMod .host s.rd.active transport code (leBytes 1 transport ++ data)

/-- R362, R372: a response goes out. -/
def State.cosemReply (s : State) (transport client : Nat) (b : Bytes) : State :=
  { s with cosem := { s.cosem with out := s.cosem.out ++ [(transport, client, b)] } }

/-- The association of a client. -/
def State.assocOf (s : State) (transport client : Nat) : Option Assoc :=
  s.cosem.assocs.find? fun a => a.transport == transport && a.client == client

/-- Changes the association of a client. -/
def State.onAssoc (s : State) (transport client : Nat) (f : Assoc → Assoc) : State :=
  { s with cosem := { s.cosem with assocs := s.cosem.assocs.map fun a => if a.transport == transport && a.client == client then f a else a } }

/-- R375: an association is released. -/
def State.releaseAssoc (s : State) (a : Assoc) (reason : Nat) : State :=
  { s with cosem := { s.cosem with assocs := s.cosem.assocs.filter fun x => !(x.transport == a.transport && x.client == a.client) } }.evCosem
    a.transport 0x7022 (leBytes 1 a.sap ++ leBytes 1 reason)

/-- R360: 120 s without a valid frame: the HDLC link is released, and the association on MP with it. -/
def execHdlcLinkTimeout (s : State) : Out :=
  fin s (
    if s.cosem.hdlc && s.cosem.hdlcAt + sec 120 ≤ s.now then
      let s : State := { s with cosem := { s.cosem with hdlc := false, hdlcInfo := 128 } }
      (s.cosem.assocs.filter fun a => a.transport == 4).foldl (fun (s : State) a => s.releaseAssoc a 1) s
    else s)

/-- R362: the strength of a mechanism the module implements. -/
def mechStrength (m : Nat) : Nat := match m with | 5 => 1 | 7 => 2 | _ => 0
/-- R362: the strength a role requires. -/
def roleStrength : Role → Nat
  | .pub => 0 | .reader => 1 | .operator | .admin | .metrology | .service => 2

/-- R359: associations at once on a transport. -/
def assocLimit (transport : Nat) : Nat := if transport = 4 then 1 else 4

/-- R363: the nodes an AARQ needs: the keys' node 4, and node 1 for a signature. -/
def State.assocOrphan (s : State) (mech : Nat) : Bool :=
  match mechStrength mech with
  | 0 => false
  | 1 => s.isOrphan 4
  | _ => s.isOrphan 4 || s.isOrphan 1

/-- R362, R363, R385: the keys an authentication needs are held: the wrapped objects of node 4, and the client's verification key. -/
def State.assocKeys (s : State) (role : Role) (mech : Nat) : Bool :=
  let slot := match role with | .operator => 24 | .admin => 25 | .metrology => 26 | .service => 27 | .pub | .reader => 31
  match mechStrength mech with
  | 0 => true
  | 1 => s.kv.objects.any fun o => o.2.1 == 4
  | _ => (s.kv.objects.any fun o => o.2.1 == 4) && (s.anchor slot).isSome

/-- R364: the transport is locked out. -/
def State.cosemLocked (s : State) (transport : Nat) : Bool := s.cosem.lockouts.any fun x => x.1 == transport && decide (s.now < x.2)

/-- R362, R375: an AARQ is refused: result 1 rejected-permanent, 2 rejected-transient. -/
def State.refuseAarq (s : State) (transport client sap result reason : Nat) : State :=
  (s.cosemReply transport client (leBytes 1 result)).evCosem transport 0x7021 (leBytes 1 sap ++ leBytes 1 reason)

/-- R364: a failed authentication counts; the fifth within 60 s locks the transport out for 60 s. -/
def State.cosemFailure (s : State) (transport : Nat) : State :=
  let l := (transport, s.now) :: s.cosem.fails.filter fun x => decide (s.now < x.2 + sec 60)
  let lock := 5 ≤ (l.filter fun x => x.1 == transport).length
  { s with cosem := { s.cosem with fails := if lock then l.filter (fun x => x.1 != transport) else l,
                                   lockouts := if lock then (transport, s.now + sec 60) :: s.cosem.lockouts.filter (fun x => x.1 != transport)
                                               else s.cosem.lockouts } }

/-- R362: the conformance bits granted: get for PUBLIC; get, set, action, selective-access, multiple-references, block-transfer-with-get
and general-protection for the others (their places are those of IEC 62056-5-3). -/
def conformance (role : Role) : Bytes := if role = .pub then [0x00, 0x00, 0x10] else [0x40, 0x12, 0x1D]

/-- R361, R362: a frame of a transport that carries COSEM comes from a known client SAP; on MP the link must stand. -/
def State.cosemUp (s : State) (transport : Nat) : Bool := transport = 0 || transport = 1 || (transport = 4 && s.cosem.hdlc)

/-- R362-R364: an AARQ of a client SAP with a mechanism and a level of APDU protection (2 authenticated and encrypted); `authOk` tells
whether its authentication verifies. Which rejection a failed, orphaned or surplus AARQ gets is open (log entry 1). -/
def execAarq (transport client sap mech prot : Nat) (authOk : Bool) (s : State) : Out :=
  fin s (
    if !s.cosemUp transport then s
    else
      let s : State := if transport = 4 then { s with cosem := { s.cosem with hdlcAt := s.now } } else s
      match sapRole sap with
      | none => if transport < 2 then s.onPort transport fun p => { p with dropped := satU 16 (p.dropped + 1) } else s
      | some role =>
        let open_ := 1 + s.free 1
        if s.cosemLocked transport then s.refuseAarq transport client sap 2 2
        else if assocLimit transport ≤ (s.cosem.assocs.filter fun a => a.transport == transport && a.client != client).length then
          (s.refuseAarq transport client sap open_ 3).drawn
        else if mechStrength mech < roleStrength role || (role != .pub && prot < 2) then s.refuseAarq transport client sap 1 1
        else if s.assocOrphan mech then (s.refuseAarq transport client sap open_ 4).drawn
        else if mechStrength mech != 0 && !(authOk && s.assocKeys role mech) then
          ((s.cosemFailure transport).refuseAarq transport client sap open_ 0).drawn
        else
          let a : Assoc := { transport := transport, client := client, sap := sap, role := role, mechanism := mech, lastApdu := s.now }
          let s : State := { s with cosem := { s.cosem with
            assocs := (s.cosem.assocs.filter fun x => !(x.transport == transport && x.client == client)) ++ [a] } }
          (s.cosemReply transport client (0 :: conformance role)).evCosem transport 0x7020 (leBytes 1 sap ++ leBytes 1 mech))

/-- R363: an APDU of an association: a protected one carries an invocation counter above the last accepted and must verify. -/
def State.cosemApdu (s : State) (transport client ctr : Nat) (ok : Bool) (f : State → Assoc → State) : State :=
  match s.assocOf transport client with
  | none => s
  | some a =>
    if !s.cosemUp transport then s
    else
      let last := match s.cosem.invRx.find? fun x => x.1 == a.sap with | some x => some x.2 | none => none
      let fresh := match last with | some k => decide (k < ctr) | none => true
      if a.role != .pub && !(ok && fresh) then
        s.onPort (if transport = 1 then 1 else 0) fun p => { p with authFail := satU 16 (p.authFail + 1) }
      else
        let s := s.onAssoc transport client fun a => { a with lastApdu := s.now }
        let s : State := if transport = 4 then { s with cosem := { s.cosem with hdlcAt := s.now } } else s
        let s : State := if a.role = .pub then s
          else { s with cosem := { s.cosem with invRx := (a.sap, ctr) :: s.cosem.invRx.filter (fun x => x.1 != a.sap),
                                                invTx := (s.cosem.invTx + 1) % 2 ^ 32 } }
        f s a

/-- R372: a reply of at most `room` bytes goes out; the rest waits for the next block. -/
def State.cosemBlock (s : State) (transport client room : Nat) (b : Bytes) : State :=
  if room = 0 || b.length ≤ room then (s.onAssoc transport client fun a => { a with rest := none }).cosemReply transport client b
  else (s.onAssoc transport client fun a => { a with rest := some (b.drop room) }).cosemReply transport client (b.take room)

/-- R371, R372: GET: every value of one APDU is of the same instant; further blocks carry what stood at the first. -/
def execGet (transport client ctr : Nat) (ok : Bool) (req : GetReq) (s : State) : Out :=
  fin s (s.cosemApdu transport client ctr ok fun s a =>
    match req with
    | .refs l room => s.cosemBlock transport client room (l.flatMap fun r => s.cosemGet a.role r)
    | .next room =>
      match a.rest with
      | some b => s.cosemBlock transport client room b
      | none => s.cosemReply transport client [1, 11])

/-- R373: a correction of legal time through COSEM, and its result. -/
def State.cosemClock (s : State) (target : Int) : State × Nat :=
  let v := target.toNat
  let delta := s.corrDelta v s.now
  if s.hubTime then (s, 2)
  else if target < 0 || s.corrRefused v delta then (s, 250)
  else (s.drawn.correct v s.now 1 delta (s.corrNs delta), 0)

/-- R371: METROLOGY signs its SET and ACTION. -/
def Assoc.signedOk (a : Assoc) (signed : Bool) : Bool := signed || a.role != .metrology

/-- R371, R373: SET: only the clock's time attribute takes it; `value` is the target in the format of R18. -/
def execSet (transport client ctr : Nat) (ok signed : Bool) (r : CosemRef) (value : Nat) (s : State) : Out :=
  fin s (
    let good := match s.assocOf transport client with | some a => a.signedOk signed | none => true
    s.cosemApdu transport client ctr (ok && good) fun s a =>
      match s.cosemObj r with
      | none => s.cosemReply transport client [4]
      | some _ =>
        if r.cls = 8 && r.attr = 2 && clockRight a.role then
          let (s, res) := s.cosemClock value
          s.cosemReply transport client (leBytes 1 res)
        else s.cosemReply transport client [3])

/-- R371, R373: ACTION: only the clock's shift_time (method 6, seconds) is supported; `r.attr` names the method. -/
def execAction (transport client ctr : Nat) (ok signed : Bool) (r : CosemRef) (value : Int) (s : State) : Out :=
  fin s (
    let good := match s.assocOf transport client with | some a => a.signedOk signed | none => true
    s.cosemApdu transport client ctr (ok && good) fun s a =>
      match s.cosemObj r with
      | none => s.cosemReply transport client [4]
      | some _ =>
        if !clockRight a.role then s.cosemReply transport client [13]
        else if r.cls != 8 || r.attr != 6 then s.cosemReply transport client [11]
        else if value < -900 || 900 < value then s.cosemReply transport client [250]
        else
          let (s, res) := s.cosemClock ((s.legal : Int) + value * 2 ^ 32)
          s.cosemReply transport client (leBytes 1 res))

/-- R375: a client releases its association. -/
def execReleaseRequest (transport client : Nat) (s : State) : Out :=
  fin s (match s.assocOf transport client with
    | some a => if s.cosemUp transport then s.releaseAssoc a 0 else s
    | none => s)

/-- R361: an association on HP0 or HP1 without an APDU for 120 s is released. -/
def execAssociationInactivity (transport client : Nat) (s : State) : Out :=
  fin s (match s.assocOf transport client with
    | some a => if transport < 2 && a.lastApdu + sec 120 ≤ s.now then s.releaseAssoc a 1 else s
    | none => s)

/-- R364: the lockout of a transport ends. -/
def execCosemLockoutEnd (s : State) : Out :=
  fin s { s with cosem := { s.cosem with lockouts := s.cosem.lockouts.filter fun x => decide (s.now < x.2) } }

end Sys2Proof.Machine
end

