-- ==== Sys2Proof/Machine/Display.lean ====
section
/-! DEFINITION. Display.lean: the legal displays (R431-R444): rectangles and frames, waveforms and bands, legal fields, recovery, checks,
and the display requests and registers. -/
namespace Sys2Proof.Machine

/-! ### Geometry -/

/-- Two rectangles share a pixel. -/
def Rect.meets (a b : Rect) : Bool :=
  decide (a.x < b.x + b.w) && decide (b.x < a.x + a.w) && decide (a.y < b.y + b.h) && decide (b.y < a.y + a.h)

/-- A rectangle covers the whole area of another. -/
def Rect.covers (a b : Rect) : Bool :=
  decide (a.x ≤ b.x) && decide (b.x + b.w ≤ a.x + a.w) && decide (a.y ≤ b.y) && decide (b.y + b.h ≤ a.y + a.h)

/-- The same area. -/
def Rect.sameArea (a b : Rect) : Bool := a.x == b.x && a.y == b.y && a.w == b.w && a.h == b.h

/-- R437: the lanes whose SLOT.PANEL names a panel. -/
def State.panelLanes (s : State) (p : Nat) : List Nat :=
  (List.range s.nLanes).filter fun n => (s.typ n).isLane && (s.slot n).panel == p

/-- R437: the area of the k-th legal field of a panel, none when it does not fit. -/
def Panel.fieldArea (p : Panel) (k : Nat) : Option Rect :=
  let cols := p.width / 256
  if cols = 0 then none
  else if k / cols * 64 + 64 ≤ p.height then some { x := k % cols * 256, y := k / cols * 64, w := 256, h := 64, cls := 1 } else none

/-- R437: the area of a lane's legal field on a panel. -/
def State.legalField (s : State) (p n : Nat) : Option Rect :=
  match (s.panelLanes p).idxOf? n with
  | some k => (s.panel p).fieldArea k
  | none => none

/-- The legal fields of a panel that fit: lane and area. -/
def State.fields (s : State) (p : Nat) : List (Nat × Rect) :=
  (s.panelLanes p).zipIdx.filterMap fun (n, k) => ((s.panel p).fieldArea k).map fun r => (n, r)

/-! ### Waveforms and bands (R434, R435) -/

/-- R434: frames of a mode in a band. -/
def State.waveFrames (s : State) (mode band : Nat) : Nat := s.ds.waveCnt.getD (8 * mode + band) 0

/-- R434: a mode exists. -/
def State.hasMode (s : State) (m : Nat) : Bool := bit s.ds.waveModes m

/-- R434: the band of a temperature in 0.1 °C. -/
def State.bandOf (s : State) (temp : Int) : Nat := (s.ds.waveBnd.filter fun b => decide (10 * b ≤ temp)).length

/-! ### Queue (R436) -/

/-- R436: a rectangle is queued behind those of its class and of the classes before; a newer one of the same class and area takes the
place of the older, whose tickets complete with it; a corrective refresh it covers is dropped. A full queue takes no more. -/
def Panel.enqueue (p : Panel) (r : Rect) : Panel :=
  let q := p.queue.filter fun o => !(o.corr && r.covers o)
  match q.find? fun o => o.cls == r.cls && o.sameArea r with
  | some o => { p with queue := q.map fun x => if x == o then { r with tickets := o.tickets ++ r.tickets } else x }
  | none =>
    if 32 ≤ q.length then { p with queue := q }
    else { p with queue := q.filter (fun x => decide (x.cls ≤ r.cls)) ++ [r] ++ q.filter fun x => decide (r.cls < x.cls) }

/-- R438: the journal's entry of a rectangle. -/
def Rect.entry (r : Rect) : Rect := { x := r.x, y := r.y, w := r.w, h := r.h, mode := r.mode, cls := r.cls, band := r.band }

/-- R435, R436, R438: rectangles of the queue come into flight, each journaled with its band latched: not more than 8, none over another. -/
def Panel.start (p : Panel) : List Rect → Panel
  | [] => p
  | r :: l =>
    if 8 ≤ p.flight.length || p.flight.any fun x => x.meets r then p.start l
    else
      let f := { r with band := if p.ntcBad then 3 else p.band }
      { p with flight := p.flight ++ [f], journal := p.journal ++ [f.entry], queue := p.queue.erase r }.start l

/-! ### Proof cycles and recovery (R439, R441) -/

/-- R443: a display event of a panel. -/
def State.evDs (s : State) (p code : Nat) (data : Bytes) : State := s.evMod .diag s.rd.active p code (leBytes 1 p ++ data)

/-- R437: what a lane's legal field shows: lane, session energy in Wh, IMPORT in kWh, CAL_GEN's low 16 bits and the signature state. -/
def State.fieldValues (s : State) (n : Nat) : Bytes :=
  let e := s.enr false n
  let (used, sig) : Nat × Nat := match e.sess with
    | some x => (if x.started then reading e.acc.imp - reading x.start.imp else 0, 0)
    | none => match s.ds.finals.find? fun f => f.lane == n with | some f => (f.energy, f.sig) | none => (0, 0)
  leBytes 1 n ++ leBytes 8 (used / 1000000) ++ leBytes 8 (reading e.acc.imp / 1000000000) ++ leBytes 2 ((s.mtl n).calGen % 65536) ++ leBytes 1 sig

/-- R437: a legal field is drawn in a mode the specification leaves open among those of the table (log entry 1). -/
def State.fieldMode (s : State) : Nat :=
  let l := bitsOf 16 s.ds.waveModes
  l.getD (s.free 4 % l.length) 0

/-- R437: the legal field of a lane is rendered and its redraw queued; a field that does not fit is not shown. -/
def State.renderField (s : State) (p n : Nat) : State :=
  match s.legalField p n with
  | some r =>
    let m := s.fieldMode
    let v := s.fieldValues n
    State.drawn ({ s with ds := { s.ds with unshown := setBit s.ds.unshown n false } }.onPanel p fun q =>
      { q.enqueue { r with mode := m } with
        fields := q.fields.filter (fun (x : Nat × Bytes) => x.1 != n) ++ [(n, v)], drawnAt := q.drawnAt.filter (fun (x : Nat × Nat) => x.1 != n) ++ [(n, s.now)] })
  | none =>
    if bit s.ds.unshown n then s
    else { s with ds := { s.ds with unshown := setBit s.ds.unshown n true } }.evDs p 0xA001 (leBytes 1 3 ++ leBytes 1 n)

/-- R439: a journaled rectangle is recovered: a mode-0 rectangle of its area, the legal fields within it, DISPLAY_RECOVERED. -/
def State.recoverRect (s : State) (p : Nat) (r : Rect) : State :=
  let s := s.onPanel p fun q => q.enqueue { r with mode := 0, cls := 0 }
  let s := ((s.fields p).filter fun x => x.2.meets r).foldl (fun (s : State) (x : Nat × Rect) => s.renderField p x.1) s
  s.evDs p 0xA003 (leBytes 2 r.x ++ leBytes 2 r.y ++ leBytes 2 r.w ++ leBytes 2 r.h)

/-- R441, R444: a proof cycle of a panel with a result (0 pass, 1 rail, 2 VCOM, 3 timing pad): what was written to DS_PANELp takes
effect; a panel that fails is marked FAULT. -/
def State.proof (s : State) (p result : Nat) : State :=
  let s := s.onPanel p fun q =>
    { q with width := q.cfgWidth, height := q.cfgHeight, enable := q.cfgEnable, vcom := q.cfgVcom, needProof := false,
             fault := q.cfgEnable && result != 0 }
  if (s.panel p).fault then s.evDs p 0xA001 (leBytes 1 0 ++ leBytes 1 0xFF) else s

/-- R441: the results of a proof cycle of several panels: a shared rail fails every panel. -/
def sharedResults (l : List Nat) : List Nat := if l.contains 1 then l.map fun _ => 1 else l

/-- R439: at start-up and after a change of active side every panel is proved, then its journaled rectangles are recovered. -/
def State.proveDue (s : State) (results : List Nat) : State :=
  let rs := sharedResults ((List.range 4).map fun p => results.getD p 0)
  (List.range 4).foldl (fun (s : State) (p : Nat) =>
    if !(s.panel p).needProof then s
    else
      let j := (s.panel p).journal
      let s := s.proof p (rs.getD p 0)
      if (s.panel p).enable && !(s.panel p).fault then
        j.foldl (fun (s : State) (r : Rect) => s.recoverRect p r) (s.onPanel p fun q => { q with journal := [] })
      else s) s

/-! ### Frames (R432) -/

/-- R432, R434, R438, R461: the engine drives panels: in RUN, with a table, and no power-fail warning stands. -/
def State.displayOn (s : State) : Bool := s.pw.state == 0 && s.ds.waveOk && s.en.warnAt.isNone

/-- R435, R438, R442: a rectangle has had its last frame. -/
def State.rectDone (s : State) (p : Nat) (r : Rect) : State :=
  let q := s.panel p
  let band := if q.ntcBad then 3 else q.band
  let s := State.onPanel { s with ds := { s.ds with rects := satU 32 (s.ds.rects + 1) } } p fun q =>
    { q with flight := q.flight.erase r, journal := q.journal.erase r.entry }
  let s := if r.band + 1 < band || band + 1 < r.band then
      State.evDs ({ s with ds := { s.ds with corrective := satU 16 (s.ds.corrective + 1) } }.onPanel p fun q =>
        q.enqueue { r.entry with cls := 0, corr := true, pixels := r.pixels }) p 0xA002 (leBytes 1 r.band ++ leBytes 1 band ++ leBytes 2 r.x ++ leBytes 2 r.y)
    else s
  r.tickets.foldl (fun (s : State) (tk : Nat) => s.onTicket tk 0x0801 fun t => s.complete t St.ok) s

/-- R432: one frame of a panel. -/
def State.panelFrame (s : State) (p : Nat) : State :=
  let q := s.panel p
  if !q.enable || q.fault then s
  else
    let s := s.onPanel p fun q => q.start q.queue
    let s := s.onPanel p fun q => { q with flight := q.flight.map fun (r : Rect) => { r with frame := r.frame + 1 } }
    ((s.panel p).flight.filter fun r => decide (s.waveFrames r.mode r.band ≤ r.frame)).foldl (fun (s : State) (r : Rect) => s.rectDone p r) s

/-- R432, R433, R439: a frame, every 11.765 ms; proof cycles that are due run before it, with the results given. -/
def execDisplayFrame (results : List Nat) (s : State) : Out :=
  fin s (
    if !(s.pw.state == 0 && s.en.warnAt.isNone) || (match s.ds.frameAt with | some t => decide (s.now < t + 11764705) | none => false) then s
    else
      let s : State := { s with ds := { s.ds with frameAt := some s.now } }
      let s := s.proveDue results
      if !s.displayOn then s
      else
        let old := s.ds.panels.any fun q => !q.flight.isEmpty
        let s := (List.range 4).foldl (fun (s : State) (p : Nat) => s.panelFrame p) s
        let now := s.ds.panels.any fun q => !q.flight.isEmpty
        if now then { s with ds := { s.ds with railsOn := true, railsOff := none } }
        else if old || (s.ds.railsOn && s.ds.railsOff.isNone) then { s with ds := { s.ds with railsOff := some (s.now + ms 100) } }
        else s)

/-- R433: 100 ms after the last rectangle the rails are lowered. -/
def execRailOffDelay (s : State) : Out :=
  fin s (match s.ds.railsOff with
    | some t => if t ≤ s.now then { s with ds := { s.ds with railsOn := false, railsOff := none } } else s
    | none => s)

/-- R433, R438: a power-fail warning stops the engine and lowers the rails; the journal stays. -/
def State.displayStops (s : State) : State := { s with ds := { s.ds with railsOn := false, railsOff := none } }

/-- R435, R443: a panel's NTC is read, in 0.1 °C, or found missing. -/
def execNtcRead (p : Nat) (temp : Option Int) (s : State) : Out :=
  fin s (
    if 3 < p then s
    else match temp with
      | some t => s.onPanel p fun q => { q with temp := t, band := s.bandOf t, ntcBad := false }
      | none =>
        let t := s.onPanel p fun q => { q with temp := -32768, ntcBad := true }
        if (s.panel p).ntcBad || !(s.panel p).enable then t else t.evDs p 0xA001 (leBytes 1 2 ++ leBytes 1 0xFF))

/-- R437: a lane's legal field is redrawn when what it shows has changed, at most once per 1 s, and at each record closing. -/
def execLegalFieldRedraw (n : Nat) (s : State) : Out :=
  fin s (
    let p := (s.slot n).panel
    if 3 < p || !(s.typ n).isLane || s.pw.state != 0 then s
    else
      let q := s.panel p
      let old := (q.fields.find? fun x => x.1 == n).map (·.2)
      let closed := match old with | some b => sub b 19 1 != sub (s.fieldValues n) 19 1 | none => true
      let due := match q.drawnAt.find? fun x => x.1 == n with | some x => decide (x.2 + sec 1 ≤ s.now) | none => true
      if old != some (s.fieldValues n) && (due || closed) then s.renderField p n else s)

/-- R440: every 10 s the CRC-32 found over the legal fields of a panel is compared with that of the rendering. -/
def execFrameCrcCheck (p found : Nat) (s : State) : Out :=
  fin s (
    let q := s.panel p
    if 3 < p || !q.enable || s.pw.state != 0 || s.now < q.crcAt + sec 10 then s
    else
      let want := Config.fieldsCrc q.fields % 2 ^ 32
      if found = want then s.onPanel p fun q => { q with crcAt := s.now, crcMiss := 0 }
      else
        let s := State.onPanel { s with ds := { s.ds with crcFail := satU 16 (s.ds.crcFail + 1) } } p fun q =>
          { q with crcAt := s.now, crcMiss := min 2 (q.crcMiss + 1) }
        let s := q.fields.foldl (fun (s : State) (x : Nat × Bytes) => s.renderField p x.1) s
        let s := s.evDs p 0xA004 (leBytes 4 want ++ leBytes 4 found)
        if q.crcMiss = 1 then s.evDs p 0xA001 (leBytes 1 1 ++ leBytes 1 0xFF) else s)

/-! ### Requests (R442) -/

/-- R436, R437, R442: DS_DRAW. -/
def execDsDraw (tk : Nat) (s : State) : Out :=
  fin s (s.onTicket tk 0x0801 fun t =>
    let p := t.u 0 1
    let q := s.panel p
    let r : Rect := { x := t.u 1 2, y := t.u 3 2, w := t.u 5 2, h := t.u 7 2, mode := t.u 9 1, cls := 2, tickets := [tk], pixels := t.rest 10 }
    if q.queue.any (fun o => o.tickets.contains tk) || q.flight.any (fun o => o.tickets.contains tk) then s
    else if 3 < p then s.complete t St.badArgument
    else if !q.enable then s.complete t St.notSupported
    else if r.x % 8 != 0 || r.w % 8 != 0 || r.w = 0 || r.h = 0 || q.width < r.x + r.w || q.height < r.y + r.h || !s.hasMode r.mode ||
        r.pixels.length != r.w * r.h / 2 || 65536 < r.pixels.length || (s.fields p).any (fun x => x.2.meets r) then s.complete t St.badArgument
    else if q.fault then s.complete t St.refusedState
    else if 32 ≤ q.queue.length && !q.queue.any (fun o => o.cls == 2 && o.sameArea r) then s.complete t St.busy
    else s.onPanel p fun q => { q.enqueue r with frameMem := { r with tickets := [] } :: q.frameMem.filter fun o => !r.covers o })

/-- R434, R442: DS_WAVE_LOAD: the table of a complete transfer, its CRC-32 in its last 4 bytes, takes the place of the one in force. -/
def execDsWaveLoad (tk : Nat) (s : State) : Out :=
  fin s (s.onTicket tk 0x0802 fun t =>
    match s.xfer (t.u 0 4) with
    | none => s.complete t St.badArgument
    | some x =>
      if x.kind != 4 || !x.complete then s.complete t St.badArgument
      else if s.ds.panels.any fun q => !q.flight.isEmpty then s.complete t St.refusedState
      else
        let b := x.bytes
        let body := b.take (b.length - 4)
        let crc := leNat (b.drop (b.length - 4))
        let cnt := (List.range 128).map fun i => min 256 ((Config.waveCounts body).getD i 0)
        let modes := maskOf ((List.range 16).filter fun m => (List.range 8).all fun k => cnt.getD (8 * m + k) 0 != 0)
        if b.length < 4 || crc != crc32 body || !bit modes 0 then s.complete t St.checkFailed
        else
          let s : State := { s with ds := { s.ds with waveOk := true, waveCrc := crc, waveModes := modes, waveCnt := cnt,
                                                      waveBnd := (Config.waveBounds body).take 7, waveBody := body } }
          (s.consumeXfer x.num).complete t St.ok (leBytes 4 crc))

/-- R441, R442: DS_PROOF with the results of the proof cycle, panel by panel. -/
def execDsProof (tk : Nat) (results : List Nat) (s : State) : Out :=
  fin s (s.onTicket tk 0x0803 fun t =>
    let p := t.u 0 1
    let ps := if p = 0xFF then (List.range 4).filter fun k => (s.panel k).cfgEnable else [p]
    if 3 < p && p != 0xFF then s.complete t St.badArgument
    else if p != 0xFF && !(s.panel p).cfgEnable then s.complete t St.notSupported
    else if ps.any fun k => !(s.panel k).flight.isEmpty then s.complete t St.busy
    else
      let rs := sharedResults (ps.map fun k => min 3 (results.getD k 0))
      let s := (ps.zip rs).foldl (fun (s : State) (x : Nat × Nat) => s.proof x.1 x.2) s
      s.complete t St.ok (rs.flatMap (leBytes 1)))

/-! ### Registers (R444) -/

/-- DS_STATUS. -/
def State.dsStatus (s : State) : Nat :=
  regOf [(0, 4, maskOf ((List.range 4).filter fun p => (s.panel p).fault)), (4, 1, b2n s.ds.railsOn),
    (5, 1, b2n (s.ds.panels.any fun q => q.cfgEnable && q.needProof)), (6, 1, b2n s.ds.waveOk),
    (8, 8, ((s.ds.panels.filter fun q => q.needProof).map fun q => q.journal.length).sum)]

/-- DS_WAVE. -/
def State.dsWave (s : State) : Nat := regOf [(0, 32, s.ds.waveCrc), (32, 16, s.ds.waveModes)]

/-- DS_PANELp. -/
def State.dsPanel (s : State) (p : Nat) : Nat :=
  let q := s.panel p
  regOf [(0, 11, q.cfgWidth), (11, 10, q.cfgHeight), (21, 1, b2n q.cfgEnable), (24, 8, q.cfgVcom), (32, 3, if q.ntcBad then 3 else q.band),
    (36, 4, q.flight.length), (40, 8, q.queue.length), (48, 16, toBits 16 q.temp)]

/-- A write of DS_PANELp: it takes effect at the next proof cycle. A width that is no multiple of 8, and values beyond the largest panel,
are cut. -/
def State.writeDsPanel (s : State) (p v : Nat) : State :=
  s.onPanel p fun q => { q with cfgWidth := min 1024 (fieldOf v 0 11 / 8 * 8), cfgHeight := min 768 (fieldOf v 11 10), cfgEnable := flagOf v 21,
                                cfgVcom := fieldOf v 24 8 }

/-- DS_COUNT. -/
def State.dsCount (s : State) : Nat := regOf [(0, 32, s.ds.rects), (32, 16, s.ds.corrective), (48, 16, s.ds.crcFail)]

/-- A write of DS_COUNT. -/
def State.writeDsCount (s : State) (v : Nat) : State :=
  { s with ds := { s.ds with rects := onesClear s.ds.rects v 0 32, corrective := onesClear s.ds.corrective v 32 16,
                             crcFail := onesClear s.ds.crcFail v 48 16 } }

/-- R442: DS_READ. -/
def execDsRead (tk : Nat) (s : State) : Out :=
  fin s (s.onTicket tk 0x0804 fun t => s.complete t St.ok
    (([s.dsStatus, s.dsWave, s.ds.unshown] ++ (List.range 4).map s.dsPanel ++ [s.dsCount]).flatMap regBytes))

end Sys2Proof.Machine
end

