-- ==== Sys2Proof/Machine/Memory.lean ====
section
/-! DEFINITION. Memory.lean: the burnish passes, memory errors and their effects, and the memory requests and registers (R445-R460). -/
namespace Sys2Proof.Machine

/-! ### Errors (R445, R452, R454, R456) -/

/-- R459: a corrected error counts; MEM_CORRECTED at most once per memory per second. -/
def State.memCorrected (s : State) (side mem offset : Nat) : State :=
  let m := s.mms side
  let n := m.ceSince.getD mem 0 + 1
  let told := match m.ceAt.getD mem none with | some t => decide (s.now < t + sec 1) | none => false
  let s := s.onMms side fun m => { m with ceSince := m.ceSince.set mem (if told then n else 0), ceAt := if told then m.ceAt else m.ceAt.set mem (some s.now) }
  if told then s
  else s.evMod .diag (if mem = 4 then 13 else side) mem 0x8001 (leBytes 1 mem ++ leBytes 2 (satU 16 n) ++ leBytes 4 offset)

/-- R460: the counters of corrections. -/
def State.countCorrected (s : State) (side mem : Nat) : State :=
  if mem = 4 then { s with mm := { s.mm with mramCe := satU 16 (s.mm.mramCe + 1) } }
  else s.onMms side fun m =>
    if mem < 3 then { m with sramCe := satU 16 (m.sramCe + 1) }
    else if mem = 3 then { m with dramCe := satU 16 (m.dramCe + 1) }
    else { m with norRetry := satU 16 (m.norRetry + 1) }

/-- R456: an uncorrectable error in the MRAM: in an account cell, a register copy or a journal record it acts through their own checks;
anywhere else it is reported. -/
def State.mramUe (s : State) (side offset : Nat) : State :=
  let s : State := { s with mm := { s.mm with mramUe := satU 16 (s.mm.mramUe + 1) } }
  let last (s : State) : State := { s with mm := { s.mm with ueMem := 4, ueSide := 0, ueOffset := offset } }
  if offset < 0x3000000 then last (s.putCell (offset / 48) { s.cell (offset / 48) with crcOk := false })
  else if 0x3780000 ≤ offset && offset < 0x37A0000 then last { s with en := { s.en with copyA := { s.en.copyA with crcOk := false } } }
  else if 0x37A0000 ≤ offset && offset < 0x37C0000 then last { s with en := { s.en with copyB := { s.en.copyB with crcOk := false } } }
  else if 0x3800000 ≤ offset && offset < 0x3E00000 then
    match s.seqr.journal.find? fun r => r.seq % journalDepth == (offset - 0x3800000) / 32 with
    | some r => (last s).ask (.lose r.seq)
    | none => last s
  else s.memUe side 4 offset 2

/-- R452, R454, R456: what an error of a memory of a side brings about. -/
def State.memError (s : State) (side : Nat) (e : MemErr) : State :=
  if e.corrected then (s.countCorrected side e.mem).memCorrected side e.mem e.offset
  else if e.mem < 3 then (s.memUe side e.mem e.offset 0).sideFault side 3
  else if e.mem = 4 then s.mramUe side e.offset
  else if e.mem = 3 then
    match e.region with
    | 1 => { s.memUe side 3 e.offset 1 with ac := { s.ac with rebuild := if side = s.rd.active then some s.now else s.ac.rebuild } }
    | 2 =>
      if side = s.rd.active then
        (List.range 4).foldl (fun (s : State) (p : Nat) => (s.panel p).fields.foldl (fun (s : State) (x : Nat × Bytes) => s.renderField p x.1) s)
          (s.memUe side 3 e.offset 1)
      else s.memUe side 3 e.offset 1
    | _ => (s.memUe side 3 e.offset 0).sideFault side 7
  else s.memUe side 5 e.offset 2

/-! ### Burnish (R448-R450) -/

/-- R448: regions of an SRAM. -/
def burnRegions (mem : Nat) : Nat := [16384, 2048, 1024].getD mem 1

/-- R448, R460: the region of an SRAM in test. -/
def MmSide.region (m : MmSide) (mem : Nat) : Nat := [m.work, m.plate, m.safety].getD mem 0

/-- R448, R460: the next region of an SRAM comes into test. -/
def MmSide.nextRegion (m : MmSide) (mem : Nat) : MmSide :=
  let r := (m.region mem + 1) % burnRegions mem
  match mem with
  | 0 => { m with work := r, passes := if r = 0 then satU 16 (m.passes + 1) else m.passes }
  | 1 => { m with plate := r }
  | _ => { m with safety := r }

/-- R447, R448, R461: an SRAM of a side is powered and not in retention. -/
def State.sramOn (s : State) (side mem : Nat) : Bool :=
  if side = s.rd.active then decide (s.pw.state ≤ 1) || (s.pw.state == 2 && mem != 0)
  else s.twin && side == 1 - s.rd.active && decide (s.pw.state ≤ 1) && decide (2 ≤ s.rd.standby) && s.rd.standby != 5

/-- R446, R448-R450: a burnish engine ends the test of a region: `errs` are the errors found meanwhile, `late` that it took more than
1 ms, `fail` the March element that failed, `waits` the longest waits of the clusters' DMA engines in µs since. -/
def execBurnishRegion (side mem : Nat) (errs : List MemErr) (late : Bool) (fail : Option Nat) (waits : List Nat) (s : State) : Out :=
  fin s (
    if 2 < mem || !s.sramOn side mem || (match (s.mms side).burnAt.getD mem none with | some t => decide (s.now < t + ms 1) | none => false) then s
    else
      let r := (s.mms side).region mem
      let s := s.onMms side fun m =>
        if late then { m with burnLate := satU 16 (m.burnLate + 1), burnAt := m.burnAt.set mem (some s.now) }
        else { m.nextRegion mem with burnAt := m.burnAt.set mem (some s.now) }
      let s : State := { s with mm := { s.mm with stalls := (List.range 8).map fun c => satU 8 (max (s.mm.stalls.getD c 0) (waits.getD c 0)) } }
      let s := errs.foldl (fun (s : State) (e : MemErr) => s.memError side e) s
      match fail with
      | some k => (s.evMod .diag side mem 0x8003 (leBytes 1 mem ++ leBytes 2 r ++ leBytes 1 k)).sideFault side 3
      | none => s)

/-- R452: the affected buckets of the credential index have been rebuilt from NOR. -/
def execCredentialIndexRebuild (s : State) : Out := fin s { s with ac := { s.ac with rebuild := none } }

/-- R451: the temperature register of a side's LPDDR-4X crosses 85 °C. -/
def execDramHot (side : Nat) (hot : Bool) (s : State) : Out := fin s (if side = 1 && !s.twin then s else s.onMms side fun m => { m with hot := hot })

/-! ### Registers and requests (R458, R460) -/

/-- MM_STATUS. -/
def State.mmStatus (s : State) : Nat :=
  let a := s.mms 0
  let b := if s.twin then s.mms 1 else {}
  regOf [(0, 1, b2n a.dramOk), (1, 1, b2n b.dramOk), (2, 1, b2n a.norOk), (3, 1, b2n b.norOk), (4, 2, a.size), (6, 2, b.size), (8, 1, b2n a.hot),
    (9, 1, b2n b.hot)]

/-- MM_BURNISH_A, MM_BURNISH_B. -/
def State.mmBurnish (s : State) (side : Nat) : Nat :=
  let m := if side = 1 && !s.twin then {} else s.mms side
  regOf [(0, 14, m.work), (16, 11, m.plate), (32, 10, m.safety), (48, 16, m.passes)]

/-- MM_ECC_A, MM_ECC_B. -/
def State.mmEcc (s : State) (side : Nat) : Nat :=
  let m := if side = 1 && !s.twin then {} else s.mms side
  regOf [(0, 16, m.sramCe), (16, 16, m.dramCe), (32, 16, m.norRetry), (48, 16, m.burnLate)]

/-- A write of MM_ECC_A or MM_ECC_B. -/
def State.writeMmEcc (s : State) (side v : Nat) : State :=
  s.onMms side fun m => { m with sramCe := onesClear m.sramCe v 0 16, dramCe := onesClear m.dramCe v 16 16, norRetry := onesClear m.norRetry v 32 16,
                                 burnLate := onesClear m.burnLate v 48 16 }

/-- MM_MRAM. -/
def State.mmMram (s : State) : Nat := regOf [(0, 16, s.mm.mramCe), (16, 16, s.mm.mramUe), (32, 16, s.mm.refused)]

/-- A write of MM_MRAM. -/
def State.writeMmMram (s : State) (v : Nat) : State :=
  { s with mm := { s.mm with mramCe := onesClear s.mm.mramCe v 0 16, mramUe := onesClear s.mm.mramUe v 16 16, refused := onesClear s.mm.refused v 32 16 } }

/-- MM_DMA. -/
def State.mmDma (s : State) : Nat := regOf ((List.range 8).map fun c => (8 * c, 8, s.mm.stalls.getD c 0))
/-- MM_LAST_UE. -/
def State.mmLastUe (s : State) : Nat := regOf [(0, 3, s.mm.ueMem), (3, 1, s.mm.ueSide), (16, 32, s.mm.ueOffset)]

/-- R458: MM_READ. -/
def execMmRead (tk : Nat) (s : State) : Out :=
  fin s (s.onTicket tk 0x0F20 fun t => s.complete t St.ok
    ([s.mmStatus, s.mmBurnish 0, s.mmBurnish 1, s.mmEcc 0, s.mmEcc 1, s.mmMram, s.mmDma, s.mmLastUe].flatMap regBytes))

/-- R458: MM_COUNT_CLEAR. -/
def execMmCountClear (tk : Nat) (s : State) : Out :=
  fin s (s.onTicket tk 0x0F21 fun t =>
    { s with mm := { s.mm with mramCe := 0, mramUe := 0, refused := 0, stalls := List.replicate 8 0,
                               sides := s.mm.sides.map fun (m : MmSide) => { m with sramCe := 0, dramCe := 0, norRetry := 0, burnLate := 0 } } }.complete t St.ok)

end Sys2Proof.Machine
end

