-- ==== Sys2Proof/Machine/Acceptance.lean ====
section
/-! DEFINITION. Acceptance.lean: what the acceptance of a request checks beside its form, opcode, role and the ticket limit (R70): the variant
(R4) and the BUSY conditions the chapters name. -/
namespace Sys2Proof.Machine

/-- R4, R70: a request to a unit the fitted variant lacks: the tag reader and Side B on the YG6416-SX, a full calendar on either SX variant. -/
def State.variantLacks (s : State) (op : Nat) (arg : Bytes) : Bool :=
  (!s.twin && ((decide (0x0901 ≤ op) && decide (op ≤ 0x0904)) || (decide (0x0D02 ≤ op) && decide (op ≤ 0x0D04)))) ||
    (op == 0x0560 && s.ident.variant != .fx && arg.length == 1272 && sub arg 4 4 == [0x59, 0x47, 0x43, 0x4C] && leNat (sub arg 8 1) == 1)

/-- R70: the BUSY condition that its owning chapter names for a request (R47, R101, R194, R208, R271, R290, R354, R412, R428, R437, R441, R473,
R483). -/
def State.busyAt (s : State) (op : Nat) (arg : Bytes) : Bool :=
  let u (off k : Nat) : Nat := leNat (sub arg off k)
  if (0x0201 ≤ op ∧ op ≤ 0x0209) ∨ op = 0x0401 then decide (u 0 1 < s.nLanes) && s.isPending (u 0 1)
  else if op = 0x0101 ∨ op = 0x0102 ∨ op = 0x0103 ∨ op = 0x0105 then s.mx.job.isSome
  else if op = 0x0F11 then decide (u 0 1 < 16) && (s.efg (u 0 1)).state != Iso.idle && ((s.efg (u 0 1)).testing || s.windowOpen (u 0 1))
  else if op = 0x0C03 ∨ op = 0x0C04 then s.pwLocked
  else if op = 0x0E03 then u 0 1 != 0xFF && (s.cfg.output (u 0 1)).isSome && s.laneHolds (u 0 1)
  else if op = 0x0A05 then s.kz.master && s.kz.dist.isSome
  else if op = 0x0902 then s.tg.write.isSome
  else if op = 0x0801 then
    let q := s.panel (u 0 1)
    decide (u 0 1 < 4) && q.enable && !q.fault && decide (32 ≤ q.queue.length) &&
      !q.queue.any fun o => o.cls == 2 && o.sameArea { x := u 1 2, y := u 3 2, w := u 5 2, h := u 7 2 }
  else if op = 0x0803 then
    (List.range 4).any fun k => (u 0 1 == k || (u 0 1 == 0xFF && (s.panel k).cfgEnable)) && !(s.panel k).flight.isEmpty
  else if op = 0x0701 then s.openRefusal (u 0 1) (u 1 4) == St.busy
  else if op = 0x0704 then match s.xfer (u 0 4) with | some x => x.inUse | none => false
  else if op = 0x0504 ∨ op = 0x0508 ∨ op = 0x0509 then s.bulkRuns
  else if op = 0x0501 then s.bulkRuns || s.applying || s.up.xfers.any fun x => decide (x.kind < 2)
  else false

end Sys2Proof.Machine
end

