-- ==== Sys2Proof/Machine/PowerOps.lean ====
section
/-! DEFINITION. PowerOps.lean: what commands of other chapters do to the power state: an entry aborted, a wake (R461-R470). -/
namespace Sys2Proof.Machine

/-- R470: POWER_STATE: the new state, the old state and who requested it. -/
def powerStateData (new old src : Nat) : Bytes := leBytes 1 new ++ leBytes 1 old ++ leBytes 1 src

/-- R463: one more entry refused by every refuser of a mask. -/
def Pw.refusedBy (p : Pw) (mask : Nat) : Pw :=
  { p with refusedN := (List.range 16).map fun k => let c := p.refusedN.getD k 0; if bit mask k then satU 16 (c + 1) else c }

/-- R463, R464: one more entry aborted by every refuser of a mask. -/
def Pw.abortedBy (p : Pw) (mask : Nat) : Pw :=
  { p with abortedN := (List.range 16).map fun k => let c := p.abortedN.getD k 0; if bit mask k then satU 16 (c + 1) else c }

/-- R464, R470: POWER_REFUSED. -/
def State.evRefused (s : State) (target mask : Nat) (aborted : Bool) : State :=
  s.evMod .diag s.rd.active 0 0x5002 (leBytes 1 target ++ leBytes 2 mask ++ leBytes 1 (b2n aborted))

/-- R464: the entry in progress is aborted in its quiet window; its request completes with the aborted flag. -/
def State.entryAborts (s : State) (e : PwEntry) (mask : Nat) : State :=
  let s : State := { s with pw := { s.pw.abortedBy mask with entry := none } }
  let s := s.evRefused e.target mask true
  match e.ticket with
  | some tk => s.onTicket tk 0x0B01 fun t => s.complete t St.refusedState (leBytes 2 mask ++ leBytes 1 1)
  | none => s

/-- R465: WAKE_EN of a source. -/
def State.wakeEnabled (s : State) (src : Nat) : Bool := 1 ≤ src && src ≤ 5 && bit s.pw.wakeEn (src - 1)

/-- R463: the refuser a wake source is counted against. -/
def wakeRefuser (src : Nat) : Nat :=
  if src = 3 then 0 else if src = 4 then 3 else if src ≤ 2 then 6 else 7

/-- R236, R246: a cover opening latched outside RUN is raised at the entry into RUN, with its legal time. -/
def State.raiseCover (s : State) : State :=
  match s.en.coverPend with
  | some lt => { s with en := { s.en with coverPend := none, coverOpen := true } }.evCover true lt 0x10
  | none => s

/-- R465, R466, R470: the latency of a wake in µs: open within the greatest of R466 (log entry 1). -/
def State.wakeLatency (s : State) : Nat := s.free 16 % (if s.pw.state = 2 then 201 else 1001)

/-- R466, R470: a wake returns the module from PARK or DOZE to RUN; the standby side boots after DOZE (R300). `src` 0 is a request for
RUN without a wake source. -/
def State.wakes (s : State) (src lane : Nat) (who : Nat := 2) : State :=
  let old := s.pw.state
  let us := s.wakeLatency
  let s : State := { s with pw := { s.pw with state := 0, runAt := s.now, lastWake := if src = 0 then s.pw.lastWake else src,
                                              wakeUs := if src = 0 then s.pw.wakeUs else us } }
  let s := s.evMod .diag s.rd.active 0 0x5001 (powerStateData 0 old who)
  let e : Ev := { cls := .external, die := s.rd.active, unit := 0, lane := lane, code := 0x5003,
                  data := leBytes 1 src ++ leBytes 1 old ++ leBytes 4 us, time := s.now }
  let s := if src = 0 then s else (s.raise e).drawn
  let s : State := if old = 2 then { s with rs := s.rs.sideClock s.rd.active true } else s
  let s := if old = 2 && s.twin then s.setStandby 2 0 0 else s
  s.raiseCover

/-- R463-R465: an enabled wake source fires: it aborts an entry in its quiet window, or wakes the module from a state it can leave. -/
def State.sourceFires (s : State) (src lane : Nat) : State :=
  if !s.wakeEnabled src then s
  else match s.pw.entry with
    | some e => s.entryAborts e (2 ^ wakeRefuser src)
    | none => if (s.pw.state = 1) || (s.pw.state = 2 && src != 1) then s.wakes src lane else s

end Sys2Proof.Machine
end

