-- ==== Sys2Proof/Machine/Host.lean ====
section
/-! DEFINITION. Host.lean: the host ports: discovery, binding, sessions, requests, keepalive, the event stream and HP2 (R57-R82). -/
namespace Sys2Proof.Machine

/-! ### Ports and frames -/

/-- R62, R521, R464: the active side serves the host ports: start-up is complete and the module is in RUN or PARK, its pads not held
(R467). -/
def State.hostOn (s : State) : Bool := s.rs.phase == 7 && decide (s.pw.state ≤ 1) && !bit s.pw.held 0

/-- R59, R60, R82: a frame or transaction dropped for form, type or counter counts. -/
def Port.addDropped (q : Port) : Port := { q with dropped := satU 16 (q.dropped + 1) }
/-- R60, R82: a frame with a failed trailer counts. -/
def Port.addAuthFail (q : Port) : Port := { q with authFail := satU 16 (q.authFail + 1) }

/-- The module sends a frame that carries the SESSION of a bind (CHALLENGE, a failing BOUND); its COUNTER is open (log entry 1). -/
def State.sendProposed (s : State) (p typ sid : Nat) (payload : Bytes) : State :=
  (s.onPort p fun q =>
    { q with outbox := q.outbox ++ [{ typ := typ, session := sid, counter := s.free 64, payload := payload }] }).drawn

/-- R59-R61: the frame of a type that a command brings: on HP2 the oldest of the inbound buffer, when it is of that type. -/
def State.frameOf (s : State) (p typ : Nat) (f : HostFrame) : Option HostFrame :=
  if p = 2 then
    match (s.port 2).inbox with
    | g :: _ => if g.typ == typ then some { sid := g.session, counter := g.counter, payload := g.payload } else none
    | [] => none
  else if p < 2 then some f
  else none

/-- The state once that frame has been taken. -/
def State.frameTaken (s : State) (p : Nat) : State :=
  if p = 2 then s.onPort 2 fun q => { q with inbox := q.inbox.drop 1 } else s

/-- A frame arrives: its form and trailer are checked (R59, R60). -/
def State.hostFrame (s : State) (p typ : Nat) (f : HostFrame) (k : State → HostFrame → State) : State :=
  if !s.hostOn then s
  else match s.frameOf p typ f with
    | none => s
    | some g =>
      let s := s.frameTaken p
      if !g.form then s.onPort p Port.addDropped else if !g.ok then s.onPort p Port.addAuthFail else k s g

/-- R60: a counter is above the window, or in it and not yet accepted. -/
def Session.fresh (c : Session) (k : Nat) : Bool :=
  decide (0 < k) && (decide (c.rxHigh < k) || (decide (c.rxHigh < k + 64) && !c.rxWindow.contains k))

/-- R60, R67: the counter of an accepted frame. -/
def Session.accept (c : Session) (k now : Nat) : Session :=
  let h := max c.rxHigh k
  { c with rxHigh := h, rxWindow := (k :: c.rxWindow).filter fun x => decide (h < x + 64), lastRx := now }

/-- R60, R67: a frame of a session is accepted or dropped. -/
def State.sessFrame (s : State) (p typ : Nat) (f : HostFrame) (k : State → Session → Bytes → State) : State :=
  s.hostFrame p typ f fun s g =>
    match (s.port p).session with
    | none => s.onPort p Port.addDropped
    | some c =>
      if c.sid != g.sid || !c.fresh g.counter then s.onPort p Port.addDropped
      else k (s.onSess p fun c => c.accept g.counter s.now) (c.accept g.counter s.now) g.payload

/-! ### Discovery (R62) -/

/-- R62: the content of HELLO. -/
def State.helloBody (s : State) (p : Nat) : Bytes :=
  leBytes 8 s.ident.eui64 ++ leBytes 2 0x6440 ++ leBytes 2 s.ident.variant.code ++ leBytes 1 p ++ leBytes 1 s.rd.active ++ leBytes 8 s.seqr.seqLast

/-- R82: the IPv4 word of a port as written. -/
def Port.ip4 (q : Port) : Nat := regOf [(0, 32, q.ip4Addr), (32, 6, q.ip4Prefix), (38, 1, b2n q.ip4Enable)]

/-- R62: HELLO is due on a port without a session; on HP2 only the latest HELLO is kept. -/
def execHello (p : Nat) (s : State) : Out :=
  fin s (
    let q := s.port p
    if 2 < p || !s.hostOn || q.session.isSome || !(q.helloAt == 0 || decide (q.helloAt + ms 990 ≤ s.now)) then s
    else
      let s := s.onPort p fun q => { q with helloAt := s.now, ip4Used := q.ip4 }
      if p = 2 then (s.onPort 2 fun q => { q with outbox := q.outbox.filter fun f => f.typ != 1 }).sendBare 2 1 0 (s.helloBody 2)
      else
        let t := s.sendBare p 1 1 (s.helloBody p)
        if flagOf q.ip4 38 then t.sendBare p 1 2 (s.helloBody p) else t)

/-! ### The end of a session (R64, R67) -/

/-- R67: what waits for tickets that end ABORTED is dropped: their requests have no effect (R79). -/
def State.dropWaits (s : State) (ids : List Nat) : State :=
  let gone := fun (t : Nat) => ids.contains t
  let goneO : Option Nat → Bool := fun t => match t with | some x => ids.contains x | none => false
  let bulkGone := match s.ac.bulk with | some b => gone b.ticket && !b.committed | none => false
  let bulkXfer := match s.ac.bulk with | some b => if bulkGone then b.xfer else 0 | none => 0
  let jobGone := match s.mx.job with | some j => gone j.ticket | none => false
  let jobXfer := match s.mx.job with | some j => if jobGone then j.xfer.getD 0 else 0 | none => 0
  let kzGone := match s.kz.bindTk with | some (t, _, _) => gone t | none => false
  let s : State :=
    { s with ps := { s.ps with roundTickets := s.ps.roundTickets.filter fun t => !gone t, hubTickets := s.ps.hubTickets.filter fun t => !gone t },
             ef := { s.ef with groups := s.ef.groups.map fun g => { g with testTicket := if goneO g.testTicket then none else g.testTicket } },
             rd := { s.rd with restartTk := match s.rd.restartTk with | some (t, e) => if gone t then none else some (t, e) | none => none,
                               swap := match s.rd.swap with
                                 | some w => if goneO w.ticket && w.drainEnd.isNone then none else some w
                                 | none => none },
             kz := { s.kz with bindTk := if kzGone then none else s.kz.bindTk,
                               dist := match s.kz.dist with | some d => if gone d.ticket then none else some d | none => none,
                               txs := s.kz.txs.map fun x => { x with bind := x.bind && !kzGone } },
             tg := { s.tg with write := match s.tg.write with | some w => if gone w.ticket then none else some w | none => none,
                               inv := s.tg.inv.filter fun i => !gone i.ticket },
             ds := { s.ds with panels := s.ds.panels.map fun (p : Panel) =>
               { p with queue := (p.queue.filter fun r => r.tickets.isEmpty || r.tickets.any fun t => !gone t).map fun (r : Rect) =>
                                   { r with tickets := r.tickets.filter fun t => !gone t },
                        flight := p.flight.map fun (r : Rect) => { r with tickets := r.tickets.filter fun t => !gone t } } },
             pw := { s.pw with entry := match s.pw.entry with | some e => if goneO e.ticket then none else some e | none => none },
             up := { s.up with sides := s.up.sides.map fun (x : UpSide) => { x with ticket := if goneO x.ticket then none else x.ticket },
                               xfers := s.up.xfers.map fun (x : Xfer) =>
                                 { x with inUse := x.inUse && !(x.num != 0 && (x.num == bulkXfer || x.num == jobXfer)) } },
             ac := { s.ac with bulk := if bulkGone then none else s.ac.bulk } }
  if jobGone then s.unpend else s

/-- R67: a session on a port ends, with the event of its end, and the last supervising session takes its policies with it (R68). -/
def State.endHost (s : State) (p code : Nat) : State :=
  match (s.port p).session with
  | none => s
  | some c =>
    let s := s.dropWaits (c.outstanding.map fun (x : Ticket) => x.id)
    let s := s.onPort p fun q => { q with session := none }
    let s := s.evMod .host s.rd.active p code (leBytes 1 p ++ leBytes 1 c.role.code ++ leBytes 2 c.outstanding.length)
    if (c.role == .operator || c.role == .admin) && !s.supervised then
      let count := fun (k : Nat) => ((List.range 64).filter fun n => (s.typ n).charges && s.policyOf n == k).length
      (s.evMod .host s.rd.active p 0x7005 ((List.range 4).flatMap fun k => leBytes 1 (count k))).hostLossStart
    else s

/-- R67: no valid frame for 3.0 s. -/
def execHostLost (p : Nat) (s : State) : Out :=
  fin s (match (s.port p).session with
    | some c =>
      if c.lastRx + sec 3 ≤ s.now then (s.onPort p fun q => { q with lost := satU 16 (q.lost + 1) }).endHost p 0x7002 else s
    | none => s)

/-- R67: CLOSE from the host. -/
def execClose (p : Nat) (f : HostFrame) (s : State) : Out :=
  fin s (s.sessFrame p 0x30 f fun s _ _ => s.endHost p 0x7003)

/-- R464: the module closes every bound session. -/
def State.closeAll (s : State) : State :=
  (List.range 3).foldl (fun (s : State) p => ((s.sendFrame p 0x30 []).endHost p 0x7003)) s

/-! ### Binding (R63-R65) -/

/-- R63: the content of BOUND; SESSION and SERIAL_START of a bind that fails are open (log entry 1). -/
def State.boundBody (s : State) (status role sid serial : Nat) : Bytes :=
  leBytes 2 status ++ leBytes 1 role ++ leBytes 1 0 ++ leBytes 4 sid ++ leBytes 4 serial ++ leBytes 8 s.seqAsked ++ leBytes 8 s.ident.eui64

/-- R64, R65: BOUND answers a bind that does not succeed. -/
def State.bindAnswer (s : State) (p status role : Nat) : State :=
  (s.sendProposed p 5 (s.free 32) (s.boundBody status role (s.free 32) (s.free 64 / 2 ^ 32)))

/-- R65: a bind fails: it is answered, counted and reported; five within 60 s lock the port's binds. -/
def State.bindFails (s : State) (p role : Nat) : State :=
  let l := s.now :: ((s.port p).fails.filter fun t => decide (s.now < t + sec 60))
  let s := s.onPort p fun q => { q with bind := none, bindFail := satU 16 (q.bindFail + 1), fails := if 5 ≤ l.length then [] else l,
                                        lockUntil := if 5 ≤ l.length then some (s.now + sec 60) else q.lockUntil }
  (s.bindAnswer p St.refusedRole role).evMod .host s.rd.active p 0x7004 (leBytes 1 p ++ leBytes 1 role ++ leBytes 2 St.refusedRole)

/-- R63: the keys of both directions: ECDH, then the counter mode of NIST SP 800-108 with the transcript hash as context. -/
def Bind.keys (b : Bind) : Bytes :=
  let pub := sub b.transcript 20 64
  let q : P256.Pt := { x := beNat (sub pub 0 32), y := beNat (sub pub 32 32), z := 1 }
  let t := P256.mul2 b.eph 0 q {} {} 256
  let zi := P256.powMod P256.p t.z (P256.p - 2) 256
  kdf108 (beBytes 32 (t.x * (zi * zi % P256.p) % P256.p)) (asciiBytes "YG6440 host") (sha256 b.transcript) 512

/-- R63, R64, R68, R76: a bind succeeds: a session replaced ends its tickets ABORTED, and the first supervising session ends the
host-loss policies. -/
def State.bound (s : State) (p : Nat) (b : Bind) : State :=
  let s := match (s.port p).session with | some c => s.dropWaits (c.outstanding.map fun (x : Ticket) => x.id) | none => s
  let next := if b.resume = 0 then s.seqAsked + 1 else b.resume + 1
  let c : Session := { sid := b.sid, role := b.role, keyIndex := b.keyIndex, nextSeq := next, ackSeq := next - 1, sentThrough := next - 1,
                       ackAt := s.now, lastRx := s.now, lastTx := s.now, keys := b.keys }
  let s := s.onPort p fun q => { q with session := some c, bind := none }
  let s := s.sendFrame p 5 (s.boundBody St.ok b.role.code b.sid 1)
  let s := s.evMod .host s.rd.active p 0x7001 (leBytes 1 p ++ leBytes 1 b.role.code ++ leBytes 1 b.keyIndex ++ leBytes 4 b.sid)
  if (b.role == .operator || b.role == .admin) && s.host.hostloss then (s.evMod .host s.rd.active p 0x7006 (leBytes 1 p)).hostLossEnd else s

/-- R63: the module answers a BIND with CHALLENGE, signed by the module identity key; a PUBLIC bind needs no PROOF. -/
def State.challenge (s : State) (p : Nat) (role : Role) (key : Nat) (body : Bytes) : State :=
  let sid := 1 + s.free 32 % (2 ^ 32 - 1)
  let s := s.drawn
  let eph := 1 + s.free 256 % (P256.n - 1)
  let s := s.drawn
  let head := leBytes 4 sid ++ s.freeBytes 16 ++ P256.publicOf eph
  let s := s.drawn
  match s.signature 1 (sha256 (body ++ head)) with
  | none => (s.signed 1).bindFails p role.code
  | some sig =>
    let s := (s.signed 1).sendProposed p 3 sid (head ++ sig)
    let b : Bind := { role := role, keyIndex := key, resume := leNat (sub body 84 8), sid := sid, transcript := body ++ head ++ sig,
                      challengeAt := s.now, eph := eph }
    if role == .pub then s.bound p b else s.onPort p fun q => { q with bind := some b }

/-- R65: binds are locked out on a port. -/
def State.bindLocked (s : State) (p : Nat) : Bool := match (s.port p).lockUntil with | some t => decide (s.now < t) | none => false

/-- R63-R65: BIND arrives. -/
def execBind (p : Nat) (f : HostFrame) (s : State) : Out :=
  fin s (s.hostFrame p 2 f fun s g =>
    let code := leNat (sub g.payload 0 1)
    let key := leNat (sub g.payload 1 1)
    let s := s.sourceFires 4 0xFF
    if g.payload.length != 92 then s.onPort p Port.addDropped
    else if s.bindLocked p then s.bindAnswer p St.busy code
    else
      let other := match (s.port p).session with
        | some c => c.role.code != code || c.keyIndex != key || code == 0
        | none => false
      if other then s.bindAnswer p St.busy code
      else match Role.ofCode code with
        | none => s.bindFails p code
        | some r =>
          if 3 < key || (r != .pub && (s.anchor (hostKeySlot r key)).isNone) then s.bindFails p code else s.challenge p r key g.payload)

/-- R63, R65: PROOF arrives and is verified with host key KEY_INDEX of the role. -/
def execProof (p : Nat) (f : HostFrame) (s : State) : Out :=
  fin s (s.hostFrame p 4 f fun s g =>
    match (s.port p).bind with
    | none => s.onPort p Port.addDropped
    | some b =>
      if g.sid != b.sid then s.onPort p Port.addDropped
      else
        let good := match s.anchor (hostKeySlot b.role b.keyIndex) with
          | some k => P256.verify k (sha256 b.transcript) g.payload
          | none => false
        if good && decide (s.now ≤ b.challengeAt + sec 5) then s.bound p b else s.bindFails p b.role.code)

/-- R65: no PROOF within 5 s of CHALLENGE. -/
def execProofLate (p : Nat) (s : State) : Out :=
  fin s (match (s.port p).bind with
    | some b => if b.challengeAt + sec 5 ≤ s.now then s.bindFails p b.role.code else s
    | none => s)

/-- R65: the lockout of a port ends. -/
def execBindLockoutEnd (p : Nat) (s : State) : Out :=
  fin s (match (s.port p).lockUntil with
    | some t => if t ≤ s.now then s.onPort p fun q => { q with lockUntil := none } else s
    | none => s)

/-! ### Requests (R69-R73) -/

/-- R4, R70, R72, R78: a complete request is accepted with a ticket, or refused: the status and the ticket of its RESPONSE. -/
def State.acceptReq (s : State) (p op tag : Nat) (arg : Bytes) : State × Nat × Nat :=
  match s.sess p, rolesOf op with
  | none, _ => (s, St.badRequest, 0)
  | some _, none => (s, St.badRequest, 0)
  | some c, some roles =>
    if !roles.contains c.role || (p == 2 && hp2Bars op) || (p == 3 && monitorBars op) then (s, St.refusedRole, 0)
    else if s.variantLacks op arg then (s, St.notSupported, 0)
    else if 256 ≤ c.outstanding.length then (s, St.noResource, 0)
    else if s.busyAt op arg then (s, St.busy, 0)
    else
      let tk := p <<< 28 ||| c.serial
      let t : Ticket := { id := tk, opcode := op, tag := tag, role := c.role, acceptTime := s.now, arg := arg, seqAt := s.seqr.seqLast }
      let s := s.onSess p fun c => { c with serial := if c.serial = 0x0FFFFFFF then 1 else c.serial + 1, outstanding := c.outstanding ++ [t] }
      (s.evMod .host s.rd.active p 0x7010 (leBytes 4 tk ++ leBytes 2 op ++ leBytes 4 tag), St.accepted, tk)

/-- R70, R73: RESPONSE, kept in the table of CLIENT_TAG values. -/
def State.respond (s : State) (p tag status tk : Nat) : State :=
  let b := leBytes 4 tag ++ leBytes 2 status ++ leBytes 2 0 ++ leBytes 4 tk
  (s.sendFrame p 0x11 b).onSess p fun c => { c with tags := ((tag, b, s.now) :: c.tags).take 256 }

/-- R69: the part buffer of a request without its buffer. -/
def State.dropParts (s : State) (p tag : Nat) : State :=
  s.onSess p fun c => { c with parts := c.parts.filter fun x => x.tag != tag }

/-- R69: a part of a request of several parts. -/
def State.addPart (s : State) (p : Nat) (c : Session) (op part parts tag len : Nat) (arg : Bytes) : State :=
  let b := (c.parts.find? fun x => x.tag == tag).getD { tag := tag, opcode := op, total := parts, argLen := len, since := s.now }
  if b.opcode != op || b.total != parts || b.argLen != len then (s.dropParts p tag).respond p tag St.badRequest 0
  else
    let b : PartBuf := { b with got := (part, arg) :: b.got.filter fun x => x.1 != part }
    if b.got.length < parts then (s.dropParts p tag).onSess p fun c => { c with parts := b :: c.parts }
    else
      let all := (List.range parts).flatMap fun k => ((b.got.find? fun x => x.1 == k).map (·.2)).getD []
      let s := s.dropParts p tag
      if all.length != len then s.respond p tag St.badRequest 0
      else
        let r := s.acceptReq p op tag all
        r.1.respond p tag r.2.1 r.2.2

/-- R69, R70, R73: a REQUEST frame or part arrives; it is host port activity (R463, R465). -/
def execRequest (p : Nat) (f : HostFrame) (s : State) : Out :=
  fin s (s.sessFrame p 0x10 f fun s c pay =>
    let s := s.sourceFires 4 0xFF
    let op := leNat (sub pay 0 2)
    let part := leNat (sub pay 2 1)
    let parts := leNat (sub pay 3 1)
    let tag := leNat (sub pay 4 4)
    let len := leNat (sub pay 8 4)
    let arg := pay.drop 12
    match c.tags.find? fun x => x.1 == tag && decide (s.now < x.2.2 + sec 10) with
    | some (_, b, _) => s.sendFrame p 0x11 b
    | none =>
      if pay.length < 12 || parts = 0 || 64 < parts || parts ≤ part || 88832 < len || (parts == 1 && arg.length != len) then
        s.respond p tag St.badRequest 0
      else if parts = 1 then
        let r := s.acceptReq p op tag arg
        r.1.respond p tag r.2.1 r.2.2
      else s.addPart p c op part parts tag len arg)

/-- R69: the parts of a request are not all in within 1 s of the first. -/
def execRequestPartsTimeout (p tag : Nat) (s : State) : Out :=
  fin s (match s.sess p with
    | some c =>
      if c.parts.any fun b => b.tag == tag && decide (b.since + sec 1 ≤ s.now) then (s.dropParts p tag).respond p tag St.badRequest 0 else s
    | none => s)

/-! ### Keepalive and the event stream (R67, R76, R77) -/

/-- The journal, oldest first. -/
def State.journalUp (s : State) : List EvRec := s.seqr.journal.reverse

/-- R74, R76: the records from a SEQ on that pass a session's filter, oldest first. -/
def State.recordsFor (s : State) (c : Session) (seq : Nat) : List EvRec :=
  s.journalUp.filter fun r => decide (seq ≤ r.seq) && passes c.filterFam c.filterLane r.ev

/-- R77: the journal no longer holds the events from a delivery point onwards. -/
def State.journalLost (s : State) (seq : Nat) : Bool :=
  s.seqr.journal.length == journalDepth && (match s.journalUp with | r :: _ => decide (seq < r.seq) | [] => false)

/-- R75, R76: the host acknowledges up to a SEQ; R74: an EVENT_REPLAY completes when it acknowledges its SEQ_LAST. -/
def State.acked (s : State) (p a : Nat) : State :=
  match s.sess p with
  | none => s
  | some c =>
    if a ≤ c.ackSeq || c.sentThrough < a then s
    else
      let left := ((s.recordsFor c (a + 1)).filter fun r => decide (r.seq < c.nextSeq)).length
      let s := s.onSess p fun c => { c with ackSeq := a, ackAt := s.now, inFlight := left }
      match c.replayTk with
      | some (tk, target) =>
        if target ≤ a then
          (s.onSess p fun c => { c with replayTk := none }).onTicket tk 0x0002 fun t =>
            (s.onSess p fun c => { c with replayTk := none }).complete t St.ok (leBytes 8 c.replayFirst ++ leBytes 8 target)
        else s
      | none => s

/-- R67: a host KEEPALIVE with ACK_SEQ. -/
def execKeepalive (p : Nat) (f : HostFrame) (s : State) : Out :=
  fin s (s.sessFrame p 0x21 f fun s _ pay =>
    if pay.length != 16 then s.onPort p Port.addDropped else s.acked p (leNat (sub pay 0 8)))

/-- R67: the module has sent nothing else for 1 s. -/
def execKeepaliveSend (p : Nat) (s : State) : Out :=
  fin s (match (s.port p).session with
    | some c =>
      if s.hostOn && decide (c.lastTx + sec 1 ≤ s.now) then s.sendFrame p 0x21 (leBytes 8 s.seqr.seqLast ++ leBytes 8 s.now) else s
    | none => s)

/-- R76, R77: the next EVENTS frame of a session: up to 40 records, no more than 1,024 in flight. -/
def State.sendEvents (s : State) (p : Nat) (c : Session) : State :=
  let all := s.recordsFor c c.nextSeq
  let now := all.take (min 40 (1024 - c.inFlight))
  let through := if now.length = all.length then s.seqr.seqLast else match now.getLast? with | some r => r.seq | none => c.sentThrough
  if through < c.nextSeq then s
  else
    let gap := c.gapNext || s.journalLost c.nextSeq
    let body := (List.range now.length).zip now |>.flatMap fun (i, r) =>
      r.bytes (match c.replayTo with | some e => decide (r.seq ≤ e) | none => false) (r.gap || (gap && i == 0))
    let s := s.sendFrame p 0x20 (leBytes 8 through ++ body)
    s.onSess p fun c => { c with nextSeq := through + 1, sentThrough := through, inFlight := c.inFlight + now.length,
                                 gapNext := gap && now.isEmpty,
                                 replayTo := match c.replayTo with | some e => if through < e then some e else none | none => none,
                                 ackAt := if c.inFlight = 0 then s.now else c.ackAt }

/-- R76: the module sends pending events to a session in the READER role or above. -/
def execEvents (p : Nat) (s : State) : Out :=
  fin s (match (s.port p).session with
    | some c => if s.hostOn && c.role != .pub then s.sendEvents p c else s
    | none => s)

/-- R76: no acknowledgement advances for 250 ms: delivery resumes from ACK_SEQ + 1. -/
def execEventResend (p : Nat) (s : State) : Out :=
  fin s (match (s.port p).session with
    | some c =>
      if s.hostOn && decide (c.ackSeq < c.sentThrough) && decide (c.ackAt + ms 250 ≤ s.now) then
        s.onSess p fun c => { c with nextSeq := c.ackSeq + 1, sentThrough := c.ackSeq, inFlight := 0, ackAt := s.now }
      else s
    | none => s)

/-! ### Session requests (R74) -/

/-- R74: TICKET_QUERY. -/
def execTicketQuery (tk : Nat) (s : State) : Out :=
  fin s (s.onTicket tk 0x0001 fun t =>
    match s.sess (ticketPort tk) with
    | none => s
    | some c =>
      let q := t.u 0 4
      if t.arg.length != 4 then s.complete t St.badArgument
      else if c.outstanding.any fun x => x.id == q then s.complete t St.ok (leBytes 2 St.accepted)
      else match c.ended.find? fun x => x.1 == q with
        | some (_, st) => s.complete t St.ok (leBytes 2 st)
        | none => s.complete t St.badArgument)

/-- R74, R77: EVENT_REPLAY moves the delivery point back; it completes when the host acknowledges the SEQ_LAST of its acceptance. -/
def execEventReplay (tk : Nat) (s : State) : Out :=
  fin s (s.onTicket tk 0x0002 fun t =>
    let p := ticketPort tk
    match s.sess p with
    | none => s
    | some c =>
      let from_ := t.u 0 8
      if 2 < p then s.complete t St.notSupported
      else if t.arg.length != 8 || c.nextSeq < from_ then s.complete t St.badArgument
      else match c.replayTk with
        | some (x, _) => if x = tk then s else s.complete t St.busy
        | none =>
          let first := match s.recordsFor c from_ with | r :: _ => r.seq | [] => from_
          let s := s.onSess p fun c =>
            { c with nextSeq := from_, ackSeq := from_ - 1, sentThrough := from_ - 1, inFlight := 0, ackAt := s.now,
                     replayTo := if from_ < c.nextSeq then some (max (c.nextSeq - 1) (c.replayTo.getD 0)) else c.replayTo,
                     replayFirst := first, replayTk := some (tk, t.seqAt) }
          if t.seqAt < from_ then
            (s.onSess p fun c => { c with replayTk := none }).complete t St.ok (leBytes 8 first ++ leBytes 8 t.seqAt)
          else s)

/-- R74: EVENT_FILTER. -/
def execEventFilter (tk : Nat) (s : State) : Out :=
  fin s (s.onTicket tk 0x0003 fun t =>
    if t.arg.length != 10 then s.complete t St.badArgument
    else (s.onSess (ticketPort tk) fun c => { c with filterFam := t.u 0 2, filterLane := t.u 2 8 }).complete t St.ok)

/-! ### HP2 transactions (R61) -/

/-- R58, R60: the bytes of a frame on HP2, with the CRC-32 trailer. -/
def Frame.bytes (f : Frame) : Bytes :=
  let b := [0x59, 0x48, 0x01] ++ leBytes 1 f.typ ++ leBytes 4 f.session ++ leBytes 8 f.counter ++ leBytes 2 f.payload.length ++ leBytes 2 0 ++ f.payload
  b ++ leBytes 4 (crc32 b)

/-- The module drives bytes on HP2. -/
def State.hp2Puts (s : State) (b : Bytes) : State := { s with host := { s.host with hp2Out := s.host.hp2Out ++ [b] } }

/-- R61: HP2INT is driven low while MSG_WAITING is 1. -/
def State.hp2Int (s : State) : Bool := (s.port 2).outbox.isEmpty

/-- R61, R465: HP2 chip select, a wake source; a transaction that finds the module in DOZE or DORMANT, or its pads held, is lost. -/
def State.chipSelect (s : State) (f : State → State) : State :=
  if s.pw.state ≤ 1 && !bit s.pw.held 0 then f (s.sourceFires 4 0xFF) else s.sourceFires 4 0xFF

/-- R61: status. -/
def execHp2Status (s : State) : Out :=
  fin s (s.chipSelect fun s =>
      let q := s.port 2
      s.hp2Puts (leBytes 1 (b2n (!q.outbox.isEmpty) ||| 2 * b2n (decide (q.inbox.length < 4)) ||| 4 * b2n q.session.isSome)))

/-- R59: the types a host sends. -/
def isHostType (typ : Nat) : Bool := [0x02, 0x04, 0x10, 0x21, 0x30].contains typ

/-- R61: message write: the bytes after the command. A frame of bad form or trailer is dropped and counted (R59, R60). -/
def execHp2MessageWrite (b : Bytes) (s : State) : Out :=
  fin s (s.chipSelect fun s =>
      let len := leNat (sub b 0 2)
      let f := sub b 2 len
      let pay := leNat (sub f 16 2)
      if b.length < 2 + len || 4 ≤ (s.port 2).inbox.length then s.onPort 2 Port.addDropped
      else if f.length < 24 || sub f 0 3 != [0x59, 0x48, 0x01] || 1400 < pay || f.length != pay + 24 || !isHostType (leNat (sub f 3 1)) then
        s.onPort 2 Port.addDropped
      else if leNat (sub f (pay + 20) 4) != crc32 (sub f 0 (pay + 20)) then s.onPort 2 Port.addAuthFail
      else s.onPort 2 fun q => { q with inbox := q.inbox ++ [{ typ := leNat (sub f 3 1), session := leNat (sub f 4 4), counter := leNat (sub f 8 8),
                                                               payload := sub f 20 pay }] })

/-- R61: message read, of which so many bytes are clocked. -/
def execHp2MessageRead (clocked : Nat) (s : State) : Out :=
  fin s (s.chipSelect fun s =>
      match (s.port 2).outbox with
      | [] => if clocked < 2 then s.onPort 2 Port.addDropped else s.hp2Puts (leBytes 2 0)
      | f :: l =>
        let b := leBytes 2 f.bytes.length ++ f.bytes
        if clocked < b.length then (s.hp2Puts (sub b 0 clocked)).onPort 2 Port.addDropped
        else (s.hp2Puts b).onPort 2 fun q => { q with outbox := l })

/-! ### Registers (R82) -/

/-- R82: the role code of a port, 0b111 unbound. -/
def Port.roleCode (q : Port) : Nat := match q.session with | some c => c.role.code | none => 7

/-- R82: HP_STATUS. -/
def State.hpStatus (s : State) : Nat :=
  regOf [(0, 1, b2n (s.port 0).link), (1, 1, b2n (s.port 1).link), (2, 1, b2n (s.port 0).session.isSome), (3, 1, b2n (s.port 1).session.isSome),
    (4, 1, b2n (s.port 2).session.isSome), (8, 3, (s.port 0).roleCode), (11, 3, (s.port 1).roleCode), (14, 3, (s.port 2).roleCode),
    (17, 1, b2n s.supervised), (18, 1, b2n s.host.hostloss)]

/-- R82: a write of HPn_IP4. -/
def State.writeHpIp4 (s : State) (p v : Nat) : State :=
  s.onPort p fun q => { q with ip4Addr := fieldOf v 0 32, ip4Prefix := fieldOf v 32 6, ip4Enable := flagOf v 38 }

/-- R82: HP_COUNTn. -/
def State.hpCount (s : State) (p : Nat) : Nat :=
  let q := s.port p
  regOf [(0, 16, q.authFail), (16, 16, q.bindFail), (32, 16, q.dropped), (48, 16, q.lost)]

/-- R82: a write of HP_COUNTn: all ones clear a field. -/
def State.writeHpCount (s : State) (p v : Nat) : State :=
  s.onPort p fun q => { q with authFail := onesClear q.authFail v 0 16, bindFail := onesClear q.bindFail v 16 16,
                               dropped := onesClear q.dropped v 32 16, lost := onesClear q.lost v 48 16 }

/-- R82: HP_TICKETS. -/
def State.hpTickets (s : State) : Nat :=
  let out := fun (p : Nat) => match (s.port p).session with | some c => c.outstanding.length | none => 0
  regOf [(0, 9, out 0), (9, 9, out 1), (18, 9, out 2)]

end Sys2Proof.Machine
end

