-- ==== Sys2Proof/Machine/KeyVault.lean ====
section
/-! DEFINITION. KeyVault.lean: the requests and clocks of the key vault: nodes, certificates, anchors, the root, random source and masks
(R376-R390). -/
namespace Sys2Proof.Machine

/-! ### Records and events (R376, R389) -/

/-- R376: FLAGS of a node. -/
def State.kvFlags (s : State) (x : KvNode) : Nat :=
  1 ||| 2 * b2n x.plate ||| 4 * b2n x.hostUse ||| 8 * b2n (s.isOrphan x.node) ||| 16 * b2n x.cert ||| 32 * b2n x.certStale

/-- R376: the 64 bytes of a node record. -/
def State.kvRecord (s : State) (x : KvNode) : Bytes :=
  let b := leBytes 2 x.node ++ leBytes 2 x.parent ++ leBytes 1 x.depth ++ leBytes 1 x.usage ++ leBytes 1 (s.kvFlags x) ++
    leBytes 1 x.label.length ++ leBytes 4 x.gen ++ leBytes 4 x.parentGen ++ padTo 32 x.label ++ leBytes 2 (x.object.getD 0xFFFF) ++
    List.replicate 10 0
  b ++ leBytes 4 (crc32 b)

/-- R389: an event of the vault. -/
def State.evKv (s : State) (code : Nat) (data : Bytes) (flags : Nat := 0) : State := s.evMod .host 13 0 code data flags

/-- R381: how many nodes are ORPHANED that were not before. -/
def State.newOrphans (s before : State) : Nat :=
  let b := before.orphans
  (s.orphans.filter fun n => !b.contains n).length

/-- R388: a request that names a PLATE node needs the METROLOGY role, any other the ADMIN role. -/
def Ticket.vaultRole (t : Ticket) (plate : Bool) : Bool := if plate then t.role == .metrology else t.role == .admin

/-- R388: a request about a used node. -/
def State.vaultReq (s : State) (t : Ticket) (f : KvNode → State) : State :=
  match s.kvNode (t.u 0 2) with
  | none => s.complete t St.badArgument
  | some x => if t.vaultRole x.plate then f x else s.complete t St.refusedRole

/-- R378, R390: an operation on a node that is ORPHANED is refused. -/
def State.keyed (s : State) (t : Ticket) (n : Nat) (f : State) : State :=
  if s.isOrphan n then s.orphanRefused.complete t St.orphaned else f

/-! ### Nodes (R376, R381, R388) -/

/-- A record in its place by ascending number. -/
def insertNode (x : KvNode) : List KvNode → List KvNode
  | [] => [x]
  | y :: l => if x.node < y.node then x :: y :: l else y :: insertNode x l

/-- R376, R377, R388: KV_NODE_CREATE; the node takes the lowest free number. -/
def execKvNodeCreate (tk : Nat) (s : State) : Out :=
  fin s (s.onTicket tk 0x0601 fun t =>
    let usage := t.u 2 1
    let flags := t.u 3 1
    let label := t.rest 5
    match s.kvNode (t.u 0 2) with
    | none => s.complete t St.badArgument
    | some p =>
      if !t.vaultRole (p.plate || bit flags 1) then s.complete t St.refusedRole
      else if (p.node != 0 && p.usage != 0) || 6 ≤ p.depth || 4 < usage || flags - (flags &&& 6) != 0 || flags &&& 6 = 6 ||
          t.u 4 1 = 0 || 32 < t.u 4 1 || label.length != t.u 4 1 ||
          s.kv.nodes.any (fun x => x.parent == p.node && x.label == label) then s.complete t St.badArgument
      else if s.kv.rngFail then s.complete t St.noResource
      else match (List.range 4096).find? fun n => (s.kvNode n).isNone with
        | none => s.complete t St.noResource
        | some n =>
          let x : KvNode := { node := n, parent := p.node, depth := p.depth + 1, usage := usage, plate := bit flags 1, hostUse := bit flags 2,
                              label := label, gen := 1, parentGen := p.gen }
          let s : State := { s with kv := { s.kv with nodes := insertNode x s.kv.nodes } }
          (s.evKv 0xE001 (leBytes 2 n ++ leBytes 2 p.node ++ leBytes 1 usage ++ leBytes 1 (s.kvFlags x))).complete t St.ok
            (leBytes 2 n ++ leBytes 4 1))

/-- A generation raised by 1. -/
def nextGen (g : Nat) : Nat := (g + 1) % 2 ^ 32

/-- R381, R388: KV_NODE_INVALIDATE. -/
def execKvNodeInvalidate (tk : Nat) (s : State) : Out :=
  fin s (s.onTicket tk 0x0602 fun t =>
    if t.u 0 2 = 0 then s.complete t St.badArgument
    else s.vaultReq t fun x =>
      let g := nextGen x.gen
      let s1 := s.onNode x.node fun x => { x with gen := g, certStale := x.cert }
      let k := s1.newOrphans s
      (s1.evKv 0xE002 (leBytes 2 x.node ++ leBytes 4 g ++ leBytes 2 k ++ leBytes 1 0)).complete t St.ok (leBytes 4 g ++ leBytes 2 k))

/-- R381: a node takes its parent's generation and a new one of its own. -/
def State.renewNode (s : State) (n parentGen : Nat) : State :=
  s.onNode n fun x => { x with parentGen := parentGen, gen := nextGen x.gen, certStale := x.cert }

/-- R381, R388: KV_NODE_RENEW. -/
def execKvNodeRenew (tk : Nat) (s : State) : Out :=
  fin s (s.onTicket tk 0x0603 fun t =>
    s.vaultReq t fun x =>
      match s.kvNode x.parent with
      | some p =>
        if !s.isOrphan x.node || s.isOrphan p.node then s.complete t St.refusedState
        else
          let s := s.renewNode x.node p.gen
          (s.evKv 0xE003 (leBytes 2 x.node ++ leBytes 4 (nextGen x.gen) ++ leBytes 4 p.gen)).complete t St.ok (leBytes 4 (nextGen x.gen))
      | none => s.complete t St.refusedState)

/-- R388: KV_NODE_DELETE. -/
def execKvNodeDelete (tk : Nat) (s : State) : Out :=
  fin s (s.onTicket tk 0x0604 fun t =>
    if t.u 0 2 ≤ 4 then s.complete t St.badArgument
    else s.vaultReq t fun x =>
      if s.kv.nodes.any fun y => y.parent == x.node then s.complete t St.refusedState
      else { s with kv := { s.kv with nodes := s.kv.nodes.filter fun y => y.node != x.node,
                                      objects := s.kv.objects.filter fun o => o.2.1 != x.node } }.complete t St.ok)

/-- R388: KV_NODE_READ: the record, and the public key for usages 1 and 2. -/
def execKvNodeRead (tk : Nat) (s : State) : Out :=
  fin s (s.onTicket tk 0x0605 fun t =>
    match s.kvNode (t.u 0 2) with
    | none => s.complete t St.badArgument
    | some x =>
      if x.usage = 1 || x.usage = 2 then s.keyed t x.node (s.complete t St.ok (s.kvRecord x ++ s.nodePublic x.node))
      else s.complete t St.ok (s.kvRecord x))

/-- R388: KV_SIGN. -/
def execKvSign (tk : Nat) (s : State) : Out :=
  fin s (s.onTicket tk 0x060B fun t =>
    match s.kvNode (t.u 0 2) with
    | none => s.complete t St.badArgument
    | some x =>
      if x.plate then s.complete t St.refusedRole
      else if x.usage != 1 || (t.rest 2).length != 32 then s.complete t St.badArgument
      else if !x.hostUse then s.complete t St.refusedState
      else s.keyed t x.node ((s.signed x.node).complete t St.ok ((s.signature x.node (t.rest 2)).getD [])))

/-- R386, R388: KV_OBJECT_STORE: a node's object keeps its slot, else the object takes the lowest free one. -/
def execKvObjectStore (tk : Nat) (s : State) : Out :=
  fin s (s.onTicket tk 0x060C fun t =>
    let b := t.rest 2
    s.vaultReq t fun x =>
      if x.usage != 3 || b.isEmpty || 2048 < b.length then s.complete t St.badArgument
      else s.keyed t x.node (
        let slot := match x.object with
          | some k => some k
          | none => (List.range 64).find? fun k => !s.kv.objects.any fun o => o.1 == k
        match slot with
        | none => s.complete t St.noResource
        | some k =>
          let s := s.onNode x.node fun x => { x with object := some k }
          { s with kv := { s.kv with objects := (k, x.node, b) :: s.kv.objects.filter fun o => o.1 != k } }.complete t St.ok (leBytes 1 k)))

/-! ### DER (R384) -/

/-- DER: the length octets of a length. -/
def derLen (n : Nat) : Bytes := if n < 128 then [byteOf n] else if n < 256 then [0x81, byteOf n] else [0x82, byteOf (n / 256), byteOf n]
/-- DER: a value under a tag. -/
def der (tag : Nat) (b : Bytes) : Bytes := byteOf tag :: (derLen b.length ++ b)

/-- DER: an unsigned integer of big-endian bytes. -/
def derUint (b : Bytes) : Bytes :=
  let b := b.dropWhile (· == 0)
  der 2 (if b.isEmpty || 128 ≤ beNat (b.take 1) then 0 :: b else b)

/-- DER: the tag, content and rest of the first value. -/
def derNext (b : Bytes) : Option (Nat × Bytes × Bytes) :=
  match b with
  | t :: l :: r =>
    let n := l.toNat
    let (len, r) : Nat × Bytes := if n < 128 then (n, r) else (beNat (r.take (n - 128)), r.drop (n - 128))
    if len ≤ r.length then some (t.toNat, r.take len, r.drop len) else none
  | _ => none

/-- DER: the values in a content, at most `k`. -/
def derItems : Nat → Bytes → List (Nat × Bytes)
  | 0, _ => []
  | k + 1, b => match derNext b with | some (t, c, r) => (t, c) :: derItems k r | none => []

/-- R384: the P-256 public key, x and y, of the leaf certificate of a chain. -/
def leafKey (chain : Bytes) : Option Bytes :=
  match derNext chain with
  | some (_, cert, _) =>
    match derNext cert with
    | some (_, tbs, _) =>
      let l := derItems 8 tbs
      let l := match l with | (0xA0, _) :: r => r | _ => l
      match l.drop 5 with
      | (_, spki) :: _ =>
        match derItems 2 spki with
        | [_, (3, k)] => if k.length = 66 && k.take 2 == [0x00, 0x04] then some (k.drop 2) else none
        | _ => none
      | [] => none
    | none => none
  | none => none

/-- R384: the subject public key information of a P-256 key. -/
def spkiOf (key : Bytes) : Bytes :=
  der 0x30 (der 0x30 (der 6 [0x2A, 0x86, 0x48, 0xCE, 0x3D, 0x02, 0x01] ++ der 6 [0x2A, 0x86, 0x48, 0xCE, 0x3D, 0x03, 0x01, 0x07]) ++
    der 3 ([0x00, 0x04] ++ key))

/-- R384: the part of a certificate request that is signed. -/
def csrInfo (subject key : Bytes) : Bytes := der 0x30 (der 2 [0] ++ subject ++ spkiOf key ++ der 0xA0 [])

/-- R384: a certificate request with its signature. -/
def csrOf (info sig : Bytes) : Bytes :=
  der 0x30 (info ++ der 0x30 (der 6 [0x2A, 0x86, 0x48, 0xCE, 0x3D, 0x04, 0x03, 0x02]) ++
    der 3 (0x00 :: der 0x30 (derUint (sig.take 32) ++ derUint (sig.drop 32))))

/-- R384, R388: KV_CSR. -/
def execKvCsr (tk : Nat) (s : State) : Out :=
  fin s (s.onTicket tk 0x0606 fun t =>
    s.vaultReq t fun x =>
      if !(x.usage = 1 || x.usage = 2) || 258 < t.arg.length then s.complete t St.badArgument
      else s.keyed t x.node (
        let signer := if x.usage = 1 then x.node else 1
        s.keyed t signer (
          let info := csrInfo (t.rest 2) (s.nodePublic x.node)
          (s.signed signer).complete t St.ok (csrOf info ((s.signature signer (sha256 info)).getD [])))))

/-- R384, R388: KV_CERT_STORE. -/
def execKvCertStore (tk : Nat) (s : State) : Out :=
  fin s (s.onTicket tk 0x0607 fun t =>
    s.vaultReq t fun x =>
      if !(x.usage = 1 || x.usage = 2) || 4098 < t.arg.length then s.complete t St.badArgument
      else s.keyed t x.node (
        if leafKey (t.rest 2) = some (s.nodePublic x.node) then
          (s.onNode x.node fun x => { x with cert := true, certStale := false, chain := t.rest 2 }).complete t St.ok
        else s.complete t St.checkFailed))

/-- R388: KV_CERT_READ. -/
def execKvCertRead (tk : Nat) (s : State) : Out :=
  fin s (s.onTicket tk 0x0608 fun t =>
    match s.kvNode (t.u 0 2) with
    | some x => if x.cert then s.complete t St.ok x.chain else s.complete t St.badArgument
    | none => s.complete t St.badArgument)

/-! ### Anchors (R385) -/

/-- R385: the role that writes a slot: METROLOGY for slots 1, 16-19 and 26, ADMIN for the others. -/
def anchorRole (slot : Nat) : Role := if slot = 1 || (16 ≤ slot && slot ≤ 19) || slot = 26 then .metrology else .admin

/-- R385: the slots of a range are all empty. -/
def State.anchorsEmpty (s : State) (a b : Nat) : Bool := !s.kv.anchors.any fun x => decide (a ≤ x.1) && decide (x.1 ≤ b)

/-- R385: a provisioning write: slot 12 from a PUBLIC session on HP2, or one of 16-19 from an ADMIN session, while the keys of that role
are all empty. -/
def State.provisions (s : State) (t : Ticket) (slot : Nat) : Bool :=
  (t.role == .pub && ticketPort t.id == 2 && slot == 12 && s.anchorsEmpty 12 15) ||
    (t.role == .admin && decide (16 ≤ slot) && decide (slot ≤ 19) && s.anchorsEmpty 16 19)

/-- R385: an anchor slot takes a key; 64 zero bytes empty it. -/
def State.setAnchor (s : State) (slot : Nat) (key : Bytes) : State :=
  let rest := s.kv.anchors.filter fun x => x.1 != slot
  { s with kv := { s.kv with anchors := if key.all (· == 0) then rest
      else (rest.filter fun x => decide (x.1 < slot)) ++ [(slot, key)] ++ rest.filter fun x => decide (slot < x.1) } }

/-- R385, R388: KV_ANCHOR_SET. -/
def execKvAnchorSet (tk : Nat) (s : State) : Out :=
  fin s (s.onTicket tk 0x0609 fun t =>
    let slot := t.u 0 1
    let key := t.rest 1
    if slot = 2 then s.complete t St.refusedRole
    else if 27 < slot || key.length != 64 then s.complete t St.badArgument
    else if t.role != anchorRole slot && !s.provisions t slot then s.complete t St.refusedRole
    else if !key.all (· == 0) && !P256.onCurve key then s.complete t St.checkFailed
    else ((s.setAnchor slot key).evKv 0xE006 (leBytes 1 slot ++ leBytes 1 t.role.code)
      (if t.role != anchorRole slot then 16 else 0)).complete t St.ok)

/-! ### The root (R383) -/

/-- R383: the root is retired: a new secret, node 1 renewed at once, every other node ORPHANED. -/
def State.retireRoot (s : State) : State :=
  match s.kvNode 0 with
  | none => s
  | some r =>
    let g := nextGen r.gen
    let s1 : State := { s with kv := { s.kv with rootEpoch := s.kv.rootEpoch + 1, retire := none } }
    let s1 := (s1.onNode 0 fun x => { x with gen := g }).renewNode 1 g
    (s1.evKv 0xE005 (leBytes 4 g ++ leBytes 2 (s1.newOrphans s))).drawn

/-- R383, R388: KV_ROOT_RETIRE: the second half from another role within 300 s commits; any other request begins a new pending one. -/
def execKvRootRetire (tk : Nat) (s : State) : Out :=
  fin s (s.onTicket tk 0x060A fun t =>
    if s.kv.rngFail then s.complete t St.noResource
    else
      let second := match s.kv.retire with | some (r, e) => r != t.role && decide (s.now ≤ e) | none => false
      if second then s.retireRoot.complete t St.ok
      else ({ s with kv := { s.kv with retire := some (t.role, s.now + sec 300) } }.evKv 0xE004
        (leBytes 1 t.role.code ++ leBytes 2 300)).complete t St.ok)

/-- R383: 300 s pass without the second half. -/
def execRootRetireWindowEnd (s : State) : Out :=
  fin s (match s.kv.retire with
    | some (_, e) => if e ≤ s.now then { s with kv := { s.kv with retire := none } } else s
    | none => s)

/-! ### Random source and masks (R380, R386, R387) -/

/-- R380: the DRBG is reseeded, unless its source has failed. -/
def execDrbgReseed (s : State) : Out :=
  fin s (if s.kv.rngFail then s else { s with kv := { s.kv with reseeds := s.kv.reseeds + 1 } }.drawn)

/-- R389: RNG_FAIL. -/
def State.evRng (s : State) (test state : Nat) : State := s.evMod .diag 13 0 0xE007 (leBytes 1 test ++ leBytes 1 state)

/-- R380: a health test (0 repetition, 1 proportion) passes or fails; 1,024 that pass in succession end the failure. -/
def execHealthTest (test : Nat) (pass : Bool) (s : State) : Out :=
  fin s (
    if !pass then
      let t : State := { s with kv := { s.kv with rngFail := true, healthOk := 0 } }
      if s.kv.rngFail then t else t.evRng test 1
    else if !s.kv.rngFail then s
    else if s.kv.healthOk + 1 < 1024 then { s with kv := { s.kv with healthOk := s.kv.healthOk + 1 } }
    else { s with kv := { s.kv with rngFail := false, healthOk := 0 } }.evRng test 0)

/-- R386: the mask is rotated; `late` tells that it took more than 20 ms. While RNG_FAIL stands the last mask stays. -/
def execMaskRotation (late : Bool) (s : State) : Out :=
  fin s (
    if s.kv.rngFail then s
    else { s with kv := { s.kv with mask := s.kv.mask + 1, rotAt := s.now, rotLate := satU 16 (s.kv.rotLate + b2n late) } }.drawn)

/-- R387: the records of a start-up whose CRC fails are marked unused; a record's GEN is open then (log entry 1). -/
def State.vaultCheck (s : State) (bad : List Nat) : State :=
  (bad.filter fun n => (s.kvNode n).isSome).foldl (fun (s : State) n =>
    let s1 : State := { s with kv := { s.kv with nodes := s.kv.nodes.filter fun x => x.node != n } }
    (s1.evKv 0xE002 (leBytes 2 n ++ leBytes 4 (s.free 32) ++ leBytes 2 (s1.newOrphans s) ++ leBytes 1 1)).drawn) s

/-! ### Registers (R390) -/

/-- R390: KV_STATUS. -/
def State.kvStatus (s : State) : Nat :=
  regOf [(0, 13, s.kv.nodes.length), (16, 12, s.orphans.length), (28, 1, b2n s.kv.rngFail), (29, 1, b2n s.kv.retire.isSome),
    (30, 1, b2n (!s.isOrphan 2)), (32, 32, match s.kvNode 0 with | some x => x.gen | none => 0)]
/-- R390: KV_ANCHORS. -/
def State.kvAnchors (s : State) : Nat := regOf [(0, 32, maskOf (s.kv.anchors.map (·.1))), (32, 7, s.kv.objects.length)]
/-- R390: KV_COUNT. -/
def State.kvCount (s : State) : Nat := regOf [(0, 32, s.kv.signatures), (32, 16, s.kv.orphanRef), (48, 16, s.kv.rotLate)]
/-- R390: a write of KV_COUNT. -/
def State.writeKvCount (s : State) (v : Nat) : State :=
  { s with kv := { s.kv with orphanRef := onesClear s.kv.orphanRef v 32 16, rotLate := onesClear s.kv.rotLate v 48 16 } }

end Sys2Proof.Machine
end

