-- ==== Sys2Proof/Machine/Kryuz.lean ====
section
/-! DEFINITION. Kryuz.lean: the hub link (R398-R414): beacons and the master, joining and the node table, phase sectors, bindings, hub
power sharing over the link (R168-R170), distribution of images, the Kryuz requests and registers. -/
namespace Sys2Proof.Machine

/-- R413: a Kryuz event of the active side. -/
def State.evKz (s : State) (cls : EvClass) (code : Nat) (data : Bytes) : State := s.evMod cls s.rd.active 0 code data

/-- R169: the 3 s without a grant run from the start of a hub membership. -/
def State.memberFrom (s old : State) : State :=
  if s.hubMember && !old.hubMember then { s with ps := { s.ps with grantFrom := s.now } } else s

/-! ### Sectors (R405) -/

/-- R405: the phase sector as it reads now: 0 at the master, unknown without a valid ZC or a beacon for 2 s. -/
def State.kzSector (s : State) : Nat :=
  if s.kz.master then 0
  else if s.zcOk && (match s.kz.beaconAt with | some t => decide (s.now ≤ t + sec 2) | none => false) then s.kz.sector else 7

/-- R405: a beacon whose reference instant is now gives the phase reference and the sector of this module. -/
def State.kzPhase (s : State) (valid : Bool) (offUs period : Nat) : State :=
  let tm := s.now - offUs * 1000
  let p := s.zcPeriod
  if !valid || !s.zcOk || period = 0 || period < 200 * (max p period - min p period) then
    { s with kz := { s.kz with sector := 7, sectorN := 0, angle := 0xFFFF, refAt := none } }
  else
    let x := phaseLag (s.kz.zcAt.getD 0) tm period
    let off := s.kz.sector != 7 && phaseOff x period s.kz.sector
    let n := if off then s.kz.sectorN + 1 else 0
    let take := s.kz.sector == 7 || n == 3
    let a := s.phaseTenths x period
    { s with kz := { s.kz with sector := if take then phaseSector x period else s.kz.sector, sectorN := if take then 0 else n,
                               angle := a, refAt := some (tm, period) } }.drawn

/-! ### Master and joining (R399-R403) -/

/-- R399: a node holds an address: it is in the table, or it left less than 24 h ago. -/
def State.holdsAddr (s : State) (x : KzNode) : Bool := match x.departed with | none => true | some t => decide (s.now < t + sec 86400)

/-- R399: addresses no node but `eui` holds. -/
def State.freeAddrs (s : State) (eui : Nat) : List Nat :=
  ((List.range 0xFFF).map (· + 1)).filter fun a => !s.kz.nodes.any fun x => x.addr == a && x.eui != eui && s.holdsAddr x

/-- R399: one of the free addresses; which one is open (log entry 1). -/
def State.pickAddr (s : State) (eui : Nat) : Nat :=
  let l := s.freeAddrs eui
  l.getD (s.free 12 % l.length) 0

/-- The nodes in the table. -/
def State.kzLive (s : State) : List KzNode := s.kz.nodes.filter fun x => x.departed.isNone

/-- Changes the entry of a node. -/
def State.onKzNode (s : State) (eui : Nat) (f : KzNode → KzNode) : State :=
  { s with kz := { s.kz with nodes := s.kz.nodes.map fun x => if x.eui == eui then f x else x } }

/-- R410: a distribution under way ends ABORTED. -/
def State.distAborts (s : State) : State :=
  match s.kz.dist with
  | some d =>
    let s : State := { s with kz := { s.kz with dist := none, txs := s.kz.txs.filter fun (x : KzTx) => x.ft != 13 } }
    s.onTicket d.ticket 0x0A05 fun t => s.complete t St.aborted
  | none => s

/-- R169, R401, R404: another master: MASTER_CHANGED; the module joins it, its bindings are sent again. -/
def State.masterIs (s : State) (eui reason : Nat) (me : Bool) : State :=
  let s := if me then s else s.distAborts
  let s : State := { s with kz := { s.kz with masterEui := eui, master := me, joinPend := !me, listenEnd := none, beaconSent := none,
                                              peers := s.kz.peers.map fun (x : KzPeer) => { x with resend := true },
                                              txs := s.kz.txs.filter fun (x : KzTx) => x.ft != 2 },
                            ps := { s.ps with newMaster := true, reports := [] } }
  s.evKz .external 0x7030 (leBytes 8 eui ++ leBytes 1 reason ++ leBytes 1 (b2n me))

/-- R399, R401: this module becomes master: its own entry stands in its table, with the address it holds or a free one. -/
def State.becomesMaster (s : State) (reason : Nat) : State :=
  let me := s.ident.eui64
  let a := if s.kz.address = 0 then s.pickAddr me else s.kz.address
  let s := s.drawn.masterIs me reason true
  let nodes := (s.kz.nodes.filter fun (x : KzNode) => x.eui != me).map fun (x : KzNode) => if x.departed.isNone then { x with heardAt := s.now } else x
  { s with kz := { s.kz with address := a, joined := true, nodes := { eui := me, addr := a, sector := 0, heardAt := s.now } :: nodes } }

/-- R400: the master's BEACON; TIME is its reference instant. -/
def execBeaconSend (s : State) : Out :=
  fin s (
    if s.kzOn && s.kz.master && (match s.kz.beaconSent with | some t => decide (t + ms 199 ≤ s.now) | none => true) then
      let off := match s.kz.zcAt with | some t => satU 16 (s.roundDiv (s.now - t) 1000) | none => s.free 16
      let period := if s.kz.zcPers.isEmpty then s.free 32 else s.zcPeriod
      let body := leBytes 8 s.ident.eui64 ++ leBytes 8 s.legal ++ leBytes 2 off ++ leBytes 4 period ++
        leBytes 1 (b2n s.zcOk + 2 * b2n s.clock.legalValid + 4 * b2n s.kz.dist.isSome) ++ leBytes 2 s.kzLive.length
      let s : State := { s with kz := { s.kz with beaconSent := some s.now } }
      (s.kzBroadcast 0 s.kz.beaconMode body).drawn
    else s)

/-- R332, R400: the beacon's legal time corrects this module's when TM_SOURCE says so, it differs by 10 ms or more and the last such
correction is 60 s old. -/
def State.beaconTime (s : State) (legal : Nat) (valid : Bool) : State :=
  let d := s.corrDelta legal s.now
  if s.hubTime && valid && decide (2 ^ 32 ≤ d.natAbs * 100) && !s.corrRefused legal d &&
      (match s.bl.hubCorrAt with | some t => decide (t + sec 60 ≤ s.now) | none => true) then
    let ns := s.corrNs d
    let s : State := { s.drawn with bl := { s.bl with hubCorrAt := some s.now } }
    s.correct legal s.now 2 d ns
  else s

/-- R402: a node without an address, or one that follows a new master, asks to join. -/
def State.joinAsk (s : State) (master : Nat) : State :=
  if (s.kz.joinPend || s.kz.address = 0) && s.kz.joinWait.isNone && !s.kz.txs.any fun x => x.ft == 2 then
    s.kzUnicast 2 master (leBytes 8 s.ident.eui64 ++ leBytes 1 0 ++ leBytes 1 s.kzSector ++ leBytes 2 s.kz.address ++ leBytes 1 0)
  else s

/-- R400-R402, R405: a beacon of the master followed. -/
def State.followBeacon (s : State) (f : KzFrame) : State :=
  let fl := leNat (sub f.body 22 1)
  let s : State := { s with kz := { s.kz with beaconAt := some s.now, listenEnd := none } }
  let s := s.kzPhase (bit fl 0) (leNat (sub f.body 16 2)) (leNat (sub f.body 18 4))
  (s.beaconTime (leNat (sub f.body 8 8)) (bit fl 1)).joinAsk f.src

/-- R401: a beacon is heard; TIME is its reference instant. The lowest EUI-64 heard is followed; a master yields to a lower one. -/
def execBeacon (f : KzFrame) (s : State) : Out :=
  fin s (s.kzFrame f (leNat (sub f.body 0 8) == f.eui && f.eui != s.ident.eui64) false fun s =>
    let m := f.eui
    if s.kz.master then if m < s.ident.eui64 then ((s.masterIs m 1 false).followBeacon f) else s
    else if s.kz.masterEui = m then s.followBeacon f
    else if s.kz.masterEui = 0 then (s.masterIs m 0 false).followBeacon f
    else if m < s.kz.masterEui then (s.masterIs m 1 false).followBeacon f
    else if s.kz.listenEnd.isSome then (s.masterIs m 2 false).followBeacon f
    else s)

/-- R401: at start-up, and after 1.0 s without a beacon, the module listens for 1.0 s and a random 0-200 ms (log entry 1). -/
def execBeaconLoss (s : State) : Out :=
  fin s (
    if s.kzOn && !s.kz.master && s.kz.listenEnd.isNone && (match s.kz.beaconAt with | some t => decide (t + sec 1 ≤ s.now) | none => true) then
      { s with kz := { s.kz with listenEnd := some (s.now + sec 1 + s.free 32 % 200000001) } }.drawn
    else s)

/-- R401: no beacon was heard while listening: the module starts beaconing as master. -/
def execMasterListenEnd (s : State) : Out :=
  fin s (match s.kz.listenEnd with
    | some t =>
      if t ≤ s.now && s.kzOn then (s.becomesMaster (if s.kz.masterEui = 0 then 0 else 2)).memberFrom s else s
    | none => s)

/-- R398, R404, R412: an acknowledgement ends the frame it answers; that of a BIND stores the binding and completes the request. -/
def State.peerBound (s : State) (x : KzTx) : State :=
  if !x.bind then s
  else match s.kz.bindTk with
    | some (tk, p, _) =>
      let peers := if p.role = 0 then s.kz.peers.filter fun (y : KzPeer) => y.eui != p.eui
        else s.kz.peers.filter (fun (y : KzPeer) => !(y.role == p.role && (if p.role = 2 then y.group == p.group else y.eui == p.eui))) ++ [p]
      let s : State := { s with kz := { s.kz with bindTk := none, peers := peers } }
      s.onTicket tk 0x0A03 fun t => s.complete t St.ok
    | none => s

/-- R398: an ACK arrives in time for the frame of an FSN that an ACK acknowledges. -/
def execAck (fsn : Nat) (s : State) : Out :=
  fin s (match s.kz.txs.find? fun x => x.fsn == fsn && x.wakeEnd.isNone && !([2, 6, 13].contains x.ft) with
    | some x =>
      if s.kzOn && x.endAt ≤ s.now && s.now ≤ x.endAt + kzAckWait then
        let s : State := { s with kz := { s.kz with rxOk := satU 32 (s.kz.rxOk + 1) } }
        (s.kzAcked fun y => y == x).peerBound x
      else s
    | none => s)

/-- R398: the next attempt of a frame goes out. -/
def State.kzRetry (s : State) (x y : KzTx) : State :=
  let s := s.kzTransmit y.ft y.dest y.fsn y.mode y.body
  { s with kz := { s.kz with txs := s.kz.txs.map fun z => if z == x then { y with endAt := s.now + kzAirtime y.mode (kzLen y.body) } else z } }

/-- R398, R406: no acknowledgement came within 14.6 ms: the frame is retried, one mode down after two failures in one, and fails after
its seventh attempt. A frame held behind a wake preamble goes out when its 2 s end. -/
def execAckTimeout (fsn : Nat) (s : State) : Out :=
  fin s (match s.kz.txs.find? fun x => x.fsn == fsn with
    | some x =>
      if !s.kzOn then s
      else match x.wakeEnd with
        | some t => if t ≤ s.now then s.kzRetry x { x with attempt := 1, wakeEnd := none } else s
        | none =>
          if s.now < x.endAt + kzAckWait then s
          else if x.attempt = 7 then
            { s with kz := { s.kz with txs := s.kz.txs.erase x, txFail := satU 16 (s.kz.txFail + 1) } }
          else if x.failsIn = 1 then s.kzRetry x { x with attempt := x.attempt + 1, failsIn := 0, mode := min 4 (x.mode + 1) }
          else s.kzRetry x { x with attempt := x.attempt + 1, failsIn := x.failsIn + 1 }
    | none => s)

/-- R402: JOIN_CNF to a requester, at the address it asked with. -/
def State.joinAnswer (s : State) (dest eui addr status : Nat) : State :=
  s.kzUnicast 3 dest (leBytes 8 eui ++ leBytes 2 addr ++ leBytes 1 status)

/-- R402: a refusal. -/
def State.joinRefuse (s : State) (dest eui status : Nat) : State :=
  (s.evKz .external 0x7033 (leBytes 8 eui ++ leBytes 1 status)).joinAnswer dest eui 0 status

/-- R405: a node's sector as it reports it. -/
def State.nodeSector (s : State) (eui sector : Nat) : State :=
  match s.kzLive.find? fun x => x.eui == eui with
  | some x =>
    if x.sector = sector then s
    else (s.onKzNode eui fun x => { x with sector := sector }).evKz .external 0x7036 (leBytes 2 x.addr ++ leBytes 1 x.sector ++ leBytes 1 sector)
  | none => s

/-- R399: a new entry; a full list first loses a departed one. -/
def State.enterNode (s : State) (x : KzNode) : State :=
  let l := s.kz.nodes.filter fun (y : KzNode) => y.eui != x.eui
  let l := if l.length < 256 then l else l.eraseP fun y => y.departed.isSome
  { s with kz := { s.kz with nodes := l ++ [x] } }.evKz .external 0x7031 (leBytes 8 x.eui ++ leBytes 2 x.addr)

/-- R399, R402: the address of an unknown node that asks with `held`, and the node that loses it. -/
def State.joinAddr (s : State) (eui held : Nat) : Nat × Option KzNode :=
  if held = 0 || 0xFFF < held then (s.pickAddr eui, none)
  else match s.kz.nodes.find? fun x => x.addr == held && x.eui != eui && s.holdsAddr x with
    | none => (held, none)
    | some y => if eui < y.eui then (held, some y) else (s.pickAddr eui, none)

/-- R402: another node with a lower EUI-64 keeps the address of `y`, which gets a free one. -/
def State.readdress (s : State) (y : KzNode) : State :=
  let a := s.pickAddr y.eui
  let t := s.drawn.onKzNode y.eui fun x => { x with addr := a }
  if y.eui = s.ident.eui64 then { t with kz := { t.kz with address := a } }
  else if y.departed.isSome then t
  else t.joinAnswer y.addr y.eui a 0

/-- R402: the master takes a JOIN_REQ. -/
def State.joinReq (s : State) (f : KzFrame) : State :=
  let u (o k : Nat) : Nat := leNat (sub f.body o k)
  let eui := f.eui
  let new (a : Nat) : KzNode := { eui := eui, addr := a, kind := u 8 1, sector := u 9 1, power := u 12 1, heardAt := s.now }
  match s.kz.nodes.find? fun x => x.eui == eui && s.holdsAddr x with
  | some x =>
    if x.departed.isNone then
      ((s.nodeSector eui (u 9 1)).onKzNode eui fun y => { y with kind := u 8 1, power := u 12 1, heardAt := s.now }).joinAnswer f.src eui x.addr 0
    else if 256 ≤ s.kzLive.length then s.joinRefuse f.src eui 1
    else (s.enterNode (new x.addr)).joinAnswer f.src eui x.addr 0
  | none =>
    if 256 ≤ s.kzLive.length then s.joinRefuse f.src eui 1
    else
      let (a, loser) := s.joinAddr eui (u 10 2)
      let t := (s.drawn.enterNode (new a)).joinAnswer f.src eui a 0
      match loser with | some y => t.readdress y | none => t

/-- R402: a JOIN_REQ arrives at the master; a failing tag is refused with status 2. -/
def execJoinReq (f : KzFrame) (s : State) : Out :=
  fin s (match s.kzReceive f s.kz.master with
    | (.accepted, t) => (t.joinReq f).memberFrom s
    | (.badTag, t) => if t.kz.master && (f.dest == t.kz.address || f.dest == 0xFFFF) then t.joinRefuse f.src f.eui 2 else t
    | (.dropped, t) => t)

/-- R402: this node's join is confirmed or refused. -/
def execJoinCnf (f : KzFrame) (s : State) : Out :=
  fin s (s.kzFrame f (!s.kz.master && f.eui == s.kz.masterEui && leNat (sub f.body 0 8) == s.ident.eui64) true fun t =>
    let t := t.kzAcked fun x => x.ft == 2
    let status := leNat (sub f.body 10 1)
    if status = 0 then
      State.memberFrom { t with kz := { t.kz with address := leNat (sub f.body 8 2) % 4096, joined := true, joinPend := false } } s
    else { t with kz := { t.kz with address := 0, joined := false, joinPend := true,
                                    joinWait := if status = 2 then some (t.now + sec 60) else t.kz.joinWait } })

/-- R402: the 60 s after a refusal of status 2 end. -/
def execJoinRetryWaitEnd (s : State) : Out :=
  fin s (match s.kz.joinWait with
    | some t => if t ≤ s.now then { s with kz := { s.kz with joinWait := none } } else s
    | none => s)

/-- R406: the frames held behind a wake preamble for a node that has sent PRESENCE go out. -/
def State.kzRelease (s : State) (addr : Nat) : State :=
  (s.kz.txs.filter fun x => x.dest == addr && x.wakeEnd.isSome).foldl
    (fun (s : State) (x : KzTx) => s.kzRetry x { x with attempt := 1, wakeEnd := none }) s

/-- R403, R405, R406: a PRESENCE is heard: every node learns whether the sender sleeps; the master keeps its sector, its power state and
the SNR it reports. -/
def execPresence (f : KzFrame) (s : State) : Out :=
  fin s (
    let (r, t) := s.kzReceive f (s.kz.master && (s.kzLive.any fun x => x.eui == f.eui))
    let asleep := leNat (sub f.body 1 1) == 1
    let t := if t.kz.pairs == s.kz.pairs then t
      else
        let t : State := { t with kz := { t.kz with pairs := t.kz.pairs.map fun (x : KzPair) => if x.eui == f.eui then { x with asleep := asleep } else x } }
        if asleep then t else t.kzRelease f.src
    if r = .accepted then
      let t := t.kzAck f.src
      (t.nodeSector f.eui (leNat (sub f.body 0 1))).onKzNode f.eui fun x =>
        { x with power := leNat (sub f.body 1 1), snr := leNat (sub f.body 2 1) }
    else t)

/-- R414: the mean SNR of the master in 0.25 dB; its rounding is open (log entry 1). -/
def State.kzSnr (s : State) : Nat :=
  match s.kzPairOf s.kz.masterEui with
  | some x => if x.snrs.isEmpty then 0 else satU 8 (s.roundDiv x.snrs.sum x.snrs.length)
  | none => 0

/-- R403: PRESENCE to the master, with a power state. -/
def State.presenceSend (s : State) (power : Nat) : State :=
  if s.kz.master || !s.kz.joined then s
  else match s.kzPairOf s.kz.masterEui with
    | some x => (s.kzUnicast 4 x.addr (leBytes 1 s.kzSector ++ leBytes 1 power ++ leBytes 1 s.kzSnr)).drawn
    | none => s

/-- R403: 10 s have passed without a frame sent. -/
def execPresenceSend (s : State) : Out := fin s (if s.kz.presAt + sec 10 ≤ s.now && s.kzOn then s.presenceSend 0 else s)

/-- R403: the master has had no frame from a node for 30 s. -/
def execNodeDeparture (eui : Nat) (s : State) : Out :=
  fin s (match s.kzLive.find? fun x => x.eui == eui with
    | some x =>
      if s.kz.master && eui != s.ident.eui64 && x.heardAt + sec 30 ≤ s.now then
        (s.onKzNode eui fun x => { x with departed := some s.now }).evKz .external 0x7032 (leBytes 8 eui ++ leBytes 2 x.addr)
      else s
    | none => s)

/-! ### Bindings (R404) -/

/-- R404, R408: BIND to a node, with the binding; no node of an unknown address is reached. -/
def State.bindSend (s : State) (p : KzPeer) (first : Bool) : State :=
  match s.kzPairOf p.eui with
  | some q => s.kzUnicast 5 q.addr (leBytes 1 p.role ++ leBytes 1 p.group ++ leBytes 8 p.mask) first
  | none => s

/-- R404: the BIND of a stored binding goes out again after a change of master. -/
def execKryuzBind (k : Nat) (s : State) : Out :=
  fin s (match s.kz.peers[k]? with
    | some p =>
      if p.resend && s.kzOn && (s.kzPairOf p.eui).isSome then
        { s with kz := { s.kz with peers := s.kz.peers.modify k fun (x : KzPeer) => { x with resend := false } } }.bindSend p false
      else s
    | none => s)

/-- R404, R408: a FEEDBACK frame of the cabinet bound to a group answers its SETPOINT; its messages follow the order of the group's
setpoints. -/
def execKryuzFeedback (f : KzFrame) (s : State) : Out :=
  let g := leNat (sub f.body 0 1)
  fin s (s.kzFrame f (s.kz.peers.any fun x => x.role == 2 && x.group == g && x.eui == f.eui) true fun s =>
    let s := s.kzAcked fun x => x.ft == 6 && x.dest == f.src && leNat (sub x.body 0 1) == g
    let lanes := ((s.lanesOf g).filter fun n => (s.typ n).isDc && (s.lane n).st != .offline && s.pathOf n == some 4).take (leNat (sub f.body 1 1))
    lanes.zipIdx.foldl (fun (s : State) (x : Nat × Nat) => s.feedback x.1 false (sub f.body (2 + 16 * x.2) 16)) s)

/-- R404, R92, R93: a post head's card read is presented to the lane it names, or to all the post head serves when it names none of them. -/
def execCard (f : KzFrame) (s : State) : Out :=
  let n := leNat (sub f.body 0 1)
  let mask := ((s.kz.peers.find? fun x => x.role == 1 && x.eui == f.eui).map (·.mask)).getD 0
  fin s (s.kzFrame f (s.kz.peers.any fun x => x.role == 1 && x.eui == f.eui) true fun s =>
    let lanes := (bitsOf 64 mask).filter fun k => decide (k < s.nLanes) && (s.typ k).charges
    s.present (if lanes.contains n then [n] else lanes)
      { src := 3, ident := sub f.body 2 (min 10 (leNat (sub f.body 1 1))), time := s.now } .external)

/-! ### Hub power sharing (R168-R170) -/

/-- R162, R168: the module budget without the grant, none when no term applies. -/
def State.reportBudget (s : State) : Option Nat :=
  { s with ps := { s.ps with fallback := false, grantAt := none } }.moduleBudget

/-- R168: one lane of a report: floor and cap in 100 W, a phase-limited cap bounded by the module's phase budget. A claimant asks for its
floor. -/
def State.hubLane (s : State) (n : Nat) : HubLane :=
  let x := s.sharer n
  let floor := max x.floor0 x.minP
  let cap := if s.ps.phaseLimit ≠ 0 ∧ 0 < x.per then min x.cap ((((s.ps.phaseLimit : Nat) : Rat) / x.per).floor.toNat / 100 * 100) else x.cap
  { lane := n, group := s.groupOf n, priority := x.prio, active := x.active, floor := satU 16 (floor / 100),
    cap := satU 16 (max floor (if x.active then cap else floor) / 100) }

/-- R168, R461: the lanes this module reports, none in PARK. -/
def State.hubLanes (s : State) : List HubLane :=
  if s.pw.state = 0 then ((List.range s.nLanes).filter s.takesPart).map s.hubLane else []

/-- R168: what this module reports of itself. -/
def State.ownReport (s : State) : HubRep :=
  { addr := s.kz.address, eui := s.ident.eui64, atT := s.now, budget := s.reportBudget.getD 0xFFFFFFFF,
    groups := s.cfg.groups.map fun g => (g.group, s.groupBudget g.group), lanes := s.hubLanes }

/-- R408: lanes that share group, priority, floor and cap make one entry. -/
def hubEntries : List HubLane → List (Nat × HubLane)
  | [] => []
  | x :: l =>
    let rest := hubEntries l
    let same (y : HubLane) : Bool := y.group == x.group && y.priority == x.priority && y.floor == x.floor && y.cap == x.cap
    if rest.any fun e => same e.2 then rest.map fun e => if same e.2 then (setBit e.1 x.lane true, e.2) else e
    else (setBit 0 x.lane true, x) :: rest

/-- R408: the body of a SHARE_REPORT. -/
def HubRep.body (r : HubRep) (phase : Nat) : Bytes :=
  let es := hubEntries r.lanes
  leBytes 4 r.budget ++ leBytes 2 phase ++ leBytes 2 phase ++ leBytes 2 phase ++ leBytes 1 r.groups.length ++
    (r.groups.flatMap fun g => leBytes 1 g.1 ++ leBytes 4 g.2) ++ leBytes 1 es.length ++
    es.flatMap fun e => leBytes 8 e.1 ++ leBytes 1 e.2.group ++ leBytes 1 e.2.priority ++ leBytes 2 e.2.floor ++ leBytes 2 e.2.cap

/-- R408: a report from the body of a SHARE_REPORT; its entries are expanded into single lanes. -/
def parseReport (b : Bytes) : HubRep :=
  let u (o k : Nat) : Nat := leNat (sub b o k)
  let g := u 10 1
  let e := 11 + 5 * g
  { budget := u 0 4, groups := (List.range g).map fun i => (u (11 + 5 * i) 1, u (12 + 5 * i) 4),
    lanes := (List.range (u e 1)).flatMap fun i =>
      let o := e + 1 + 14 * i
      (bitsOf 64 (u o 8)).map fun n =>
        { lane := n, group := u (o + 8) 1, priority := u (o + 9) 1, active := true, floor := u (o + 10) 2, cap := u (o + 12) 2 } }

/-- R168: a module reports to the master every 1 s. -/
def execShareReportSend (s : State) : Out :=
  fin s (match s.kzPairOf s.kz.masterEui with
    | some x =>
      if s.kzOn && s.kz.joined && !s.kz.master && (match s.kz.shareAt with | some t => decide (t + sec 1 ≤ s.now) | none => true) then
        { s with kz := { s.kz with shareAt := some s.now } }.kzUnicast 8 x.addr (s.ownReport.body s.ps.phaseLimit)
      else s
    | none => s)

/-- R168, R169: the master takes a module's report; the FALLBACK_W it will subtract for it is not carried and stays open (log entry 1). -/
def execShareReport (f : KzFrame) (s : State) : Out :=
  fin s (s.kzFrame f (s.kz.master && s.kzLive.any fun x => x.eui == f.eui && x.kind == 0) true fun s =>
    let old := s.ps.reports.find? fun r => r.eui == f.eui
    let r : HubRep := { parseReport f.body with addr := f.src, eui := f.eui, atT := s.now,
                                                fallback := match old with | some o => o.fallback | none => s.free 32 }
    { s with ps := { s.ps with reports := s.ps.reports.filter (fun (x : HubRep) => x.eui != f.eui) ++ [r] } }.drawn)

/-- R168: the mode of a broadcast to the nodes of some addresses: the lowest among their links. -/
def State.kzModeAll (s : State) (addrs : List Nat) : Nat := (addrs.map s.kzModeTo).foldl max (min 4 s.kz.maxMode)

/-- R159, R168: the lanes of the hub in hub order: module by module in ascending EUI-64. -/
def hubSharers (reps : List HubRep) : List Sharer :=
  reps.zipIdx.flatMap fun (r, i) => r.lanes.map fun l =>
    { key := 64 * i + l.lane, prio := l.priority, since := 0, active := true, floor0 := 0, minP := 100 * l.floor, cap := 100 * max l.floor l.cap,
      per := 0, loads := [], ac1 := false }

/-- R168, R169: the budgets of a hub round: the hub limit less the FALLBACK_W of the absent, every module's and every group's. -/
def hubBudgets (limit : Nat) (reps : List HubRep) (xs : List Sharer) : List Budget :=
  let all : Budget := { limit := limit, ws := xs.map fun x => (x.key, 1) }
  all :: reps.zipIdx.flatMap fun (r, i) =>
    let own := xs.filter fun x => x.key / 64 == i
    let mod : List Budget := if r.budget = 0xFFFFFFFF then [] else [{ limit := r.budget, ws := own.map fun x => (x.key, 1) }]
    mod ++ r.groups.map fun g =>
      { limit := g.2, ws := (r.lanes.filter fun l => l.group == g.1).map fun l => (64 * i + l.lane, 1) }

/-- R168: the grant of each module: address and W. -/
def hubGrants (limit : Nat) (reps : List HubRep) : List (Nat × Nat) :=
  let xs := hubSharers reps
  let a := (shareOut xs (hubBudgets limit reps xs) none).a
  reps.zipIdx.map fun (r, i) => (r.addr, ((a.filter fun x => x.1 / 64 == i).map fun x => x.2.floor.toNat).sum)

/-- R169, R170: a grant of W watts and the hub limit arrive. -/
def State.granted (s : State) (w : Option Nat) (limit : Nat) : State :=
  let s : State := { s with ps := { s.ps with hubLimit := limit } }
  match w with
  | some w =>
    if s.hubMember then s.grantTakes w false else s
  | none => s

/-- R168-R170: the hub round: waiting hub limits take effect, the hub is shared out, the grants go out and this module takes its own. -/
def execHubRound (s : State) : Out :=
  fin s (
    if s.kz.master && (match s.kz.roundAt with | some t => decide (t + sec 1 ≤ s.now) | none => true) then
      let s := s.ps.hubTickets.foldl (fun (s : State) (tk : Nat) => s.onTicket tk 0x0305 fun t =>
          { s with ps := { s.ps with hubLimit := t.u 0 4 } }.complete t St.ok) { s with ps := { s.ps with hubTickets := [] } }
      let reps := sortBy (fun (x y : HubRep) => decide (x.eui < y.eui)) (s.ownReport :: s.ps.reports.filter fun r => !r.absent)
      let limit := s.ps.hubLimit - ((s.ps.reports.filter fun r => r.absent).map (·.fallback)).sum
      let grants := hubGrants limit reps
      let s : State := { s with kz := { s.kz with roundAt := some s.now, round := (s.kz.round + 1) % 2 ^ 32 }, ps := { s.ps with grantsOut := grants } }
      let s := s.kzBroadcast 9 (s.kzModeAll ((s.kzLive.filter fun x => x.eui != s.ident.eui64).map (·.addr)))
        (leBytes 4 s.kz.round ++ leBytes 4 s.ps.hubLimit ++ leBytes 1 grants.length ++ grants.flatMap fun g => leBytes 2 g.1 ++ leBytes 4 g.2)
      s.granted ((grants.find? fun g => g.1 == s.kz.address).map (·.2)) s.ps.hubLimit
    else s)

/-- R168-R170: the master's GRANT arrives. -/
def execGrant (f : KzFrame) (s : State) : Out :=
  fin s (s.kzFrame f (!s.kz.master && f.eui == s.kz.masterEui) false fun s =>
    let gs := (List.range (leNat (sub f.body 8 1))).map fun i => (leNat (sub f.body (9 + 6 * i) 2), leNat (sub f.body (11 + 6 * i) 4))
    s.granted ((gs.find? fun g => g.1 == s.kz.address).map (·.2)) (leNat (sub f.body 4 4)))

/-! ### Load (R409) -/

/-- R409: the busy fraction of the last 10 s and this module's share of it, in %. -/
def execKryuzLoadMeasure (busy own : Nat) (s : State) : Out :=
  fin s (
    let s : State := { s with kz := { s.kz with busy := satU 8 busy, own := satU 8 own } }
    let ev (st : Nat) (s : State) : State := s.evKz .diag 0x7034 (leBytes 1 (satU 8 busy) ++ leBytes 1 st ++ leBytes 1 (satU 8 own))
    if 80 < busy && !s.kz.loadHigh then ev 1 { s with kz := { s.kz with loadHigh := true } }
    else if busy < 70 && s.kz.loadHigh then ev 0 { s with kz := { s.kz with loadHigh := false } }
    else s)

/-! ### Distribution (R410) -/

/-- R408: bytes of a segment of a fragment. -/
def segLen (k : Nat) : Nat := if k = 9 then 406 else 410

/-- R410: a segment of a fragment of a transfer; what stands beyond the end of a short fragment is open (log entry 1). -/
def State.segment (s : State) (x : Xfer) (frag k : Nat) : Bytes :=
  let b := sub ((x.store.find? fun y => y.1 == frag).map (·.2) |>.getD []) (410 * k) (segLen k)
  b ++ s.freeBytes (segLen k - b.length)

/-- R410: the fragments of a pass: all at first, then those some target lacks. -/
def KzDist.pending (d : KzDist) (frags : Nat) : List Nat :=
  (List.range frags).filter fun k => d.pass == 1 || d.targets.any fun t => t.addr != 0 && !t.held.contains k

/-- R410: a pass: every fragment it sends as ten segments, in the lowest mode among the links to the targets, then a poll of every target.
Priority 3 frames take DIST_SHARE of the medium at most. -/
def State.distPass (s : State) (d : KzDist) (x : Xfer) : State :=
  let addrs := (d.targets.filter fun t => t.addr != 0).map (·.addr)
  let mode := s.kzModeAll addrs
  let frags := d.pending x.frags
  let s := frags.foldl (fun (s : State) (k : Nat) => (List.range 10).foldl (fun (s : State) (j : Nat) =>
      (s.kzBroadcast 12 mode (leBytes 4 d.xfer ++ leBytes 2 k ++ leBytes 1 j ++ s.segment x k j)).drawn) s) s
  let delay := frags.length * 10 * kzAirtime mode 433 * 100 / max 1 s.kz.distShare
  let s := addrs.foldl (fun (s : State) (a : Nat) => s.kzUnicast 13 a (leBytes 4 d.xfer)) s
  { s with kz := { s.kz with dist := some d, txs := s.kz.txs.map fun (y : KzTx) => if y.ft == 13 then { y with endAt := y.endAt + delay } else y } }

/-- R410, R412: what a distribution tells of a target: 0 complete, 1 incomplete, 2 not reached. -/
def KzTarget.status (t : KzTarget) (frags : Nat) : Nat := if frags ≤ t.held.length then 0 else if t.seen then 1 else 2

/-- R410: the distribution ends: DIST_RESULT and the completion. -/
def State.distEnds (s : State) (d : KzDist) (frags : Nat) : State :=
  let whole := (d.targets.filter fun t => t.status frags == 0).length
  let s : State := { s with kz := { s.kz with dist := none } }
  let s := s.evKz .host 0x7035 (leBytes 4 d.xfer ++ leBytes 1 whole ++ leBytes 1 (d.targets.length - whole) ++ leBytes 1 d.pass)
  s.onTicket d.ticket 0x0A05 fun t => s.complete t St.ok (d.targets.flatMap fun x => leBytes 2 x.held.length ++ leBytes 1 (x.status frags))

/-- R410: a pass is over once every poll of it has been answered or has failed: the next pass or the end. -/
def execDistPassEnd (s : State) : Out :=
  fin s (match s.kz.dist with
    | some d =>
      match s.xfer d.xfer with
      | some x =>
        if s.kz.txs.any fun y => y.ft == 13 then s
        else if d.pass = 16 || d.targets.all fun t => t.addr == 0 || t.status x.frags == 0 then s.distEnds d x.frags
        else s.distPass { d with pass := d.pass + 1 } x
      | none => s.distEnds d 0xFFFFFFFF
    | none => s)

/-- R410, R412: KZ_DISTRIBUTE: sleeping targets are woken, the announcement goes out three times and the first pass begins. -/
def execKzDistribute (tk : Nat) (s : State) : Out :=
  fin s (s.onTicket tk 0x0A05 fun t =>
    let n := t.u 4 1
    if (match s.kz.dist with | some d => d.ticket == tk | none => false) then s
    else if !s.kz.master then s.complete t St.refusedState
    else if s.kz.dist.isSome then s.complete t St.busy
    else match s.xfer (t.u 0 4) with
      | none => s.complete t St.badArgument
      | some x =>
        if !x.complete || n = 0 || 15 < n || t.arg.length != 5 + 8 * n then s.complete t St.badArgument
        else
          let targets : List KzTarget := (List.range n).map fun i =>
            let e := t.u (5 + 8 * i) 8
            { eui := e, addr := ((s.kzLive.find? fun y => y.eui == e).map (·.addr)).getD 0 }
          let d : KzDist := { ticket := tk, xfer := x.num, targets := targets }
          let addrs := (targets.filter fun y => y.addr != 0).map (·.addr)
          let s := addrs.foldl (fun (s : State) (a : Nat) => if (match s.kzPairAt a with | some p => p.asleep | none => false) then s.kzWake else s) s
          let ann := leBytes 4 x.num ++ leBytes 4 x.size ++ leBytes 2 x.frags ++ x.hash ++ leBytes 1 addrs.length ++ addrs.flatMap (leBytes 2)
          let mode := s.kzModeAll addrs
          let s := (List.range 3).foldl (fun (s : State) _ => s.kzBroadcast 11 mode ann) s
          s.distPass d x)

/-- R410: the master announces a transfer: a target resumes the one it holds of the same object, else opens one. The announcement does
not carry the kind: it is open (log entry 1). -/
def execDistAnnounce (f : KzFrame) (s : State) : Out :=
  fin s (s.kzFrame f (!s.kz.master && f.eui == s.kz.masterEui) false fun s =>
    let u (o k : Nat) : Nat := leNat (sub f.body o k)
    let size := u 4 4
    let hash := sub f.body 10 32
    if !((List.range (u 42 1)).any fun i => u (43 + 2 * i) 2 == s.kz.address) then s
    else match s.up.xfers.find? fun x => x.hash == hash && x.size == size with
      | some x => { s with kz := { s.kz with rxDist := u 0 4, rxNum := x.num, segs := if s.kz.rxNum = x.num then s.kz.segs else [] } }
      | none =>
        let kind := s.free 8 % 5
        if s.openRefusal kind size != St.ok then s.drawn
        else { s with kz := { s.kz with rxDist := u 0 4, rxNum := s.up.nextNum, segs := [] } }.drawn.openXfer kind size hash)

/-- R410: a segment arrives; a fragment is held when all ten of it are in. -/
def execDistSegment (f : KzFrame) (s : State) : Out :=
  fin s (s.kzFrame f (!s.kz.master && f.eui == s.kz.masterEui) false fun s =>
    let frag := leNat (sub f.body 4 2)
    let k := leNat (sub f.body 6 1)
    match s.xfer s.kz.rxNum with
    | some x =>
      if s.kz.rxDist = 0 || leNat (sub f.body 0 4) != s.kz.rxDist || x.complete || x.frags ≤ frag || 9 < k ||
          (x.held s.rd.active).contains frag || f.body.length != 7 + segLen k then s
      else
        let old := ((s.kz.segs.find? fun y => y.1 == frag).map (·.2)).getD []
        let parts := (k, f.body.drop 7) :: old.filter fun y => y.1 != k
        let others := s.kz.segs.filter fun y => y.1 != frag
        if parts.length < 10 then { s with kz := { s.kz with segs := (frag, parts) :: others } }
        else
          let data := (List.range 10).flatMap fun j => ((parts.find? fun y => y.1 == j).map (·.2)).getD []
          ({ s with kz := { s.kz with segs := others } }.putFragment x.num frag (data.take (x.fragLen frag))).checkXfer x.num
    | none => s)

/-- R408, R410: what a target holds: its fragments, the first missing and the 2,048 after it. -/
def State.distStatus (s : State) (transfer : Nat) : Bytes :=
  let x : Xfer := if transfer = s.kz.rxDist then (s.xfer s.kz.rxNum).getD {} else {}
  let held := x.held s.rd.active
  let first := ((List.range x.frags).find? fun k => !held.contains k).getD x.frags
  leBytes 4 transfer ++ leBytes 2 held.length ++ leBytes 2 first ++
    leBytes 256 (maskOf ((List.range 2048).filter fun i => held.contains (first + i)))

/-- R410: a target answers the master's poll. -/
def execDistPoll (f : KzFrame) (s : State) : Out :=
  fin s (s.kzFrame f (!s.kz.master && f.eui == s.kz.masterEui) false fun s => s.kzUnicast 14 f.src (s.distStatus (leNat (sub f.body 0 4))))

/-- R410: the master learns what a target holds. -/
def execDistStatus (f : KzFrame) (s : State) : Out :=
  fin s (s.kzFrame f (match s.kz.dist with | some d => d.targets.any fun t => t.eui == f.eui | none => false) true fun s =>
    let first := leNat (sub f.body 6 2)
    let map := leNat (sub f.body 8 256)
    let s := s.kzAcked fun x => x.ft == 13 && x.dest == f.src
    match s.kz.dist with
    | some d =>
      if leNat (sub f.body 0 4) != d.xfer then s
      else
        let held (old : List Nat) : List Nat :=
          List.range first ++ ((List.range 2048).filter fun i => bit map i).map (first + ·) ++ old.filter fun k => decide (first + 2048 ≤ k)
        { s with kz := { s.kz with dist := some { d with targets := d.targets.map fun (t : KzTarget) =>
            if t.eui == f.eui then { t with held := held t.held, seen := true } else t } } }
    | none => s)

/-! ### Registers (R414) -/

/-- KZ_STATUS. -/
def State.kzStatus (s : State) : Nat :=
  regOf [(0, 1, b2n s.kz.master), (1, 1, b2n (s.kz.address != 0)), (2, 1, b2n (!s.kz.keyEn)), (3, 1, b2n s.zcOk), (4, 3, s.kzSector),
    (7, 9, if s.kz.master then s.kzLive.length else 0), (16, 12, s.kz.address)]

/-- KZ_CFG. -/
def State.kzCfg (s : State) : Nat :=
  regOf [(0, 12, s.kz.keyNode), (12, 1, b2n s.kz.keyEn), (13, 3, s.kz.beaconMode), (16, 3, s.kz.maxMode), (19, 1, b2n s.kz.enable),
    (24, 8, s.kz.distShare)]

/-- A write of KZ_CFG: modes above 4 are stored as 4 for beacons, DIST_SHARE within 10-70. -/
def State.writeKzCfg (s : State) (v : Nat) : State :=
  { s with kz := { s.kz with keyNode := fieldOf v 0 12, keyEn := flagOf v 12, beaconMode := min 4 (fieldOf v 13 3), maxMode := fieldOf v 16 3,
                             enable := flagOf v 19, distShare := max 10 (min 70 (fieldOf v 24 8)) } }

/-- KZ_LINK. -/
def State.kzLink (s : State) : Nat :=
  regOf [(0, 8, s.kzSnr), (8, 3, match s.kzPairOf s.kz.masterEui with | some x => s.kzModeTo x.addr | none => 4),
    (16, 16, if s.kzSector = 7 then 0xFFFF else s.kz.angle),
    (32, 16, match s.kz.beaconAt with | some t => satU 16 ((s.now - t) / 1000000) | none => 0xFFFF)]

/-- KZ_LOAD. -/
def State.kzLoad (s : State) : Nat := regOf [(0, 8, s.kz.busy), (8, 8, s.kz.own)]
/-- KZ_COUNT0. -/
def State.kzCount0 (s : State) : Nat := regOf [(0, 32, s.kz.rxOk), (32, 16, s.kz.hdrFail), (48, 16, s.kz.erased)]
/-- KZ_COUNT1. -/
def State.kzCount1 (s : State) : Nat := regOf [(0, 32, s.kz.txOk), (32, 16, s.kz.txFail), (48, 16, s.kz.authFail)]

/-- A write of KZ_COUNT0. -/
def State.writeKzCount0 (s : State) (v : Nat) : State :=
  { s with kz := { s.kz with rxOk := onesClear s.kz.rxOk v 0 32, hdrFail := onesClear s.kz.hdrFail v 32 16, erased := onesClear s.kz.erased v 48 16 } }
/-- A write of KZ_COUNT1. -/
def State.writeKzCount1 (s : State) (v : Nat) : State :=
  { s with kz := { s.kz with txOk := onesClear s.kz.txOk v 0 32, txFail := onesClear s.kz.txFail v 32 16, authFail := onesClear s.kz.authFail v 48 16 } }

/-- KZ_DIST. -/
def State.kzDist (s : State) : Nat :=
  let (transfer, num, pass) := match s.kz.dist with | some d => (d.xfer, d.xfer, d.pass) | none => (s.kz.rxDist, s.kz.rxNum, 0)
  regOf [(0, 32, transfer), (32, 16, match s.xfer num with | some x => (x.held s.rd.active).length | none => 0), (48, 8, pass)]

/-! ### Requests (R412) -/

/-- R412: KZ_READ. -/
def execKzRead (tk : Nat) (s : State) : Out :=
  fin s (s.onTicket tk 0x0A01 fun t => s.complete t St.ok
    ([s.kzStatus, s.kzCfg, s.kz.masterEui, s.kzLink, s.kzLoad, s.kzCount0, s.kzCount1, s.kzDist].flatMap regBytes))

/-- R412: KZ_NODE_READ. -/
def execKzNodeRead (tk : Nat) (s : State) : Out :=
  fin s (s.onTicket tk 0x0A02 fun t =>
    if !s.kz.master then s.complete t St.refusedState
    else if t.u 1 1 = 0 || 32 < t.u 1 1 then s.complete t St.badArgument
    else s.complete t St.ok (((s.kzLive.drop (t.u 0 1)).take (t.u 1 1)).flatMap fun x =>
      leBytes 8 x.eui ++ leBytes 2 x.addr ++ leBytes 1 x.kind ++ leBytes 1 x.sector ++ leBytes 1 x.snr ++ leBytes 1 x.power ++
        leBytes 2 (if x.eui = s.ident.eui64 then 0 else satU 16 ((s.now - x.heardAt) / 1000000000))))

/-- R404, R412: KZ_PEER_BIND: BIND goes to the node; the acknowledgement completes the request. -/
def execKzPeerBind (tk : Nat) (s : State) : Out :=
  fin s (s.onTicket tk 0x0A03 fun t =>
    let p : KzPeer := { eui := t.u 0 8, role := t.u 8 1, group := t.u 9 1, mask := t.u 10 8 }
    if (match s.kz.bindTk with | some (k, _, _) => k == tk | none => false) then s
    else if 2 < p.role || (p.role = 2 && (match s.cfg.group p.group with | some g => g.path != 4 | none => true)) ||
        2 ^ s.nLanes ≤ p.mask then s.complete t St.badArgument
    else if s.kz.bindTk.isSome then s.complete t St.busy
    else { s with kz := { s.kz with bindTk := some (tk, p, s.now + sec 10) } }.bindSend p true)

/-- R412: the BIND of KZ_PEER_BIND is unacknowledged after 10 s: TIMEOUT, without effect. -/
def execPeerBindTimeout (s : State) : Out :=
  fin s (match s.kz.bindTk with
    | some (tk, _, e) =>
      if e ≤ s.now then
        let s : State := { s with kz := { s.kz with bindTk := none, txs := s.kz.txs.filter fun (x : KzTx) => !x.bind } }
        s.onTicket tk 0x0A03 fun t => s.complete t St.timeout
      else s
    | none => s)

/-- R406, R412: KZ_WAKE: OK when the preamble is sent; a silent modem sends none (log entry 4). -/
def execKzWake (tk : Nat) (s : State) : Out :=
  fin s (s.onTicket tk 0x0A04 fun t => if s.kzOn then s.kzWake.complete t St.ok else s.complete t St.refusedState)

/-- R412: KZ_COUNT_CLEAR. -/
def execKzCountClear (tk : Nat) (s : State) : Out :=
  fin s (s.onTicket tk 0x0A06 fun t =>
    { s with kz := { s.kz with rxOk := 0, hdrFail := 0, erased := 0, txOk := 0, txFail := 0, authFail := 0 } }.complete t St.ok)

end Sys2Proof.Machine
end

