-- ==== Sys2Proof/Machine/Lane.lean ====
section
/-! DEFINITION. Lane.lean: the commands of "Lane lifecycle" and of the control pilot (R26, R83-R107, R543). -/
namespace Sys2Proof.Machine

/-! ### The measured pilot (R106, R107) -/

/-- R106: whether a plateau lies in a state's band, widened by 0.2 V at each boundary when the state is the present one. -/
def inBand (lo hi v : Int) (here : Bool) : Bool :=
  if here then decide (lo - 200 ≤ v) && decide (v ≤ hi + 200) else decide (lo ≤ v) && decide (v < hi)

/-- R106: the positive band of a state, in mV. -/
def Pilot.band : Pilot → Option (Int × Int)
  | .a => some (10500, 13500)
  | .b => some (7500, 10500)
  | .c => some (4500, 7500)
  | .d => some (1500, 4500)
  | .e => some (-1500, 1500)
  | .f | .none | .invalid | .diode => Option.none

/-- R106: the negative plateau allows a state: any for A, the low phase of a diode for B to D, none or near 0 V for E. -/
def Pilot.lowOk (p : Pilot) (neg : Option Int) : Bool :=
  match neg with
  | Option.none => true
  | some v =>
    match p with
    | .a => true
    | .b | .c | .d => decide (-13500 ≤ v) && decide (v ≤ -10500)
    | .e => decide (-1500 ≤ v) && decide (v ≤ 1500)
    | .f | .none | .invalid | .diode => false

/-- R106, R107: the measured state of the plateaus `pos` and `neg` (mV, none without that phase) while the lane drives `cp`
and last measured `here`. -/
def measuredPilot (cp : CpMode) (here : Pilot) (pos neg : Option Int) : Pilot :=
  match cp with
  | .v0 => .none
  | .f => match neg with | some v => if -13500 ≤ v ∧ v ≤ -10500 then .f else .invalid | Option.none => .invalid
  | .s12 | .s5 | .pwm =>
    match pos with
    | Option.none => .invalid
    | some v =>
      let fits (p : Pilot) (h : Bool) : Bool := match p.band with | some (lo, hi) => inBand lo hi v h && p.lowOk neg | Option.none => false
      if fits here true then here
      else if fits .a false || v == 13500 then .a
      else if (cp == .s5 || cp == .pwm) && inBand 1500 10500 v false &&
          (match neg with | some w => decide (-10500 < w) | Option.none => false) then .diode
      else if fits .b false then .b else if fits .c false then .c else if fits .d false then .d
      else if fits .e false then .e else .invalid

/-- R107, R130: a plateau pair is measured; a new band is stamped, and each episode of invalid or missing diode counts. -/
def execPilotStateChange (n : Nat) (pos neg : Option Int) (s : State) : Out :=
  fin s (
    let l := s.lane n
    let q := measuredPilot l.cp l.pilot pos neg
    let same := match (s.hsl n).p.cand with | some (k, _) => k == q | none => false
    let s := s.onPilot n fun p => { p with posMv := pos.getD 0, negMv := neg.getD 0,
                                           cand := if q == l.pilot then none else if same then p.cand else some (q, s.now) }
    if q == l.pilot || same || l.cp == .f || l.cp == .v0 then s
    else s.onCnt n fun c => { c with pilotInvalid := if q == .invalid then satU 16 (c.pilotInvalid + 1) else c.pilotInvalid,
                                     diode := if q == .diode then satU 16 (c.diode + 1) else c.diode })

/-- R107: a change that has held for 1.0 ms after its stamp is confirmed and reaches the lane. -/
def execPilotConfirm (n : Nat) (s : State) : Out :=
  fin s (match (s.hsl n).p.cand with
    | some (q, t) =>
      if t + ms 1 ≤ s.now then
        let plug := (s.lane n).pilot == .a && q == .b && (s.typ n).charges
        let s := if plug then s.sourceFires 3 n else s
        (s.onPilot n fun p => { p with cand := none }).pilotArrives n q t
      else s
    | none => s)

/-! ### Timers (R26, R87) -/

/-- R26: the hold of an expired timer ends without an in-time arrival. -/
def execTimeoutHoldEnd (n k : Nat) (carried : Bool) (s : State) : Out :=
  fin s (if (s.lane n).holds.any (fun x => x.1 == k && decide (x.2 + 200 ≤ s.now)) then s.expire n k carried else s)

/-- R87: PLUG. -/
def execPlugExpiry (n : Nat) (s : State) : Out := fin s (s.timerEvent n Tm.plug)
/-- R87: SETTLE. -/
def execSettleExpiry (n : Nat) (s : State) : Out := fin s (s.timerEvent n Tm.settle)
/-- R87: HOST_AUTH. -/
def execHostAuthExpiry (n : Nat) (s : State) : Out := fin s (s.timerEvent n Tm.hostAuth)
/-- R89: GUARD_WAIT. -/
def execGuardWaitExpiry (n : Nat) (s : State) : Out := fin s (s.timerEvent n Tm.guardWait)
/-- R87: CABLE_CHECK. -/
def execCableCheckExpiry (n : Nat) (s : State) : Out := fin s (s.timerEvent n Tm.cableCheck)
/-- R87: PRECHARGE. -/
def execPrechargeExpiry (n : Nat) (s : State) : Out := fin s (s.timerEvent n Tm.precharge)
/-- R91: RAMP. -/
def execRampExpiry (n : Nat) (s : State) : Out := fin s (s.timerEvent n Tm.ramp)
/-- R139: WELD. -/
def execWeldExpiry (n : Nat) (s : State) : Out := fin s (s.timerEvent n Tm.weld)
/-- R98: DEGRADED. -/
def execDegradedExpiry (n : Nat) (s : State) : Out := fin s (s.timerEvent n Tm.degraded)
/-- R87: SUSPEND. -/
def execSuspendExpiry (n : Nat) (s : State) : Out := fin s (s.timerEvent n Tm.suspend)
/-- R93: PREAUTH. -/
def execPreauthExpiry (n : Nat) (s : State) : Out := fin s (s.timerEvent n Tm.preauth)
/-- R141: LOCK_PULSE; `carried` as for TIMEOUT_HOLD_END. -/
def execLockPulseExpiry (n : Nat) (carried : Bool) (s : State) : Out := fin s (s.timerEvent n Tm.lockPulse carried)

/-- R97: an AC lane still in state C 3 s after SUSPENDED entry opens AC_MAIN. -/
def execSuspendAcOpenTimer (n : Nat) (s : State) : Out :=
  fin s (match (s.lane n).acOpenDue with
    | some t => if t ≤ s.now && (s.lane n).st == .suspended then s.openSuspended n else s
    | none => s)

/-! ### Guards and FAULT (R89, R100, R543) -/

/-- R89: a lane held by a false energy guard sees it turn true. -/
def execEnergyGuardTrue (n : Nat) (s : State) : Out :=
  fin s (
    if (s.lane n).guardHeld && s.energyGuard n then
      let t := (s.onLane n fun l => { l with guardHeld := false }).stopTimer n Tm.guardWait
      match (s.lane n).st with
      | .negotiate => (t.cpOffer n true).advance n
      | .isolationTest => if (s.ppl n).isoPass then t.go n .precharge .none .external else t
      | .suspended => t.advance n
      | .offline | .idle | .plugged | .identify | .authorise | .precharge | .energy | .rampDown | .openCheck | .unlock
      | .fault | .degraded => t
    else s)

/-- R100, R543: the conditions of FAULT other than the pilot's hold, PILOT_FAULT aside. -/
def State.faultClear (s : State) (n : Nat) : Bool :=
  ((s.lane n).causes.all fun c => c == .pilotFault) && s.belowFor n (sec 1) && !(s.lane n).pulsing && !(s.lane n).unlockDue

/-- R100: the exit conditions of FAULT are all met; a METER lane needs only that its causes have cleared. -/
def execFaultExit (n : Nat) (s : State) : Out :=
  fin s (
    let s := s.settleOutput n
    let l := s.lane n
    if l.st == .fault && l.causes.isEmpty &&
        (s.typ n == .meter ||
          (s.faultClear n && (match l.pilotA with | some t => l.pilot == .a && decide (t + ms 10 ≤ s.now) | none => false)))
    then s.go n .idle .none .external else s)

/-- R543: every condition of R100 but the pilot's holds, so the lane drives S12 in place of F and measures as in IDLE. -/
def execFaultPilotRelease (n : Nat) (s : State) : Out :=
  fin s (
    let s := s.settleOutput n
    if (s.lane n).st == .fault && (s.lane n).cp == .f && s.faultClear n && s.typ n != .meter then
      (s.cpS12 n).onLane n fun l => { l with pilotA := none, pilotABC := none }
    else s)

/-- R543: the pilot has read A, B or C for 1 s at S12, and PILOT_FAULT clears at its source. -/
def execPilotFaultClear (n : Nat) (s : State) : Out :=
  fin s (
    let l := s.lane n
    if l.st == .fault && l.cp == .s12 && (match l.pilotABC with | some t => decide (t + sec 1 ≤ s.now) | none => false) then
      s.clearCause n .pilotFault 0
    else s)

/-! ### Lane requests (R95, R101) -/

/-- R3, R50, R101: a lane request: an absent lane is BAD_ARGUMENT, a pending one BUSY, a METER lane NOT_SUPPORTED. -/
def State.laneReq (s : State) (t : Ticket) (meterOk : Bool) (f : Nat → State) : State :=
  let n := t.u 0 1
  if s.nLanes ≤ n then s.complete t St.badArgument
  else if s.isPending n then s.complete t St.busy
  else if s.typ n == .none || s.typ n == .paired || (s.typ n == .meter && !meterOk) then s.complete t St.notSupported
  else f n

/-- R101: LANE_START presents a host token. -/
def execLaneStart (tk : Nat) (s : State) : Out :=
  fin s (s.onTicket tk 0x0201 fun t => s.laneReq t false fun n =>
    match (s.lane n).st with
    | .idle | .plugged | .identify | .authorise =>
      (s.present [n] { src := 4, ident := sub t.arg 1 8, time := t.acceptTime } .host).complete t St.ok
    | .offline | .negotiate | .isolationTest | .precharge | .energy | .rampDown | .openCheck | .unlock | .fault | .degraded
    | .suspended => s.complete t St.refusedState)

/-- R101: LANE_STOP. -/
def execLaneStop (tk : Nat) (s : State) : Out :=
  fin s (s.onTicket tk 0x0202 fun t => s.laneReq t false fun n => (s.stopLane n .hostStop .host).complete t St.ok)

/-- R95, R340: LANE_AUTHORISE; the answer's TIME is that of its REQ_ACCEPTED. -/
def execLaneAuthorise (tk : Nat) (s : State) : Out :=
  fin s (s.onTicket tk 0x0203 fun t => s.laneReq t false fun n =>
    let l := s.lane n
    let cell := t.u 2 4
    if 1 < t.u 1 1 then s.complete t St.badArgument
    else if !(l.st == .authorise && l.awaiting) || l.late Tm.hostAuth t.acceptTime then s.complete t St.refusedState
    else if cell != 0xFFFFFFFF && !(s.cell cell).used then s.complete t St.badArgument
    else if t.u 1 1 = 0 then ((s.authAccept n 1 cell .host).advance n .host).complete t St.ok
    else ((s.authRefuse n 1 1 cell .host).advance n .host).complete t St.ok)

/-- R97, R101: LANE_SUSPEND. -/
def execLaneSuspend (tk : Nat) (s : State) : Out :=
  fin s (s.onTicket tk 0x0204 fun t => s.laneReq t false fun n =>
    if (s.lane n).st == .energy || (s.lane n).st == .suspended then (s.suspend n .host .host).complete t St.ok
    else s.complete t St.refusedState)

/-- R97, R101: LANE_RESUME. -/
def execLaneResume (tk : Nat) (s : State) : Out :=
  fin s (s.onTicket tk 0x0205 fun t => s.laneReq t false fun n =>
    if (s.lane n).suspHost then (s.unsuspend n .host .host).complete t St.ok else s.complete t St.refusedState)

/-- R100, R101: LANE_CLEAR clears the latching causes; WELD in the SERVICE role only. -/
def execLaneClear (tk : Nat) (s : State) : Out :=
  fin s (s.onTicket tk 0x0206 fun t => s.laneReq t false fun n =>
    let l := s.lane n
    if l.st != .fault then s.complete t St.refusedState
    else if l.causes.contains .weld && t.role != .service then s.complete t St.refusedRole
    else ((l.causes.filter Cause.latching).foldl (fun s c => s.clearCause n c 1) s).complete t St.ok)

/-- R84, R101: LANE_DISABLE. -/
def execLaneDisable (tk : Nat) (s : State) : Out :=
  fin s (s.onTicket tk 0x0207 fun t => s.laneReq t true fun n =>
    match (s.lane n).st with
    | .offline => (s.onLane n fun l => { l with enable := false }).complete t St.ok
    | .idle | .fault => ((s.onLane n fun l => { l with enable := false }).go n .offline .none .host).complete t St.ok
    | .plugged | .identify | .authorise | .negotiate | .isolationTest | .precharge | .energy | .rampDown | .openCheck
    | .unlock | .degraded | .suspended => s.complete t St.refusedState)

/-- R84, R101, R213: LANE_ENABLE; it ends test mode. -/
def execLaneEnable (tk : Nat) (s : State) : Out :=
  fin s (s.onTicket tk 0x0208 fun t => s.laneReq t true fun n =>
    if (s.lane n).st == .offline && !(s.lane n).enable then
      (((s.endTest n).onLane n fun l => { l with enable := true }).go n .idle .none .host).complete t St.ok
    else s.complete t St.refusedState)

/-- R101: LANE_INFO returns the four lane registers. -/
def execLaneInfo (tk : Nat) (s : State) : Out :=
  fin s (s.onTicket tk 0x0209 fun t => s.laneReq t true fun n => s.complete t St.ok (s.laneInfo n))

/-! ### The pilot generator (R105, R109) -/

/-- R105: a generator carries 11 mA or more for 100 ms and is folded back, which counts. -/
def execPilotFoldback (n : Nat) (s : State) : Out :=
  fin s (
    if (s.hsl n).p.folded then s
    else (s.onPilot n fun p => { p with folded := true, testAt := s.now + sec 1 }).onCnt n fun c =>
      { c with pilotInvalid := satU 16 (c.pilotInvalid + 1) })

/-- R105: once per second a folded-back pilot tests its line; below 10 mA normal drive resumes. -/
def execFoldbackTest (n : Nat) (below10mA : Bool) (s : State) : Out :=
  fin s (
    if (s.hsl n).p.folded && decide ((s.hsl n).p.testAt ≤ s.now) then
      s.onPilot n fun p => { p with folded := !below10mA, testAt := s.now + sec 1 }
    else s)

/-- R109: a new level or duty takes effect at a period boundary 1 ms or more after the decision. -/
def execDutyChange (n : Nat) (s : State) : Out :=
  fin s (match (s.lane n).cpNext with
    | some (m, d, t) => if t ≤ s.now then s.onLane n fun l => l.drives m d else s
    | none => s)

/-! ### Proximity (R110-R112) -/

/-- R110: the code of a resistance (none: open) for a connector. -/
def ppDecode (connector : Nat) (ohm : Option Nat) : Nat :=
  match ohm with
  | none => 0
  | some r =>
    if 10000 < r then 0
    else if connector = 1 ∨ connector = 3 then
      if 400 ≤ r ∧ r < 560 then 6 else if 100 ≤ r ∧ r < 200 then 5 else 7
    else if 1100 ≤ r ∧ r < 2700 then 1 else if 400 ≤ r ∧ r < 1100 then 2 else if 200 ≤ r ∧ r < 400 then 3
    else if 60 ≤ r ∧ r < 200 then 4 else 7

/-- R111: a valid code sets the proximity rating on a lane with CONNECTOR 2 that owns LOCK. -/
def State.rateCable (s : State) (n : Nat) : State :=
  if (s.slot n).connector = 2 && s.ownsLock n then
    s.onPilot n fun p => { p with ppRating := cableRating p.ppCode }
  else s

/-- R110-R112: a reading of PP. In PLUGGED it decides PP valid; from IDENTIFY to SUSPENDED a changed code waits 20 ms. -/
def execPpMeasurement (n : Nat) (ohm : Option Nat) (s : State) : Out :=
  fin s (
    let conn := (s.slot n).connector
    if conn = 0 || !(s.typ n).charges then s
    else
      let code := ppDecode conn ohm
      let shown := match ohm with | none => 0xFFFF | some r => if 10000 < r then 0xFFFF else r
      let st := (s.lane n).st
      if st == .plugged then
        let t := s.onPilot n fun p =>
          { p with ppOhm := shown, ppCode := code,
                   ppPend := match p.ppPend with
                     | some (c, w) => if c == code then some (c, w) else some (code, s.now)
                     | none => some (code, s.now) }
        (t.rateCable n).advance n
      else if LState.between .identify .suspended st then
        s.onPilot n fun p =>
          if code == p.ppCode then { p with ppOhm := shown, ppPend := none }
          else match p.ppPend with
            | some (c, _) => if c == code then { p with ppOhm := shown } else { p with ppOhm := shown, ppPend := some (code, s.now) }
            | none => { p with ppOhm := shown, ppPend := some (code, s.now) }
      else s.onPilot n fun p => { p with ppOhm := shown, ppCode := code, ppPend := none })

/-- R112, R130: a changed code has held for 20 ms: PP_CHANGED; a lower rating applies at once; code 0 or 7 while the pilot is
not in state A is a stop trigger with cause CABLE. -/
def execPpCodeHold (n : Nat) (s : State) : Out :=
  fin s (match (s.hsl n).p.ppPend with
    | none => s
    | some (code, since) =>
      if s.now < since + ms 20 then s
      else
        let old := (s.hsl n).p.ppCode
        let s := s.onPilot n fun p => { p with ppCode := code, ppPend := none }
        let s := if code = 7 then s.onCnt n fun c => { c with ppInvalid := satU 16 (c.ppInvalid + 1) } else s
        if !LState.between .identify .suspended (s.lane n).st then s
        else
          let s := s.evLane .external n 0x1106 (leBytes 1 old ++ leBytes 1 code ++ leBytes 2 (s.hsl n).p.ppOhm)
          let s := if (s.hsl n).p.ppRating != 0 && cableRating code != 0 && decide (cableRating code < (s.hsl n).p.ppRating) then
              let s := s.onPilot n fun p => { p with ppRating := cableRating code }
              if (s.lane n).cp == .pwm then s.cpPwm n else s
            else s
          if (code = 0 || code = 7) && (s.lane n).pilot != .a then s.stopLane n .cable .external else s)

end Sys2Proof.Machine
end

