-- ==== Sys2Proof/Machine/MatrixOps.lean ====
section
/-! DEFINITION. MatrixOps.lean: the layout of a matrix stream (R28-R33, R131, R146, R154, R173, R215, R254, R278) and the checks of the
loader (R35-R51). -/
namespace Sys2Proof.Machine

/-! ### Errors -/

/-- R48, R56: what a failing check records. -/
structure MxErr where
  status : Nat
  code : Nat
  sect : Nat := 0
  offset : Nat := 0
  cls : Nat := 0
  index : Nat := 0
  owner1 : Nat := 0
  owner2 : Nat := 0
  blocked : Nat := 0
deriving DecidableEq, Repr

/-- R48: the status of a check. -/
def mxStatus (code : Nat) : Nat :=
  if code = 2 ∨ code = 3 then 0x12 else if code = 4 ∨ code = 5 then 0x50 else if code = 6 then 0x23
  else if code = 12 then 0x21 else if code = 14 then 0x22 else 0x11

/-- A failing field of an entry; an entry of the applied matrix (offset 0) has no place in the stream. -/
def mxBad (code sect off fo : Nat) : Option MxErr :=
  some { status := mxStatus code, code := code, sect := sect, offset := if off = 0 then 0 else off + fo }

/-- A check: the error when its condition fails. -/
def mxNeed (ok : Bool) (code sect off fo : Nat) : Option MxErr := if ok then none else mxBad code sect off fo

/-! ### The stream (R28-R30) -/

/-- The number of `k` bytes at an offset. -/
def ru (b : Bytes) (off k : Nat) : Nat := leNat (sub b off k)
/-- The signed number of `k` bytes at an offset. -/
def ri (b : Bytes) (off k : Nat) : Int := ofBits (8 * k) (ru b off k)

/-- R30: the entry size of a section. -/
def mxEntrySize : Nat → Option Nat
  | 1 => some 64 | 2 => some 64 | 3 => some 32 | 4 => some 16 | 5 => some 16 | 6 => some 32 | 7 => some 16 | 8 => some 16 | _ => none

/-- R30: the least and greatest number of entries of a section. -/
def mxEntryCount : Nat → Nat × Nat
  | 1 => (1, 1) | 2 => (1, 64) | 3 => (0, 16) | 4 => (0, 128) | 5 => (0, 128) | 6 => (0, 32) | 7 => (0, 1024) | _ => (0, 16)

/-- A section as found: TYPE, VERSION, ENTRIES and its offset. -/
structure MxSec where
  typ : Nat
  ver : Nat
  entries : Nat
  off : Nat
deriving DecidableEq, Repr

/-- R28, R30: the sections of a body that ends at `stop`, and the first breach of their layout as section and offset; a body of more or
fewer sections than SECTIONS says is a breach of that field. -/
def mxSections (m : Bytes) (stop : Nat) : Nat → Nat → List MxSec × Option (Nat × Nat)
  | 0, o => ([], if o = stop then none else some (0, 0x18))
  | k + 1, o =>
    let t := ru m o 1
    let n := ru m (o + 2) 2
    let len := ru m (o + 4) 4
    if o = stop then ([], some (0, 0x18))
    else if stop < o + 8 then ([], some (0, o))
    else match mxEntrySize t with
      | none => ([{ typ := t, ver := ru m (o + 1) 1, entries := 0, off := o }], some (t, o))
      | some sz =>
        if len != 8 + sz * n || decide (stop < o + len) then ([{ typ := t, ver := ru m (o + 1) 1, entries := 0, off := o }], some (t, o + 4))
        else
          let r := mxSections m stop k (o + len)
          ({ typ := t, ver := ru m (o + 1) 1, entries := n, off := o } :: r.1, r.2)

/-- The entries of a section with their offsets. -/
def mxEntries (m : Bytes) (secs : List MxSec) (t : Nat) : List (Nat × Bytes) :=
  let sz := (mxEntrySize t).getD 0
  secs.flatMap fun x => if x.typ = t then (List.range x.entries).map fun i => (x.off + 8 + sz * i, sub m (x.off + 8 + sz * i) sz) else []

/-! ### Entries -/

/-- R33. -/
def mxSlot (b : Bytes) : Slot :=
  { slot := ru b 0 1, typ := (LaneType.ofCode (ru b 1 1)).getD .none, group := ru b 2 1, pairing := ru b 3 1, gain := ru b 4 2,
    chfunc := (List.range 5).map fun j => ru b (6 + j) 1, sensor := ru b 0x0B 1, pulseIn := ru b 0x0C 1, options := ru b 0x0D 1,
    hostloss := ru b 0x0E 1, connector := ru b 0x0F 1, ratedI := ru b 0x10 4, ratedU := ru b 0x14 4, scale := ru b 0x18 4,
    divider := ru b 0x1C 4, priority := ru b 0x20 1, antenna := ru b 0x21 1, panel := ru b 0x22 1, minPower := ru b 0x24 4,
    maxPower := ru b 0x28 4 }

/-- R154, R173. -/
def mxGroup (b : Bytes) : Group :=
  { group := ru b 0 1, permit := ru b 1 1, path := ru b 2 1, exportOk := bit (ru b 3 1) 0, pMax := ru b 4 4, exportMax := ru b 8 4,
    iPhaseMax := ru b 0x0C 2, driver := ru b 0x10 1, code := ru b 0x11 1, amplitude := ru b 0x12 1, rInj := ru b 0x14 4, cNom := ru b 0x18 4 }

/-- R278. -/
def mxOutput (b : Bytes) : Output :=
  { output := ru b 0 2, owner := ru b 2 2, func := ru b 4 1, flags := ru b 5 1, inrushMs := ru b 6 1, retries := ru b 7 1,
    olFine := ru b 8 1, retryDelay := ru b 9 1 }

/-- R254. -/
def mxComp (b : Bytes) : Comp :=
  { comp := ru b 0 2, owner := ru b 2 2, watch := ru b 4 2, cause := ru b 6 1, flags := ru b 7 1, high := ri b 8 4, low := ri b 0x0C 4 }

/-- R215. -/
def mxPulse (b : Bytes) : Pulse :=
  { input := ru b 0 1, mode := ru b 1 1, owner := ru b 2 2, unit := ru b 4 1, partner := ru b 5 1, flags := ru b 6 1, filter := ru b 7 1,
    weight := ru b 8 8, maxRate := ru b 0x10 2 }

/-- R146. -/
def mxCan (b : Bytes) : CanEnt :=
  { resource := ru b 0 4, owner := ru b 4 2, role := ru b 6 1, period := ru b 8 2, timeout := ru b 0x0A 2, dlc := ru b 0x0C 1,
    brs := bit (ru b 0x0D 1) 0 }

/-- R32. -/
def mxEngine (b : Bytes) : Engine := { engine := ru b 0 2, owner := ru b 2 2 }

/-- The resulting matrix, each entry with its offset in the stream (0 for one of the applied matrix). -/
structure MxView where
  slots : List (Nat × Slot) := []
  groups : List (Nat × Group) := []
  outputs : List (Nat × Output) := []
  comps : List (Nat × Comp) := []
  pulses : List (Nat × Pulse) := []
  cans : List (Nat × CanEnt) := []
  engines : List (Nat × Engine) := []

/-- A stored matrix as a view. -/
def Config.view (c : Config) : MxView :=
  { slots := c.slots.map fun x => (0, x), groups := c.groups.map fun x => (0, x), outputs := c.outputs.map fun x => (0, x),
    comps := c.comps.map fun x => (0, x), pulses := c.pulses.map fun x => (0, x), cans := c.cans.map fun x => (0, x),
    engines := c.engines.map fun x => (0, x) }

/-- The entries of a view. -/
def MxView.into (v : MxView) (c : Config) : Config :=
  { c with slots := v.slots.map (·.2), groups := v.groups.map (·.2), outputs := v.outputs.map (·.2), comps := v.comps.map (·.2),
           pulses := v.pulses.map (·.2), cans := v.cans.map (·.2), engines := v.engines.map (·.2) }

/-- R51, R52: a delta of a slot merged with the applied matrix. -/
def MxView.overlay (v : MxView) (a : Config) (slot : Nat) : MxView :=
  let o := laneOwner slot
  let w := a.view
  { slots := (w.slots.filter fun x => !(v.slots.any fun y => y.2.slot == x.2.slot)) ++ v.slots, groups := w.groups,
    outputs := (w.outputs.filter fun x => x.2.owner != o) ++ v.outputs, comps := (w.comps.filter fun x => x.2.owner != o) ++ v.comps,
    pulses := (w.pulses.filter fun x => x.2.owner != o) ++ v.pulses, cans := (w.cans.filter fun x => x.2.owner != o) ++ v.cans,
    engines := (w.engines.filter fun x => x.2.owner != o) ++ v.engines }

/-! ### Check 7: reserved fields (R30) -/

/-- Whether bytes are all 0. -/
def allZero (b : Bytes) : Bool := b.all (· == 0)

/-- R30, R41: the reserved bytes and bits of an entry, as offset and whether they are 0. -/
def mxReserved (t : Nat) (b : Bytes) : List (Nat × Bool) :=
  let owner := fun (o : Nat) => (o, ru b o 2 / 256 % 16 == 0)
  match t with
  | 1 => [(7, allZero (sub b 7 57))]
  | 2 => [(3, decide (ru b 3 1 < 16)), (0x0D, decide (ru b 0x0D 1 < 8)), (0x23, allZero (sub b 0x23 1)), (0x2C, allZero (sub b 0x2C 20))]
  | 3 => [(3, decide (ru b 3 1 < 2)), (0x0E, allZero (sub b 0x0E 2)), (0x13, allZero (sub b 0x13 1)), (0x1C, allZero (sub b 0x1C 4))]
  | 4 => [owner 2, (5, decide (ru b 5 1 < 32)), (0x0A, allZero (sub b 0x0A 6))]
  | 5 => [owner 2, (7, decide (ru b 7 1 < 4))]
  | 6 => [owner 2, (6, decide (ru b 6 1 < 8)), (0x12, allZero (sub b 0x12 14))]
  | 7 => [owner 4, (0x0D, decide (ru b 0x0D 1 < 2)), (0x0E, allZero (sub b 0x0E 2))]
  | _ => [owner 2, (4, allZero (sub b 4 12))]

/-! ### Check 8: field ranges -/

/-- A number lies in a range. -/
def inR (x lo hi : Nat) : Bool := decide (lo ≤ x) && decide (x ≤ hi)

/-- R41: an owner code names a kind and an index of it; a resource without an owner has index 0. -/
def ownerCodeOk (o : Nat) : Bool :=
  match o / 4096 with
  | 0 | 3 => o % 256 == 0
  | 1 => decide (o % 256 < 64)
  | 2 => decide (o % 256 < 16)
  | 4 => decide (o % 256 < 32)
  | 5 => decide (o % 256 < 2)
  | _ => false

/-- R31, R33, R41, R146, R154, R173, R215, R254, R278, R32: the ranges of an entry's fields, as offset and whether the value lies in them. -/
def mxRanges (t : Nat) (b : Bytes) : List (Nat × Bool) :=
  let u := fun (o k : Nat) => ru b o k
  let opt := fun (o hi : Nat) => (o, u o 1 == 0xFF || decide (u o 1 ≤ hi))
  let upTo := fun (o k hi : Nat) => (o, decide (u o k ≤ hi))
  let owner := fun (o : Nat) => (o, ownerCodeOk (u o 2))
  match t with
  | 1 => [upTo 0 1 3, upTo 1 1 168, (2, inR (u 2 2) 1 3600), upTo 4 1 3, (5, inR (u 5 1) 3 20), (6, inR (u 6 1) 5 60)]
  | 2 => [upTo 0 1 63, upTo 1 1 6, (2, (u 1 1 == 6) || (if inR (u 1 1) 1 4 then decide (u 2 1 ≤ 15) else u 2 1 == 0xFF)), upTo 0x0B 1 3,
          (0x0C, if u 0x0B 1 == 3 then decide (u 0x0C 1 ≤ 31) else u 0x0C 1 == 0xFF || u 1 1 == 6),
          (0x0E, !bit (u 0x0D 1) 2 || decide (u 0x0E 1 ≤ 3)), upTo 0x0F 1 4, upTo 0x20 1 7, opt 0x21 7, opt 0x22 3]
  | 3 => [upTo 0 1 15, upTo 1 1 15, opt 2 4, (8, bit (u 3 1) 0 || u 8 4 == 0), opt 0x10 15,
          (0x11, if u 0x10 1 == 0xFF then u 0x11 1 == 0 else inR (u 0x11 1) 1 7), (0x12, u 0x10 1 == 0xFF || inR (u 0x12 1) 10 20),
          (0x14, u 0x10 1 == 0xFF || inR (u 0x14 4) 20000 100000), (0x18, u 0x10 1 == 0xFF || inR (u 0x18 4) 20 20000)]
  | 4 => [upTo 0 2 127, owner 2, upTo 4 1 5, upTo 6 1 50, upTo 7 1 15, (8, if bit (u 5 1) 1 then inR (u 8 1) 5 50 else u 8 1 == 0), (9, inR (u 9 1) 1 255)]
  | 5 => [upTo 0 2 127, owner 2, (4, decide (u 4 2 < 320) || inR (u 4 2) 0x400 0x43F), (6, inR (u 6 1) 0x21 0x23), (7, u 7 1 % 4 != 0),
          (0x0C, decide (ri b 0x0C 4 < ri b 8 4))]
  | 6 => [upTo 0 1 31, upTo 1 1 3, owner 2, opt 4 3, opt 5 31,
          (7, match u 1 1 with | 1 => inR (u 7 1) 2 255 | 2 => inR (u 7 1) 10 255 | 3 => inR (u 7 1) 1 50 | _ => true),
          (8, u 4 1 != 0xFF || u 8 8 == 0), (0x10, inR (u 0x10 2) 1 10000)]
  | 7 => [owner 4, upTo 6 1 1, (7, u 7 1 == 0), (8, if u 6 1 == 0 then inR (u 8 2) 5 100 else u 8 2 == 0),
          (0x0A, if u 6 1 == 0 then u 0x0A 2 == 0 else inR (u 0x0A 2) 20 500), (0x0C, u 0x0C 1 == 8 || u 0x0C 1 == 16)]
  | _ => [upTo 0 2 15, owner 2]

/-- The first breach of fields of a section's entries. -/
def mxFields (code t : Nat) (l : List (Nat × Bytes)) (f : Nat → Bytes → List (Nat × Bool)) : Option MxErr :=
  l.findSome? fun (o, b) => (f t b).findSome? fun (fo, ok) => mxNeed ok code t o fo

/-! ### Check 8: sensors (R201) -/

/-- R37: the codes of the voltage functions. -/
def isVoltageFunc (f : Nat) : Bool := [0x01, 0x02, 0x03, 0x10, 0x11, 0x12, 0x13].contains f

/-- R198: full scale of a GAIN code in nV. -/
def gainFs : Nat → Nat
  | 0 => 1000000000 | 1 => 250000000 | _ => 31250000

/-- R36: the channels of a slot that exist, with function, GAIN code and whether they are differential. -/
def Slot.chans (e : Slot) : List (Nat × Nat × Nat × Bool) :=
  (List.range 5).filterMap fun j =>
    if j != 0 && bit e.pairing (j - 1) then none else some (j, e.chfunc.getD j 0, e.gain / 4 ^ j % 4, bit e.pairing j)

/-- R201: a peak lies between two percentages of full scale: `x` stands over `d`; `k` is 2 where the peak is √2 times it. -/
def inGain (x d k lo hi fs : Nat) : Bool :=
  decide ((lo * fs * d) ^ 2 ≤ k * (100 * x) ^ 2) && decide (k * (100 * x) ^ 2 ≤ (hi * fs * d) ^ 2) && d != 0

/-- R201: the current gains of a sensor. -/
def sensorGains : Nat → List Nat
  | 0 | 2 => [2, 1]
  | 1 => [1, 0]
  | _ => []

/-- R201: the peak at the rated current of a lane lies in the sensor's part of full scale. -/
def sensorPeakOk (e : Slot) (ac : Bool) (g : Nat) : Bool :=
  let k := if ac then 2 else 1
  match e.sensor with
  | 0 => inGain (e.ratedI * e.scale) 1 k 25 80 (gainFs g)
  | 1 => inGain (e.ratedI * 100000000) e.scale k 25 80 (gainFs g)
  | 2 => inGain (e.ratedI * e.scale) 1 k 10 40 (gainFs g)
  | _ => true

/-- R201: the channels of an entry at offset `o` that serve the lane of entry `e` at offset `oe`. -/
def mxSensorChans (o : Nat) (x : Slot) (oe : Nat) (e : Slot) : Option MxErr :=
  let ac := e.typ.isAc || (e.typ == .meter && (e.chfunc.contains 0x14 || e.chfunc.contains 0x10))
  x.chans.findSome? fun (_, f, g, _) =>
    if isCurrentFunc f then (mxNeed ((sensorGains e.sensor).contains g) 8 2 o 4) <|> (mxNeed (sensorPeakOk e ac g) 8 2 oe 0x18)
    else if isVoltageFunc f then
      (mxNeed (g == 0) 8 2 o 4) <|> (mxNeed (inGain (1000 * e.ratedU) e.divider (if ac then 2 else 1) 50 80 1000) 8 2 oe 0x1C)
    else none

/-- R201: a lane's sensor on a lane of its type, and the channels of its slot and, for an AC3 lane, of the slot after it (R38). -/
def mxSensor (v : MxView) (o : Nat) (e : Slot) : Option MxErr :=
  (mxNeed (e.sensor == 0 || e.sensor == 3 || e.typ.isAc || (e.typ == .meter && e.chfunc.contains 0x14)) 8 2 o 0x0B) <|>
  (mxNeed (e.sensor != 3 || e.scale == 0) 8 2 o 0x18) <|> (mxSensorChans o e o e) <|>
  (v.slots.findSome? fun (op, x) =>
    if e.typ == .ac3 && x.slot == e.slot + 1 && x.typ == .paired then mxSensorChans op x o e else none)

/-- The lane a slot of a matrix belongs to: slot n+1 of an AC3 lane belongs to lane n (R38). -/
def Config.laneOfSlot (c : Config) (n : Nat) : Option Nat :=
  if (c.slot n).typ == .paired then if n % 2 = 1 && (c.slot (n - 1)).typ == .ac3 then some (n - 1) else none
  else if (c.slot n).typ.isLane then some n else none

/-! ### Check 8: rules across entries -/

/-- R155, R201, R216: a SLOT entry. -/
def mxSlot8 (v : MxView) (c : Config) (o : Nat) (e : Slot) : Option MxErr :=
  (mxNeed (!e.typ.charges || (c.group e.group).isSome) 8 2 o 2) <|>
  (mxNeed (e.sensor != 3 || !e.typ.isLane || (match c.pulse e.pulseIn with
    | some p => p.owner == laneOwner e.slot && p.unit == 0 && !bit p.flags 0
    | none => false)) 8 2 o 0x0C) <|>
  (if e.typ.isLane then mxSensor v o e else none)

/-- R155, R173: a GROUP entry. -/
def mxGroup8 (c : Config) (lanes o : Nat) (g : Group) : Option MxErr :=
  let dc := c.slots.filter fun x => x.typ.isDc && x.group == g.group
  (mxNeed (dc.isEmpty || g.path != 0xFF) 8 3 o 2) <|> (mxNeed (dc.isEmpty || g.driver != 0xFF) 8 3 o 0x10) <|>
  (mxNeed (dc.isEmpty || inR g.code 1 7) 8 3 o 0x11) <|> (mxNeed (g.driver == 0xFF || decide (g.driver / 4 < lanes / 16)) 8 3 o 0x10) <|>
  (mxNeed (decide (dc.length < 2) || dc.all fun x => bit x.options 0) 8 3 o 0)

/-- R216: a PULSE entry. -/
def mxPulse8 (c : Config) (o : Nat) (p : Pulse) : Option MxErr :=
  let same := c.pulses.filter fun x => x.owner == p.owner
  (mxNeed (p.owner / 4096 != 3 || p.unit == 0xFF) 8 6 o 4) <|>
  (mxNeed (!bit p.flags 0 || p.mode == 2 || p.mode == 3) 8 6 o 1) <|> (mxNeed (!bit p.flags 0 || p.unit == 0xFF) 8 6 o 4) <|>
  (mxNeed (!bit p.flags 0 || c.outputs.any fun x => x.owner == p.owner && x.func == 5) 8 6 o 2) <|>
  (mxNeed (if p.partner = 0xFF then !bit p.flags 1 else match c.pulse p.partner with
    | some q => q.partner == p.input && q.owner == p.owner && q.mode == p.mode && q.unit == p.unit && q.weight == p.weight &&
        q.filter == p.filter && bit q.flags 1 != bit p.flags 1
    | none => false) 8 6 o 5) <|>
  (mxNeed (p.owner / 4096 != 4 || ((same.filter fun x => !bit x.flags 1).length == 1 && decide ((same.filter fun x => bit x.flags 1).length ≤ 1)))
    8 6 o 2)

/-- A multiple of every period from 1 to 100 ms. -/
def periodLcm : Nat := 69720375229712477164533808935312303556800

/-- R146: the periodic frames of a controller take no more than 60 % of its time. -/
def State.canLoadOk (s : State) (c : Config) (k : Nat) : Bool :=
  let q := s.can k
  let used := ((c.cans.filter fun e => e.resource >>> 30 == k && e.role == 0 && e.period != 0).map fun e =>
    Config.canFrameNs (bit e.resource 29) e.dlc e.brs q.nominal q.data * (periodLcm / e.period)).sum
  decide (used ≤ 600000 * periodLcm)

/-- Check 8 across the entries of the resulting matrix. -/
def State.mxCheck8 (s : State) (v : MxView) (c : Config) : Option MxErr :=
  (v.slots.findSome? fun (o, e) => mxSlot8 v c o e) <|> (v.groups.findSome? fun (o, g) => mxGroup8 c s.nLanes o g) <|>
  (v.pulses.findSome? fun (o, p) => mxPulse8 c o p) <|>
  (if (List.range 4).all fun k => s.canLoadOk c k then none else mxBad 8 7 (match v.cans with | (o, _) :: _ => o | [] => 0) 0)

/-! ### Checks 9 and 10 -/

/-- R38: the fields a PAIRED entry carries, with their offsets. -/
def pairedFields (e : Slot) : List (Nat × Bool) :=
  [(2, e.group == 0xFF), (0x0B, e.sensor == 0), (0x0C, e.pulseIn == 0xFF), (0x0D, e.options == 0), (0x0E, e.hostloss == 0),
   (0x0F, e.connector == 0), (0x10, e.ratedI == 0), (0x14, e.ratedU == 0), (0x18, e.scale == 0), (0x1C, e.divider == 0),
   (0x20, e.priority == 0), (0x21, e.antenna == 0xFF), (0x22, e.panel == 0xFF), (0x24, e.minPower == 0), (0x28, e.maxPower == 0)]

/-- Check 9: R38. -/
def mxCheck9 (v : MxView) (c : Config) (lanes : Nat) : Option MxErr :=
  v.slots.findSome? fun (o, e) =>
    if e.typ == .ac3 then mxNeed (e.slot % 2 == 0 && decide (e.slot + 1 < lanes) && (c.slot (e.slot + 1)).typ == .paired) 9 2 o 1
    else if e.typ == .paired then
      (mxNeed (c.laneOfSlot e.slot).isSome 9 2 o 1) <|> ((pairedFields e).findSome? fun (fo, ok) => mxNeed ok 9 2 o fo)
    else none

/-- R36: the pairing of a slot. -/
def mxPairing (o : Nat) (e : Slot) : Option MxErr :=
  (List.range 4).findSome? fun i =>
    if bit e.pairing i then
      (mxNeed (!bit e.pairing (i + 1)) 10 2 o 3) <|> (mxNeed (e.gain / 4 ^ (i + 1) % 4 == 3) 10 2 o 4) <|>
      (mxNeed (e.chfunc.getD (i + 1) 0 == 0) 10 2 o 6)
    else none

/-- R36, R37: the channels of a slot: functions on channels of their kind, channels not in use off. -/
def mxChannels (o : Nat) (e : Slot) : Option MxErr :=
  e.chans.findSome? fun (_, f, g, diff) =>
    if f = 0 then mxNeed (g == 3) 10 2 o 4
    else mxNeed ((isCurrentFunc f || isVoltageFunc f) && diff == (isCurrentFunc f && f != 0x17)) 10 2 o 6

/-- R37: the functions each lane type must carry; METER lanes have two sets to choose from. -/
def requiredFuncs (e : Slot) : List (List Nat) :=
  let base := match e.typ with
    | .dcx | .dcb => [[0x01, 0x02, 0x03, 0x04]]
    | .ac1 => [[0x10, 0x13, 0x14, 0x17]]
    | .ac3 => [[0x10, 0x11, 0x12, 0x13, 0x14, 0x15, 0x16]]
    | .meter => if e.sensor = 3 then [[]] else [[0x14, 0x10], [0x04, 0x01]]
    | .none | .paired => [[]]
  if e.sensor = 3 then base.map fun l => l.filter fun f => !isCurrentFunc f else base

/-- Check 10: R36, R37. -/
def mxCheck10 (v : MxView) (c : Config) : Option MxErr :=
  v.slots.findSome? fun (o, e) =>
    (mxPairing o e) <|> (mxChannels o e) <|>
    (if e.typ == .paired then none
     else
       let own := e.chans ++ (if e.typ == .ac3 then (c.slot (e.slot + 1)).chans else [])
       let got := (own.map fun x => x.2.1).filter fun f => f != 0
       mxNeed ((requiredFuncs e).any fun l => l.length == got.length && l.all fun f => got.contains f) 10 2 o 6)

/-! ### Check 11: ownership (R40-R44, R131, R278) -/

/-- R40: a ball by row index and column. -/
def ballIndex (row col : Nat) : Nat := row * 256 + col

/-- R498: ball LSn_j. -/
def slotBall (n j : Nat) : Nat :=
  let k := n % 32
  ballIndex (if k < 16 then k + 5 else k + 9) (if n < 32 then 1 + j else 41 - j)

/-- R501: ball PERMITg. -/
def permitBall (g : Nat) : Nat := ballIndex (9 + (105 + g) / 9) (17 + (105 + g) % 9)

/-- R498: ball IJd. -/
def injectBall (d : Nat) : Nat :=
  let col := 1 + 2 * (d % 4)
  ballIndex (22 + d % 8 / 4) (if d < 8 then col else 42 - col)

/-- A claim of a resource: class, index, owner, and where it stands. -/
structure MxClaim where
  cls : Nat
  index : Nat
  owner : Nat
  sect : Nat
  off : Nat
  fo : Nat

/-- R42: the claims of a matrix in section order. -/
def MxView.claims (v : MxView) : List MxClaim :=
  (v.slots.flatMap fun (o, e) =>
    let w := laneOwner (if e.typ == .paired then e.slot - 1 else e.slot)
    ((List.range 10).map fun j => { cls := 1, index := slotBall e.slot j, owner := w, sect := 2, off := o, fo := 0 : MxClaim }) ++
      (List.range 5).map fun j => { cls := 2, index := 5 * e.slot + j, owner := w, sect := 2, off := o, fo := 0 : MxClaim }) ++
  (v.groups.flatMap fun (o, g) =>
    [{ cls := 7, index := g.group, owner := groupOwner g.group, sect := 3, off := o, fo := 2 : MxClaim },
     { cls := 1, index := permitBall g.permit, owner := groupOwner g.group, sect := 3, off := o, fo := 1 }] ++
      if g.driver = 0xFF then [] else [{ cls := 1, index := injectBall g.driver, owner := groupOwner g.group, sect := 3, off := o, fo := 0x10 }]) ++
  (v.outputs.map fun (o, e) => { cls := 4, index := e.output, owner := e.owner, sect := 4, off := o, fo := 0 : MxClaim }) ++
  (v.comps.map fun (o, e) => { cls := 3, index := e.comp, owner := e.owner, sect := 5, off := o, fo := 0 : MxClaim }) ++
  (v.pulses.map fun (o, e) => { cls := 8, index := e.input, owner := e.owner, sect := 6, off := o, fo := 0 : MxClaim }) ++
  (v.cans.map fun (o, e) => { cls := 6, index := e.resource, owner := e.owner, sect := 7, off := o, fo := 0 : MxClaim }) ++
  (v.engines.map fun (o, e) => { cls := 5, index := e.engine, owner := e.owner, sect := 8, off := o, fo := 0 : MxClaim })

/-- R42: the first resource claimed twice. -/
def mxConflict : List MxClaim → List MxClaim → Option MxErr
  | _, [] => none
  | seen, x :: l =>
    match seen.find? fun y => y.cls == x.cls && y.index == x.index with
    | some y => some { status := 0x32, code := 11, sect := x.sect, offset := if x.off = 0 then 0 else x.off + x.fo, cls := x.cls, index := x.index,
                       owner1 := y.owner, owner2 := x.owner }
    | none => mxConflict (x :: seen) l

/-- R41: an owner of one of the kinds allowed that exists in the matrix. -/
def Config.ownerOk (c : Config) (kinds : List Nat) (o : Nat) : Bool :=
  let i := o % 256
  kinds.contains (o / 4096) &&
    (match o / 4096 with
     | 1 => decide (i < 64) && (c.slot i).typ.isLane
     | 2 => (c.group i).isSome
     | 3 => i == 0
     | 4 => decide (i < 32)
     | _ => false)

/-- R131: the lane types of a function. -/
def funcTypeOk (f : Nat) (e : Slot) : Bool :=
  if f = 0 then true else if f ≤ 3 then e.typ.isDc else if f = 4 then e.typ.isAc
  else e.typ.isAc && (e.connector == 1 || e.connector == 2)

/-- R43, R131, R278: an OUTPUT entry. -/
def mxOutput11 (c : Config) (o : Nat) (e : Output) : Option MxErr :=
  (mxNeed (c.ownerOk [1, 2, 3] e.owner) 11 4 o 2) <|>
  (mxNeed (e.func == 0 || (match ownerLane e.owner with | some n => funcTypeOk e.func (c.slot n) | none => false)) 11 4 o 4) <|>
  (mxNeed (e.func == 0 || (match c.outputs.find? fun x => x.owner == e.owner && x.func == e.func with
    | some x => x.output == e.output
    | none => true)) 11 4 o 4) <|>
  (mxNeed (!inR e.func 1 4 || bit e.flags 0) 11 4 o 5) <|> (mxNeed (!bit e.flags 0 || (e.func != 5 && e.owner != moduleOwner)) 11 4 o 5) <|>
  (mxNeed (!bit e.flags 4 || (e.owner == moduleOwner && e.func == 0)) 11 4 o 5)

/-- R43: a COMPARATOR entry watches a channel or fluxgate sense on its own Tracer die, of its owner's. -/
def mxComp11 (c : Config) (o : Nat) (e : Comp) : Option MxErr :=
  let sl := if e.watch < 0x400 then e.watch / 5 else e.watch - 0x400
  (mxNeed (c.ownerOk [1, 2] e.owner) 11 5 o 2) <|>
  (mxNeed (sl / 16 == e.comp / 32 && (decide (0x400 ≤ e.watch) || ((c.slot sl).chans.any fun x => x.1 == e.watch % 5 && x.2.1 != 0))) 11 5 o 4) <|>
  (match c.laneOfSlot sl with
   | some n => mxNeed (e.owner == laneOwner n || e.owner == groupOwner (c.slot n).group) 11 5 o 2
   | none => mxBad 11 5 o 4)

/-- R43, R44: no more than `most` entries of one `key`: the entry that is one too many. -/
def mxMost (l : List (Nat × Nat)) (key : Nat → Nat) (sect most fo : Nat) : Option MxErr :=
  (List.range l.length).findSome? fun i =>
    let x := l.getD i (0, 0)
    mxNeed (decide (((l.take (i + 1)).filter fun y => key y.2 == key x.2).length ≤ most)) 11 sect x.1 fo

/-- R43: how many entries a lane may own. -/
def mxCounts (l : List (Nat × Nat)) (sect most fo : Nat) : Option MxErr := mxMost (l.filter fun x => x.2 / 4096 == 1) id sect most fo

/-- Check 11: R42-R44, R131, R278. -/
def mxCheck11 (v : MxView) (c : Config) : Option MxErr :=
  (mxConflict [] v.claims) <|> (v.outputs.findSome? fun (o, e) => mxOutput11 c o e) <|>
  (mxCounts (v.outputs.map fun (o, e) => (o, e.owner)) 4 8 2) <|> (v.comps.findSome? fun (o, e) => mxComp11 c o e) <|>
  (mxCounts (v.comps.map fun (o, e) => (o, e.owner)) 5 4 2) <|>
  (v.pulses.findSome? fun (o, e) => mxNeed (c.ownerOk [1, 3, 4] e.owner) 11 6 o 2) <|>
  (mxCounts (v.pulses.map fun (o, e) => (o, e.owner)) 6 2 2) <|>
  (v.cans.findSome? fun (o, e) =>
    mxNeed (c.ownerOk [1, 2, 3] e.owner && (match ownerLane e.owner with | some n => (c.slot n).typ.isDc | none => true)) 11 7 o 4) <|>
  (v.engines.findSome? fun (o, e) =>
    mxNeed (c.ownerOk [1] e.owner && (c.slot (e.owner % 256)).typ.charges && e.owner % 256 / 32 == e.engine / 8) 11 8 o 2) <|>
  (mxMost (v.engines.map fun (o, e) => (o, e.engine)) (· / 8) 8 4 0) <|>
  (v.slots.findSome? fun (o, e) =>
    let need := if e.typ.isDc then [1, 2, 3] else if e.typ.isAc then [4] else []
    mxNeed (need.all fun f => c.outputs.any fun x => x.owner == laneOwner e.slot && x.func == f) 11 2 o 1)

/-! ### Checks 12 to 14 -/

/-- Check 12: R45, R254, R269: the resource is named, the claimant is 0. -/
def State.mxCheck12 (s : State) (v : MxView) (c : Config) : Option MxErr :=
  let b := s.sf.block
  (v.comps.findSome? fun (o, e) =>
    if compOk c b e then none
    else
      let fo := if bit e.flags 0 && !thresholdOk c b e e.high then 8 else 0x0C
      (mxBad 12 5 o fo).map fun (x : MxErr) => { x with cls := 3, index := e.comp, owner1 := e.owner }) <|>
  (v.groups.findSome? fun (o, g) =>
    if groupOk b g then none
    else (mxBad 12 3 o (if g.pMax ≤ b.groupPBound.getD g.group 0 then 8 else 4)).map fun (x : MxErr) =>
      { x with cls := 7, index := g.group, owner1 := groupOwner g.group })

/-- R49: what a lane owns. -/
def Config.owned (c : Config) (n : Nat) : List Output × List Comp × List Pulse × List CanEnt × List Engine :=
  let o := laneOwner n
  (c.outputs.filter fun x => x.owner == o, c.comps.filter fun x => x.owner == o, c.pulses.filter fun x => x.owner == o,
   c.cans.filter fun x => x.owner == o, c.engines.filter fun x => x.owner == o)

/-- R49: two lists hold the same entries. -/
def sameSet {α : Type} [BEq α] (l m : List α) : Bool := l.all (fun x => m.contains x) && m.all fun x => l.contains x

/-- R49: the changed lanes between two matrices; an AC3 lane changes with slot n+1. -/
def changedLanes (old new : Config) : Nat :=
  let slotDiff := fun (n : Nat) => old.slot n != new.slot n
  let groupDiff := fun (n : Nat) => [old, new].any fun c =>
    (c.slot n).typ.isLane && old.group (c.slot n).group != new.group (c.slot n).group
  let ownDiff := fun (n : Nat) =>
    let a := old.owned n
    let b := new.owned n
    !(sameSet a.1 b.1 && sameSet a.2.1 b.2.1 && sameSet a.2.2.1 b.2.2.1 && sameSet a.2.2.2.1 b.2.2.2.1 && sameSet a.2.2.2.2 b.2.2.2.2)
  maskOf ((List.range 64).filter fun n =>
    slotDiff n || groupDiff n || ownDiff n || (((old.slot n).typ == .ac3 || (new.slot n).typ == .ac3) && slotDiff (n + 1)))

/-- R50: the changed lanes that block a load. -/
def State.mxBlocking (s : State) (changed : Nat) : Nat :=
  maskOf ((bitsOf 64 changed).filter fun n =>
    (s.typ n).charges && !((s.lane n).st == .offline || (s.lane n).st == .idle || (s.lane n).st == .fault))

/-- Check 14: R50; without an applied matrix there is no state check (R55). -/
def State.mxCheck14 (s : State) (changed : Nat) : Option MxErr :=
  let b := s.mxBlocking changed
  if s.mx.applied.isNone || b = 0 then none else some { status := 0x22, code := 14, blocked := b }

/-! ### A stream through the checks (R48, R51) -/

/-- R33: the metrology subset of a slot entry with the offsets of its fields. -/
def metroFields (e : Slot) : List (Nat × List Nat) :=
  [(1, [e.typ.code]), (3, [e.pairing]), (4, [e.gain]), (6, e.chfunc), (0x0B, [e.sensor]), (0x0C, [e.pulseIn]), (0x10, [e.ratedI]),
   (0x14, [e.ratedU]), (0x18, [e.scale]), (0x1C, [e.divider])]

/-- R28: VARIANTS bit of the fitted variant. -/
def Variant.mxBit : Variant → Nat
  | .sx16 => 0 | .sx32 => 1 | .fx => 2

/-- Checks 1 to 6 (R28, R29, R35, R3). -/
def State.mxHead (s : State) (m : Bytes) (secs : List MxSec) (slots : List (Nat × Bytes)) : Option MxErr :=
  let sealed := bit (ru m 0x1A 2) 0
  let stop := m.length - (if sealed then 128 else 64)
  let digest := sha256 (m.take stop)
  let verify := fun (k off : Nat) => match s.anchor k with | some key => P256.verify key digest (sub m off 64) | none => false
  (mxNeed (sub m 0 4 == [0x59, 0x47, 0x4D, 0x58]) 1 0 1 0 |>.map fun (x : MxErr) => { x with offset := 0 }) <|>
  (mxNeed (ru m 4 2 == 1) 2 0 4 0) <|> (secs.findSome? fun x => mxNeed (x.ver == 1) 2 x.typ x.off 1) <|>
  (mxNeed (ru m 6 2 == 0x6440) 3 0 6 0) <|> (mxNeed (bit (ru m 8 2) s.ident.variant.mxBit) 3 0 8 0) <|>
  (slots.findSome? fun (o, b) => mxNeed (decide (ru b 0 1 < s.nLanes) || ru b 1 1 == 0) 3 2 o 1) <|>
  (mxNeed (ru m 0x14 4 == m.length && decide (m.length ≤ 8 * 1024 * 1024) && decide (64 ≤ stop)) 4 0 0x14 0) <|>
  (mxNeed (sub m 0x20 32 == sha256 (sub m 64 (stop - 64))) 4 0 0x20 0) <|>
  (mxNeed (verify 0 stop) 5 0 stop 0) <|> (mxNeed (!sealed || verify 1 (stop + 64)) 5 0 (stop + 64) 0) <|>
  (if sealed then none else match s.mx.applied with
    | none => none
    | some a => slots.findSome? fun (o, b) =>
        let old := a.slot (ru b 0 1)
        (mxNeed (ru b 1 1 == old.typ.code) 6 2 o 1) <|>
        (((metroFields (mxSlot b)).zip (metroFields old)).findSome? fun (x, y) => mxNeed (x.2 == y.2) 6 2 o x.1))

/-- Check 7 (R28, R30, R31, R51): the layout; whether a whole matrix (`delta` false) or a lane delta is expected. -/
def State.mxLayout (s : State) (m : Bytes) (delta : Bool) (secs : List MxSec) (err : Option (Nat × Nat)) : Option MxErr :=
  let d := ru m 0x0B 1
  let ents := fun (t : Nat) => mxEntries m secs t
  let place := fun (t : Nat) => match secs.find? fun x => x.typ == t with | some x => x.off | none => 64
  let a := s.mx.applied.getD {}
  let ac3 := (a.slot d).typ == .ac3 || (ents 2).any fun x => ru x.2 0 1 == d && ru x.2 1 1 == 4
  let want := if ac3 then [d, d + 1] else [d]
  (mxNeed (ru m 0x0A 1 == b2n delta || decide (1 < ru m 0x0A 1)) 7 0 0x0A 0) <|> (mxNeed (decide (ru m 8 2 < 8)) 7 0 8 0) <|> (mxNeed (decide (ru m 0x1A 2 < 2)) 7 0 0x1A 0) <|>
  (match err with | some (t, o) => mxBad 7 t o 0 | none => none) <|>
  ((secs.zip (secs.drop 1)).findSome? fun (x, y) => mxNeed (decide (x.typ < y.typ)) 7 y.typ y.off 0) <|>
  (secs.findSome? fun x => mxNeed (inR x.entries (mxEntryCount x.typ).1 (mxEntryCount x.typ).2) 7 x.typ x.off 2) <|>
  ((List.range 8).findSome? fun t => mxFields 7 (t + 1) (ents (t + 1)) mxReserved) <|>
  (if delta then
    (mxNeed (decide (d < s.nLanes)) 7 0 0x0B 0) <|>
    (secs.findSome? fun x => mxNeed (x.typ != 1 && x.typ != 3) 7 x.typ x.off 0) <|>
    ((ents 2).findSome? fun (o, b) => mxNeed (want.contains (ru b 0 1)) 7 2 o 0) <|>
    (mxNeed (want.all fun n => ((ents 2).filter fun x => ru x.2 0 1 == n).length == 1) 7 2 (place 2) 0) <|>
    ([(4, 2), (5, 2), (6, 2), (7, 4), (8, 2)].findSome? fun (t, fo) =>
      (ents t).findSome? fun (o, b) => mxNeed (ru b fo 2 == laneOwner d) 7 t o fo) <|>
    (if s.mx.applied.isNone then none
     else (ents 2).findSome? fun (o, b) => mxNeed (!inR (ru b 1 1) 1 4 || (a.group (ru b 2 1)).isSome) 7 2 o 2)
   else
    (mxNeed (d == 0xFF) 7 0 0x0B 0) <|> (mxNeed (ru m 0x10 4 == 0) 7 0 0x10 0) <|>
    (mxNeed (secs.any fun x => x.typ == 1) 7 1 64 0) <|>
    (mxNeed ((List.range s.nLanes).all fun n => (ents 2).any fun x => ru x.2 0 1 == n) 7 2 (place 2) 0))

/-- The entries of a stream. -/
def mxView (m : Bytes) (secs : List MxSec) : MxView :=
  { slots := (mxEntries m secs 2).map fun (o, b) => (o, mxSlot b), groups := (mxEntries m secs 3).map fun (o, b) => (o, mxGroup b),
    outputs := (mxEntries m secs 4).map fun (o, b) => (o, mxOutput b), comps := (mxEntries m secs 5).map fun (o, b) => (o, mxComp b),
    pulses := (mxEntries m secs 6).map fun (o, b) => (o, mxPulse b), cans := (mxEntries m secs 7).map fun (o, b) => (o, mxCan b),
    engines := (mxEntries m secs 8).map fun (o, b) => (o, mxEngine b) }

/-- R31, R35, R52: the matrix a stream gives, its entries merged in `v`; the BODY_HASH of a merged matrix is open (log entry 1). -/
def State.mxConfig (s : State) (m : Bytes) (delta : Bool) (secs : List MxSec) (v : MxView) : Config :=
  let sealed := bit (ru m 0x1A 2) 0
  let old := s.mx.applied.getD {}
  let base : Config :=
    if delta then { old with hash := s.freeBytes 32 }
    else match mxEntries m secs 1 with
      | (_, g) :: _ => { hash := sub m 0x20 32, prefSide := ru g 0 1, cpInterval := ru g 1 1, revertS := ru g 2 2, hostloss := ru g 4 1,
                         margin := ru g 5 1, window := ru g 6 1 }
      | [] => {}
  let key := fun (k : Nat) => (s.anchor k).getD []
  v.into { base with generation := ru m 0x0C 4, sealed := sealed || (s.mx.applied.isSome && old.sealed), admKey := key 0,
                     metKey := if sealed then key 1 else if delta then old.metKey else [] }

/-- Checks 8 to 12 across a matrix. -/
def State.mxCross (s : State) (v : MxView) (c : Config) : Option MxErr :=
  (s.mxCheck8 v c) <|> (mxCheck9 v c s.nLanes) <|> (mxCheck10 v c) <|> (mxCheck11 v c) <|> (s.mxCheck12 v c)

/-- R48, R51: a stream through every check up to 13; the resulting matrix when it passes. A delta without an applied matrix has nothing to be
merged with and fails check 13. -/
def State.checkMatrix (s : State) (m : Bytes) (delta : Bool) : MxErr ⊕ Config :=
  let stop := m.length - (if bit (ru m 0x1A 2) 0 then 128 else 64)
  let p := mxSections m stop (ru m 0x18 2) 64
  let ents := fun (t : Nat) => mxEntries m p.1 t
  let v := mxView m p.1
  let v := if delta then v.overlay (s.mx.applied.getD {}) (ru m 0x0B 1) else v
  let c := s.mxConfig m delta p.1 v
  let e := (s.mxHead m p.1 (ents 2)) <|> (s.mxLayout m delta p.1 p.2) <|>
    (if delta && s.mx.applied.isNone then mxBad 13 0 0x10 0
     else
      (mxNeed (decide (ru m 0x0A 1 ≤ 1)) 8 0 0x0A 0) <|> (mxNeed (ru m 0x0C 4 != 0) 8 0 0x0C 0) <|> ((List.range 8).findSome? fun t => mxFields 8 (t + 1) (ents (t + 1)) mxRanges) <|>
      (s.mxCross v c) <|> (mxNeed (!delta || ru m 0x10 4 == s.cfg.generation) 13 0 0x10 0))
  match e with
  | some x => .inl x
  | none => .inr c

/-- R55: a stored copy under checks 1 to 12: its signatures verify under the keys of the vault when these are the keys they verified under at
its load; check 6 passes. -/
def State.checkStored (s : State) (c : Config) : Option MxErr :=
  (mxNeed (s.anchor 0 == some c.admKey && (c.metKey.isEmpty || s.anchor 1 == some c.metKey)) 5 0 0 0) <|> (s.mxCross c.view c)

end Sys2Proof.Machine
end

