-- ==== Sys2Proof/Machine/Matrix.lean ====
section
/-! DEFINITION. Matrix.lean: loading, applying and reporting the matrix (R47-R56). -/
namespace Sys2Proof.Machine

/-! ### Refusals (R54, R56) -/

/-- R54: MATRIX_REFUSED. -/
def State.evMxRefused (s : State) (e : MxErr) : State :=
  s.evMod .host s.rd.active 0 0x1F02 (leBytes 2 e.status ++ leBytes 1 e.code)

/-- R48, R56: the error registers take a failing check. -/
def State.mxFail (s : State) (e : MxErr) : State :=
  { s with mx := { s.mx with errStatus := e.status, errCode := e.code, errSection := e.sect, errOffset := e.offset, errIndex := e.index,
                             errClass := e.cls, errOwner1 := e.owner1, errOwner2 := e.owner2, blocked := e.blocked } }

/-- R54, R56: a load is refused. -/
def State.mxRefuse (s : State) (t : Ticket) (e : MxErr) : State :=
  let s := s.mxFail e
  let s : State := { s with mx := { s.mx with refused := satU 32 (s.mx.refused + 1) } }
  (s.complete t e.status).evMxRefused e

/-! ### Applying a matrix (R52, R55, R209, R288) -/

/-- R209: the channels of a slot whose GAIN code, CHFUNC, SENSOR, SENSOR_SCALE or DIVIDER two matrices give differently. -/
def recalChans (old new : Config) (n : Nat) : List Nat :=
  let a := old.slot n
  let b := new.slot n
  let all := a.sensor != b.sensor || a.scale != b.scale || a.divider != b.divider
  ((List.range 5).filter fun j =>
    all || a.gain / 4 ^ j % 4 != b.gain / 4 ^ j % 4 || a.chfunc.getD j 0 != b.chfunc.getD j 0).map fun j => 5 * n + j

/-- R209: the coefficients of channels a matrix changes return to the defaults. -/
def State.recal (s : State) (old : Config) (n : Nat) : State :=
  let l := (recalChans old s.cfg n) ++ if s.typ n == .ac3 then recalChans old s.cfg (n + 1) else []
  if !(s.typ n).isLane || l.isEmpty then s
  else
    let d : MtChan := {}
    let s := l.foldl (fun (s : State) (k : Nat) => s.onChan k fun h => { h with gain := d.gain, offset := d.offset, delay := d.delay, reset_ := true }) s
    (s.onMtl n fun m => { m with calGen := (m.calGen + 1) % 2 ^ 32, uncal := true }).evCal n l.length 1

/-- R288: the outputs after a module reset, once a matrix is applied: unowned channels go off, lane-owned ones take the states of OFFLINE and
IDLE, and module-owned GENERAL channels follow START_ON. -/
def State.startOutputs (s : State) : State :=
  (List.range 128).foldl (fun (s : State) k =>
    match s.cfg.output k with
    | none => s.command k false
    | some o => if o.owner == moduleOwner && o.func == 0 then s.command k (bit o.flags 4) else s.command k false) s

/-- R40: a resource that loses its owner is inactive: its channel goes off. -/
def State.dropOutputs (s : State) (new : Config) : State :=
  s.cfg.outputs.foldl (fun (s : State) o =>
    match new.output o.output with
    | some q => if q.owner == o.owner then s else s.command o.output false
    | none => s.command o.output false) s

/-- R52: changed lanes pass through OFFLINE, take their new configuration and enter IDLE (R84: types 1-5 with LN_CTRL.ENABLE 1). -/
def State.reconfigure (s : State) (new : Config) (changed : Nat) : State :=
  let old := s.cfg
  let lanes := bitsOf 64 changed
  let first := s.mx.applied.isNone
  let s := lanes.foldl (fun (s : State) n => if (s.typ n) == .meter then s.impress false n 3 0 s.legal else s) s
  let s := lanes.foldl (fun (s : State) n => if (s.lane n).st == .offline then s else s.enter n .offline .none .host) s
  let s := s.dropOutputs new
  let s : State := { s with mx := { s.mx with applied := some new } }
  let s := if first then s.startOutputs else lanes.foldl (fun (s : State) n => s.recal old n) s
  let s := lanes.foldl (fun (s : State) n =>
    let s := s.evLane .host n 0x1F01 []
    let s := s.enterOffline n
    if (s.typ n).isLane && (s.lane n).enable then s.go n .idle .none .host else s) s
  s.settlePermits

/-- R55: a stored copy that passes is applied at start-up: the lanes of types 1-5 enter IDLE. -/
def State.applyStored (s : State) (copy : Nat) (c : Config) : State :=
  let s : State := { s with mx := { s.mx with applied := some c, active := copy, aValid := s.mx.aValid || copy == 0, bValid := s.mx.bValid || copy == 1 } }
  let s := s.startOutputs
  let s := (List.range 64).foldl (fun (s : State) n =>
    if (s.typ n).isLane && (s.lane n).enable then (s.enterOffline n).go n .idle .none .host else s.enterOffline n) s
  s.settlePermits

/-- The stored copy of a number. -/
def Matrix.copy (m : Matrix) (k : Nat) : Option Config := if k = 0 then m.copyA else m.copyB

/-- R55: the start-up application: the active copy, else the other one; a copy that fails is reported. If neither passes every channel goes
off (R288). -/
def State.bootMatrix (s : State) : State :=
  let try_ := fun (s : State) (k : Nat) => match s.mx.copy k with | some c => s.checkStored c | none => some { status := 0x50, code := 4 }
  let a := s.mx.active
  match try_ s a, s.mx.copy a with
  | none, some c => s.applyStored a c
  | ea, ca =>
    let s := match ea, ca with | some e, some _ => (s.mxFail e).evMxRefused e | _, _ => s
    match try_ s (1 - a), s.mx.copy (1 - a) with
    | none, some c => s.applyStored (1 - a) c
    | eb, cb =>
      let s := match eb, cb with | some e, some _ => (s.mxFail e).evMxRefused e | _, _ => s
      (List.range 128).foldl (fun (s : State) k => s.command k false) s

/-! ### Requests (R47) -/

/-- R47: the stream an argument names: inline, or a complete transfer of kind 2. -/
def State.mxStream (s : State) (t : Ticket) : Option (Bytes × Option Nat) :=
  if t.arg.length < 4 || t.u 1 3 != 0 then none
  else if t.u 0 1 = 0 then (if 65536 < t.arg.length - 4 then none else some (t.rest 4, none))
  else if t.u 0 1 = 1 && t.arg.length == 8 then (s.xferBytes (t.u 4 4) 2).map fun b => (b, some (t.u 4 4))
  else none

/-- R47, R48, R50: a load that passes every check waits for its commit with its changed lanes pending. -/
def State.mxStart (s : State) (t : Ticket) (c : Config) (slot : Nat) (x : Option Nat) : State :=
  let changed := changedLanes s.cfg c
  match s.mxCheck14 changed with
  | some e => s.mxRefuse t e
  | none =>
    let s : State := { s with mx := { s.mx with job := some { ticket := t.id, cfg := c, changed := changed, deltaSlot := slot, xfer := x },
                                                pending := changed, blocked := 0 } }
    match x with
    | some n => s.onXfer n fun y => { y with inUse := true }
    | none => s

/-- R47: only one load or check at a time; a load in progress is left alone by its own ticket. -/
def State.mxRequest (s : State) (t : Ticket) (k : Unit → State) : State :=
  match s.mx.job with
  | some j => if j.ticket = t.id then s else s.complete t St.busy
  | none => k ()

/-- R47, R48: a load of a whole matrix or of a delta. -/
def State.mxLoad (s : State) (t : Ticket) (delta : Bool) : State :=
  s.mxRequest t fun _ =>
    match s.mxStream t with
    | none => s.complete t St.badArgument
    | some (b, x) =>
      match s.checkMatrix b delta with
      | .inl e => s.drawn.mxRefuse t e
      | .inr c => s.drawn.mxStart t c (if delta then ru b 0x0B 1 else 0xFF) x

/-- R47: MATRIX_LOAD. -/
def execMatrixLoad (tk : Nat) (s : State) : Out := fin s (s.onTicket tk 0x0101 fun t => s.mxLoad t false)

/-- R47, R51: MATRIX_LANE_LOAD. -/
def execMatrixLaneLoad (tk : Nat) (s : State) : Out := fin s (s.onTicket tk 0x0102 fun t => s.mxLoad t true)

/-- R47, R48: MATRIX_CHECK: every check but the state check. -/
def execMatrixCheck (tk : Nat) (s : State) : Out :=
  fin s (s.onTicket tk 0x0103 fun t =>
    s.mxRequest t fun _ =>
      match s.mxStream t with
      | none => s.complete t St.badArgument
      | some (b, _) =>
        match s.checkMatrix b (ru b 0x0A 1 == 1) with
        | .inl e => (s.drawn.mxFail e).complete t e.status
        | .inr _ => s.drawn.complete t St.ok)

/-- R47: MATRIX_INFO. -/
def execMatrixInfo (tk : Nat) (s : State) : Out :=
  fin s (s.onTicket tk 0x0104 fun t =>
    s.complete t St.ok (leBytes 1 s.mx.active ++ leBytes 4 s.cfg.generation ++ padTo 32 s.cfg.hash ++ leBytes 1 (b2n s.cfg.sealed)))

/-- R47: MATRIX_REVERT: the other stored copy as a whole load; check 6 compares it with the applied matrix. -/
def execMatrixRevert (tk : Nat) (s : State) : Out :=
  fin s (s.onTicket tk 0x0105 fun t =>
    s.mxRequest t fun _ =>
      match s.mx.copy (1 - s.mx.active) with
      | none => s.mxRefuse t { status := St.checkFailed, code := 4 }
      | some c =>
        match s.checkStored c with
        | some e => s.mxRefuse t e
        | none =>
          let same := (List.range 64).all fun n => (metroFields (c.slot n)) == metroFields (s.slot n)
          if s.mx.applied.isSome && !same && c.metKey.isEmpty then s.mxRefuse t { status := St.sealRequired, code := 6, sect := 2 }
          else s.mxStart t { c with sealed := c.sealed || (s.mx.applied.isSome && s.cfg.sealed) } 0xFF none)

/-- R52, R54: the written copy is verified and the pointer is committed: the load applies at its completion, or not at all. -/
def execMatrixCommit (verified : Bool) (s : State) : Out :=
  fin s (match s.mx.job with
    | none => s
    | some j =>
      let op := if j.deltaSlot != 0xFF then 0x0102 else 0x0101
      let tick := match s.ticket j.ticket op with | some t => some t | none => s.ticket j.ticket 0x0105
      match tick with
      | none => s
      | some t =>
        if !verified then
          (match j.xfer with | some n => s.onXfer n fun y => { y with inUse := false } | none => s).unpend.mxRefuse t { status := St.checkFailed, code := 4 }
        else
          let k := 1 - s.mx.active
          let s := s.complete t St.ok ((if j.deltaSlot != 0xFF then leBytes 1 j.deltaSlot else []) ++ leBytes 4 j.cfg.generation)
          let s : State := { s with mx := { s.mx with copyA := if k = 0 then some j.cfg else s.mx.copyA, copyB := if k = 1 then some j.cfg else s.mx.copyB,
                                                      aValid := s.mx.aValid || k == 0, bValid := s.mx.bValid || k == 1, active := k,
                                                      appliedCount := (s.mx.appliedCount + 1) % 2 ^ 32 } }
          let s := s.evMod .host s.rd.active 0 0x1F00
            (leBytes 4 j.cfg.generation ++ leBytes 1 k ++ leBytes 1 (bitsOf 64 j.changed).length ++ leBytes 1 j.deltaSlot)
          let s := (s.reconfigure j.cfg j.changed).unpend
          match j.xfer with | some n => s.consumeXfer n | none => s)

/-! ### Registers (R56) -/

/-- R56: MX_STATUS. -/
def State.mxStatusReg (s : State) : Nat :=
  regOf [(0, 1, b2n s.mx.applied.isSome), (1, 1, s.mx.active), (2, 1, b2n s.mx.job.isSome), (3, 1, b2n s.mx.aValid), (4, 1, b2n s.mx.bValid),
    (5, 1, b2n s.cfg.sealed), (8, 8, (s.cfg.slots.filter fun x => x.typ.isLane).length), (32, 32, s.cfg.generation)]

/-- R56: MX_HASHi. -/
def State.mxHash (s : State) (i : Nat) : Nat := leNat (sub (padTo 32 s.cfg.hash) (8 * i) 8)

/-- R56: MX_ERR. -/
def State.mxErrReg (s : State) : Nat := regOf [(0, 16, s.mx.errStatus), (16, 8, s.mx.errCode), (24, 8, s.mx.errSection), (32, 32, s.mx.errOffset)]

/-- R56: MX_ERR_RES. -/
def State.mxErrRes (s : State) : Nat := regOf [(0, 32, s.mx.errIndex), (32, 8, s.mx.errClass), (40, 16, s.mx.errOwner1)]

/-- R56: MX_COUNT. -/
def State.mxCount (s : State) : Nat := regOf [(0, 32, s.mx.appliedCount), (32, 32, s.mx.refused)]

/-- R56: a write of MX_COUNT: all ones clear REFUSED. -/
def State.writeMxCount (s : State) (v : Nat) : State := { s with mx := { s.mx with refused := onesClear s.mx.refused v 32 32 } }

/-- R56: MX_TYPESi. -/
def State.mxTypes (s : State) (i : Nat) : Nat := regOf ((List.range 16).map fun j => (4 * j, 4, (s.typ (16 * i + j)).code))

/-- R56: MX_PENDING. -/
def State.mxPendingReg (s : State) : Nat := s.mx.pending ||| s.mx.blocked

end Sys2Proof.Machine
end

