-- ==== Sys2Proof/Machine/Sequencer.lean ====
section
/-! DEFINITION. Sequencer.lean: admission of events, device and legal time, faults of shared dies, and the identity window (R11-R27). -/
namespace Sys2Proof.Machine

/-! ### Admission (R20-R24) -/

/-- R242, R336: the record of a session that its LANE_STATE closes takes END_SEQ, and the account cell of the session with it. -/
def State.recordSeq (s : State) (n seq : Nat) : State :=
  match s.en.closing.find? fun x => x.lane == n && x.endSeq == 0 with
  | none => s
  | some x =>
    let s : State := { s with en := { s.en with closing := s.en.closing.map fun (y : RecPend) =>
      if y.lane == n && y.session == x.session && y.endSeq == 0 then { y with endSeq := seq } else y } }
    match x.cell with
    | some c => s.putCell c { s.cell c with seq := seq }
    | none => s

/-- R272: the oldest parameter change without a SEQ takes that of its PARAM_CHANGED. -/
def numberLog (l : List SpLog) (seq : Nat) : List SpLog :=
  let j := l.length - 1 - (l.reverse.findIdx fun (x : SpLog) => x.seq == 0)
  if l.any fun x => x.seq == 0 then l.modify j fun (x : SpLog) => { x with seq := seq } else l

/-- R240, R242, R272: what stores the SEQ of an event takes it as the event is numbered. -/
def State.numbered (s : State) (r : EvRec) : State :=
  let d := fun (off k : Nat) => leNat (sub r.ev.data off k)
  if r.ev.code = 0x1001 then
    if d 0 1 = LState.energy.code then
      s.onEn false r.ev.lane fun e => { e with sess := e.sess.map fun x => if x.startSeq = 0 then { x with startSeq := r.seq } else x }
    else if d 0 1 = LState.unlock.code || d 0 1 = LState.fault.code then s.recordSeq r.ev.lane r.seq
    else s
  else if r.ev.code = 0x4011 then s.numberImpr (d 0 1) (d 1 1) (d 2 1) (d 3 2) r.seq
  else if r.ev.code = 0x2009 then { s with sf := { s.sf with log := numberLog s.sf.log r.seq } }
  else s

/-- R20, R21, R23: the sequencer of the active side admits the event that goes first; none goes before RESET (R521). -/
def execEventAdmit (s : State) : Out :=
  if s.rs.phase < 5 then fin s s else
  let q := s.seqr.admitNext s.rd.active s.now
  let t := if s.seqr.seqLast < q.seqLast then match q.journal with | r :: _ => s.numbered r | [] => s else s
  fin s (t.ask .admitNext)

/-! ### Time (R17-R19) -/

/-- R17: one cycle of CLK_MET adds 1,000,000,000/49,152,000 ns, which is 20 + 265/768 ns, to TIME; the fraction is kept in 1/768 ns. TIME
stands in DORMANT and OFF. -/
def State.tick (s : State) : State :=
  if s.pw.state ≤ 2 then
    let f := s.clock.frac + 265
    if f < 768 then { s with clock := { s.clock with time := s.clock.time + 20, frac := f } }
    else { s with clock := { s.clock with time := s.clock.time + 21, frac := f - 768 } }
  else s

/-- R18: the replicas are realigned to the counter every 1 µs. -/
def execTimeReplicaRealign (s : State) : Out :=
  fin s (
    if s.clock.replicaAt + 1000 ≤ s.now then
      { s with clock := { s.clock with replicas := s.clock.replicas.map fun _ => s.now, replicaAt := s.now } }
    else s)

/-- R19, R515: an anchor pair is taken every 1 s; `drift` is what the real-time clock has gained on TIME since the last one, in 2^-32 s, at
most 10 ppm. A real-time clock whose oscillator has stopped gains nothing (R517). A correction reaches the real-time clock with it (R326). -/
def execLegalAnchor (drift : Int) (s : State) : Out :=
  fin s (
    if s.clock.anchorTime + sec 1 ≤ s.now then
      let most : Int := (((s.now - s.clock.anchorTime) * 2 ^ 32 / 1000000000 / 100000 : Nat) : Int)
      let d := if s.clock.rtcOk then max (-most) (min most drift) else 0
      { s with clock := { s.clock with prevTime := s.clock.anchorTime, prevLegal := s.clock.anchorLegal, anchorTime := s.now,
                                       anchorLegal := (((s.legal : Nat) : Int) + d).toNat, rtcSetDue := none,
                                       rtcLost := s.clock.rtcLost && s.clock.rtcSetDue.isNone } }
    else s)

/-! ### Shared dies (R13) -/

/-- R13, R216, R248: a fault is detected in a Tracer, Pilot, Graver, switch or plate store die. -/
def execSharedDieFault (d : Nat) (s : State) : Out :=
  fin s (
    if d < 2 || 13 < d then s
    else if d = 8 then (s.onGrv fun v => { v with selfFail := true }).withPermits fun s => s.dieFails 8
    else if 9 ≤ d && d ≤ 12 then
      (List.range 8).foldl (fun (s : State) j => s.pulseFails (8 * (d - 9) + j) 3) (s.dieFails d)
    else s.dieFails d)

/-! ### Registers (R27) -/

/-- R27: IDENT. -/
def State.identReg (s : State) : Nat := regOf [(0, 16, 0x0A8B), (16, 16, 0x6440), (32, 16, s.ident.variant.code), (48, 16, s.ident.build)]

/-- R11, R27: the dies that carry live functions in a variant. -/
def Variant.dies : Variant → Nat
  | .fx => 0x3FFF
  | .sx32 => maskOf [0, 1, 2, 3, 6, 8, 9, 10, 11, 12, 13]
  | .sx16 => maskOf [0, 2, 6, 8, 9, 10, 11, 12, 13]

/-- R27: DIES. -/
def State.diesReg (s : State) : Nat := regOf [(0, 14, s.ident.variant.dies), (16, 14, s.ident.dieFault)]

/-- R27: a write of DIES: a bit of DIE_FAULT written 1 clears, and sets again while the fault persists. -/
def State.writeDies (s : State) (v : Nat) : State :=
  { s with ident := { s.ident with dieFault := maskOf ((bitsOf 14 s.ident.dieFault).filter fun d => !flagOf v (16 + d) || s.dieBad d) } }

/-- R27: GSTATUS. -/
def State.gstatus (s : State) : Nat :=
  regOf [(0, 1, s.rd.active), (1, 1, b2n s.rd.sync), (2, 1, b2n s.mx.applied.isSome), (3, 1, b2n s.sf.guardTested),
    (4, 1, b2n s.clock.legalValid), (8, 24, s.seqr.overflows)]

/-- R27: a write of GSTATUS: all ones clear OVERFLOWS. -/
def State.writeGstatus (s : State) (v : Nat) : State := if fieldOf v 8 24 = 2 ^ 24 - 1 then s.ask .clearOverflows else s

end Sys2Proof.Machine
end

