-- ==== Sys2Proof/Machine/TagReader.lean ====
section
/-! DEFINITION. TagReader.lean: the UHF tag reader (R415-R430): dwells and presentation, port faults, writing with verification, the tag
requests and registers. -/
namespace Sys2Proof.Machine

/-! ### Ports and dwells (R416, R420) -/

/-- R1, R4, R461: a reader is fitted, and the module is in RUN. -/
def State.tagsOn (s : State) : Bool := s.twin && s.pw.state == 0

/-- The lanes a port serves. -/
def State.portLanes (s : State) (p : Nat) : List Nat :=
  (List.range s.nLanes).filter fun n => (s.typ n).charges && (s.slot n).antenna == p

/-- R420: a lane wants its port read. -/
def State.laneDemand (s : State) (p : Nat) : Bool :=
  (s.portLanes p).any fun n => [LState.idle, .plugged, .identify, .authorise].contains (s.lane n).st

/-- R428: the write in progress on a port. -/
def State.portWrite (s : State) (p : Nat) : Option TgWr := s.tg.write.filter fun w => w.port == p

/-- R420: a port has demand. -/
def State.tagDemand (s : State) (p : Nat) : Bool :=
  s.laneDemand p || (s.portWrite p).isSome || s.tg.inv.any fun i => i.port == p

/-- R416, R420: a port is visited. -/
def State.tagVisit (s : State) (p : Nat) : Bool := s.tagDemand p && (s.tgp p).enable && !(s.tgp p).fault

/-- R420: the next port with demand in ascending order after the last. -/
def State.nextPort (s : State) : Option Nat :=
  ((List.range 8).map fun i => (s.tg.port + 1 + i) % 8).find? s.tagVisit

/-- Changes the TG_WRITE in progress. -/
def State.onWrite (s : State) (f : TgWr → TgWr) : State := { s with tg := { s.tg with write := s.tg.write.map f } }

/-- R424, R426: the tag is singulated again. -/
def TgWr.again (w : TgWr) : TgWr := { w with handle := none, seen := 0, window := none }

/-- The carrier goes off: the field collapses. -/
def State.carrierOff (s : State) : State :=
  { s with tg := { s.tg with carrier := false, offAt := some s.now, epcs := [] } }

/-- R417, R420, R421: the carrier has been off for 2 ms: a dwell begins at the next port with demand. -/
def execCarrierOffEnd (s : State) : Out :=
  fin s (
    if s.tagsOn && s.tg.link && !s.tg.carrier && (match s.tg.offAt with | some t => decide (t + ms 2 ≤ s.now) | none => true) then
      match s.nextPort with
      | some p =>
        State.onWrite { s with tg := { s.tg with carrier := true, port := p, dwellAt := s.now, qfp := 10 * (s.tg.qInit : Int), q := s.tg.qInit, rlBad := true, epcs := [] } }
          fun w => if w.port = p && w.window.isNone then w.again else w
      | none => s
    else s)

/-- R423: the EPCs of a dwell on a port have been read: when they were read last. -/
def TgPort.readAgain (p : TgPort) (tags : List TgTag) : TgPort :=
  { p with shown := p.shown.map fun (x : TgShown) => match tags.find? fun t => t.epc == x.epc with | some t => { x with last := t.stamp } | none => x }

/-- R423: an EPC presented on a port within HOLDOFF and read there within 2 s is not presented again. -/
def State.heldOff (s : State) (p : Nat) (t : TgTag) : Bool :=
  (s.tgp p).shown.any fun x => x.epc == t.epc && decide (s.now < x.atT + sec s.tg.holdoff) && decide (t.stamp < x.last + sec 2)

/-- R423: what one or several EPCs of a dwell come to. -/
def State.presentTags (s : State) (p : Nat) (tags : List TgTag) : State :=
  match tags with
  | [] => s
  | [t] =>
    if s.heldOff p t then s.onTgp p fun q => q.readAgain [t]
    else
      let s := s.onTgp p fun q => { q with shown := { epc := t.epc, atT := s.now, last := t.stamp } :: q.shown.filter fun x => x.epc != t.epc }
      s.present (s.portLanes p) { src := 2, ident := t.epc, time := t.stamp } .external
  | _ =>
    let waiting := ((s.portLanes p).filter fun n => (s.lane n).st == .identify).length
    let s := s.onTgp p fun q => q.readAgain tags
    { s with tg := { s.tg with ambiguous := satU 16 (s.tg.ambiguous + 1) } }.evMod .external s.rd.active p 0xB001
      (leBytes 1 p ++ leBytes 1 tags.length ++ leBytes 1 waiting)

/-- R428: a further reading of a tag in an inventory. -/
def TgInv.add (i : TgInv) (t : TgTag) : TgInv :=
  if i.tags.any fun x => x.epc == t.epc then
    { i with tags := i.tags.map fun x => if x.epc == t.epc then { x with rssi := max x.rssi t.rssi, reads := x.reads + t.reads } else x }
  else { i with tags := i.tags ++ [t] }

/-- R420, R423, R428: a dwell of 40 ms ends: the inventories of the port take every second one, else its EPCs are presented unless a write
holds the port. -/
def execTagDwellEnd (s : State) : Out :=
  fin s (
    let p := s.tg.port
    if !s.tg.carrier || s.now < s.tg.dwellAt + ms 40 || (match s.portWrite p with | some w => w.window.isSome | none => false) then s
    else
      let tags := s.tg.epcs
      let short := (tags.filter fun t => decide (t.epc.length < 12)).length
      let mine := s.tg.inv.any fun i => i.port == p && (i.turn || !s.laneDemand p)
      let inv := s.tg.inv.map fun (i : TgInv) =>
        if i.port = p then { (if mine then tags.foldl TgInv.add i else i) with turn := !mine } else i
      let s : State := { s with tg := { s.tg with shortEpc := satU 16 (s.tg.shortEpc + short), inv := inv } }
      let s := if mine || (s.portWrite p).isSome then s.onTgp p fun q => q.readAgain tags
        else s.presentTags p (tags.filter fun t => decide (12 ≤ t.epc.length) && decide (t.epc.length ≤ 32))
      s.carrierOff)

/-! ### Faults (R416) -/

/-- R416, R429: a fault of the interface (0) or of the present port (1 PA fault, 2 return loss below RL_MIN for the whole dwell). -/
def execTagPortFault (kind : Nat) (s : State) : Out :=
  fin s (
    let p := s.tg.port
    let ev (s : State) : State := s.evMod .diag s.rd.active p 0xB003 (leBytes 1 1 ++ leBytes 1 kind ++ leBytes 1 p)
    if !s.twin then s
    else if kind = 0 then
      if s.tg.link then ev { s.carrierOff with tg := { s.carrierOff.tg with link := false, linkLost := true } } else s
    else if s.tg.carrier && !(s.tgp p).fault && (kind = 1 || (kind = 2 && s.tg.rlBad && s.tg.dwellAt + ms 40 ≤ s.now)) then
      ev (s.carrierOff.onTgp p fun q => { q with fault := true, faultEnd := some (s.now + sec 60), faultKind := kind })
    else s)

/-- R416: the 60 s of a faulty port end. -/
def execPortFaultEnd (p : Nat) (s : State) : Out :=
  fin s (match (s.tgp p).faultEnd with
    | some t =>
      if t ≤ s.now then
        (s.onTgp p fun q => { q with fault := false, faultEnd := none }).evMod .diag s.rd.active p 0xB003
          (leBytes 1 0 ++ leBytes 1 (s.tgp p).faultKind ++ leBytes 1 p)
      else s
    | none => s)

/-- R416: valid receive frames come. -/
def execReceiveFramesReturn (s : State) : Out :=
  fin s (
    if !s.twin || s.tg.link then s
    else
      let t : State := { s with tg := { s.tg with link := true, linkLost := false } }
      if s.tg.linkLost then t.evMod .diag s.rd.active s.tg.port 0xB003 (leBytes 1 0 ++ leBytes 1 0 ++ leBytes 1 s.tg.port) else t)

/-! ### Writing (R424-R427) -/

/-- R424: a command to the singulated tag. -/
def State.tagSend (s : State) (cmd ptr v : Nat) : State := { s with tg := { s.tg with sent := s.tg.sent ++ [(cmd, ptr, v)] } }

/-- R427, R429: a write ends with a result per word. -/
def State.writeEnds (s : State) (w : TgWr) (status : Nat) (res : List Nat) : State :=
  let n (k : Nat) : Nat := (res.filter fun x => x == k).length
  let s : State := { s with tg := { s.tg with write := none, writes := satU 16 (s.tg.writes + 1),
                                              uncertain := if status = St.writeUncertain then satU 16 (s.tg.uncertain + 1) else s.tg.uncertain } }
  let s := s.evMod .host s.rd.active w.port 0xB002
    (leBytes 4 w.ticket ++ leBytes 2 status ++ leBytes 1 (n 1) ++ leBytes 1 (n 0) ++ leBytes 1 (n 2))
  s.onTicket w.ticket 0x0902 fun t => s.complete t status (res.flatMap (leBytes 1))

/-- R427: the status of the results; none is stated when a word reads back different though nothing stopped the write (log entry 1). -/
def State.writeStatus (s : State) (w : TgWr) (res : List Nat) : Nat :=
  if res.all (· == 1) then St.ok
  else if res.contains 2 then St.writeUncertain
  else match w.stopped with | 1 => St.timeout | 2 => St.refusedState | 3 => St.badArgument | _ => s.free 16

/-- R427: the write ends with these results. -/
def State.writeDone (s : State) (w : TgWr) (res : List Nat) : State := (s.writeEnds w (s.writeStatus w res) res).drawn

/-- R427: writing is over: the words attempted are read back for up to 2 s; with none attempted the write ends. -/
def State.writeStops (s : State) (w : TgWr) : State :=
  if w.tried.isEmpty then s.writeDone w (w.data.map fun _ => 0)
  else { s with tg := { s.tg with write := some { w.again with phase := 2, until_ := s.now + sec 2 } } }

/-- R425: the write margin on a reply of an RSSI in dBm. -/
def State.marginOk (s : State) (rssi : Int) : Bool :=
  decide (s.tg.writeRssi ≤ rssi) && decide (20 * s.tg.writePtag ≤ s.tg.fwd + 10 * rssi + 100)

/-- R424, R425: with a handle held, the next word is written when the margin holds; else the tag is singulated again and re-tested for up
to 1 s. -/
def State.writeNext (s : State) (w : TgWr) (rssi : Int) : State :=
  if w.data.length ≤ w.word then s.writeStops w
  else if s.marginOk rssi then
    let s := if w.pwd != 0 && !w.accessed then s.tagSend 1 0 w.pwd else s
    let s := s.tagSend 2 (w.ptr + w.word) (w.data.getD w.word 0)
    { s with tg := { s.tg with write := some { w with phase := 1, accessed := true, margin := false, window := some (s.now + ms 20) } } }
  else
    { s with tg := { s.tg with write := some { w.again with margin := true, until_ := if w.margin then w.until_ else s.now + sec 1 } } }

/-- R421, R424-R427: a reply within a write. -/
def State.writeReply (s : State) (w : TgWr) (r : TagReply) (rssi : Int) : State :=
  match r with
  | .epc e ok =>
    if !ok || e != w.epc || w.handle.isSome || w.window.isSome then s
    else if w.seen = 1 && w.phase = 0 && w.tried.isEmpty then s.writeEnds w St.badArgument (w.data.map fun _ => 0)
    else s.onWrite fun w => { w with seen := w.seen + 1 }
  | .handle h =>
    if w.seen = 0 || w.handle.isSome then s
    else if w.phase = 2 then
      ({ s with tg := { s.tg with write := some { w with handle := some h } } }).tagSend 3 w.ptr w.data.length
    else s.writeNext { w with handle := some h } rssi
  | .written =>
    if w.window.isSome then s.writeNext { w with window := none, tried := w.tried ++ [w.word], word := w.word + 1 } rssi else s
  | .error c =>
    if w.window.isNone then s
    else if c = 0 then s.writeStops { w with stopped := 2 }
    else if c = 1 then s.writeStops { w with stopped := 3 }
    else { s with tg := { s.tg with write := some { w.again with margin := true, until_ := if w.margin then w.until_ else s.now + sec 1 } } }
  | .words d =>
    if w.phase = 2 && w.handle.isSome then
      s.writeDone w ((List.range w.data.length).map fun i => if w.tried.contains i && d[i]? == w.data[i]? then 1 else 0)
    else s
  | .empty | .collision => s

/-- R421: Q_fp moves by so many tenths within 0-15; when its rounded value differs from the round's Q, QueryAdjust is sent. Which way a half
is rounded is open (log entry 1). -/
def State.adjustQ (s : State) (d : Int) : State :=
  let x := max 0 (min 150 (s.tg.qfp + d))
  let q := (x / 10).toNat + (if x % 10 < 5 then 0 else if x % 10 = 5 then s.free 1 % 2 else 1)
  let t : State := { s with tg := { s.tg with qfp := x, q := q } }
  let t := if q = s.tg.q then t else t.tagSend 4 0 q
  if x % 10 = 5 then t.drawn else t

/-- R416, R421, R422: what the reader hears in a slot, with the RSSI of the reply in dBm and the status word's powers in 0.1 dBm. -/
def execTagReply (r : TagReply) (rssi fwd refl : Int) (s : State) : Out :=
  fin s (
    if !s.tg.carrier || !s.tg.link then s
    else
      let low := decide (fwd - refl < ((s.tgp s.tg.port).rlMin : Int))
      let s : State := { s with tg := { s.tg with fwd := fwd, refl := refl, rlBad := s.tg.rlBad && low } }
      let t : State := match r with
        | .empty => s.adjustQ (-3)
        | .collision => { s with tg := { s.tg with collisions := satU 16 (s.tg.collisions + 1) } }.adjustQ 3
        | .epc e ok =>
          if ok then
            let l := s.tg.epcs
            let l := if l.any fun x => x.epc == e then
                l.map fun (x : TgTag) => if x.epc == e then { x with rssi := max x.rssi rssi, reads := x.reads + 1 } else x
              else l ++ [{ epc := e, stamp := s.now, rssi := rssi, reads := 1 }]
            { s with tg := { s.tg with epcs := l, reads := satU 32 (s.tg.reads + 1) } }
          else { s with tg := { s.tg with crcFail := satU 16 (s.tg.crcFail + 1) } }.tagSend 0 0 0
        | .handle _ | .written | .error _ | .words _ => s
      match t.portWrite t.tg.port with
      | some w => t.writeReply w r rssi
      | none => t)

/-- R426: no reply came in the 20 ms window: the word is unknown until it is read back; the next is tried. -/
def execWriteReplyWindow (s : State) : Out :=
  fin s (match s.tg.write with
    | some w =>
      match w.window with
      | some t =>
        if s.now < t then s
        else
          let w := { w.again with tried := w.tried ++ [w.word], word := w.word + 1, until_ := s.now + sec 1 }
          if w.data.length ≤ w.word then s.writeStops w else { s with tg := { s.tg with write := some w } }
      | none => s
    | none => s)

/-- R424, R425, R427: the time limit of the phase ends: no tag or no margin within 1 s, or no Read within 2 s. -/
def execTagWriteTimeLimit (s : State) : Out :=
  fin s (match s.tg.write with
    | some w =>
      if s.now < w.until_ || w.window.isSome then s
      else if w.phase = 2 then s.writeDone w ((List.range w.data.length).map fun i => if w.tried.contains i then 2 else 0)
      else s.writeStops { w with stopped := 1 }
    | none => s)

/-! ### Requests and registers (R428, R430) -/

/-- R428: TG_INVENTORY. -/
def execTgInventory (tk : Nat) (s : State) : Out :=
  fin s (s.onTicket tk 0x0901 fun t =>
    if !s.twin then s.complete t St.notSupported
    else if s.tg.inv.any fun i => i.ticket == tk then s
    else if 7 < t.u 0 1 || t.u 1 2 < 40 || 2000 < t.u 1 2 then s.complete t St.badArgument
    else { s with tg := { s.tg with inv := s.tg.inv ++ [{ ticket := tk, port := t.u 0 1, until_ := s.now + ms (t.u 1 2) }] } })

/-- R355, R428: the duration of an inventory is over. -/
def execInventoryDurationEnd (tk : Nat) (s : State) : Out :=
  fin s (match s.tg.inv.find? fun i => i.ticket == tk with
    | some i =>
      if s.now < i.until_ then s
      else
        let s : State := { s with tg := { s.tg with inv := s.tg.inv.filter fun (x : TgInv) => x.ticket != tk } }
        s.onTicket tk 0x0901 fun t => (s.complete t St.ok (i.tags.flatMap fun x =>
          leBytes 4 (s.credRef 2 x.epc) ++ leBytes 1 x.epc.length ++ leBytes 1 (satS 8 x.rssi) ++ leBytes 2 (satU 16 x.reads))).drawn
    | none => s)

/-- R424, R428: TG_WRITE. -/
def execTgWrite (tk : Nat) (s : State) : Out :=
  fin s (s.onTicket tk 0x0902 fun t =>
    let len := t.u 1 1
    let count := t.u 37 1
    if !s.twin then s.complete t St.notSupported
    else if (match s.tg.write with | some w => w.ticket == tk | none => false) then s
    else if s.tg.write.isSome then s.complete t St.busy
    else if 7 < t.u 0 1 || len < 12 || 32 < len || (t.u 34 1 != 1 && t.u 34 1 != 3) || count = 0 || 16 < count ||
        t.arg.length != 42 + 2 * count then s.complete t St.badArgument
    else
      let w : TgWr := { ticket := tk, port := t.u 0 1, epc := sub t.arg 2 len, bank := t.u 34 1, ptr := t.u 35 2, pwd := t.u 38 4,
                        data := (List.range count).map fun i => t.u (42 + 2 * i) 2, until_ := s.now + sec 1 }
      { s with tg := { s.tg with write := some w } })

/-- TG_STATUS. -/
def State.tgStatus (s : State) : Nat :=
  regOf [(0, 1, b2n s.tg.link), (1, 1, b2n s.tg.carrier), (2, 3, s.tg.port), (5, 1, b2n s.tg.write.isSome),
    (8, 8, maskOf ((List.range 8).filter s.tagDemand)), (16, 8, maskOf ((List.range 8).filter fun p => (s.tgp p).fault)),
    (24, 16, satS 16 s.tg.fwd), (40, 16, satS 16 s.tg.refl)]

/-- TG_CFG. -/
def State.tgCfg (s : State) : Nat :=
  regOf [(0, 4, s.tg.qInit), (4, 2, s.tg.session), (6, 2, s.tg.blf), (8, 2, s.tg.encoding), (10, 2, s.tg.tari), (16, 8, s.tg.holdoff),
    (24, 8, toBits 8 s.tg.writeRssi), (32, 8, toBits 8 s.tg.writePtag)]

/-- A write of TG_CFG, with the values stored in place of those not supported. -/
def State.writeTgCfg (s : State) (v : Nat) : State :=
  let one (x : Nat) : Nat := if x = 3 then 1 else x
  { s with tg := { s.tg with qInit := min 8 (fieldOf v 0 4), session := fieldOf v 4 2, blf := one (fieldOf v 6 2), encoding := fieldOf v 8 2,
                             tari := one (fieldOf v 10 2), holdoff := max 1 (min 60 (fieldOf v 16 8)),
                             writeRssi := ofBits 8 (fieldOf v 24 8), writePtag := ofBits 8 (fieldOf v 32 8) } }

/-- TG_PORTp. -/
def State.tgPort (s : State) (p : Nat) : Nat := let q := s.tgp p; regOf [(0, 1, b2n q.enable), (8, 16, q.power), (24, 8, q.rlMin)]

/-- A write of TG_PORTp. -/
def State.writeTgPort (s : State) (p v : Nat) : State :=
  s.onTgp p fun q => { q with enable := flagOf v 0, power := fieldOf v 8 16, rlMin := fieldOf v 24 8 }

/-- TG_COUNT0. -/
def State.tgCount0 (s : State) : Nat := regOf [(0, 32, s.tg.reads), (32, 16, s.tg.collisions), (48, 16, s.tg.crcFail)]
/-- TG_COUNT1. -/
def State.tgCount1 (s : State) : Nat :=
  regOf [(0, 16, s.tg.ambiguous), (16, 16, s.tg.shortEpc), (32, 16, s.tg.writes), (48, 16, s.tg.uncertain)]

/-- A write of TG_COUNT0. -/
def State.writeTgCount0 (s : State) (v : Nat) : State :=
  { s with tg := { s.tg with reads := onesClear s.tg.reads v 0 32, collisions := onesClear s.tg.collisions v 32 16, crcFail := onesClear s.tg.crcFail v 48 16 } }
/-- A write of TG_COUNT1. -/
def State.writeTgCount1 (s : State) (v : Nat) : State :=
  { s with tg := { s.tg with ambiguous := onesClear s.tg.ambiguous v 0 16, shortEpc := onesClear s.tg.shortEpc v 16 16,
                             writes := onesClear s.tg.writes v 32 16, uncertain := onesClear s.tg.uncertain v 48 16 } }

/-- R428: TG_READ. -/
def execTgRead (tk : Nat) (s : State) : Out :=
  fin s (s.onTicket tk 0x0903 fun t =>
    if !s.twin then s.complete t St.notSupported
    else s.complete t St.ok (([s.tgStatus, s.tgCfg] ++ (List.range 8).map s.tgPort ++ [s.tgCount0, s.tgCount1]).flatMap regBytes))

/-- R428: TG_COUNT_CLEAR. -/
def execTgCountClear (tk : Nat) (s : State) : Out :=
  fin s (s.onTicket tk 0x0904 fun t =>
    if !s.twin then s.complete t St.notSupported
    else { s with tg := { s.tg with reads := 0, collisions := 0, crcFail := 0, ambiguous := 0, shortEpc := 0, writes := 0, uncertain := 0 } }.complete t St.ok)

end Sys2Proof.Machine
end

