-- ==== Sys2Proof/Machine/Power.lean ====
section
/-! DEFINITION. Power.lean: power states, the refusers, entry and wake, the alarm, the registers of the power window; and the save of
the registers (R238, R461-R471). -/
namespace Sys2Proof.Machine

/-! ### The save (R238) -/

/-- R238: phases 2-4 of the save: the boundaries and lane-level actions up to the warning, the register copy not written last, the SAVED
marker and POWER_SAVE. Its duration is open within R238 (log entry 1). -/
def State.powerSave (s : State) : State :=
  let tw := s.now
  let lw := s.legal
  let s := if s.boundsRun then (s.catchAll 0).1 else s
  let s : State := { s with ac := { s.ac with charges := s.ac.charges.map fun (c : Option Charge) => c.map fun (x : Charge) => x.timeTo tw,
                                              custody := s.ac.custody.map fun (c : Option Charge) => c.map fun (x : Charge) => x.timeTo tw } }
  let us := s.free 16 % 5001
  let open_ := ((List.range 64).filter fun n => (s.enr false n).sess.isSome).length
  let copy := s.en.nextCopy
  let s := s.drawn.commitCopy true tw lw
  let s : State := { s with en := { s.en with saveLegal := lw / 2 ^ 32, saveDur := us } }
  (s.direct { cls := .metering, die := s.rd.active, unit := 0, lane := 0xFF, code := 0x3010, time := tw,
              data := leBytes 2 us ++ leBytes 1 open_ ++ leBytes 1 copy }).displayStops

/-! ### Refusers (R463) -/

/-- R463: refuser 0, the lanes. -/
def State.lanesRefuse (s : State) (target : Nat) : Bool :=
  ((List.range 64).any fun n => (s.typ n).charges && (match (s.lane n).st with
    | .offline | .idle => false
    | .fault => target != 1
    | .plugged | .identify | .authorise | .negotiate | .isolationTest | .precharge | .energy | .rampDown | .openCheck | .unlock | .degraded
    | .suspended => true)) ||
  (target == 3 && (((List.range 64).any fun n => s.typ n == .meter && (s.lane n).st == .energy) || (List.range 32).any fun c => s.custExists c))

/-- R463: refuser 3, a supervising session on another port. -/
def State.hostRefuses (s : State) (port : Nat) : Bool :=
  (List.range 3).any fun p => p != port && (match (s.port p).session with | some c => c.role == .operator || c.role == .admin | none => false)

/-- R463: the refusers that refuse a target state to a requester on a port (3 for none of the host ports). -/
def State.refusers (s : State) (target port : Nat) : Nat :=
  let deep := decide (2 ≤ target)
  b2n (s.lanesRefuse target) |||
    2 * b2n (if deep then s.sf.grv.permit != 0 || s.sf.phase == 2 || s.sf.phase == 3 else !s.sf.grv.latches.isEmpty) |||
    4 * b2n s.applying ||| 8 * b2n (deep && s.hostRefuses port) |||
    16 * b2n (s.ds.panels.any fun p => !p.flight.isEmpty || !p.queue.isEmpty) |||
    32 * b2n (s.tg.write.isSome || !s.tg.inv.isEmpty) |||
    64 * b2n (if deep then s.kz.master && s.kzLive.any fun x => x.eui != s.ident.eui64 else s.kz.dist.isSome) |||
    256 * b2n (s.en.warnAt.isSome || s.rs.pfw || s.rs.vmain)

/-! ### Entry (R464) -/

/-- R464: phase 1 of an entry: refused, or its quiet window begins. -/
def State.entryStarts (s : State) (target port : Nat) (t : Option Ticket) : State :=
  let mask := s.refusers target port
  if mask = 0 then { s with pw := { s.pw with entry := some { target := target, since := s.now, ticket := t.map (·.id), port := port } } }
  else
    let s : State := { s with pw := s.pw.refusedBy mask }
    let s := s.evRefused target mask false
    match t with
    | some t => s.complete t St.refusedState (leBytes 2 mask ++ leBytes 1 0)
    | none => s

/-- R461, R462, R464: PW_REQUEST. -/
def execPwRequest (tk : Nat) (s : State) : Out :=
  fin s (s.onTicket tk 0x0B01 fun t =>
    let k := t.u 0 1
    if t.arg.length != 1 || 3 < k then s.complete t St.badArgument
    else if k = 3 && t.role != .admin then s.complete t St.refusedRole
    else if k = s.pw.state then s.complete t St.ok
    else if s.pw.entry.isSome then s.complete t St.busy
    else if k = 0 then (s.wakes (if s.wakeEnabled 4 then 4 else 0) 0xFF 0).complete t St.ok
    else s.entryStarts k (ticketPort tk) (some t))

/-- R462: every lane of types 1-4 has rested in OFFLINE, IDLE or FAULT for PARK_S. -/
def State.parkDue (s : State) : Bool :=
  s.pw.state == 0 && s.pw.entry.isNone && s.pw.parkS != 0 && decide (s.pw.runAt + sec s.pw.parkS ≤ s.now) &&
    (List.range 64).all fun n => !(s.typ n).charges ||
      (((s.lane n).st == .offline || (s.lane n).st == .idle || (s.lane n).st == .fault) && decide ((s.lane n).restAt + sec s.pw.parkS ≤ s.now))

/-- R462, R464: the module requests PARK by itself. -/
def execAutomaticPark (s : State) : Out := fin s (if s.parkDue then s.entryStarts 1 3 none else s)

/-- R461, R464, R467: phases 4 and 5: the save and the outputs off for DORMANT; the units switched off and the pads latched. -/
def State.entered (s : State) (e : PwEntry) : State :=
  let old := s.pw.state
  let s := if e.target = 3 then
      let s := s.powerSave
      { s with po := { s.po with chans := s.po.chans.map fun (c : PoCh) => { c with cmd := false, out := false, current := 0 } } }
    else s
  let s : State := if 2 ≤ e.target then { s with rs := s.rs.sideClock s.rd.active false } else s
  let s := if 2 ≤ e.target && s.twin then s.setStandby 1 0 0 else s
  let s : State := { s with pw := { s.pw with state := e.target, held := s.pw.held ||| (if e.target = 1 then 0x0C else 0x7F) } }
  s.direct { cls := .diag, die := s.rd.active, unit := 0, lane := 0xFF, code := 0x5001, time := s.now,
             data := powerStateData e.target old (if e.ticket.isSome then 0 else 1) }

/-- R464: the quiet window ends: what refuses now aborts the entry; else it commits. -/
def execQuietWindowEnd (s : State) : Out :=
  fin s (match s.pw.entry with
    | some e =>
      if s.now < e.since + ms 10 then s
      else
        let mask := s.refusers e.target e.port
        if mask != 0 then s.entryAborts e mask
        else
          let s : State := { s with pw := { s.pw with entry := none } }
          let s := match e.ticket with
            | some tk => s.onTicket tk 0x0B01 fun t => s.complete t St.ok
            | none => s
          let s := if 2 ≤ e.target then (s.presenceSend 1).closeAll else s
          s.entered e
    | none => s)

/-! ### Wake (R465, R466) -/

/-- R465, R466, R471: a wake source that DORMANT can be left by: a module reset with cause WAKE. `ua` is the highest draw on VAON. -/
def State.dormantWakes (s : State) (src lane ua : Nat) : State :=
  { s with pw := { s.pw with lastWake := src, wakeLane := lane, lastUa := satU 16 ua } }.moduleReset 8

/-- R465: a wake source fires in any state. -/
def State.wakeSource (s : State) (src lane ua : Nat) : State :=
  if s.pw.state = 3 then (if s.wakeEnabled src && src != 1 then s.dormantWakes src lane ua else s) else s.sourceFires src lane

/-- R463-R466: wake source 1-5 fires; the lane of a plug-in. -/
def execWakeSource (src lane ua : Nat) (s : State) : Out :=
  fin s (if src = 3 && !((s.typ lane).charges && decide (lane < 64)) then s else s.wakeSource src (if src = 3 then lane else 0xFF) ua)

/-- R406, R465: the wake logic detects a wake preamble. -/
def execWakePreamble (ua : Nat) (s : State) : Out := fin s (s.wakeSource 2 0xFF ua)

/-- R465: the alarm fires once. In RUN, or with COMPAT 0, it wakes nothing and WAKE names no latency. -/
def execRtcAlarm (ua : Nat) (s : State) : Out :=
  fin s (
    if !(s.pw.armed && s.clock.legalValid && s.clock.rtcOk && decide (s.pw.alarmS ≤ s.legalSec)) || s.pw.state = 4 then s
    else
      let s : State := { s with pw := { s.pw with armed := false } }
      if s.pw.compat && s.pw.state = 3 then s.dormantWakes 6 0xFF ua
      else
        let s := match s.pw.entry with | some e => if s.pw.compat then s.entryAborts e 0x80 else s | none => s
        if s.pw.compat && s.pw.state != 0 then s.wakes 6 0xFF
        else s.evMod .external s.rd.active 0 0x5003 (leBytes 1 6 ++ leBytes 1 0 ++ leBytes 4 0))

/-- R82, R465: the SGMII link of HP0 or HP1 changes; in DOZE it is host port activity. -/
def execSgmiiLinkChange (p : Nat) (up : Bool) (s : State) : Out :=
  fin s (
    if 1 < p || (s.port p).link == up then s
    else
      let s := s.onPort p fun q => { q with link := up }
      if s.pw.state = 2 then s.sourceFires 4 0xFF else s)

/-- R467: pad groups are released. -/
def execPadholdRelease (mask : Nat) (s : State) : Out :=
  fin s { s with pw := { s.pw with held := maskOf ((bitsOf 7 s.pw.held).filter fun g => !bit mask g) } }

/-! ### Registers (R471) -/

/-- R471: PW_STATUS. -/
def State.pwStatus (s : State) : Nat :=
  regOf [(0, 3, s.pw.state), (3, 1, b2n s.pw.entry.isSome), (8, 4, s.pw.lastWake), (16, 16, s.refusers 2 3), (32, 32, s.pw.wakeUs)]

/-- R471: PW_CFG. -/
def State.pwCfg (s : State) : Nat := regOf [(0, 16, s.pw.parkS), (16, 1, b2n s.pw.compat), (17, 5, s.pw.wakeEn)]

/-- R471: a write of PW_CFG. -/
def State.writePwCfg (s : State) (v : Nat) : State :=
  { s with pw := { s.pw with parkS := fieldOf v 0 16, compat := flagOf v 16, wakeEn := fieldOf v 17 5 } }

/-- R471: PW_ALARM. -/
def State.pwAlarm (s : State) : Nat := regOf [(0, 32, s.pw.alarmS), (32, 1, b2n s.pw.armed)]

/-- R471: PW_AON. -/
def State.pwAon (s : State) : Nat := regOf [(0, 16, s.pw.lastUa), (16, 16, s.pw.borLp)]

/-- R471: PW_COUNTk. -/
def State.pwCount (s : State) (k : Nat) : Nat :=
  regOf [(0, 16, s.pw.refusedN.getD (2 * k) 0), (16, 16, s.pw.abortedN.getD (2 * k) 0), (32, 16, s.pw.refusedN.getD (2 * k + 1) 0),
    (48, 16, s.pw.abortedN.getD (2 * k + 1) 0)]

/-- R471: a write of PW_PADHOLD: a 1 releases a group. -/
def State.writePwPadhold (s : State) (v : Nat) : State :=
  { s with pw := { s.pw with held := maskOf ((bitsOf 7 s.pw.held).filter fun g => !bit v g) } }

/-- R469: PW_READ. -/
def execPwRead (tk : Nat) (s : State) : Out :=
  fin s (s.onTicket tk 0x0B02 fun t =>
    s.complete t St.ok (([s.pwStatus, s.pwCfg, s.pwAlarm, s.pw.held, s.pwAon] ++ (List.range 8).map s.pwCount).flatMap regBytes))

/-- R465, R469: PW_ALARM_SET. -/
def execPwAlarmSet (tk : Nat) (s : State) : Out :=
  fin s (s.onTicket tk 0x0B03 fun t =>
    let a := t.u 0 4
    if t.arg.length != 4 then s.complete t St.badArgument
    else if !s.clock.legalValid then s.complete t St.refusedState
    else if a != 0 && decide (a * 2 ^ 32 < s.legal) then s.complete t St.badArgument
    else { s with pw := { s.pw with alarmS := a, armed := a != 0 } }.complete t St.ok)

/-- R469: PW_COUNT_CLEAR. -/
def execPwCountClear (tk : Nat) (s : State) : Out :=
  fin s (s.onTicket tk 0x0B04 fun t =>
    { s with pw := { s.pw with refusedN := List.replicate 16 0, abortedN := List.replicate 16 0 } }.complete t St.ok)

end Sys2Proof.Machine
end

