-- ==== Sys2Proof/Machine/Reset.lean ====
section
/-! DEFINITION. Reset.lean: supplies, power-fail, clocks, resets and start-up (R238, R239, R509-R525). -/
namespace Sys2Proof.Machine

/-- R524: a diagnostics event of the supplies or of a clock. -/
def State.evSupply (s : State) (rail : Nat) (good : Bool) (mv : Int) : State :=
  s.evMod .diag s.rd.active 0 0x5202 (leBytes 1 rail ++ leBytes 1 (b2n !good) ++ leBytes 2 (toBits 16 (satS 16 mv)))

/-- R524: CLOCK_FAULT; a clock of the plate store has SOURCE die 13. -/
def State.evClock (s : State) (clk : Nat) (lost : Bool) : State :=
  s.evMod .diag (if 2 ≤ clk && clk ≤ 9 then s.rd.active else 13) 0 0x5203 (leBytes 1 clk ++ leBytes 1 (b2n lost))

/-- R518, R519: a cause resets the module; while it stands in reset already, RS_CAUSE takes the lowest code. -/
def State.resets (s : State) (cause : Nat) : State :=
  if s.rs.phase = 1 then { s with rs := { s.rs with cause := min s.rs.cause cause } } else s.moduleReset cause

/-! ### Power-fail (R238, R511-R513) -/

/-- R238: the registers are restored, so a warning is saved. -/
def State.saves (s : State) : Bool := decide (5 ≤ s.rs.phase) && decide (s.pw.state ≤ 2)

/-- R238: phase 1: every PERMIT is withdrawn. -/
def State.withdrawAll (s : State) : State :=
  let s : State := { s with sf := { s.sf with groupGrant := 0, lanes := s.sf.lanes.map fun (l : SfLane) => { l with grant := false } } }
  (s.onGrv fun v => { v with grants := 0, laneGrants := 0 }).settlePermits

/-- R238, R511, R513: the power-fail warning: the save; before restore start-up stops instead, and in DORMANT the save was made at entry. A
later warning does nothing. -/
def State.powerWarning (s : State) : State :=
  if s.saves then
    if s.en.warnAt.isSome then s
    else
      let s : State := { s with en := { s.en with warnAt := some s.now } }
      s.withdrawAll.powerSave
  else if s.pw.state ≤ 2 && decide (2 ≤ s.rs.phase) then { s with rs := { s.rs with pfStop := true } }
  else s

/-- R511, R513: PFW and VMAIN are both clear from now on. -/
def Rs.pfClear (r : Rs) (now : Nat) : Rs := { r with pfClearAt := if r.pfw || r.vmain then none else some (r.pfClearAt.getD now) }

/-- R238, R511: PFW has stayed low for 1 µs, or is high again. -/
def execPowerFailWarning (low : Bool) (s : State) : Out :=
  fin s (
    if s.pw.state = 4 || s.rs.pfw == low then s
    else
      let s : State := { s with rs := { s.rs with pfw := low, cPfw := if low then satU 16 (s.rs.cPfw + 1) else s.rs.cPfw }.pfClear s.now }
      if low then s.powerWarning else s)

/-- R238, R513: supplies are still valid 50 ms after the save. -/
def execSaveSelfReset (s : State) : Out :=
  fin s (match s.en.warnAt with
    | some t => if t + ms 50 ≤ s.now then s.moduleReset 4 else s
    | none => s)

/-- R513: a warning before restore has stayed clear for 100 ms. -/
def execPowerFailClearWait (s : State) : Out :=
  fin s (match s.rs.pfClearAt with
    | some t => if s.rs.pfStop && t + ms 100 ≤ s.now then s.moduleReset 4 else s
    | none => s)

/-! ### Rails (R509) -/

/-- R525: a rail of SUP_STATUS is good. -/
def Rs.railGood (r : Rs) (rail : Nat) : Bool :=
  match rail with
  | 4 => r.vp12
  | 5 => r.vn12
  | 6 => r.vana
  | 7 => r.vio33
  | 8 => r.vio18
  | 9 => bit r.vcore 0
  | 10 => bit r.vcore 1
  | 11 => bit r.vddq 0
  | 12 => bit r.vddq 1
  | 13 => r.vaon
  | 14 => r.vgrv
  | k => bit r.vsw k

/-- R525: a rail of SUP_STATUS is good or not. -/
def Rs.setRail (r : Rs) (rail : Nat) (v : Bool) : Rs :=
  match rail with
  | 4 => { r with vp12 := v }
  | 5 => { r with vn12 := v }
  | 6 => { r with vana := v }
  | 7 => { r with vio33 := v }
  | 8 => { r with vio18 := v }
  | 9 => { r with vcore := setBit r.vcore 0 v }
  | 10 => { r with vcore := setBit r.vcore 1 v }
  | 11 => { r with vddq := setBit r.vddq 0 v }
  | 12 => { r with vddq := setBit r.vddq 1 v }
  | 13 => { r with vaon := v }
  | 14 => { r with vgrv := v }
  | k => { r with vsw := setBit r.vsw k v }

/-- R509, R510: the good level of a rail in mV. -/
def railGoodMv : Nat → Int
  | 4 | 5 => 11500
  | 6 => 4800
  | 7 => 3150
  | 8 => 1710
  | 9 | 10 => 760
  | 11 | 12 => 580
  | 13 => 2900
  | 14 => 3000
  | _ => 8500

/-- R511, R525: the monitors' levels: VMAIN while VIO33 or VANA has tripped and is not good again. -/
def State.railLevel (s : State) (rail : Nat) (mv : Int) : State :=
  let v := satUI 16 mv
  let r := s.rs
  { s with rs := { r with vio33Mv := if rail = 7 then v else r.vio33Mv, vanaMv := if rail = 6 then v else r.vanaMv } }

/-- R509: a lane with a pilot that VP12 or VN12 faults: in PLUGGED to SUSPENDED or UNLOCK. -/
def State.railLanes (s : State) : List Nat :=
  (List.range 64).filter fun n => (s.typ n).charges && (LState.between .plugged .suspended (s.lane n).st || (s.lane n).st == .unlock)

/-- R252, R287, R295, R509, R511: what the trip of a rail does. -/
def State.railTrips (s : State) (rail : Nat) (mv : Int) : State :=
  let told := s.evSupply rail false mv
  if rail = 13 then { s with pw := { s.pw with state := 4, entry := none }, rs := { s.rs with phase := 1 } }
  else if rail = 14 then (told.onGrv fun v => { v with powered := false, selfFail := true }).withPermits fun s => s.dieFails 8
  else if rail = 8 then s.resets 2
  else if rail = 6 || rail = 7 then
    if mv < (if rail = 7 then 2900 else 4400) then s.resets 2
    else if s.rs.vmain then told
    else
      ({ told with rs := { told.rs with vmain := true, cVmain := satU 16 (told.rs.cVmain + 1), pfClearAt := none } }).powerWarning
  else if 9 ≤ rail && rail ≤ 12 then told.sideFault ((rail - 9) % 2) 5
  else if rail = 4 || rail = 5 then
    let lanes := told.railLanes
    let t : State := { told with rs := { told.rs with rail12At := none, rail12Lanes := told.rs.rail12Lanes ||| maskOf lanes } }
    lanes.foldl (fun (s : State) n => s.faultAny n .dieFault) t
  else told

/-- R509, R511: what the return of a rail does. -/
def State.railReturns (s : State) (rail : Nat) (mv : Int) : State :=
  let s := s.evSupply rail true mv
  let s : State := if (rail = 6 || rail = 7) && s.rs.vana && s.rs.vio33 then { s with rs := { s.rs with vmain := false }.pfClear s.now } else s
  if (rail = 4 || rail = 5) && s.rs.vp12 && s.rs.vn12 then { s with rs := { s.rs with rail12At := some s.now } } else s

/-- R509: once VP12 and VN12 have been good for 100 ms, DIE_FAULT of the lanes they faulted clears at its source. -/
def State.railsHeld (s : State) : State :=
  match s.rs.rail12At with
  | some t =>
    if t + ms 100 ≤ s.now && s.rs.rail12Lanes != 0 then
      let lanes := bitsOf 64 s.rs.rail12Lanes
      lanes.foldl (fun (s : State) n => s.settleDie n) { s with rs := { s.rs with rail12Lanes := 0 } }
    else s
  | none => s

/-- R509: a rail (its bit of SUP_STATUS) meets its trip condition, or is reported good, at a level; a rail reported good again lets the
100 ms of VP12 and VN12 end. VAON returning is VAON_POWER_ON. -/
def execSupplyTrip (rail : Nat) (good : Bool) (mv : Int) (s : State) : Out :=
  fin s (
    if 14 < rail || s.pw.state = 4 || (rail = 13 && good) || (good && mv ≤ railGoodMv rail) then s
    else
      let was := s.rs.railGood rail
      let s : State := { s.railLevel rail mv with rs := (s.railLevel rail mv).rs.setRail rail good }
      if good then (if was then s else s.railReturns rail mv).railsHeld
      else if was || rail = 6 || rail = 7 then s.railTrips rail mv
      else s)

/-- R461, R519: VAON rises through 2.90 V: the power-on reset; the real-time clock has lost its supply. -/
def execVaonPowerOn (s : State) : Out :=
  fin s (
    if s.rs.vaon then s
    else { s with rs := { s.rs with vaon := true }, pw := { s.pw with state := 0 }, clock := { s.clock with rtcLost := true } }.moduleReset 0)

/-- R468, R471: the draw on VAON in DORMANT exceeds 10 mA. -/
def execBorLp (ua : Nat) (s : State) : Out :=
  fin s (
    if s.pw.state = 3 && 10000 < ua then
      { s with pw := { s.pw with lastWake := 7, lastUa := satU 16 ua, borLp := satU 16 (s.pw.borLp + 1) } }.moduleReset 3
    else s)

/-- R513, R520: RSTN has been low for 10 µs, or is high again. The save of a warning is over when it comes. -/
def execRstn (low : Bool) (s : State) : Out :=
  fin s (
    if s.pw.state = 4 || s.rs.rstn == !low then s
    else
      let s : State := { s with rs := { s.rs with rstn := !low } }
      if low then s.resets 1 else s)

/-! ### Clocks (R515-R517, R538) -/

/-- R517: a clock of CLOCK_FAULT is lost: XIN (0), MET (10) and HLC (11) withdraw every PERMIT, save the registers and reset the module; a side's
PLL (2-9) is a side fault of kind 6. -/
def execXinLoss (clk : Nat) (s : State) : Out :=
  fin s (
    if clk = 0 || clk = 10 || clk = 11 then
      if s.rs.phase = 1 || 3 ≤ s.pw.state then s
      else
        let s : State := { s with rs := { s.rs with clkLost := some clk, cXin := if clk = 0 then satU 16 (s.rs.cXin + 1) else s.rs.cXin,
                                                    xinOk := s.rs.xinOk && clk != 0, lockMet := s.rs.lockMet && clk != 10,
                                                    lockHlc := s.rs.lockHlc && clk != 11 } }
        let s := s.direct { cls := .diag, die := 13, unit := 0, lane := 0xFF, code := 0x5203, time := s.now, data := leBytes 1 clk ++ leBytes 1 1 }
        let s := (s.onGrv fun v => { v with selfFail := true }).settlePermits
        (if s.saves && s.en.warnAt.isNone then s.powerSave else s).moduleReset 10
    else if 2 ≤ clk && clk ≤ 9 then
      let side := (clk - 2) / 4
      if side = 1 && !s.twin then s
      else
        let s : State := { s with rs := { s.rs with clkLost := some clk,
                                                    lockA := if side = 0 then setBit s.rs.lockA (clk - 2) false else s.rs.lockA,
                                                    lockB := if side = 1 then setBit s.rs.lockB (clk - 6) false else s.rs.lockB } }
        (s.evClock clk true).sideFault side 6
    else s)

/-- R517: the real-time clock oscillator has stopped for 2 s. -/
def execRtcOscillatorStop (s : State) : Out :=
  fin s (
    if !s.clock.rtcOk then s
    else { s with clock := { s.clock with rtcOk := false }, rs := { s.rs with x32Ok := false } }.evClock 1 true)

/-- R517: it runs again. -/
def execRtcOscillatorRestart (s : State) : Out :=
  fin s (
    if s.clock.rtcOk then s
    else { s with clock := { s.clock with rtcOk := true }, rs := { s.rs with x32Ok := true } }.evClock 1 false)

/-- R538: TEMP_LIMIT. -/
def State.evTemp (s : State) (above : Bool) (t : Int) : State :=
  s.evMod .diag 13 0 0xF020 (leBytes 1 (b2n above) ++ leBytes 2 (toBits 16 (satS 16 t)))

/-- R515, R538: the plate store die measures its temperature in 0.1 °C and corrects the real-time clock by its factory coefficients and TRIM. -/
def execTemperatureMeasurement (t : Int) (s : State) : Out :=
  fin s (
    let s : State := { s with rs := { s.rs with dieTemp := satS 16 t, rtcComp := satS 16 (Config.rtcFactory t + s.rs.trim) } }
    if 1350 < t && !s.rs.hot then { s with rs := { s.rs with hot := true } }.evTemp true t
    else if t < 1250 && s.rs.hot then { s with rs := { s.rs with hot := false } }.evTemp false t
    else s)

/-! ### Release (R504, R510, R521, R522) -/

/-- R510: the rails of steps 1-5 are good; those of Side B are not awaited where it is absent. -/
def State.railsGood (s : State) : Bool :=
  let r := s.rs
  r.vaon && r.vgrv && r.vio33 && r.vana && r.vio18 && bit r.vcore 0 && bit r.vddq 0 && (!s.twin || (bit r.vcore 1 && bit r.vddq 1))

/-- R504, R510, R521, R522: the module leaves reset: the straps (bit 0 SIDEPREF, 1 MPMODE, 2 TEST) are sampled, TIME restarts at 0 and the
holder latch names the preferred side. -/
def execResetRelease (straps : Nat) (s : State) : Out :=
  fin s (
    if s.rs.phase != 1 || !s.railsGood || !s.rs.rstn || s.pw.state = 4 then s
    else
      let side := b2n (s.twin && bit straps 0)
      { s with ident := { s.ident with sidepref := bit straps 0, mpmode := bit straps 1, testStrap := bit straps 2, strapBalls := straps % 8 },
               clock := s.resetClock, rd := { s.rd with active := side, holder := side },
               rs := { s.rs with phase := 2, released := 0, sides := [2, 2], pfStop := s.rs.pfw || s.rs.vmain, x32Ok := s.clock.rtcOk } })

/-! ### Start-up (R239, R521, R522) -/

/-- R239: the register copy to restore, and whether SAVE_LOST applies. -/
def En.restoreFrom (e : En) : Option (Nat × EnSave × Bool) :=
  let good := ([(0, e.copyA), (1, e.copyB)] : List (Nat × EnSave)).filter fun x => x.2.crcOk
  let newest := fun (l : List (Nat × EnSave)) => l.foldl (fun (a : Option (Nat × EnSave)) x =>
    match a with | some y => if y.2.seq < x.2.seq then some x else a | none => some x) none
  match newest (good.filter fun x => x.2.saved) with
  | some (k, c) => some (k, c, false)
  | none => (newest good).map fun (k, c) => (k, c, true)

/-- R521, R524: RESET, the first event of a start-up. -/
def State.evReset (s : State) (saved : Bool) : State :=
  let data := leBytes 1 s.rs.cause ++ leBytes 1 s.rs.prev ++ leBytes 1 (b2n saved) ++
    leBytes 1 (b2n s.ident.sidepref ||| 2 * b2n s.ident.mpmode) ++ leBytes 1 s.rd.active
  (s.ask (.skip true)).direct { cls := .safety, die := s.rd.active, unit := 0, lane := 0xFF, code := 0x5201, time := s.now, data := data }

/-- R239, R242: the record of a session open at the save closes with POWER_DOWN, RESET's SEQ and the legal time of the copy. The lane's data
stand as they were when the copy was written. -/
def State.closeOpen (s : State) (c : EnSave) (lost : Bool) (seq : Nat) (o : OpenSess) : State :=
  let cfg := s.mx.applied
  let l := s.lane o.lane
  let t : State := { s with mx := { s.mx with applied := s.mx.copy s.mx.active } }
  let t := t.onLane o.lane fun l => { l with idSource := o.src, account := o.account, rampForced := o.ramp }
  let t := t.closeRecord o.lane true lost 0 c.lw 0
  let t := t.onLane o.lane fun x => { x with idSource := l.idSource, account := l.account, rampForced := l.rampForced }
  let t : State := { t with mx := { t.mx with applied := cfg } }
  t.recordSeq o.lane seq

/-- R239: the registers are restored; without a good copy the plate store is faulty. -/
def State.restore (s : State) : State :=
  match s.en.restoreFrom with
  | none =>
    let s : State := { s with en := { s.en with noCopy := true, saveLost := true }, rs := { s.rs with saved := false } }
    ((s.evReset false).evMod .metering s.rd.active 0 0x3011 (leBytes 1 0xFF ++ leBytes 1 1 ++ leBytes 4 0)).dieFails 13
  | some (k, c, lost) =>
    let s : State := { s with rs := { s.rs with saved := !lost } }
    let s := s.evReset (!lost)
    let seq := s.seqAsked
    let out := satU 32 (s.legalSec - c.lw / 2 ^ 32)
    let s : State :=
      { s with en := { s.en with lanes := c.lanes, cust := c.cust, saveLost := lost, restored := k,
                                 copyA := { s.en.copyA with saved := false }, copyB := { s.en.copyB with saved := false } } }
    let s := c.opens.foldl (fun (s : State) o => s.closeOpen c lost seq o) s
    s.evMod .metering s.rd.active 0 0x3011 (leBytes 1 k ++ leBytes 1 (b2n lost) ++ leBytes 4 (if s.clock.legalValid then out else 0))

/-- R331: legal time is valid at start-up, or it runs on from the value last saved. -/
def State.legalStarts (s : State) : State :=
  if s.clock.rtcOk && !s.clock.rtcLost && s.clock.savedLegal ≤ s.legal then { s with clock := { s.clock with legalValid := true } }
  else
    let l := s.clock.savedLegal
    { s with clock := { s.clock with legalValid := false, rtcLost := true, anchorTime := s.now, anchorLegal := l, prevTime := s.now, prevLegal := l } }

/-- R318: a calendar store that fails leaves the default table. -/
def State.calendarStarts (s : State) (good : Bool) : State :=
  if good then s else { s with bl := { s.bl with cal := {}, passive := none } }.evCalendar 0xFF s.legalSec

/-- R325: the boundaries missed are closed; the interval in progress overlaps the outage. -/
def State.missedBounds (s : State) : State :=
  let s : State := { s with bl := { s.bl with intFlags := s.bl.intFlags ||| 2 } }
  if s.boundsRun then (s.catchAll 1).1 else s

/-- R473: the transfers of kinds 2-4 are lost with the reset. -/
def State.lostXfers (s : State) : State :=
  (s.up.xfers.filter fun x => decide (2 ≤ x.kind)).foldl (fun (s : State) (x : Xfer) => s.closeXfer x.num 3) s

/-- R251, R269: the safety parameter block is loaded, or its defaults, which hold no password; the Graver takes its part. -/
def State.blockLoads (s : State) (good : Bool) : State :=
  let s : State := if good then s else { s with sf := { s.sf with block := {}, blockOk := false, password := none } }
  let b := s.sf.block
  let s : State := { s with sf := { s.sf with grvPar := { discTime := b.discTime, estMask := b.estMask, grdMask := b.grdMask, xtripMask := b.xtripMask } } }
  s.onGrv fun v => { v with loaded := s.sf.blockOk }

/-- R521: phase 4: RESET is numbered first. -/
def State.phase4 (s : State) (r : BootRes) : State :=
  let behind := s.clock.rtcOk && !s.clock.rtcLost
  let s := s.legalStarts
  let mark := fun (k : Nat) (c : EnSave) => ({ c with crcOk := c.crcOk && !r.badCopies.contains k } : EnSave)
  let s : State := { s with en := { s.en with copyA := mark 0 s.en.copyA, copyB := mark 1 s.en.copyB },
                            rs := { s.rs with phase := 5 }, rd := { s.rd with hbAt := s.now } }
  let s := s.restore
  let s := if s.clock.legalValid then s else s.evMod .metering s.rd.active 0 0x4023 (leBytes 4 s.legalSec ++ leBytes 1 (b2n behind))
  let s := (s.vaultCheck r.badNodes).calendarStarts r.calendar
  ((s.missedBounds).lostXfers).blockLoads r.block

/-- R288, R339, R441, R521: phase 5: the credential index, the proof cycles of the switch dies and of the panels. -/
def State.phase5 (s : State) (r : BootRes) : State :=
  let chans := List.range (2 * s.nLanes)
  let s : State := { s with ac := { s.ac with indexDone := true }, rs := { s.rs with phase := 6 } }
  let s := s.proofAll chans r.badChans r.above
  (s.evProof 0xFF (chans.filter fun k => (s.och k).proofFail).length).proveDue r.panels

/-- R55, R62, R466, R521: phase 6: the matrix is applied and RUN is entered; a wake from DORMANT is reported. -/
def State.phase6 (s : State) : State :=
  let s : State := { s with rs := { s.rs with phase := 7, bootMs := satU 16 (s.now / 1000000) }, pw := { s.pw with runAt := s.now } }
  let s := s.bootMatrix
  let s := if s.rs.cause = 8 then
      let us := satU 32 (s.now / 1000)
      let s : State := { s with pw := { s.pw with wakeUs := us } }
      let s := s.evMod .diag 13 0 0x5001 (powerStateData 0 3 2)
      s.raise { cls := .external, die := 13, unit := 0, lane := s.pw.wakeLane, code := 0x5003, time := s.now,
                data := leBytes 1 s.pw.lastWake ++ leBytes 1 3 ++ leBytes 4 us }
    else s
  s.raiseCover

/-- R522: a side has reached phase 4: with the holder latch it goes on, else it continues as standby (R300). -/
def State.reaches4 (s : State) (side : Nat) : State :=
  let s : State := { s with rs := { s.rs with sides := s.rs.sides.set side 4 } }
  if side = s.rd.holder then (if s.rs.phase < 4 then { s with rs := { s.rs with phase := 4 } } else s)
  else if s.rs.phase < 5 then { s with rd := { s.rd with standby := 2 } }
  else s.setStandby 2 0 0

/-- R451, R454, R481, R504, R521: phase 3 of a side: its memories, then its PHASE; a side without memories or a MAIN that passes stays in its
loader, and so does every side under TEST. -/
def State.phase3 (s : State) (side : Nat) (r : BootRes) : State :=
  let s : State := { s with mm := { s.mm with sides := s.mm.sides.modify side fun (m : MmSide) =>
    { m with dramOk := r.dram, norOk := r.nor, size := r.size % 4 } } }
  if !r.dram || !r.nor || s.ident.testStrap then s
  else
    let s := s.bootSide side
    if (s.ups side).running = 0 then s else s.reaches4 side

/-- R517, R521: phase 2 of a side: XIN is valid, the PLLs lock and LOADER passes its check. A clock whose loss reset the module is restored. -/
def State.phase2 (s : State) (side : Nat) : State :=
  let r := s.rs.sideClock side true
  let s : State := { s with rs := { r with sides := r.sides.set side 3, xinOk := true, lockMet := true, lockHlc := true } }
  match s.rs.clkLost with
  | some k =>
    if k = 0 || 10 ≤ k || (decide (2 + 4 * side ≤ k) && decide (k < 6 + 4 * side)) then
      { s with rs := { s.rs with clkLost := none } }.evClock k false else s
  | none => s

/-- R521: a start-up phase of a side completes: phases 2 and 3 run on both sides, phases 4-6 on the side that holds the latch. -/
def execStartupPhaseComplete (side : Nat) (r : BootRes) (s : State) : Out :=
  fin s (
    if s.rs.phase ≤ 1 || s.rs.pfStop || 1 < side || (side = 1 && !s.twin) then s
    else match s.rs.sides.getD side 4 with
      | 2 => if r.ok then s.phase2 side else s
      | 3 => s.phase3 side r
      | _ =>
        if side != s.rd.holder then s
        else match s.rs.phase with
          | 4 => s.phase4 r
          | 5 => s.phase5 r
          | 6 => s.phase6
          | _ => s)

/-- R522: the side the latch names has not reached phase 4 within 5 s of release, and the other side, which has, claims the latch. -/
def execHolderLatchClaim (s : State) : Out :=
  fin s (
    let other := 1 - s.rd.holder
    if s.twin && decide (2 ≤ s.rs.phase) && decide (s.rs.phase < 4) && decide (s.rs.released + sec 5 ≤ s.now) &&
        s.rs.sides.getD other 0 == 4 && s.rs.sides.getD s.rd.holder 0 != 4 then
      { s with rd := { s.rd with holder := other, active := other, standby := 1 }, rs := { s.rs with phase := 4 } }
    else s)

/-- R519: neither side has written a heartbeat into the holder latch for 50 ms after start-up phase 4. -/
def execHeartbeatWatchdogReset (s : State) : Out :=
  fin s (if 5 ≤ s.rs.phase && s.pw.state ≤ 2 && s.rd.hbAt + ms 50 ≤ s.now then s.moduleReset 6 else s)

/-! ### Requests and registers (R523, R525) -/

/-- R523: every lane of types 1-4 is OFFLINE, IDLE or FAULT. -/
def State.lanesRest (s : State) : Bool :=
  (List.range 64).all fun n => !(s.typ n).charges || (s.lane n).st == .offline || (s.lane n).st == .idle || (s.lane n).st == .fault

/-- R523: RS_RESET: the save of R238, then a module reset with cause HOST. -/
def execRsReset (tk : Nat) (s : State) : Out :=
  fin s (s.onTicket tk 0x0F40 fun t =>
    let f := t.u 0 1
    if t.arg.length != 1 || 1 < f then s.complete t St.badArgument
    else if f = 0 && !s.lanesRest then s.complete t St.refusedState
    else
      let s := s.complete t St.ok
      (if s.saves && s.en.warnAt.isNone then s.powerSave else s).moduleReset 9)

/-- R525: RS_CAUSE. -/
def State.rsCause (s : State) : Nat :=
  regOf [(0, 4, s.rs.cause), (4, 4, s.rs.prev), (8, 1, b2n s.rs.saved), (16, 16, s.rs.bootMs), (32, 16, s.rs.resets)]

/-- R525: SUP_STATUS. -/
def State.supStatus (s : State) : Nat :=
  regOf [(0, 4, s.rs.vsw), (4, 1, b2n s.rs.vp12), (5, 1, b2n s.rs.vn12), (6, 1, b2n s.rs.vana), (7, 1, b2n s.rs.vio33), (8, 1, b2n s.rs.vio18),
    (9, 2, s.rs.vcore), (11, 2, s.rs.vddq), (13, 1, b2n s.rs.vaon), (14, 1, b2n s.rs.vgrv), (15, 1, b2n s.rs.pfw), (16, 1, b2n s.rs.vmain),
    (32, 16, s.rs.vio33Mv), (48, 16, s.rs.vanaMv)]

/-- R525: CLK_STATUS. -/
def State.clkStatus (s : State) : Nat :=
  regOf [(0, 1, b2n s.rs.xinOk), (1, 1, b2n s.rs.x32Ok), (2, 4, s.rs.lockA), (6, 4, s.rs.lockB), (10, 1, b2n s.rs.lockMet),
    (11, 1, b2n s.rs.lockHlc), (12, 1, b2n s.rs.hfrcA), (13, 1, b2n s.rs.hfrcB), (16, 16, toBits 16 s.rs.rtcComp), (32, 16, toBits 16 s.rs.dieTemp)]

/-- R525: SUP_COUNT. -/
def State.supCount (s : State) : Nat := regOf [(0, 16, s.rs.cPfw), (16, 16, s.rs.cVmain), (32, 16, s.rs.cBor), (48, 16, s.rs.cXin)]

/-- R525: a write of SUP_COUNT: all ones clear a field. -/
def State.writeSupCount (s : State) (v : Nat) : State :=
  { s with rs := { s.rs with cPfw := onesClear s.rs.cPfw v 0 16, cVmain := onesClear s.rs.cVmain v 16 16, cBor := onesClear s.rs.cBor v 32 16,
                             cXin := onesClear s.rs.cXin v 48 16 } }

/-- R525: RTC_TRIM. -/
def State.rtcTrim (s : State) : Nat := toBits 16 s.rs.trim

/-- R525: a write of RTC_TRIM, stored within ±10,000. -/
def State.writeRtcTrim (s : State) (v : Nat) : State :=
  { s with rs := { s.rs with trim := max (-10000) (min 10000 (ofBits 16 (fieldOf v 0 16))) } }

/-- R523: RS_READ. -/
def execRsRead (tk : Nat) (s : State) : Out :=
  fin s (s.onTicket tk 0x0F41 fun t =>
    s.complete t St.ok ([s.rsCause, s.supStatus, s.clkStatus, s.supCount, s.rtcTrim].flatMap regBytes))

end Sys2Proof.Machine
end

