-- ==== Sys2Proof/Machine/RegMap.lean ====
section
/-! DEFINITION. RegMap.lean: the control-block registers by their addresses, and the access paths to them (R8, R9, R61, R74, R81). -/
namespace Sys2Proof.Machine

/-! ### Reads -/

/-- Whether an address lies in a block of `count` registers `step` bytes apart; its number then. -/
def blockIdx (addr base step count : Nat) : Option Nat :=
  if base ≤ addr && (addr - base) % step == 0 && decide ((addr - base) / step < count) then some ((addr - base) / step) else none

/-- 0x0000-0x0FFF: R27, R525, R471, R82, R56, R103. -/
def State.readLow (s : State) (addr : Nat) : Nat :=
  match addr with
  | 0x0000 => s.identReg
  | 0x0008 => s.diesReg
  | 0x0010 => s.gstatus
  | 0x0018 => s.now
  | 0x0020 => s.seqr.seqLast
  | 0x0028 => s.legal
  | 0x0100 => s.rsCause
  | 0x0108 => s.supStatus
  | 0x0110 => s.clkStatus
  | 0x0118 => s.supCount
  | 0x0120 => s.rtcTrim
  | 0x0200 => s.pwStatus
  | 0x0208 => s.pwCfg
  | 0x0210 => s.pwAlarm
  | 0x0218 => s.pw.held
  | 0x0220 => s.pwAon
  | 0x0300 => s.hpStatus
  | 0x0308 => (s.port 0).ip4
  | 0x0310 => (s.port 1).ip4
  | 0x0318 => s.hpCount 0
  | 0x0320 => s.hpCount 1
  | 0x0328 => s.hpCount 2
  | 0x0330 => s.hpTickets
  | 0x0400 => s.mxStatusReg
  | 0x0428 => s.mxErrReg
  | 0x0430 => s.mxErrRes
  | 0x0438 => s.mx.errOwner2
  | 0x0440 => s.mxCount
  | 0x0468 => s.mxPendingReg
  | a =>
    match blockIdx a 0x0240 8 8, blockIdx a 0x0408 8 4, blockIdx a 0x0448 8 4 with
    | some k, _, _ => s.pwCount k
    | none, some i, _ => s.mxHash i
    | none, none, some i => s.mxTypes i
    | none, none, none =>
      match blockIdx a 0x0800 8 256 with
      | some k =>
        match k % 4 with
        | 0 => s.lnState (k / 4)
        | 1 => s.lnPower (k / 4)
        | 2 => s.lnSession (k / 4)
        | _ => s.lnCtrl (k / 4)
      | none => 0

/-- 0x1000-0x1BFF: R274, R308, R460, R485, R414, R430, R444, R390, R292. -/
def State.readMid (s : State) (addr : Nat) : Nat :=
  match addr with
  | 0x1000 => s.sfStatus
  | 0x1008 => s.sfInputs
  | 0x1010 => s.sfLanegate
  | 0x1018 => s.sfTrip 0
  | 0x1020 => s.sfTrip 1
  | 0x1028 => s.sfSuspect 0
  | 0x1030 => s.sfSuspect 1
  | 0x1038 => s.sfSuspectP
  | 0x1040 => s.sfBlock
  | 0x1048 => s.sfCount
  | 0x1100 => s.rdStatus
  | 0x1108 => s.rdCfg
  | 0x1110 => s.rdNext
  | 0x1118 => s.rdLast
  | 0x1120 => s.rdCount
  | 0x1128 => s.rdHb
  | 0x1200 => s.mmStatus
  | 0x1208 => s.mmBurnish 0
  | 0x1210 => s.mmBurnish 1
  | 0x1218 => s.mmEcc 0
  | 0x1220 => s.mmEcc 1
  | 0x1228 => s.mmMram
  | 0x1230 => s.mmDma
  | 0x1238 => s.mmLastUe
  | 0x1300 => s.upStatus
  | 0x1308 => s.upCounter
  | 0x1310 => s.upSide 0
  | 0x1318 => s.upSide 1
  | 0x1320 => s.up.sel
  | 0x1328 => s.upXfer
  | 0x1330 => s.upXferT
  | 0x1338 => s.up.expiryD
  | 0x1400 => s.kzStatus
  | 0x1408 => s.kzCfg
  | 0x1410 => s.kz.masterEui
  | 0x1418 => s.kzLink
  | 0x1420 => s.kzLoad
  | 0x1428 => s.kzCount0
  | 0x1430 => s.kzCount1
  | 0x1438 => s.kzDist
  | 0x1500 => s.tgStatus
  | 0x1508 => s.tgCfg
  | 0x1550 => s.tgCount0
  | 0x1558 => s.tgCount1
  | 0x1600 => s.dsStatus
  | 0x1608 => s.dsWave
  | 0x1610 => s.ds.unshown
  | 0x1640 => s.dsCount
  | 0x1700 => s.kvStatus
  | 0x1708 => s.kvAnchors
  | 0x1710 => s.kvCount
  | a =>
    match blockIdx a 0x1510 8 8, blockIdx a 0x1620 8 4, blockIdx a 0x1800 8 128 with
    | some p, _, _ => s.tgPort p
    | none, some p, _ => s.dsPanel p
    | none, none, some k => s.poCh k
    | none, none, none => 0

/-- 0x1C00-0x20FF: R196, R221, R247, R335, R130, R153, R172. -/
def State.readHigh (s : State) (addr : Nat) : Nat :=
  match addr with
  | 0x1C00 => s.efStatus
  | 0x1C08 => regOf [(0, 4, s.ef.selGroup), (8, 6, s.ef.selLane)]
  | 0x1C10 => s.efGroup s.ef.selGroup
  | 0x1C18 => s.efThresh s.ef.selGroup
  | 0x1C20 => s.efLoc s.ef.selGroup
  | 0x1C28 => s.efLaneReg s.ef.selLane
  | 0x1C30 => s.efTest
  | 0x1C38 => s.efCount
  | 0x1C40 => s.efCfg
  | 0x1D00 => s.mtStatus
  | 0x1D08 => s.mtSel
  | 0x1D10 => s.mtChan
  | 0x1D18 => s.mtCal
  | 0x1D20 => s.mtDelay
  | 0x1D28 => s.mtLaneReg
  | 0x1D30 => s.mtPls s.mt.selPls
  | 0x1D38 => s.mtCount
  | 0x1E00 => s.enSel
  | 0x1E60 => s.enBidir
  | 0x1E68 => s.enModule
  | 0x1E70 => s.enRing
  | 0x1E78 => s.enSave
  | 0x1E80 => s.blStatus
  | 0x1E88 => s.blPassive
  | 0x1E90 => s.bl.hwmD
  | 0x1E98 => s.bl.hwmT
  | 0x1EA0 => s.bl.hwmP
  | 0x1EA8 => s.blSlew
  | 0x1EB0 => s.blCfg
  | 0x1EB8 => s.blRsel
  | 0x1F00 => s.hsCfg
  | 0x1F08 => s.hsAssoc
  | 0x1F10 => s.hsEng
  | 0x1F18 => s.hsEngMiss
  | 0x1F20 => s.hs.sel
  | 0x1F28 => s.hsPilot s.hs.sel
  | 0x1F30 => s.hsLink s.hs.sel
  | 0x1F38 => s.hsPeer s.hs.sel
  | 0x2020 => s.pp.sel
  | 0x2028 => s.ppLaneReg s.pp.sel
  | 0x2030 => s.ppPmReg s.pp.sel
  | 0x2038 => s.ppCntReg s.pp.sel
  | 0x2080 => s.psCfg
  | 0x2088 => regOf [(0, 32, s.ps.moduleW), (32, 32, s.ps.fallbackW)]
  | 0x2090 => regOf [(0, 32, s.ps.glim0W), (32, 32, s.ps.glim1W)]
  | 0x2098 => s.psPhase
  | 0x20A0 => s.psStatus
  | 0x20A8 => regOf [(0, 32, s.ps.importW), (32, 32, s.ps.exportW)]
  | 0x20B0 => s.psHub
  | 0x20B8 => s.ps.sel
  | 0x20C0 => s.psGroup
  | a =>
    match blockIdx a 0x1E08 8 11, blockIdx a 0x1EC0 8 8, blockIdx a 0x1F40 8 4 with
    | some k, _, _ => s.enReg k
    | none, some k, _ => s.blRate (k + 1)
    | none, none, some k => s.hsCnt s.hs.sel k
    | none, none, none =>
      match blockIdx a 0x2000 8 4, blockIdx a 0x20C8 8 4 with
      | some k, _ => s.ppCanReg k
      | none, some i => s.psSector i
      | none, none => 0

/-- R8, R9: the register at an address, 0 where there is none. -/
def State.readReg (s : State) (addr : Nat) : Nat :=
  (if addr < 0x1000 then s.readLow addr else if addr < 0x1C00 then s.readMid addr else if addr < 0x2100 then s.readHigh addr else 0) % 2 ^ 64

/-! ### Writes -/

/-- R9: a write of a register whose fields only one role may change: refused (none) when it would change what the register shows of them. -/
def guardedWrite (need role : Role) (shows : State → Nat) (s t : State) : Option State :=
  if role != need && shows s != shows t then none else some t

/-- R8: the registers with a writable field, written by a role; none where R9 refuses. -/
def State.writeReg (s : State) (role : Role) (addr v : Nat) : Option State :=
  match addr with
  | 0x0008 => some (s.writeDies v)
  | 0x0010 => some (s.writeGstatus v)
  | 0x0118 => some (s.writeSupCount v)
  | 0x0120 => guardedWrite .metrology role State.rtcTrim s (s.writeRtcTrim v)
  | 0x0208 => some (s.writePwCfg v)
  | 0x0218 => some (s.writePwPadhold v)
  | 0x0308 => some (s.writeHpIp4 0 v)
  | 0x0310 => some (s.writeHpIp4 1 v)
  | 0x0318 => some (s.writeHpCount 0 v)
  | 0x0320 => some (s.writeHpCount 1 v)
  | 0x0328 => some (s.writeHpCount 2 v)
  | 0x0440 => some (s.writeMxCount v)
  | 0x1048 => some (s.writeSfCount v)
  | 0x1108 => some (s.writeRdCfg v)
  | 0x1128 => some (s.writeRdHb v)
  | 0x1218 => some (s.writeMmEcc 0 v)
  | 0x1220 => some (s.writeMmEcc 1 v)
  | 0x1228 => some (s.writeMmMram v)
  | 0x1320 => some (s.writeUpSel v)
  | 0x1338 => some (s.writeUpCfg v)
  | 0x1408 => some (s.writeKzCfg v)
  | 0x1428 => some (s.writeKzCount0 v)
  | 0x1430 => some (s.writeKzCount1 v)
  | 0x1508 => some (s.writeTgCfg v)
  | 0x1550 => some (s.writeTgCount0 v)
  | 0x1558 => some (s.writeTgCount1 v)
  | 0x1640 => some (s.writeDsCount v)
  | 0x1710 => some (s.writeKvCount v)
  | 0x1C08 => some { s with ef := { s.ef with selGroup := fieldOf v 0 4, selLane := fieldOf v 8 6 } }
  | 0x1C38 => some (s.writeEfCount v)
  | 0x1C40 => some (s.writeEfCfg v)
  | 0x1D08 => some (s.writeMtSel v)
  | 0x1D38 => some (s.writeMtCount v)
  | 0x1E00 => some (s.writeEnSel v)
  | 0x1E60 => guardedWrite .metrology role State.enBidir s (s.writeEnBidir v)
  | 0x1E68 => guardedWrite .metrology role State.enModule s { s with en := { s.en with bidirCust := fieldOf v 0 32 } }
  | 0x1EB0 => some (s.writeBlCfg v)
  | 0x1EB8 => some (s.writeBlRsel v)
  | 0x1F00 => some (s.writeHsCfg v)
  | 0x1F18 => some (s.writeHsEngMiss v)
  | 0x1F20 => some { s with hs := { s.hs with sel := fieldOf v 0 6 } }
  | 0x2020 => some { s with pp := { s.pp with sel := fieldOf v 0 6 } }
  | 0x2080 => some (s.writePsCfg v)
  | 0x2088 => some { s with ps := { s.ps with moduleW := fieldOf v 0 32, fallbackW := fieldOf v 32 32 } }
  | 0x2090 => some { s with ps := { s.ps with glim0W := fieldOf v 0 32, glim1W := fieldOf v 32 32 } }
  | 0x2098 => some { s with ps := { s.ps with phaseLimit := fieldOf v 0 16 } }
  | 0x20B8 => some { s with ps := { s.ps with sel := fieldOf v 0 4 } }
  | a =>
    match blockIdx a 0x0818 0x20 64, blockIdx a 0x1510 8 8, blockIdx a 0x1620 8 4, blockIdx a 0x2000 8 4 with
    | some n, _, _, _ => some (s.writeLnCtrl n v)
    | none, some p, _, _ => some (s.writeTgPort p v)
    | none, none, some p, _ => guardedWrite .service role (fun t => t.dsPanel p % 2 ^ 32) s (s.writeDsPanel p v)
    | none, none, none, some k => some (s.writePpCan k v)
    | none, none, none, none => some s

/-! ### Access paths -/

/-- R74: an address and a count of registers that REG_READ, REG_WRITE and the monitor take. -/
def regSpanOk (addr count most : Nat) : Bool :=
  addr % 8 == 0 && decide (1 ≤ count) && decide (count ≤ most) && decide (addr + 8 * (count - 1) ≤ 0xFFF8)

/-- R9: a register write of a role; a refused one has no effect. -/
def execRegisterWrite (role : Role) (addr v : Nat) (s : State) : Out := fin s ((s.writeReg role addr (v % 2 ^ 64)).getD s)

/-- R74: REG_READ. -/
def execRegRead (tk : Nat) (s : State) : Out :=
  fin s (s.onTicket tk 0x0004 fun t =>
    let addr := t.u 0 2
    let n := t.u 2 2
    if t.arg.length != 4 || !regSpanOk addr n 128 then s.complete t St.badArgument
    else s.complete t St.ok ((List.range n).flatMap fun i => regBytes (s.readReg (addr + 8 * i))))

/-- R9, R74: several register writes in turn: the state, and the address of the first that is refused. -/
def State.writeRegs (s : State) (role : Role) (addr : Nat) : List Nat → State × Option Nat
  | [] => (s, none)
  | v :: vs =>
    match s.writeReg role addr v with
    | some t => State.writeRegs t role (addr + 8) vs
    | none => (s, some addr)

/-- R74: REG_WRITE. -/
def execRegWrite (tk : Nat) (s : State) : Out :=
  fin s (s.onTicket tk 0x0005 fun t =>
    let addr := t.u 0 2
    let n := t.u 2 2
    if !regSpanOk addr n 16 || t.arg.length != 4 + 8 * n then s.complete t St.badArgument
    else match s.writeRegs t.role addr ((List.range n).map fun i => t.u (4 + 8 * i) 8) with
      | (u, none) => u.complete t St.ok
      | (u, some a) => u.complete t St.refusedRole (leBytes 2 a))

/-- R61, R81: an HP2 register read, of which so many data bytes are clocked. -/
def execHp2RegisterRead (addr clocked : Nat) (s : State) : Out :=
  fin s (s.chipSelect fun s =>
    if addr % 8 != 0 || clocked < 8 then s.onPort 2 Port.addDropped
    else
      let regs := (List.range ((clocked + 7) / 8)).flatMap fun i =>
        if addr % 2 ^ 16 + 8 * i ≤ 0xFFF8 then regBytes (s.readReg (addr % 2 ^ 16 + 8 * i)) else leBytes 8 0
      s.hp2Puts (regs.take clocked))

/-- R61, R81: an HP2 register write: only in a bound HP2 session in a role other than PUBLIC or READER. -/
def execHp2RegisterWrite (addr v : Nat) (complete : Bool) (s : State) : Out :=
  fin s (s.chipSelect fun s =>
    match (s.port 2).session with
    | some c =>
      if addr % 8 != 0 || !complete || c.role == .pub || c.role == .reader then s.onPort 2 Port.addDropped
      else (s.writeReg c.role (addr % 2 ^ 16) (v % 2 ^ 64)).getD s
    | none => s.onPort 2 Port.addDropped)

end Sys2Proof.Machine
end

