-- ==== Sys2Proof/Machine/Monitor.lean ====
section
/-! DEFINITION. Monitor.lean: the Twidor monitor (R486-R494): the commands as parsed, with the side whose monitor takes them and the length of
their line. -/
namespace Sys2Proof.Machine

/-! ### What a monitor offers (R486, R487, R490) -/

/-- R487, R490: what runs behind the monitor of a side: 0 nothing, 1 the loader, 2 MAIN as standby, 3 MAIN as active side. -/
def State.monMode (s : State) (side : Nat) : Nat :=
  let phase := s.rs.sides.getD side 0
  if 1 < s.pw.state || bit s.pw.held 5 || 1 < side || (side = 1 && !s.twin) then 0
  else if side = s.rd.active && 4 ≤ s.rs.phase then 3
  else if side = s.rd.active || s.rs.phase < 5 then (if phase = 3 then 1 else if phase = 4 then 2 else 0)
  else if s.rd.standby = 2 || (s.ups side).running = 0 then 1
  else if s.rd.standby = 1 || s.rd.standby = 5 then 0
  else 2

/-- R488, R490: the role of a monitor session. -/
def State.monRole (s : State) (side : Nat) : Role := (s.mon.sides.getD side {}).role

/-- R488, R487: a monitor session takes a role, and so does the session of port 3 behind the active side's monitor. -/
def State.setMonRole (s : State) (side : Nat) (r : Role) : State :=
  let s := s.onMons side fun m => { m with role := r }
  if side = s.rd.active then { s with host := { s.host with mon := s.host.mon.map fun (c : Session) => { c with role := r } } } else s

/-- R490: a command answers a status and a result. -/
def State.monSays (s : State) (side status : Nat) (result : List Bytes := []) : State :=
  s.monLine side (words (asciiBytes (statusName status) :: result))

/-- R490, R492: where a command is offered: at level 2, in the loader, on the standby side. -/
structure MonCmd where
  /-- Least role (R490). -/
  least : Role := .pub
  /-- Answered on the standby side. -/
  standby : Bool := true
  /-- Offered by the loader. -/
  loader : Bool := false
  /-- Answered at level 2. -/
  locked : Bool := false
deriving DecidableEq, Repr

/-- R486-R492: a command line of so many characters arrives at the monitor of a side. -/
def State.monCmd (s : State) (side len : Nat) (c : MonCmd) (f : State → State) : State :=
  let mode := s.monMode side
  if mode = 0 then s
  else
    let s := s.onMons side fun m => { m with lastIn := s.now }
    if s.mon.level = 2 && !c.locked then s
    else if 256 < len then s.monSays side St.badRequest
    else if (mode = 1 && !c.loader) || (mode = 2 && !c.standby) then s.monSays side St.refusedState
    else if (s.monRole side).code < c.least.code then s.monSays side St.refusedRole
    else f s

/-- R490: the name of a role. -/
def Role.name : Role → String
  | .pub => "PUBLIC" | .reader => "READER" | .operator => "OPERATOR" | .admin => "ADMIN" | .metrology => "METROLOGY" | .service => "SERVICE"

/-- R490: a register as 0x and 16 hexadecimal digits. -/
def regText (v : Nat) : Bytes := asciiBytes "0x" ++ hexBytes (beBytes 8 v)

/-- R490: a record in eight groups of 4 bytes. -/
def groupsOf4 (b : Bytes) : Bytes := words ((List.range 8).map fun i => hexBytes (sub b (4 * i) 4))

/-- R490: lines of a result after the line with its status. -/
def State.monLines (s : State) (side : Nat) (l : List Bytes) : State := l.foldl (fun (s : State) b => s.monLine side b) s

/-! ### Commands of every role (R488, R490) -/

/-- R490: the commands a role may use. -/
def monHelp (r : Role) : List Bytes :=
  ((["help", "status", "login", "logout"] ++ (if 1 ≤ r.code then ["rd", "ev", "lane"] else []) ++ (if 2 ≤ r.code then ["wr"] else []) ++ ["req"] ++
    (if r == .service then ["mem", "trace"] else [])).map asciiBytes)

/-- R490: help. -/
def execHelp (side len : Nat) (s : State) : Out :=
  fin s (s.monCmd side len {} fun s => s.monSays side St.ok (monHelp (s.monRole side)))

/-- R490, R492: status; answered at every level. -/
def execStatus (side len : Nat) (s : State) : Out :=
  fin s (s.monCmd side len { loader := true, locked := true } fun s =>
    s.monSays side St.ok [regText s.identReg, regText s.gstatus, asciiBytes (if side = 0 then "A" else "B"), asciiBytes (s.monRole side).name,
      decBytes s.mon.level])

/-- R494: MONITOR_LOGIN. -/
def State.evLogin (s : State) (side role result : Nat) : State :=
  s.evMod .host side 3 0xF010 (leBytes 1 side ++ leBytes 1 role ++ leBytes 1 result)

/-- R488: a login fails; the fifth failure within 300 s locks the monitor's logins for 300 s. -/
def State.loginFails (s : State) (side : Nat) (r : Role) : State :=
  let m := s.mon.sides.getD side {}
  let l := s.now :: m.fails.filter fun t => decide (s.now < t + sec 300)
  let s := s.onMons side fun m => { m with fails := if 5 ≤ l.length then [] else l,
                                           lockUntil := if 5 ≤ l.length then some (s.now + sec 300) else m.lockUntil }
  (s.monSays side St.refusedRole).evLogin side r.code 1

/-- R488, R492: login; METROLOGY is never available, and a role without a password cannot log in. -/
def execLogin (side len : Nat) (r : Role) (password : Bytes) (s : State) : Out :=
  fin s (s.monCmd side len { loader := true } fun s =>
    let m := s.mon.sides.getD side {}
    if r == .pub then s.monSays side St.badArgument
    else if (match m.lockUntil with | some t => decide (s.now < t) | none => false) then (s.monSays side St.busy).evLogin side r.code 2
    else if (s.mon.level = 1 && r != .service) || r == .metrology then (s.monSays side St.refusedRole).evLogin side r.code 3
    else if (s.mon.passwords.find? fun x => x.1 == r.code).map (·.2) == some password then
      ((s.setMonRole side r).monSays side St.ok [asciiBytes r.name]).evLogin side r.code 0
    else s.loginFails side r)

/-- R490: logout. -/
def execLogout (side len : Nat) (s : State) : Out :=
  fin s (s.monCmd side len { loader := true } fun s => (s.setMonRole side .pub).monSays side St.ok [asciiBytes "PUBLIC"])

/-- R488: 600 s without input. -/
def execMonitorIdleTimeout (side : Nat) (s : State) : Out :=
  fin s (if (s.mon.sides.getD side {}).lastIn + sec 600 ≤ s.now then s.setMonRole side .pub else s)

/-- R488: the lockout of 300 s ends. -/
def execLoginLockoutEnd (side : Nat) (s : State) : Out :=
  fin s (s.onMons side fun m => { m with lockUntil := match m.lockUntil with | some t => if t ≤ s.now then none else some t | none => none })

/-! ### Registers, events and lanes (R490) -/

/-- R74, R490: rd. -/
def execRd (side len addr count : Nat) (s : State) : Out :=
  fin s (s.monCmd side len { least := .reader } fun s =>
    if !regSpanOk addr count 16 then s.monSays side St.badArgument
    else
      let r := (List.range count).map fun i => regText (s.readReg (addr + 8 * i))
      (s.monSays side St.ok (r.take 1)).monLines side (r.drop 1))

/-- R9, R489, R490: wr. -/
def execWr (side len addr v : Nat) (s : State) : Out :=
  fin s (s.monCmd side len { least := .operator, standby := false } fun s =>
    if !regSpanOk addr 1 1 || 2 ^ 64 ≤ v then s.monSays side St.badArgument
    else match s.writeReg (s.monRole side) addr v with
      | some t => t.monSays side St.ok
      | none => s.monSays side St.refusedRole)

/-- R490: ev: the newest records, the newest first. -/
def execEv (side len count : Nat) (s : State) : Out :=
  fin s (s.monCmd side len { least := .reader } fun s =>
    if count = 0 || 64 < count then s.monSays side St.badArgument
    else (s.monSays side St.ok).monLines side ((s.seqr.journal.take count).map fun r => groupsOf4 (r.bytes false r.gap)))

/-- R490: lane. -/
def execLane (side len n : Nat) (s : State) : Out :=
  fin s (s.monCmd side len { least := .reader } fun s =>
    if s.nLanes ≤ n then s.monSays side St.badArgument
    else s.monSays side St.ok ([s.lnState n, s.lnPower n, s.lnSession n, s.lnCtrl n].map regText))

/-! ### Requests and memory (R481, R489, R490) -/

/-- R481: the requests a loader serves on its monitor. -/
def loaderServes (op : Nat) (arg : Bytes) : Bool := op == 0x0701 || op == 0x0702 || op == 0x0703 || (op == 0x0705 && leNat (sub arg 5 1) == 1)

/-- R487, R490: req: a request on port 3 in the session's role: its ticket, and later its completion. -/
def execReq (side len op : Nat) (arg : Bytes) (s : State) : Out :=
  fin s (s.monCmd side len { loader := true, standby := false } fun s =>
    if s.monMode side = 1 && (!loaderServes op arg || side != s.rd.holder) then s.monSays side St.refusedState
    else
      let s : State := { s with host := { s.host with mon := some { (s.host.mon.getD {}) with role := s.monRole side } } }
      let r := s.acceptReq 3 op 0 arg
      r.1.monSays side r.2.1 (if r.2.1 = St.accepted then [hexBytes (beBytes 4 r.2.2)] else []))

/-- R489, R490: mem: `readable` tells that the address lies in work SRAM or LPDDR-4X outside the regions of R489. The bytes found there are open
(log entry 1), 16 per line. -/
def execMem (side len addr count : Nat) (readable : Bool) (s : State) : Out :=
  fin s (s.monCmd side len { least := .service } fun s =>
    if count = 0 || 256 < count then s.monSays side St.badArgument
    else if !readable || addr < 0x03800000 then s.monSays side St.refusedRole
    else
      let b := s.freeBytes count
      (s.monSays side St.ok).drawn.monLines side ((List.range ((count + 15) / 16)).map fun i => hexBytes (sub b (16 * i) 16)))

/-! ### Trace capture (R491) -/

/-- R491: trace start. -/
def execTraceStart (side len fam lanes : Nat) (can trig : Option Nat) (post : Nat) (s : State) : Out :=
  fin s (s.monCmd side len { least := .service, standby := false } fun s =>
    if 2047 < post || (match can with | some k => decide (3 < k) | none => false) then s.monSays side St.badArgument
    else
      { s with mon := { s.mon with trace := { s.mon.trace with running := true, famMask := fam % 2 ^ 16, laneMask := lanes % 2 ^ 64, can := can, trig := trig,
                                                               post := post, left := none } } }.monSays side St.ok)

/-- R491: trace stop. -/
def execTraceStop (side len : Nat) (s : State) : Out :=
  fin s (s.monCmd side len { least := .service, standby := false } fun s =>
    { s with mon := { s.mon with trace := { s.mon.trace with running := false } } }.monSays side St.ok)

/-- R491: trace dump: the ring, oldest first. -/
def execTraceDump (side len : Nat) (s : State) : Out :=
  fin s (s.monCmd side len { least := .service, standby := false } fun s =>
    (s.monSays side St.ok).monLines side (s.mon.trace.ring.reverse.map groupsOf4))

/-- R491: trace clear. -/
def execTraceClear (side len : Nat) (s : State) : Out :=
  fin s (s.monCmd side len { least := .service, standby := false } fun s =>
    { s with mon := { s.mon with trace := { s.mon.trace with ring := [] } } }.monSays side St.ok)

/-! ### Requests about the monitors (R492, R493) -/

/-- R492: MON_LOCK; a change of level returns both monitors to PUBLIC. -/
def execMonLock (tk : Nat) (s : State) : Out :=
  fin s (s.onTicket tk 0x0F30 fun t =>
    let l := t.u 0 1
    let old := s.mon.level
    if t.arg.length != 1 || 2 < l then s.complete t St.badArgument
    else if l = old then s.complete t St.ok
    else
      let s := ({ s with mon := { s.mon with level := l } }.setMonRole 0 .pub).setMonRole 1 .pub
      (s.evMod .host s.rd.active 3 0xF011 (leBytes 1 old ++ leBytes 1 l)).complete t St.ok)

/-- R488, R493: MON_PASSWORD_SET. -/
def execMonPasswordSet (tk : Nat) (s : State) : Out :=
  fin s (s.onTicket tk 0x0F31 fun t =>
    let r := t.u 0 1
    let p := t.rest 2
    let rest := s.mon.passwords.filter fun (x : Nat × Bytes) => x.1 != r
    if r = 0 || r = 4 || 5 < r || p.length != t.u 1 1 || !(p.isEmpty || passwordOk p) then s.complete t St.badArgument
    else { s with mon := { s.mon with passwords := if p.isEmpty then rest else rest ++ [(r, p)] } }.complete t St.ok)

/-- R493: MON_READ. -/
def execMonRead (tk : Nat) (s : State) : Out :=
  fin s (s.onTicket tk 0x0F32 fun t =>
    let role := fun (side : Nat) => if s.monMode side = 0 then 0xFF else (s.monRole side).code
    s.complete t St.ok (leBytes 1 s.mon.level ++ leBytes 1 (maskOf (s.mon.passwords.map (·.1))) ++ leBytes 1 (role 0) ++ leBytes 1 (role 1)))

end Sys2Proof.Machine
end

