-- ==== Sys2Proof/Machine/Dispatch.lean ====
section
/-! DEFINITION. Dispatch.lean: exec, one arm per command, each a direct call of its meaning. -/
namespace Sys2Proof.Machine
open Sys2Proof

/-- The effect of a command on everything but the queue. -/
def exec (i : Instr) (s : State) : Host.Outcome State Fault Refusal :=
  match i with
  | .registerWrite role addr v => Sys2Proof.Machine.execRegisterWrite role addr v s
  | .eventAdmit => Sys2Proof.Machine.execEventAdmit s
  | .timeReplicaRealign => Sys2Proof.Machine.execTimeReplicaRealign s
  | .legalAnchor drift => Sys2Proof.Machine.execLegalAnchor drift s
  | .timeoutHoldEnd n k carried => Sys2Proof.Machine.execTimeoutHoldEnd n k carried s
  | .hello p => Sys2Proof.Machine.execHello p s
  | .bind p f => Sys2Proof.Machine.execBind p f s
  | .proof p f => Sys2Proof.Machine.execProof p f s
  | .proofLate p => Sys2Proof.Machine.execProofLate p s
  | .bindLockoutEnd p => Sys2Proof.Machine.execBindLockoutEnd p s
  | .request p f => Sys2Proof.Machine.execRequest p f s
  | .requestPartsTimeout p tag => Sys2Proof.Machine.execRequestPartsTimeout p tag s
  | .keepalive p f => Sys2Proof.Machine.execKeepalive p f s
  | .keepaliveSend p => Sys2Proof.Machine.execKeepaliveSend p s
  | .hostLost p => Sys2Proof.Machine.execHostLost p s
  | .close p f => Sys2Proof.Machine.execClose p f s
  | .events p => Sys2Proof.Machine.execEvents p s
  | .eventResend p => Sys2Proof.Machine.execEventResend p s
  | .ticketQuery tk => Sys2Proof.Machine.execTicketQuery tk s
  | .eventReplay tk => Sys2Proof.Machine.execEventReplay tk s
  | .eventFilter tk => Sys2Proof.Machine.execEventFilter tk s
  | .regRead tk => Sys2Proof.Machine.execRegRead tk s
  | .regWrite tk => Sys2Proof.Machine.execRegWrite tk s
  | .hp2RegisterRead addr clocked => Sys2Proof.Machine.execHp2RegisterRead addr clocked s
  | .hp2RegisterWrite addr v complete => Sys2Proof.Machine.execHp2RegisterWrite addr v complete s
  | .hp2Status => Sys2Proof.Machine.execHp2Status s
  | .hp2MessageWrite b => Sys2Proof.Machine.execHp2MessageWrite b s
  | .hp2MessageRead clocked => Sys2Proof.Machine.execHp2MessageRead clocked s
  | .matrixLoad tk => Sys2Proof.Machine.execMatrixLoad tk s
  | .matrixLaneLoad tk => Sys2Proof.Machine.execMatrixLaneLoad tk s
  | .matrixCheck tk => Sys2Proof.Machine.execMatrixCheck tk s
  | .matrixInfo tk => Sys2Proof.Machine.execMatrixInfo tk s
  | .matrixRevert tk => Sys2Proof.Machine.execMatrixRevert tk s
  | .matrixCommit verified => Sys2Proof.Machine.execMatrixCommit verified s
  | .pilotStateChange n pos neg => Sys2Proof.Machine.execPilotStateChange n pos neg s
  | .pilotConfirm n => Sys2Proof.Machine.execPilotConfirm n s
  | .plugExpiry n => Sys2Proof.Machine.execPlugExpiry n s
  | .settleExpiry n => Sys2Proof.Machine.execSettleExpiry n s
  | .hostAuthExpiry n => Sys2Proof.Machine.execHostAuthExpiry n s
  | .guardWaitExpiry n => Sys2Proof.Machine.execGuardWaitExpiry n s
  | .cableCheckExpiry n => Sys2Proof.Machine.execCableCheckExpiry n s
  | .prechargeExpiry n => Sys2Proof.Machine.execPrechargeExpiry n s
  | .rampExpiry n => Sys2Proof.Machine.execRampExpiry n s
  | .weldExpiry n => Sys2Proof.Machine.execWeldExpiry n s
  | .degradedExpiry n => Sys2Proof.Machine.execDegradedExpiry n s
  | .suspendExpiry n => Sys2Proof.Machine.execSuspendExpiry n s
  | .preauthExpiry n => Sys2Proof.Machine.execPreauthExpiry n s
  | .lockPulseExpiry n carried => Sys2Proof.Machine.execLockPulseExpiry n carried s
  | .suspendAcOpenTimer n => Sys2Proof.Machine.execSuspendAcOpenTimer n s
  | .energyGuardTrue n => Sys2Proof.Machine.execEnergyGuardTrue n s
  | .faultExit n => Sys2Proof.Machine.execFaultExit n s
  | .faultPilotRelease n => Sys2Proof.Machine.execFaultPilotRelease n s
  | .laneStart tk => Sys2Proof.Machine.execLaneStart tk s
  | .laneStop tk => Sys2Proof.Machine.execLaneStop tk s
  | .laneAuthorise tk => Sys2Proof.Machine.execLaneAuthorise tk s
  | .laneSuspend tk => Sys2Proof.Machine.execLaneSuspend tk s
  | .laneResume tk => Sys2Proof.Machine.execLaneResume tk s
  | .laneClear tk => Sys2Proof.Machine.execLaneClear tk s
  | .laneDisable tk => Sys2Proof.Machine.execLaneDisable tk s
  | .laneEnable tk => Sys2Proof.Machine.execLaneEnable tk s
  | .laneInfo tk => Sys2Proof.Machine.execLaneInfo tk s
  | .pilotFoldback n => Sys2Proof.Machine.execPilotFoldback n s
  | .foldbackTest n below10mA => Sys2Proof.Machine.execFoldbackTest n below10mA s
  | .dutyChange n => Sys2Proof.Machine.execDutyChange n s
  | .ppMeasurement n ohm => Sys2Proof.Machine.execPpMeasurement n ohm s
  | .ppCodeHold n => Sys2Proof.Machine.execPpCodeHold n s
  | .preambleDetected die heard => Sys2Proof.Machine.execPreambleDetected die heard s
  | .hpavFrameReceived e => Sys2Proof.Machine.execHpavFrameReceived e s
  | .cmSlacParmReq id mac heard => Sys2Proof.Machine.execCmSlacParmReq id mac heard s
  | .cmStartAttenCharInd id => Sys2Proof.Machine.execCmStartAttenCharInd id s
  | .cmMnbcSound id att => Sys2Proof.Machine.execCmMnbcSound id att s
  | .soundingEnd id => Sys2Proof.Machine.execSoundingEnd id s
  | .cmValidate id n vehicle counted => Sys2Proof.Machine.execCmValidate id n vehicle counted s
  | .cmSlacMatchReq id n => Sys2Proof.Machine.execCmSlacMatchReq id n s
  | .associationWindowEnd n => Sys2Proof.Machine.execAssociationWindowEnd n s
  | .acFallbackEnd n => Sys2Proof.Machine.execAcFallbackEnd n s
  | .seccDiscovery n tls => Sys2Proof.Machine.execSeccDiscovery n tls s
  | .supportedAppProtocol n offers => Sys2Proof.Machine.execSupportedAppProtocol n offers s
  | .tlsHandshake n version node failure => Sys2Proof.Machine.execTlsHandshake n version node failure s
  | .v2gRequest n stamp r => Sys2Proof.Machine.execV2gRequest n stamp r s
  | .certificateRequest n kind exi => Sys2Proof.Machine.execCertificateRequest n kind exi s
  | .certAnswerTimeout ref => Sys2Proof.Machine.execCertAnswerTimeout ref s
  | .communicationSetupTimeout n => Sys2Proof.Machine.execCommunicationSetupTimeout n s
  | .sequenceTimeout n => Sys2Proof.Machine.execSequenceTimeout n s
  | .hsLaneRead tk => Sys2Proof.Machine.execHsLaneRead tk s
  | .hsCountClear tk => Sys2Proof.Machine.execHsCountClear tk s
  | .hsCertFetch tk => Sys2Proof.Machine.execHsCertFetch tk s
  | .hsCertAnswer tk => Sys2Proof.Machine.execHsCertAnswer tk s
  | .cableCheckPhaseEnd n => Sys2Proof.Machine.execCableCheckPhaseEnd n s
  | .outletShort n => Sys2Proof.Machine.execOutletShort n s
  | .contactorConfirmed n => Sys2Proof.Machine.execContactorConfirmed n s
  | .contactorConfirmTimeout n => Sys2Proof.Machine.execContactorConfirmTimeout n s
  | .prechargeOpenDelay n => Sys2Proof.Machine.execPrechargeOpenDelay n s
  | .powerDeliveryHoldExpiry n => Sys2Proof.Machine.execPowerDeliveryHoldExpiry n s
  | .dcnegOpenDelay n => Sys2Proof.Machine.execDcnegOpenDelay n s
  | .weldCheckPass n => Sys2Proof.Machine.execWeldCheckPass n s
  | .unlockGuardTrue n => Sys2Proof.Machine.execUnlockGuardTrue n s
  | .lockConfirmWindow n => Sys2Proof.Machine.execLockConfirmWindow n s
  | .lockRetry n => Sys2Proof.Machine.execLockRetry n s
  | .unlockRetry n => Sys2Proof.Machine.execUnlockRetry n s
  | .lockFeedbackLost n => Sys2Proof.Machine.execLockFeedbackLost n s
  | .directionHoldEnd n => Sys2Proof.Machine.execDirectionHoldEnd n s
  | .setpointSend n => Sys2Proof.Machine.execSetpointSend n s
  | .feedbackReceived n b => Sys2Proof.Machine.execFeedbackReceived n b s
  | .feedbackTimeout n => Sys2Proof.Machine.execFeedbackTimeout n s
  | .canBusOffRecovery k => Sys2Proof.Machine.execCanBusOffRecovery k s
  | .ppCanApply k => Sys2Proof.Machine.execPpCanApply k s
  | .ppLaneRead tk => Sys2Proof.Machine.execPpLaneRead tk s
  | .ppCountClear tk => Sys2Proof.Machine.execPpCountClear tk s
  | .allocationRound => Sys2Proof.Machine.execAllocationRound s
  | .glimChange k high stamp => Sys2Proof.Machine.execGlimChange k high stamp s
  | .releaseHoldEnd src scope => Sys2Proof.Machine.execReleaseHoldEnd src scope s
  | .curtailExpiry scope => Sys2Proof.Machine.execCurtailExpiry scope s
  | .dispatchExpiry => Sys2Proof.Machine.execDispatchExpiry s
  | .phaseSectorMeasure n edge => Sys2Proof.Machine.execPhaseSectorMeasure n edge s
  | .hubRound => Sys2Proof.Machine.execHubRound s
  | .grantLoss => Sys2Proof.Machine.execGrantLoss s
  | .moduleReportLoss addr => Sys2Proof.Machine.execModuleReportLoss addr s
  | .psCurtail tk => Sys2Proof.Machine.execPsCurtail tk s
  | .psCurtailClear tk => Sys2Proof.Machine.execPsCurtailClear tk s
  | .psDispatch tk => Sys2Proof.Machine.execPsDispatch tk s
  | .psLaneCap tk => Sys2Proof.Machine.execPsLaneCap tk s
  | .psHubLimit tk => Sys2Proof.Machine.execPsHubLimit tk s
  | .psRead tk => Sys2Proof.Machine.execPsRead tk s
  | .chipBoundary fits => Sys2Proof.Machine.execChipBoundary fits s
  | .isolationVerifyDeadline g => Sys2Proof.Machine.execIsolationVerifyDeadline g s
  | .isolationCauseClear n => Sys2Proof.Machine.execIsolationCauseClear n s
  | .currentSenseTest g => Sys2Proof.Machine.execCurrentSenseTest g s
  | .currentSenseTestEnd g nA => Sys2Proof.Machine.execCurrentSenseTestEnd g nA s
  | .residualEval n period mp m5 m200 rms => Sys2Proof.Machine.execResidualEval n period mp m5 m200 rms s
  | .fluxgateFault n => Sys2Proof.Machine.execFluxgateFault n s
  | .efRead tk => Sys2Proof.Machine.execEfRead tk s
  | .efSelftest tk => Sys2Proof.Machine.execEfSelftest tk s
  | .efGroupClear tk => Sys2Proof.Machine.execEfGroupClear tk s
  | .efCountClear tk => Sys2Proof.Machine.execEfCountClear tk s
  | .tracerSample t xs flux => Sys2Proof.Machine.execTracerSample t xs flux s
  | .activityCheckFail c => Sys2Proof.Machine.execActivityCheckFail c s
  | .referenceCheck k ok => Sys2Proof.Machine.execReferenceCheck k ok s
  | .clipTimeout c => Sys2Proof.Machine.execClipTimeout c s
  | .channelFaultClear c => Sys2Proof.Machine.execChannelFaultClear c s
  | .coilSettled c => Sys2Proof.Machine.execCoilSettled c s
  | .pt1000Reading n ohm temp => Sys2Proof.Machine.execPt1000Reading n ohm temp s
  | .creepGateEval n => Sys2Proof.Machine.execCreepGateEval n s
  | .testModeExpiry n => Sys2Proof.Machine.execTestModeExpiry n s
  | .pulseLevelAccepted n on stamp dur => Sys2Proof.Machine.execPulseLevelAccepted n on stamp dur s
  | .pulseCollect => Sys2Proof.Machine.execPulseCollect s
  | .pulseRateCheck => Sys2Proof.Machine.execPulseRateCheck s
  | .pulseInputFault n0 kind => Sys2Proof.Machine.execPulseInputFault n0 kind s
  | .pulseFaultClear n0 => Sys2Proof.Machine.execPulseFaultClear n0 s
  | .pulseFoldback n0 => Sys2Proof.Machine.execPulseFoldback n0 s
  | .pulseFoldbackRestore n0 => Sys2Proof.Machine.execPulseFoldbackRestore n0 s
  | .mtCalWrite tk => Sys2Proof.Machine.execMtCalWrite tk s
  | .mtCalRead tk => Sys2Proof.Machine.execMtCalRead tk s
  | .mtTest tk => Sys2Proof.Machine.execMtTest tk s
  | .mtTestRead tk => Sys2Proof.Machine.execMtTestRead tk s
  | .mtPulseRead tk => Sys2Proof.Machine.execMtPulseRead tk s
  | .mtCountClear tk => Sys2Proof.Machine.execMtCountClear tk s
  | .accumulatorMirror => Sys2Proof.Machine.execAccumulatorMirror s
  | .registerCommit => Sys2Proof.Machine.execRegisterCommit s
  | .powerFailWarning low => Sys2Proof.Machine.execPowerFailWarning low s
  | .saveSelfReset => Sys2Proof.Machine.execSaveSelfReset s
  | .powerFailClearWait => Sys2Proof.Machine.execPowerFailClearWait s
  | .reverseFlow cust n => Sys2Proof.Machine.execReverseFlow cust n s
  | .bypass n mis larger => Sys2Proof.Machine.execBypass n mis larger s
  | .missingNeutral n vnpe vphase => Sys2Proof.Machine.execMissingNeutral n vnpe vphase s
  | .coverOpen => Sys2Proof.Machine.execCoverOpen s
  | .sessionRecord => Sys2Proof.Machine.execSessionRecord s
  | .enRead tk => Sys2Proof.Machine.execEnRead tk s
  | .enRecordRead tk => Sys2Proof.Machine.execEnRecordRead tk s
  | .enImpressionRead tk => Sys2Proof.Machine.execEnImpressionRead tk s
  | .enCableWrite tk => Sys2Proof.Machine.execEnCableWrite tk s
  | .enTamperClear tk => Sys2Proof.Machine.execEnTamperClear tk s
  | .enImpress tk => Sys2Proof.Machine.execEnImpress tk s
  | .grantWord ctr crcOk => Sys2Proof.Machine.execGrantWord ctr crcOk s
  | .grantWatchdogExpiry => Sys2Proof.Machine.execGrantWatchdogExpiry s
  | .vgrvRise => Sys2Proof.Machine.execVgrvRise s
  | .graverSelfCheckFail => Sys2Proof.Machine.execGraverSelfCheckFail s
  | .graverBlockReload => Sys2Proof.Machine.execGraverBlockReload s
  | .comparatorCrossing k edge sample => Sys2Proof.Machine.execComparatorCrossing k edge sample s
  | .tripLatchClear k => Sys2Proof.Machine.execTripLatchClear k s
  | .safetyInputOpen n0 => Sys2Proof.Machine.execSafetyInputOpen n0 s
  | .safetyInputClose n0 => Sys2Proof.Machine.execSafetyInputClose n0 s
  | .dualChannelFault p => Sys2Proof.Machine.execDualChannelFault p s
  | .pilotFaultLine n bad => Sys2Proof.Machine.execPilotFaultLine n bad s
  | .watchComparison k inside lo hi => Sys2Proof.Machine.execWatchComparison k inside lo hi s
  | .stipplePulse kind n0 mv => Sys2Proof.Machine.execStipplePulse kind n0 mv s
  | .suspectClearHold kind n0 => Sys2Proof.Machine.execSuspectClearHold kind n0 s
  | .guardTestHold => Sys2Proof.Machine.execGuardTestHold s
  | .sfRead tk => Sys2Proof.Machine.execSfRead tk s
  | .spRead tk => Sys2Proof.Machine.execSpRead tk s
  | .spWrite tk => Sys2Proof.Machine.execSpWrite tk s
  | .spPasswordSet tk => Sys2Proof.Machine.execSpPasswordSet tk s
  | .spLogRead tk => Sys2Proof.Machine.execSpLogRead tk s
  | .passwordLockEnd => Sys2Proof.Machine.execPasswordLockEnd s
  | .passwordReplaceWindowEnd => Sys2Proof.Machine.execPasswordReplaceWindowEnd s
  | .blankingEnd k => Sys2Proof.Machine.execBlankingEnd k s
  | .overloadTrip k => Sys2Proof.Machine.execOverloadTrip k s
  | .shortTrip k cur => Sys2Proof.Machine.execShortTrip k cur s
  | .thermalShutdown k tj => Sys2Proof.Machine.execThermalShutdown k tj s
  | .retryDelayEnd k cool => Sys2Proof.Machine.execRetryDelayEnd k cool s
  | .thermalRestart k => Sys2Proof.Machine.execThermalRestart k s
  | .usedReset k => Sys2Proof.Machine.execUsedReset k s
  | .dieLimiterTick d cur tj lim vsw => Sys2Proof.Machine.execDieLimiterTick d cur tj lim vsw s
  | .loweredLimitTrip k => Sys2Proof.Machine.execLoweredLimitTrip k s
  | .openLoadCheck k cur high => Sys2Proof.Machine.execOpenLoadCheck k cur high s
  | .offStateTest k above => Sys2Proof.Machine.execOffStateTest k above s
  | .clampEvent k => Sys2Proof.Machine.execClampEvent k s
  | .vswUndervoltage d vsw => Sys2Proof.Machine.execVswUndervoltage d vsw s
  | .vswRestored d vsw => Sys2Proof.Machine.execVswRestored d vsw s
  | .vswRise d vsw => Sys2Proof.Machine.execVswRise d vsw s
  | .poSet tk => Sys2Proof.Machine.execPoSet tk s
  | .poClear tk bad above => Sys2Proof.Machine.execPoClear tk bad above s
  | .poProof tk bad above => Sys2Proof.Machine.execPoProof tk bad above s
  | .poRead tk => Sys2Proof.Machine.execPoRead tk s
  | .heartbeat a b => Sys2Proof.Machine.execHeartbeat a b s
  | .heartbeatLoss => Sys2Proof.Machine.execHeartbeatLoss s
  | .sideFaultReport side kind mem offset => Sys2Proof.Machine.execSideFaultReport side kind mem offset s
  | .linkFault path => Sys2Proof.Machine.execLinkFault path s
  | .holderLatchLost refused => Sys2Proof.Machine.execHolderLatchLost refused s
  | .failedSideRelease => Sys2Proof.Machine.execFailedSideRelease s
  | .standbySynchronised => Sys2Proof.Machine.execStandbySynchronised s
  | .counterproofDue => Sys2Proof.Machine.execCounterproofDue s
  | .swapPostpone => Sys2Proof.Machine.execSwapPostpone s
  | .revertDelayEnd => Sys2Proof.Machine.execRevertDelayEnd s
  | .swapConditionsMet => Sys2Proof.Machine.execSwapConditionsMet s
  | .protectedTicketWaitEnd => Sys2Proof.Machine.execProtectedTicketWaitEnd s
  | .drainEnd => Sys2Proof.Machine.execDrainEnd s
  | .rdRead tk => Sys2Proof.Machine.execRdRead tk s
  | .rdSwap tk => Sys2Proof.Machine.execRdSwap tk s
  | .rdSwapTimeout => Sys2Proof.Machine.execRdSwapTimeout s
  | .rdStandbyRestart tk => Sys2Proof.Machine.execRdStandbyRestart tk s
  | .rdRelease tk => Sys2Proof.Machine.execRdRelease tk s
  | .demandClose => Sys2Proof.Machine.execDemandClose s
  | .tariffSwitch => Sys2Proof.Machine.execTariffSwitch s
  | .billingPeriodClose => Sys2Proof.Machine.execBillingPeriodClose s
  | .calendarActivation => Sys2Proof.Machine.execCalendarActivation s
  | .slewEnd => Sys2Proof.Machine.execSlewEnd s
  | .calLoad tk => Sys2Proof.Machine.execCalLoad tk s
  | .calCancel tk => Sys2Proof.Machine.execCalCancel tk s
  | .calRead tk => Sys2Proof.Machine.execCalRead tk s
  | .tmSet tk => Sys2Proof.Machine.execTmSet tk s
  | .tmRead tk => Sys2Proof.Machine.execTmRead tk s
  | .blHistoryRead tk => Sys2Proof.Machine.execBlHistoryRead tk s
  | .blRateRead tk => Sys2Proof.Machine.execBlRateRead tk s
  | .creditCheck => Sys2Proof.Machine.execCreditCheck s
  | .accountDebit => Sys2Proof.Machine.execAccountDebit s
  | .friendlyStart => Sys2Proof.Machine.execFriendlyStart s
  | .friendlyEnd => Sys2Proof.Machine.execFriendlyEnd s
  | .priceActivation => Sys2Proof.Machine.execPriceActivation s
  | .bulkCommit => Sys2Proof.Machine.execBulkCommit s
  | .bulkApplyEnd => Sys2Proof.Machine.execBulkApplyEnd s
  | .acBulkLoad tk => Sys2Proof.Machine.execAcBulkLoad tk s
  | .acCellWrite tk => Sys2Proof.Machine.execAcCellWrite tk s
  | .acCellRead tk => Sys2Proof.Machine.execAcCellRead tk s
  | .acCredit tk => Sys2Proof.Machine.execAcCredit tk s
  | .acCredWrite tk => Sys2Proof.Machine.execAcCredWrite tk s
  | .acCredFetch tk => Sys2Proof.Machine.execAcCredFetch tk s
  | .acClassWrite tk => Sys2Proof.Machine.execAcClassWrite tk s
  | .acPriceLoad tk => Sys2Proof.Machine.execAcPriceLoad tk s
  | .acFriendlyWrite tk => Sys2Proof.Machine.execAcFriendlyWrite tk s
  | .acStatus tk => Sys2Proof.Machine.execAcStatus tk s
  | .acCustodyBind tk => Sys2Proof.Machine.execAcCustodyBind tk s
  | .hdlcSnrm info => Sys2Proof.Machine.execHdlcSnrm info s
  | .hdlcLinkTimeout => Sys2Proof.Machine.execHdlcLinkTimeout s
  | .aarq transport client sap mech prot authOk => Sys2Proof.Machine.execAarq transport client sap mech prot authOk s
  | .get transport client ctr ok req => Sys2Proof.Machine.execGet transport client ctr ok req s
  | .set transport client ctr ok signed r value => Sys2Proof.Machine.execSet transport client ctr ok signed r value s
  | .action transport client ctr ok signed r value => Sys2Proof.Machine.execAction transport client ctr ok signed r value s
  | .releaseRequest transport client => Sys2Proof.Machine.execReleaseRequest transport client s
  | .associationInactivity transport client => Sys2Proof.Machine.execAssociationInactivity transport client s
  | .cosemLockoutEnd => Sys2Proof.Machine.execCosemLockoutEnd s
  | .kvNodeCreate tk => Sys2Proof.Machine.execKvNodeCreate tk s
  | .kvNodeInvalidate tk => Sys2Proof.Machine.execKvNodeInvalidate tk s
  | .kvNodeRenew tk => Sys2Proof.Machine.execKvNodeRenew tk s
  | .kvNodeDelete tk => Sys2Proof.Machine.execKvNodeDelete tk s
  | .kvNodeRead tk => Sys2Proof.Machine.execKvNodeRead tk s
  | .kvCsr tk => Sys2Proof.Machine.execKvCsr tk s
  | .kvCertStore tk => Sys2Proof.Machine.execKvCertStore tk s
  | .kvCertRead tk => Sys2Proof.Machine.execKvCertRead tk s
  | .kvAnchorSet tk => Sys2Proof.Machine.execKvAnchorSet tk s
  | .kvRootRetire tk => Sys2Proof.Machine.execKvRootRetire tk s
  | .rootRetireWindowEnd => Sys2Proof.Machine.execRootRetireWindowEnd s
  | .kvSign tk => Sys2Proof.Machine.execKvSign tk s
  | .kvObjectStore tk => Sys2Proof.Machine.execKvObjectStore tk s
  | .drbgReseed => Sys2Proof.Machine.execDrbgReseed s
  | .healthTest test pass => Sys2Proof.Machine.execHealthTest test pass s
  | .maskRotation late => Sys2Proof.Machine.execMaskRotation late s
  | .beaconSend => Sys2Proof.Machine.execBeaconSend s
  | .beacon f => Sys2Proof.Machine.execBeacon f s
  | .beaconLoss => Sys2Proof.Machine.execBeaconLoss s
  | .masterListenEnd => Sys2Proof.Machine.execMasterListenEnd s
  | .ack fsn => Sys2Proof.Machine.execAck fsn s
  | .ackTimeout fsn => Sys2Proof.Machine.execAckTimeout fsn s
  | .joinReq f => Sys2Proof.Machine.execJoinReq f s
  | .joinCnf f => Sys2Proof.Machine.execJoinCnf f s
  | .joinRetryWaitEnd => Sys2Proof.Machine.execJoinRetryWaitEnd s
  | .presence f => Sys2Proof.Machine.execPresence f s
  | .presenceSend => Sys2Proof.Machine.execPresenceSend s
  | .nodeDeparture eui => Sys2Proof.Machine.execNodeDeparture eui s
  | .kryuzBind k => Sys2Proof.Machine.execKryuzBind k s
  | .kryuzFeedback f => Sys2Proof.Machine.execKryuzFeedback f s
  | .shareReportSend => Sys2Proof.Machine.execShareReportSend s
  | .shareReport f => Sys2Proof.Machine.execShareReport f s
  | .grant f => Sys2Proof.Machine.execGrant f s
  | .card f => Sys2Proof.Machine.execCard f s
  | .wakePreamble ua => Sys2Proof.Machine.execWakePreamble ua s
  | .kryuzLoadMeasure busy own => Sys2Proof.Machine.execKryuzLoadMeasure busy own s
  | .distAnnounce f => Sys2Proof.Machine.execDistAnnounce f s
  | .distSegment f => Sys2Proof.Machine.execDistSegment f s
  | .distPoll f => Sys2Proof.Machine.execDistPoll f s
  | .distStatus f => Sys2Proof.Machine.execDistStatus f s
  | .distPassEnd => Sys2Proof.Machine.execDistPassEnd s
  | .kzRead tk => Sys2Proof.Machine.execKzRead tk s
  | .kzNodeRead tk => Sys2Proof.Machine.execKzNodeRead tk s
  | .kzPeerBind tk => Sys2Proof.Machine.execKzPeerBind tk s
  | .kzWake tk => Sys2Proof.Machine.execKzWake tk s
  | .kzDistribute tk => Sys2Proof.Machine.execKzDistribute tk s
  | .kzCountClear tk => Sys2Proof.Machine.execKzCountClear tk s
  | .tagReply r rssi fwd refl => Sys2Proof.Machine.execTagReply r rssi fwd refl s
  | .tagDwellEnd => Sys2Proof.Machine.execTagDwellEnd s
  | .carrierOffEnd => Sys2Proof.Machine.execCarrierOffEnd s
  | .tagPortFault kind => Sys2Proof.Machine.execTagPortFault kind s
  | .portFaultEnd p => Sys2Proof.Machine.execPortFaultEnd p s
  | .writeReplyWindow => Sys2Proof.Machine.execWriteReplyWindow s
  | .tgInventory tk => Sys2Proof.Machine.execTgInventory tk s
  | .tgWrite tk => Sys2Proof.Machine.execTgWrite tk s
  | .tgRead tk => Sys2Proof.Machine.execTgRead tk s
  | .tgCountClear tk => Sys2Proof.Machine.execTgCountClear tk s
  | .displayFrame results => Sys2Proof.Machine.execDisplayFrame results s
  | .railOffDelay => Sys2Proof.Machine.execRailOffDelay s
  | .ntcRead p temp => Sys2Proof.Machine.execNtcRead p temp s
  | .legalFieldRedraw n => Sys2Proof.Machine.execLegalFieldRedraw n s
  | .frameCrcCheck p found => Sys2Proof.Machine.execFrameCrcCheck p found s
  | .dsDraw tk => Sys2Proof.Machine.execDsDraw tk s
  | .dsWaveLoad tk => Sys2Proof.Machine.execDsWaveLoad tk s
  | .dsProof tk results => Sys2Proof.Machine.execDsProof tk results s
  | .dsRead tk => Sys2Proof.Machine.execDsRead tk s
  | .burnishRegion side mem errs late fail waits => Sys2Proof.Machine.execBurnishRegion side mem errs late fail waits s
  | .credentialIndexRebuild => Sys2Proof.Machine.execCredentialIndexRebuild s
  | .mmRead tk => Sys2Proof.Machine.execMmRead tk s
  | .mmCountClear tk => Sys2Proof.Machine.execMmCountClear tk s
  | .pwRequest tk => Sys2Proof.Machine.execPwRequest tk s
  | .quietWindowEnd => Sys2Proof.Machine.execQuietWindowEnd s
  | .automaticPark => Sys2Proof.Machine.execAutomaticPark s
  | .wakeSource src lane ua => Sys2Proof.Machine.execWakeSource src lane ua s
  | .rtcAlarm ua => Sys2Proof.Machine.execRtcAlarm ua s
  | .padholdRelease mask => Sys2Proof.Machine.execPadholdRelease mask s
  | .pwRead tk => Sys2Proof.Machine.execPwRead tk s
  | .pwAlarmSet tk => Sys2Proof.Machine.execPwAlarmSet tk s
  | .pwCountClear tk => Sys2Proof.Machine.execPwCountClear tk s
  | .upOpen tk => Sys2Proof.Machine.execUpOpen tk s
  | .upFragment tk => Sys2Proof.Machine.execUpFragment tk s
  | .fragmentBackgroundCopy side num k => Sys2Proof.Machine.execFragmentBackgroundCopy side num k s
  | .transferExpiry num => Sys2Proof.Machine.execTransferExpiry num s
  | .upStatus tk => Sys2Proof.Machine.execUpStatus tk s
  | .upCancel tk => Sys2Proof.Machine.execUpCancel tk s
  | .upApply tk room => Sys2Proof.Machine.execUpApply tk room s
  | .applyPhaseEnd side => Sys2Proof.Machine.execApplyPhaseEnd side s
  | .upRestore tk => Sys2Proof.Machine.execUpRestore tk s
  | .upCommit tk => Sys2Proof.Machine.execUpCommit tk s
  | .help side len => Sys2Proof.Machine.execHelp side len s
  | .status side len => Sys2Proof.Machine.execStatus side len s
  | .login side len role password => Sys2Proof.Machine.execLogin side len role password s
  | .logout side len => Sys2Proof.Machine.execLogout side len s
  | .rd side len addr count => Sys2Proof.Machine.execRd side len addr count s
  | .wr side len addr v => Sys2Proof.Machine.execWr side len addr v s
  | .ev side len count => Sys2Proof.Machine.execEv side len count s
  | .lane side len n => Sys2Proof.Machine.execLane side len n s
  | .req side len op arg => Sys2Proof.Machine.execReq side len op arg s
  | .mem side len addr count readable => Sys2Proof.Machine.execMem side len addr count readable s
  | .traceStart side len fam lanes can trig post => Sys2Proof.Machine.execTraceStart side len fam lanes can trig post s
  | .traceStop side len => Sys2Proof.Machine.execTraceStop side len s
  | .traceDump side len => Sys2Proof.Machine.execTraceDump side len s
  | .traceClear side len => Sys2Proof.Machine.execTraceClear side len s
  | .monitorIdleTimeout side => Sys2Proof.Machine.execMonitorIdleTimeout side s
  | .loginLockoutEnd side => Sys2Proof.Machine.execLoginLockoutEnd side s
  | .monLock tk => Sys2Proof.Machine.execMonLock tk s
  | .monPasswordSet tk => Sys2Proof.Machine.execMonPasswordSet tk s
  | .monRead tk => Sys2Proof.Machine.execMonRead tk s
  | .vaonPowerOn => Sys2Proof.Machine.execVaonPowerOn s
  | .supplyTrip rail good mv => Sys2Proof.Machine.execSupplyTrip rail good mv s
  | .borLp ua => Sys2Proof.Machine.execBorLp ua s
  | .rstn low => Sys2Proof.Machine.execRstn low s
  | .resetRelease straps => Sys2Proof.Machine.execResetRelease straps s
  | .startupPhaseComplete side r => Sys2Proof.Machine.execStartupPhaseComplete side r s
  | .holderLatchClaim => Sys2Proof.Machine.execHolderLatchClaim s
  | .heartbeatWatchdogReset => Sys2Proof.Machine.execHeartbeatWatchdogReset s
  | .xinLoss clk => Sys2Proof.Machine.execXinLoss clk s
  | .rtcOscillatorStop => Sys2Proof.Machine.execRtcOscillatorStop s
  | .temperatureMeasurement t => Sys2Proof.Machine.execTemperatureMeasurement t s
  | .rsReset tk => Sys2Proof.Machine.execRsReset tk s
  | .rsRead tk => Sys2Proof.Machine.execRsRead tk s
  | .coverClosed => Sys2Proof.Machine.execCoverClosed s
  | .sgmiiLinkChange p up => Sys2Proof.Machine.execSgmiiLinkChange p up s
  | .hlcLinkLoss n link => Sys2Proof.Machine.execHlcLinkLoss n link s
  | .sharedDieFault d => Sys2Proof.Machine.execSharedDieFault d s
  | .dramHot side hot => Sys2Proof.Machine.execDramHot side hot s
  | .sideBootEnd => Sys2Proof.Machine.execSideBootEnd s
  | .receiveFramesReturn => Sys2Proof.Machine.execReceiveFramesReturn s
  | .tagWriteTimeLimit => Sys2Proof.Machine.execTagWriteTimeLimit s
  | .inventoryDurationEnd tk => Sys2Proof.Machine.execInventoryDurationEnd tk s
  | .peerBindTimeout => Sys2Proof.Machine.execPeerBindTimeout s
  | .standbyRestartTimeout => Sys2Proof.Machine.execStandbyRestartTimeout s
  | .canBusOff k => Sys2Proof.Machine.execCanBusOff k s
  | .daylightSavingChange => Sys2Proof.Machine.execDaylightSavingChange s
  | .rtcOscillatorRestart => Sys2Proof.Machine.execRtcOscillatorRestart s
  | .zcEdge => Sys2Proof.Machine.execZcEdge s
  | .pilotFaultClear n => Sys2Proof.Machine.execPilotFaultClear n s

end Sys2Proof.Machine
end

