-- ==== Sys2Proof/Safety.lean ====
section
/-! DEFINITION. Safety.lean: what counts as a safe run of the module, in the terms the statements use. -/
namespace Sys2Proof.Machine

/-- R20, R24, R77: the records of a journal, newest first: their SEQs fall strictly, and none is above `top`. -/
def fallsFrom : Nat → List EvRec → Prop
  | _, [] => True
  | top, r :: l => r.seq ≤ top ∧ 1 ≤ r.seq ∧ fallsFrom (r.seq - 1) l

/-- R20, R24: no SEQ has been given twice: the journal's SEQs fall strictly from the last SEQ given, and what is mirrored to the standby side
is at most that SEQ. -/
def Seqr.ordered (q : Seqr) : Prop := fallsFrom q.seqLast q.journal ∧ q.mirrored ≤ q.seqLast

/-- A state between commands: nothing is asked of the sequencer (the model's own field `emits`, log entry 3), and the sequencer is ordered. -/
def State.safe (s : State) : Prop := s.emits = [] ∧ s.seqr.ordered

/-- A step that answers a next state, and no fault or refusal. -/
def goes (s : State) : Prop := ∃ t, step s = .next t

/-- A run of `k` steps that meets no fault and no refusal, and whose states are all safe. -/
def safeRun : Nat → State → Prop
  | 0, s => s.safe
  | k + 1, s => s.safe ∧ ∃ t, step s = .next t ∧ safeRun k t

end Sys2Proof.Machine
end

