-- ==== Sys2Proof/Certificates/Slice0/Obligations.lean ====
section
/-! DEFINITION. Obligations.lean: the statements for the provers. A command that has its effect answers `s.after t`: the state `t` its effect gives,
with the queue of `s` and with the sequencer of `s` after it has taken the events `t` asks it to (statement CommandKeepsQueueAndNumbersEvents). -/
open Sys2Proof Sys2Proof.Machine


/-- For every command c, every queue rest and every state s whose queue is c followed by rest, step of s is exec of c on s with the queue rest. (The queue
is the model's own, log entry 3.) With no command waiting a step answers a next state in which only TIME has moved, by one cycle of CLK_MET as R17
gives it; that the empty queue ticks is the model's choice (log entry 5). -/
def Obligations.StepRunsTheFrontCommand : Prop :=
  (∀ (c : Instr) (rest : List Instr) (s : State), s.pending = c :: rest → step s = exec c { s with pending := rest }) ∧
  (∀ s : State, s.pending = [] → step s = .next { s with clock := s.tick.clock })

/-- For every command and every state exec answers a next state, no fault and no refusal; that state is s.after t for some t: the queue of s stays,
nothing is left to ask of the sequencer, the sequencer is that of s after it took, in order, what t asks; no command lowers SEQ_LAST; and each part of
t but the queue, the sequencer, the trace and the asking stays as t has it. -/
def Obligations.CommandKeepsQueueAndNumbersEvents : Prop :=
  (∀ (c : Instr) (s : State), ∃ t, exec c s = .next (s.after t)) ∧
  (∀ (c : Instr) (s u : State), exec c s = .next u →
    u.pending = s.pending ∧ u.emits = [] ∧ s.seqr.seqLast ≤ u.seqr.seqLast) ∧
  (∀ s t : State, (s.after t).seqr = s.seqr.absorb t.rd.active t.now t.emits ∧ (s.after t).lanes = t.lanes ∧ (s.after t).host = t.host ∧
    (s.after t).en = t.en ∧ (s.after t).ac = t.ac ∧ (s.after t).sf = t.sf ∧ (s.after t).kv = t.kv ∧ (s.after t).mx = t.mx ∧ (s.after t).clock = t.clock)

/-- For every safe state (nothing is asked of the sequencer, and the SEQs of the journal fall strictly from the last SEQ given, which is at least the SEQ
mirrored to the standby side), whatever command waits first or none: if step answers next t, then t is safe, the last SEQ given is not lower than
before, and every record numbered during the step, that is every record of the new journal whose SEQ was not in the old one, carries a SEQ above the
last SEQ given before (R24: SEQ never repeats and never decreases). -/
def Obligations.StepsNeverRepeatASequenceNumber : Prop :=
  ∀ s t : State, s.safe → step s = .next t →
    t.safe ∧ s.seqr.seqLast ≤ t.seqr.seqLast ∧
    ∀ r ∈ t.seqr.journal, (∀ q ∈ s.seqr.journal, q.seq ≠ r.seq) → s.seqr.seqLast < r.seq

/-- After reset the state is safe; TIME is 0 (R17), no command waits, no matrix is applied, every lane is OFFLINE, no contactor of a lane is commanded
closed, every PERMIT is low, the guard is not tested, no host session is bound, so no ticket is outstanding. The first SEQ a reset gives is 0x1_0000
as the journal is empty (R24). -/
def Obligations.ResetState : Prop :=
  (State.reset.safe) ∧
  (State.reset.now = 0 ∧ State.reset.pending = [] ∧ State.reset.mx.applied = none ∧ State.reset.sf.grv.permit = 0 ∧ State.reset.sf.guardTested = false) ∧
  (∀ n, (State.reset.lane n).st = .offline ∧ (State.reset.ppl n).dcpos = false ∧ (State.reset.ppl n).dcneg = false ∧ (State.reset.ppl n).pre = false ∧ (State.reset.ppl n).acMain = false) ∧
  (∀ p, State.reset.sess p = none) ∧
  (∀ side time, ((State.reset.seqr.take side time (.skip true)).number { cls := .diag, die := 0, unit := 0, lane := 0xFF, code := 0, data := [], time := 0 }).seqLast = 0x10000)

/-- Whatever events wait, the event that goes first is one of them, no waiting event has a lower class, and none of its class has a lower SOURCE; with no
drop to report eventAdmit gives that event the SEQ after the last and takes it out of the waiting events. The classes are safety 0, metering 1,
external arrivals 2, timers 3, host 4, diagnostics 5, and bits [15:13] of SOURCE are the class; SOURCE of the record is that value in its bytes 16 and
17. -/
def Obligations.AdmissionGoesByClassThenSource : Prop :=
  (∀ (l : List Ev) (e : Ev), firstWaiting l = some e →
    e ∈ l ∧ ∀ f ∈ l, e.cls.code < f.cls.code ∨ (e.cls.code = f.cls.code ∧ e.source ≤ f.source)) ∧
  (∀ l : List Ev, l ≠ [] → (firstWaiting l).isSome = true) ∧
  (∀ (s : State) (e : Ev),
    5 ≤ s.rs.phase →
    firstWaiting s.seqr.waiting = some e →
    s.seqr.drops = [] →
    exec (.eventAdmit) s = .next (s.after ((s.numbered { seq := s.seqr.seqLast + 1, ev := e }).ask .admitNext))) ∧
  (∀ (q : Seqr) (e : Ev) (side time : Nat), firstWaiting q.waiting = some e → q.drops = [] →
    (q.take side time .admitNext).seqLast = q.seqLast + 1 ∧ (q.take side time .admitNext).waiting = q.waiting.erase e ∧
    (q.take side time .admitNext).journal.head? = some { seq := q.seqLast + 1, ev := e }) ∧
  (∀ e : Ev, e.source / 8192 = e.cls.code ∧ e.source < 65536) ∧
  (∀ (r : EvRec) (a b : Bool), sub (r.bytes a b) 16 2 = leBytes 2 r.ev.source) ∧
  ([EvClass.safety, .metering, .external, .timer, .host, .diag].map EvClass.code = [0, 1, 2, 3, 4, 5])

/-- A safety or metering event always joins the waiting events; one of a lower class joins them while fewer than 64 of its class and die wait, else it is
dropped and GSTATUS.OVERFLOWS counts it, saturating; a drop that is due is reported by EVENT_OVERFLOW, which goes ahead of every other diagnostics
event but behind the other classes. A swap of sides aside, the SEQ after a reset or an unplanned change of side is the smallest multiple of 65,536
above the SEQ it starts from. -/
def Obligations.EventsWaitOrAreCounted : Prop :=
  (∀ (q : Seqr) (e : Ev), e.cls = .safety ∨ e.cls = .metering → q.arrive e = { q with waiting := q.waiting ++ [e] }) ∧
  (∀ (q : Seqr) (e : Ev), e.cls ≠ .safety → e.cls ≠ .metering →
    (q.arrive e).waiting = (if (q.waiting.filter fun x => x.cls == e.cls && x.die == e.die).length < 64 then q.waiting ++ [e] else q.waiting) ∧
    (q.arrive e).overflows = (if (q.waiting.filter fun x => x.cls == e.cls && x.die == e.die).length < 64 then q.overflows else satU 24 (q.overflows + 1)) ∧ (q.arrive e).seqLast = q.seqLast) ∧
  (∀ (q : Seqr) (e : Ev) (d : Drop) (ds : List Drop) (side time : Nat), firstWaiting q.waiting = some e → q.drops = d :: ds →
    (q.admitNext side time).journal.head? = some { seq := q.seqLast + 1, ev := if e.cls = .diag then overflowEvent side time d else e } ∧
    (overflowEvent side time d).code = 0xF001 ∧ (overflowEvent side time d).lane = 0xFF ∧ (overflowEvent side time d).source = 5 * 8192 + side % 32 * 256) ∧
  (∀ (q : Seqr) (x : Nat) (e : Ev), q.seqLast ≤ x →
    let k := ((q.skipAbove x).number e).seqLast
    k % 65536 = 0 ∧ x < k ∧ ∀ m, m % 65536 = 0 → x < m → k ≤ m)

/-- For a ticket of a host session: the completion gives REQ_COMPLETED (0x7011, with ticket, opcode and status) the next SEQ, takes the ticket out of the
outstanding ones, puts it with its status at the head of the ended ones and leaves every other outstanding ticket; the COMPLETION's parts carry the
header of 20 bytes with that SEQ and the total length, in parts of up to 1,380 bytes that together are the result. Without an outstanding ticket of
the opcode a request command changes nothing. -/
def Obligations.CompletionEndsTheTicket : Prop :=
  (∀ (s : State) (c : Session) (t : Ticket) (status : Nat) (b : Bytes), s.emits = [] → ticketPort t.id < 3 → s.sess (ticketPort t.id) = some c →
    let u := s.after (s.complete t status b)
    u.seqr.seqLast = s.seqr.seqLast + 1 ∧ (u.seqr.journal.head?.map fun r => (r.seq, r.ev.code, r.ev.data)) = some (s.seqr.seqLast + 1, 0x7011, leBytes 4 t.id ++ leBytes 2 t.opcode ++ leBytes 2 status) ∧
    (u.sess (ticketPort t.id)).map (·.outstanding) = some (c.outstanding.filter fun x => x.id != t.id) ∧
    ((u.sess (ticketPort t.id)).bind (·.ended.head?)) = some (t.id, status)) ∧
  (∀ (tk status seq : Nat) (b : Bytes), (completionParts tk status seq b).length = max 1 ((b.length + 1379) / 1380) ∧
    (completionParts tk status seq b).flatMap (·.drop 20) = b ∧
    ∀ x ∈ completionParts tk status seq b, x.length ≤ 1400 ∧ leNat (x.take 4) = tk % 2 ^ 32 ∧ leNat (sub x 8 8) = seq % 2 ^ 64 ∧ leNat (sub x 16 4) = b.length % 2 ^ 32) ∧
  (∀ (s : State) (tk op : Nat) (f : Ticket → State), s.ticket tk op = none → s.onTicket tk op f = s)

/-- Writing an account cell gives that cell on a read and leaves every other cell; and if the listed cells rise strictly in number and none is all-
default, they still do afterwards (an all-default cell is not listed). -/
def Obligations.AccountCellsAreKeptCanonical : Prop :=
  (∀ (s : State) (c d : Nat) (v : Cell), (s.ac.cells.map (·.1)).Pairwise (· < ·) →
    (s.putCell c v).cell d = if d = c then v else s.cell d) ∧
  (∀ (s : State) (c : Nat) (v : Cell), (s.ac.cells.map (·.1)).Pairwise (· < ·) → (∀ x ∈ s.ac.cells, x.2 ≠ {}) →
    ((s.putCell c v).ac.cells.map (·.1)).Pairwise (· < ·) ∧ ∀ x ∈ (s.putCell c v).ac.cells, x.2 ≠ {})

/-- A tick of CLK_MET in RUN, PARK or DOZE adds 20 ns or 21 ns to TIME and keeps the fraction, 20 ns and 265/768 ns in all; TIME stands in DORMANT and
OFF. Replicas are set to TIME once 1 us has passed. An anchor pair is taken 1 s after the last, the old one kept; a real-time clock whose oscillator
has stopped gains nothing. A fault of a shared die other than the Graver and the switches acts as dieFails says; a switch die faults its eight pulse
inputs besides; a Graver fault is a failed self-check. -/
def Obligations.TimeAndSharedDies : Prop :=
  (∀ s : State, s.pw.state ≤ 2 → s.clock.frac < 768 →
    768 * s.tick.clock.time + s.tick.clock.frac = 768 * s.clock.time + s.clock.frac + 15625 ∧ s.tick.clock.frac < 768) ∧
  (∀ s : State, 2 < s.pw.state → s.tick = s) ∧
  (∀ (s : State),
    s.clock.replicaAt + 1000 ≤ s.now →
    exec (.timeReplicaRealign) s = .next (s.after ({ s with clock := { s.clock with replicas := s.clock.replicas.map fun _ => s.now, replicaAt := s.now } }))) ∧
  (∀ (s : State) (d : Int),
    s.clock.anchorTime + sec 1 ≤ s.now →
    ∃ t, exec (.legalAnchor d) s = .next (s.after t) ∧ t.clock.anchorTime = s.now ∧ t.clock.prevTime = s.clock.anchorTime ∧ t.clock.prevLegal = s.clock.anchorLegal ∧ (s.clock.rtcOk = false → t.clock.anchorLegal = s.legal) ∧ t.clock.rtcSetDue = none) ∧
  (∀ (s : State) (d : Nat),
    2 ≤ d ∧ d < 8 ∨ d = 13 →
    exec (.sharedDieFault d) s = .next (s.after (s.dieFails d))) ∧
  (∀ (s : State),
    exec (.sharedDieFault 8) s = .next (s.after ((s.onGrv fun v => { v with selfFail := true }).withPermits fun s => s.dieFails 8))) ∧
  (∀ (s : State) (d : Nat),
    9 ≤ d →
    d ≤ 12 →
    exec (.sharedDieFault d) s = .next (s.after ((List.range 8).foldl (fun (s : State) j => s.pulseFails (8 * (d - 9) + j) 3) (s.dieFails d)))) ∧
  (∀ (s : State) (d : Nat), s.dieBad d = true → s.dieFails d = s)

/-- For every bound port of R57 (HP0 0, HP1 1, HP2 2, monitor 3) and every request its role and port may send, that the variant has the unit for and that
no named BUSY condition meets: with fewer than 256 tickets outstanding and the session's serial in 1 to 0x0FFF_FFFF it is accepted; the ticket's bits
31:28 are the port, its bits 27:0 the serial, and it is below 2^32; afterwards the session has one more outstanding ticket, at most 256, and its
serial is one more, or 1 after 0x0FFF_FFFF, so again in 1 to 0x0FFF_FFFF. With 256 outstanding it is refused with NO_RESOURCE, for a unit the variant
lacks with NOT_SUPPORTED, in a BUSY condition its chapter names with BUSY, each without a ticket, and nothing changes. At bind the serial of the new
session is 1 and BOUND gives SERIAL_START 1. -/
def Obligations.TicketsCarryPortAndSerial : Prop :=
  (∀ (s : State) (p op : Nat) (c : Session) (roles : List Role) (tag : Nat) (arg : Bytes),
    s.sess p = some c → rolesOf op = some roles → c.role ∈ roles → p ≤ 3 → ¬ (p = 2 ∧ hp2Bars op) → ¬ (p = 3 ∧ monitorBars op) →
    s.variantLacks op arg = false → s.busyAt op arg = false → c.outstanding.length < 256 → 1 ≤ c.serial → c.serial ≤ 0x0FFFFFFF →
    (s.acceptReq p op tag arg).2.1 = St.accepted ∧ (s.acceptReq p op tag arg).2.2 / 2 ^ 28 = p ∧ (s.acceptReq p op tag arg).2.2 % 2 ^ 28 = c.serial ∧
    (s.acceptReq p op tag arg).2.2 < 2 ^ 32 ∧ (s.acceptReq p op tag arg).2.2 % 2 ^ 28 ≠ 0 ∧
    ∃ d, (s.acceptReq p op tag arg).1.sess p = some d ∧ d.outstanding.length = c.outstanding.length + 1 ∧ d.outstanding.length ≤ 256 ∧
      d.serial = (if c.serial = 0x0FFFFFFF then 1 else c.serial + 1) ∧ 1 ≤ d.serial ∧ d.serial ≤ 0x0FFFFFFF) ∧
  (∀ (s : State) (p op : Nat) (c : Session) (roles : List Role) (tag : Nat) (arg : Bytes),
    s.sess p = some c → rolesOf op = some roles → c.role ∈ roles → p ≤ 3 → ¬ (p = 2 ∧ hp2Bars op) → ¬ (p = 3 ∧ monitorBars op) →
    s.variantLacks op arg = false → 256 ≤ c.outstanding.length → s.acceptReq p op tag arg = (s, St.noResource, 0)) ∧
  (∀ (s : State) (p op : Nat) (c : Session) (roles : List Role) (tag : Nat) (arg : Bytes),
    s.sess p = some c → rolesOf op = some roles → c.role ∈ roles → p ≤ 3 → ¬ (p = 2 ∧ hp2Bars op) → ¬ (p = 3 ∧ monitorBars op) →
    s.variantLacks op arg = true → s.acceptReq p op tag arg = (s, St.notSupported, 0)) ∧
  (∀ (s : State) (p op : Nat) (c : Session) (roles : List Role) (tag : Nat) (arg : Bytes),
    s.sess p = some c → rolesOf op = some roles → c.role ∈ roles → p ≤ 3 → ¬ (p = 2 ∧ hp2Bars op) → ¬ (p = 3 ∧ monitorBars op) →
    s.variantLacks op arg = false → c.outstanding.length < 256 → s.busyAt op arg = true → s.acceptReq p op tag arg = (s, St.busy, 0)) ∧
  (∀ (s : State) (p : Nat) (b : Bind), p < s.host.ports.length →
    ((s.bound p b).port p).session.map (·.serial) = some 1 ∧ ((s.bound p b).port p).bind = none ∧
    ∃ f, ((s.bound p b).port p).outbox = (s.port p).outbox ++ [f] ∧ f.typ = 5 ∧ f.session = b.sid ∧ leNat (sub f.payload 8 4) = 1)

/-- For every state, every lane the module holds and every lane state: after the lane enters it, the lane stands in that state, the state before is the
one it left, its entry TIME is now in ns and in ms, the last cause recorded is the trigger's (the old one when the trigger carries none); the state,
previous state, cause and entry TIME of every other lane are unchanged. -/
def Obligations.LaneEntryMovesOneLane : Prop :=
  (∀ (s : State) (n : Nat) (st : LState) (c : Cause) (cls : EvClass), n < s.lanes.length →
    let u := (s.enter n st c cls).lane n
    u.st = st ∧ u.prev = (s.lane n).st ∧ u.entryAt = s.now ∧ u.entryMs = s.nowMs ∧ u.cause = (if c = .none then (s.lane n).cause else c)) ∧
  (∀ (s : State) (n m : Nat) (st : LState) (c : Cause) (cls : EvClass), n ≠ m →
    let u := (s.enter n st c cls).lane m
    u.st = (s.lane m).st ∧ u.prev = (s.lane m).prev ∧ u.entryAt = (s.lane m).entryAt ∧ u.cause = (s.lane m).cause)

/-- For every lane and each of its twelve timers: within 200 ns after its expiry the expiry command records the hold and does nothing else; a timer still
running is left alone. -/
def Obligations.TimersWaitTwoHundredNanoseconds : Prop :=
  (∀ (s : State) (n k e : Nat) (b : Bool), (s.lane n).timer k = some e → e ≤ s.now → s.now < e + 200 →
    s.timerEvent n k b = s.onLane n fun l => { l with holds := (l.holds.filter fun x => x.1 != k) ++ [(k, e)] }) ∧
  (∀ (s : State) (n k e : Nat) (b : Bool), (s.lane n).timer k = some e → s.now < e → s.timerEvent n k b = s) ∧
  (∀ (s : State) (n : Nat) (b : Bool),
    exec (.lockPulseExpiry n b) s = .next (s.after (s.timerEvent n Tm.lockPulse b))) ∧
  (∀ (s : State) (n : Nat), exec (.plugExpiry n) s = .next (s.after (s.timerEvent n Tm.plug false))) ∧
  (∀ (s : State) (n : Nat), exec (.settleExpiry n) s = .next (s.after (s.timerEvent n Tm.settle false))) ∧
  (∀ (s : State) (n : Nat), exec (.hostAuthExpiry n) s = .next (s.after (s.timerEvent n Tm.hostAuth false))) ∧
  (∀ (s : State) (n : Nat), exec (.guardWaitExpiry n) s = .next (s.after (s.timerEvent n Tm.guardWait false))) ∧
  (∀ (s : State) (n : Nat), exec (.cableCheckExpiry n) s = .next (s.after (s.timerEvent n Tm.cableCheck false))) ∧
  (∀ (s : State) (n : Nat), exec (.prechargeExpiry n) s = .next (s.after (s.timerEvent n Tm.precharge false))) ∧
  (∀ (s : State) (n : Nat), exec (.rampExpiry n) s = .next (s.after (s.timerEvent n Tm.ramp false))) ∧
  (∀ (s : State) (n : Nat), exec (.weldExpiry n) s = .next (s.after (s.timerEvent n Tm.weld false))) ∧
  (∀ (s : State) (n : Nat), exec (.degradedExpiry n) s = .next (s.after (s.timerEvent n Tm.degraded false))) ∧
  (∀ (s : State) (n : Nat), exec (.suspendExpiry n) s = .next (s.after (s.timerEvent n Tm.suspend false))) ∧
  (∀ (s : State) (n : Nat), exec (.preauthExpiry n) s = .next (s.after (s.timerEvent n Tm.preauth false)))

/-- When the timer of the lane expired 200 ns ago or earlier, the expiry raises LANE_TIMEOUT with the timer and the state it found, stops the timer and
takes the transition with its cause: GUARD_WAIT from NEGOTIATE to UNLOCK and from ISOLATION_TEST or SUSPENDED to OPEN_CHECK (ENERGY_GUARD),
CABLE_CHECK and PRECHARGE to OPEN_CHECK, RAMP to OPEN_CHECK with the forced mark, WELD from OPEN_CHECK to FAULT after WELD_RESULT, SUSPEND to
OPEN_CHECK (HOSTLOSS under the policy suspension, else SUSPEND_EXPIRY). -/
def Obligations.LaneTimersThatEndAStateExpire : Prop :=
  (∀ (s : State) (n e : Nat),
    n < s.lanes.length →
    (s.lane n).timer Tm.guardWait = some e →
    e + 200 ≤ s.now →
    (s.lane n).st = .negotiate →
    exec (.guardWaitExpiry n) s = .next (s.after (((s.evLane .timer n 0x1005 (leBytes 1 4 ++ leBytes 1 LState.negotiate.code)).stopTimer n Tm.guardWait).go n .unlock .energyGuard .timer))) ∧
  (∀ (s : State) (n e : Nat),
    n < s.lanes.length →
    (s.lane n).timer Tm.guardWait = some e →
    e + 200 ≤ s.now →
    (s.lane n).st = .isolationTest →
    exec (.guardWaitExpiry n) s = .next (s.after (((s.evLane .timer n 0x1005 (leBytes 1 4 ++ leBytes 1 LState.isolationTest.code)).stopTimer n Tm.guardWait).go n .openCheck .energyGuard .timer))) ∧
  (∀ (s : State) (n e : Nat),
    n < s.lanes.length →
    (s.lane n).timer Tm.guardWait = some e →
    e + 200 ≤ s.now →
    (s.lane n).st = .suspended →
    exec (.guardWaitExpiry n) s = .next (s.after (((s.evLane .timer n 0x1005 (leBytes 1 4 ++ leBytes 1 LState.suspended.code)).stopTimer n Tm.guardWait).go n .openCheck .energyGuard .timer))) ∧
  (∀ (s : State) (n e : Nat),
    n < s.lanes.length →
    (s.lane n).timer Tm.cableCheck = some e →
    e + 200 ≤ s.now →
    (s.lane n).st = .isolationTest →
    exec (.cableCheckExpiry n) s = .next (s.after (((s.evLane .timer n 0x1005 (leBytes 1 5 ++ leBytes 1 LState.isolationTest.code)).stopTimer n Tm.cableCheck).go n .openCheck .cablecheckTimeout .timer))) ∧
  (∀ (s : State) (n e : Nat),
    n < s.lanes.length →
    (s.lane n).timer Tm.precharge = some e →
    e + 200 ≤ s.now →
    (s.lane n).st = .precharge →
    exec (.prechargeExpiry n) s = .next (s.after (((s.evLane .timer n 0x1005 (leBytes 1 6 ++ leBytes 1 LState.precharge.code)).stopTimer n Tm.precharge).go n .openCheck .prechargeTimeout .timer))) ∧
  (∀ (s : State) (n e : Nat),
    n < s.lanes.length →
    (s.lane n).timer Tm.ramp = some e →
    e + 200 ≤ s.now →
    (s.lane n).st = .rampDown →
    exec (.rampExpiry n) s = .next (s.after ((((s.evLane .timer n 0x1005 (leBytes 1 7 ++ leBytes 1 LState.rampDown.code)).stopTimer n Tm.ramp).onLane n fun l => { l with rampForced := true }).go n .openCheck .none .timer))) ∧
  (∀ (s : State) (n e : Nat),
    n < s.lanes.length →
    (s.lane n).timer Tm.weld = some e →
    e + 200 ≤ s.now →
    (s.lane n).st = .openCheck →
    exec (.weldExpiry n) s = .next (s.after (((((s.evLane .timer n 0x1005 (leBytes 1 8 ++ leBytes 1 LState.openCheck.code)).stopTimer n Tm.weld).onPp n fun p => { p with weld := 2 }).evLane .external n 0x1202 (leBytes 1 1 ++ leBytes 1 (State.weldSuspect (((s.evLane .timer n 0x1005 (leBytes 1 8 ++ leBytes 1 LState.openCheck.code)).stopTimer n Tm.weld).onPp n fun p => { p with weld := 2 }) n) ++ leBytes 2 (s.lane n).uOut ++ leBytes 2 0)).go n .fault .weld .timer))) ∧
  (∀ (s : State) (n e : Nat),
    n < s.lanes.length →
    (s.lane n).timer Tm.suspend = some e →
    e + 200 ≤ s.now →
    (s.lane n).st = .suspended →
    exec (.suspendExpiry n) s = .next (s.after (((s.evLane .timer n 0x1005 (leBytes 1 10 ++ leBytes 1 LState.suspended.code)).stopTimer n Tm.suspend).go n .openCheck (if (s.lane n).suspPolicy then .hostloss else .suspendExpiry) .timer)))

/-- When the timer of the lane expired 200 ns ago or earlier: PLUG takes a lane before its session with the vehicle gone (state A) to UNLOCK and a
suspended or ramping AC lane to OPEN_CHECK, both with cause UNPLUG, an unlocked lane in UNLOCK with the vehicle gone to IDLE (or, a trigger standing,
FAULT), and an IDLE lane that charges, not pending, its plate store sound and its pilot not in state A out of IDLE into use; SETTLE takes PLUGGED to
UNLOCK with LOCK_FAULT or CABLE; HOST_AUTH counts as a refusal and leaves no answer awaited in a lane that goes to IDENTIFY or UNLOCK; DEGRADED takes
the lane to RAMP_DOWN, or on to OPEN_CHECK when its current is gone; PREAUTH drops the credential held and moves no lane. -/
def Obligations.LaneTimersOfConnectionExpire : Prop :=
  (∀ (s : State) (n e : Nat),
    n < s.lanes.length →
    (s.lane n).timer Tm.plug = some e →
    e + 200 ≤ s.now →
    (s.lane n).st = .plugged →
    (s.lane n).pilot = .a →
    exec (.plugExpiry n) s = .next (s.after (((s.evLane .timer n 0x1005 (leBytes 1 1 ++ leBytes 1 LState.plugged.code)).stopTimer n Tm.plug).go n .unlock .unplug .external))) ∧
  (∀ (s : State) (n e : Nat),
    n < s.lanes.length →
    (s.lane n).timer Tm.plug = some e →
    e + 200 ≤ s.now →
    (s.lane n).st = .identify →
    (s.lane n).pilot = .a →
    exec (.plugExpiry n) s = .next (s.after (((s.evLane .timer n 0x1005 (leBytes 1 1 ++ leBytes 1 LState.identify.code)).stopTimer n Tm.plug).go n .unlock .unplug .external))) ∧
  (∀ (s : State) (n e : Nat),
    n < s.lanes.length →
    (s.lane n).timer Tm.plug = some e →
    e + 200 ≤ s.now →
    (s.lane n).st = .authorise →
    (s.lane n).pilot = .a →
    exec (.plugExpiry n) s = .next (s.after (((s.evLane .timer n 0x1005 (leBytes 1 1 ++ leBytes 1 LState.authorise.code)).stopTimer n Tm.plug).go n .unlock .unplug .external))) ∧
  (∀ (s : State) (n e : Nat),
    n < s.lanes.length →
    (s.lane n).timer Tm.plug = some e →
    e + 200 ≤ s.now →
    (s.lane n).st = .negotiate →
    (s.lane n).pilot = .a →
    exec (.plugExpiry n) s = .next (s.after (((s.evLane .timer n 0x1005 (leBytes 1 1 ++ leBytes 1 LState.negotiate.code)).stopTimer n Tm.plug).go n .unlock .unplug .external))) ∧
  (∀ (s : State) (n e : Nat),
    n < s.lanes.length →
    (s.lane n).timer Tm.plug = some e →
    e + 200 ≤ s.now →
    (s.lane n).st = .suspended →
    (s.lane n).pilot = .a →
    (s.typ n).isAc = true →
    exec (.plugExpiry n) s = .next (s.after (((s.evLane .timer n 0x1005 (leBytes 1 1 ++ leBytes 1 LState.suspended.code)).stopTimer n Tm.plug).go n .openCheck .unplug .external))) ∧
  (∀ (s : State) (n e : Nat),
    n < s.lanes.length →
    (s.lane n).timer Tm.plug = some e →
    e + 200 ≤ s.now →
    (s.lane n).st = .rampDown →
    (s.lane n).pilot = .a →
    (s.typ n).isAc = true →
    exec (.plugExpiry n) s = .next (s.after (((s.evLane .timer n 0x1005 (leBytes 1 1 ++ leBytes 1 LState.rampDown.code)).stopTimer n Tm.plug).go n .openCheck .unplug .external))) ∧
  (∀ (s : State) (n e : Nat),
    n < s.lanes.length →
    (s.lane n).timer Tm.plug = some e →
    e + 200 ≤ s.now →
    (s.lane n).st = .unlock →
    (s.lane n).pilot = .a →
    (s.lane n).unlockDue = false →
    (s.lane n).pulsing = false →
    ∃ t, exec (.plugExpiry n) s = .next (s.after t) ∧ ((t.lane n).st = .idle ∨ (t.lane n).st = .fault)) ∧
  (∀ (s : State) (n e : Nat),
    n < s.lanes.length →
    (s.lane n).timer Tm.plug = some e →
    e + 200 ≤ s.now →
    (s.lane n).st = .idle →
    (s.lane n).pilot = .b →
    (s.typ n).charges = true →
    s.dieBad 13 = false →
    s.isPending n = false →
    ∃ t, exec (.plugExpiry n) s = .next (s.after t) ∧ (t.lane n).st ≠ .idle ∧ (t.lane n).st ≠ .offline) ∧
  (∀ (s : State) (n e : Nat),
    n < s.lanes.length →
    (s.lane n).timer Tm.settle = some e →
    e + 200 ≤ s.now →
    (s.lane n).st = .plugged →
    exec (.settleExpiry n) s = .next (s.after (((s.evLane .timer n 0x1005 (leBytes 1 2 ++ leBytes 1 LState.plugged.code)).stopTimer n Tm.settle).go n .unlock (if s.ppValid n then .lockFault else .cable) .timer))) ∧
  (∀ (s : State) (n e : Nat),
    n < s.lanes.length →
    (s.lane n).timer Tm.hostAuth = some e →
    e + 200 ≤ s.now →
    (s.lane n).st = .authorise →
    (s.lane n).awaiting = true →
    (s.lane n).held = none →
    (s.lane n).authMode ≠ 3 →
    ∃ t, exec (.hostAuthExpiry n) s = .next (s.after t) ∧ ((t.lane n).st = .identify ∨ (t.lane n).st = .unlock) ∧ (t.lane n).awaiting = false) ∧
  (∀ (s : State) (n e : Nat),
    n < s.lanes.length →
    (s.lane n).timer Tm.degraded = some e →
    e + 200 ≤ s.now →
    (s.lane n).st = .degraded →
    ∃ t, exec (.degradedExpiry n) s = .next (s.after t) ∧ ((t.lane n).st = .rampDown ∨ (t.lane n).st = .openCheck)) ∧
  (∀ (s : State) (n e : Nat),
    n < s.lanes.length →
    (s.lane n).timer Tm.preauth = some e →
    e + 200 ≤ s.now →
    exec (.preauthExpiry n) s = .next (s.after ((s.stopTimer n Tm.preauth).onLane n fun l => { l with held := none })))

/-- For an accepted request that names a lane of the module that is not pending and charges (for LANE_DISABLE, LANE_ENABLE and LANE_INFO a METER lane
too): LANE_START presents a host token to a lane in IDLE to AUTHORISE; LANE_STOP stops the lane with HOST_STOP; LANE_AUTHORISE accepts (answer 0) or
refuses (1) a lane in AUTHORISE that awaits its host, in time, naming no cell or a used one; LANE_SUSPEND suspends a lane in ENERGY or SUSPENDED;
LANE_RESUME ends the host suspension; LANE_CLEAR clears the latching causes of a lane in FAULT (WELD in the SERVICE role); LANE_DISABLE takes a lane
in IDLE or FAULT to OFFLINE; LANE_ENABLE takes a disabled OFFLINE lane to IDLE and ends its test mode; LANE_INFO returns the four lane registers. Each
completes OK. -/
def Obligations.LaneRequestsMoveTheLane : Prop :=
  (∀ (s : State) (tk : Nat) (t : Ticket),
    s.ticket tk 0x0201 = some t →
    s.nLanes > t.u 0 1 →
    s.isPending (t.u 0 1) = false →
    (s.typ (t.u 0 1)).charges = true →
    (s.lane (t.u 0 1)).st ∈ [LState.idle, .plugged, .identify, .authorise] →
    exec (.laneStart tk) s = .next (s.after ((s.present [t.u 0 1] { src := 4, ident := sub t.arg 1 8, time := t.acceptTime } .host).complete t St.ok))) ∧
  (∀ (s : State) (tk : Nat) (t : Ticket),
    s.ticket tk 0x0202 = some t →
    s.nLanes > t.u 0 1 →
    s.isPending (t.u 0 1) = false →
    (s.typ (t.u 0 1)).charges = true →
    exec (.laneStop tk) s = .next (s.after ((s.stopLane (t.u 0 1) .hostStop .host).complete t St.ok))) ∧
  (∀ (s : State) (tk : Nat) (t : Ticket),
    s.ticket tk 0x0203 = some t →
    s.nLanes > t.u 0 1 →
    s.isPending (t.u 0 1) = false →
    (s.typ (t.u 0 1)).charges = true →
    t.u 1 1 = 0 →
    (s.lane (t.u 0 1)).st = .authorise →
    (s.lane (t.u 0 1)).awaiting = true →
    (s.lane (t.u 0 1)).late Tm.hostAuth t.acceptTime = false →
    t.u 2 4 = 0xFFFFFFFF ∨ (s.cell (t.u 2 4)).used = true →
    exec (.laneAuthorise tk) s = .next (s.after (((s.authAccept (t.u 0 1) 1 (t.u 2 4) .host).advance (t.u 0 1) .host).complete t St.ok))) ∧
  (∀ (s : State) (tk : Nat) (t : Ticket),
    s.ticket tk 0x0203 = some t →
    s.nLanes > t.u 0 1 →
    s.isPending (t.u 0 1) = false →
    (s.typ (t.u 0 1)).charges = true →
    t.u 1 1 = 1 →
    (s.lane (t.u 0 1)).st = .authorise →
    (s.lane (t.u 0 1)).awaiting = true →
    (s.lane (t.u 0 1)).late Tm.hostAuth t.acceptTime = false →
    t.u 2 4 = 0xFFFFFFFF ∨ (s.cell (t.u 2 4)).used = true →
    exec (.laneAuthorise tk) s = .next (s.after (((s.authRefuse (t.u 0 1) 1 1 (t.u 2 4) .host).advance (t.u 0 1) .host).complete t St.ok))) ∧
  (∀ (s : State) (tk : Nat) (t : Ticket),
    s.ticket tk 0x0204 = some t →
    s.nLanes > t.u 0 1 →
    s.isPending (t.u 0 1) = false →
    (s.typ (t.u 0 1)).charges = true →
    (s.lane (t.u 0 1)).st = .energy ∨ (s.lane (t.u 0 1)).st = .suspended →
    exec (.laneSuspend tk) s = .next (s.after ((s.suspend (t.u 0 1) .host .host).complete t St.ok))) ∧
  (∀ (s : State) (tk : Nat) (t : Ticket),
    s.ticket tk 0x0205 = some t →
    s.nLanes > t.u 0 1 →
    s.isPending (t.u 0 1) = false →
    (s.typ (t.u 0 1)).charges = true →
    (s.lane (t.u 0 1)).suspHost = true →
    exec (.laneResume tk) s = .next (s.after ((s.unsuspend (t.u 0 1) .host .host).complete t St.ok))) ∧
  (∀ (s : State) (tk : Nat) (t : Ticket),
    s.ticket tk 0x0206 = some t →
    s.nLanes > t.u 0 1 →
    s.isPending (t.u 0 1) = false →
    (s.typ (t.u 0 1)).charges = true →
    (s.lane (t.u 0 1)).st = .fault →
    (s.lane (t.u 0 1)).causes.contains .weld = false ∨ t.role = .service →
    exec (.laneClear tk) s = .next (s.after ((((s.lane (t.u 0 1)).causes.filter Cause.latching).foldl (fun s c => s.clearCause (t.u 0 1) c 1) s).complete t St.ok))) ∧
  (∀ (s : State) (tk : Nat) (t : Ticket),
    s.ticket tk 0x0207 = some t →
    s.nLanes > t.u 0 1 →
    s.isPending (t.u 0 1) = false →
    (s.typ (t.u 0 1)).isLane = true →
    (s.lane (t.u 0 1)).st = .idle ∨ (s.lane (t.u 0 1)).st = .fault →
    exec (.laneDisable tk) s = .next (s.after (((s.onLane (t.u 0 1) fun l => { l with enable := false }).go (t.u 0 1) .offline .none .host).complete t St.ok))) ∧
  (∀ (s : State) (tk : Nat) (t : Ticket),
    s.ticket tk 0x0208 = some t →
    s.nLanes > t.u 0 1 →
    s.isPending (t.u 0 1) = false →
    (s.typ (t.u 0 1)).isLane = true →
    (s.lane (t.u 0 1)).st = .offline →
    (s.lane (t.u 0 1)).enable = false →
    exec (.laneEnable tk) s = .next (s.after ((((s.endTest (t.u 0 1)).onLane (t.u 0 1) fun l => { l with enable := true }).go (t.u 0 1) .idle .none .host).complete t St.ok))) ∧
  (∀ (s : State) (tk : Nat) (t : Ticket),
    s.ticket tk 0x0209 = some t →
    s.nLanes > t.u 0 1 →
    s.isPending (t.u 0 1) = false →
    (s.typ (t.u 0 1)).isLane = true →
    exec (.laneInfo tk) s = .next (s.after (s.complete t St.ok (s.laneInfo (t.u 0 1)))))

/-- A plateau pair shows in HS_PILOT and, in a new band, waits for its confirmation from now; a band held for 1.0 ms reaches the lane with its stamp (and
a plug-in fires the wake sources); a pending level takes effect when its TIME has come; a generator not yet folded back folds back and counts; a
folded-back one tests its line once per second and resumes below 10 mA; a reading of PP outside PLUGGED to SUSPENDED shows at once; a code held 20 ms
replaces the old one and, below the rating in force, from IDENTIFY to SUSPENDED raises PP_CHANGED. What the lane does then is in other statements. -/
def Obligations.PilotAndProximityMeasurements : Prop :=
  (∀ (s : State) (n : Nat) (pos neg : Option Int),
    n < s.hs.lanes.length →
    measuredPilot (s.lane n).cp (s.lane n).pilot pos neg ≠ (s.lane n).pilot →
    (s.hsl n).p.cand = none →
    ∃ t, exec (.pilotStateChange n pos neg) s = .next (s.after t) ∧ (t.hsl n).p.posMv = pos.getD 0 ∧ (t.hsl n).p.negMv = neg.getD 0 ∧ (t.hsl n).p.cand = some (measuredPilot (s.lane n).cp (s.lane n).pilot pos neg, s.now)) ∧
  (∀ (s : State) (n : Nat) (q : Pilot) (c : Nat),
    (s.hsl n).p.cand = some (q, c) →
    c + ms 1 ≤ s.now →
    ((s.lane n).pilot == .a && q == .b && (s.typ n).charges) = false →
    exec (.pilotConfirm n) s = .next (s.after ((s.onPilot n fun p => { p with cand := none }).pilotArrives n q c))) ∧
  (∀ (s : State) (n c : Nat),
    (s.hsl n).p.cand = some (.b, c) →
    c + ms 1 ≤ s.now →
    (s.lane n).pilot = .a →
    (s.typ n).charges = true →
    exec (.pilotConfirm n) s = .next (s.after (((s.sourceFires 3 n).onPilot n fun p => { p with cand := none }).pilotArrives n .b c))) ∧
  (∀ (s : State) (n : Nat) (m : CpMode) (d e : Nat),
    (s.lane n).cpNext = some (m, d, e) →
    e ≤ s.now →
    exec (.dutyChange n) s = .next (s.after (s.onLane n fun l => l.drives m d))) ∧
  (∀ (s : State) (n : Nat),
    (s.hsl n).p.folded = false →
    exec (.pilotFoldback n) s = .next (s.after ((s.onPilot n fun p => { p with folded := true, testAt := s.now + sec 1 }).onCnt n fun c => { c with pilotInvalid := satU 16 (c.pilotInvalid + 1) }))) ∧
  (∀ (s : State) (n : Nat) (b : Bool),
    (s.hsl n).p.folded = true →
    (s.hsl n).p.testAt ≤ s.now →
    exec (.foldbackTest n b) s = .next (s.after (s.onPilot n fun p => { p with folded := !b, testAt := s.now + sec 1 }))) ∧
  (∀ (s : State) (n r : Nat),
    (s.slot n).connector ≠ 0 →
    (s.typ n).charges = true →
    (s.lane n).st = .idle →
    r ≤ 10000 →
    exec (.ppMeasurement n (some r)) s = .next (s.after (s.onPilot n fun p => { p with ppOhm := r, ppCode := ppDecode (s.slot n).connector (some r), ppPend := none }))) ∧
  (∀ (s : State) (n k e : Nat),
    n < s.hs.lanes.length →
    (s.hsl n).p.ppPend = some (k, e) →
    e + ms 20 ≤ s.now →
    k ≠ 7 →
    LState.between .identify .suspended (s.lane n).st = false →
    ∃ t, exec (.ppCodeHold n) s = .next (s.after t) ∧ (t.hsl n).p.ppCode = k ∧ (t.hsl n).p.ppPend = none) ∧
  (∀ (s : State) (n k e : Nat),
    (s.hsl n).p.ppPend = some (k, e) →
    e + ms 20 ≤ s.now →
    1 ≤ k →
    k ≤ 4 →
    (s.hsl n).p.ppRating = 0 →
    LState.between .identify .suspended (s.lane n).st = true →
    exec (.ppCodeHold n) s = .next (s.after ((s.onPilot n fun p => { p with ppCode := k, ppPend := none }).evLane .external n 0x1106 (leBytes 1 (s.hsl n).p.ppCode ++ leBytes 1 k ++ leBytes 2 (s.hsl n).p.ppOhm))))

/-- FAULT_EXIT takes a lane in FAULT whose causes have all cleared, whose outlet has been below 60 V for 1 s, with no lock pulse running or due and its
pilot in state A for 10 ms, to IDLE (or, a trigger standing, back to FAULT); FAULT_PILOT_RELEASE puts S12 on a lane in FAULT that drives F once only
the pilot's hold is missing; PILOT_FAULT_CLEAR clears the pilot fault after 1 s of A, B or C at S12; ENERGY_GUARD_TRUE offers current to a held AC
lane in NEGOTIATE; a suspended AC lane whose 3 s are over opens AC_MAIN. -/
def Obligations.FaultEndsAndGuardReturns : Prop :=
  (∀ (s : State) (n : Nat),
    n < s.lanes.length →
    (s.lane n).st = .fault →
    (s.lane n).causes = [] →
    (s.ppl n).outSrc = 0 →
    s.typ n ≠ .meter →
    s.belowFor n (sec 1) = true →
    (s.lane n).pulsing = false →
    (s.lane n).unlockDue = false →
    (s.lane n).pilot = .a →
    (s.lane n).pilotA = some 0 →
    ms 10 ≤ s.now →
    ∃ t, exec (.faultExit n) s = .next (s.after t) ∧ ((t.lane n).st = .idle ∨ (t.lane n).st = .fault)) ∧
  (∀ (s : State) (n : Nat),
    (s.settleOutput n).lane n = s.lane n →
    (s.lane n).st = .fault →
    (s.lane n).cp = .f →
    (s.settleOutput n).faultClear n = true →
    (s.settleOutput n).typ n ≠ .meter →
    exec (.faultPilotRelease n) s = .next (s.after (((s.settleOutput n).cpS12 n).onLane n fun l => { l with pilotA := none, pilotABC := none }))) ∧
  (∀ (s : State) (n e : Nat),
    (s.lane n).st = .fault →
    (s.lane n).cp = .s12 →
    (s.lane n).pilotABC = some e →
    e + sec 1 ≤ s.now →
    exec (.pilotFaultClear n) s = .next (s.after (s.clearCause n .pilotFault 0))) ∧
  (∀ (s : State) (n : Nat),
    (s.lane n).guardHeld = true →
    s.energyGuard n = true →
    (s.lane n).st = .negotiate →
    exec (.energyGuardTrue n) s = .next (s.after ((((s.onLane n fun l => { l with guardHeld := false }).stopTimer n Tm.guardWait).cpOffer n true).advance n))) ∧
  (∀ (s : State) (n e : Nat),
    (s.lane n).acOpenDue = some e →
    e ≤ s.now →
    (s.lane n).st = .suspended →
    exec (.suspendAcOpenTimer n) s = .next (s.after (s.openSuspended n))) ∧
  (∀ (s : State) (n k e : Nat) (b : Bool),
    (k, e) ∈ (s.lane n).holds →
    e + 200 ≤ s.now →
    exec (.timeoutHoldEnd n k b) s = .next (s.after (s.expire n k b))) ∧
  (∀ (s : State) (n e k : Nat) (b : Bool),
    (s.lane n).timer Tm.lockPulse = some e →
    e + 200 ≤ s.now →
    (s.lane n).st = .openCheck →
    s.chanOf n 5 = some k →
    s.lockInput n = none →
    (s.ppl n).relock = false →
    exec (.lockPulseExpiry n b) s = .next (s.after (((((s.stopTimer n Tm.lockPulse).command k false).onCh k fun c => { c with pulseEnd := none }).lockDecided n b).tryUnlock n)))

/-- CM_SLAC_PARM.REQ heard by candidates opens one run of those candidates with the vehicle's MAC, the next number of its runs and no sound yet;
CM_START_ATTEN_CHAR.IND stamps the run once; a sound before the tenth and within 600 ms adds its attenuations, 80 dB for each of the 58 groups of a
lane that did not hear it; the tenth sound or 600 ms ends the sounding with the decision of the run, which with fewer than 3 sounds is ambiguous with
reason 2; CM_VALIDATE to the chosen lane with a count equal to the vehicle's is answered Ready; CM_SLAC_MATCH.REQ associates the chosen lane with the
vehicle's MAC, opens the 20 s of communication set-up, and ends the run. -/
def Obligations.SlacRunsAssociateOneLane : Prop :=
  (∀ (s : State) (id mac : Nat) (heard : List Nat),
    (((List.range 64).filter fun n => s.slacCandidate n heard) ≠ []) →
    ∃ t, exec (.cmSlacParmReq id mac heard) s = .next (s.after t) ∧ (∃ r ∈ t.hs.runs, r.runId = id ∧ r.mac = mac ∧ r.sounds = 0 ∧ r.firstAt = none ∧ r.cands = (List.range 64).filter fun n => s.slacCandidate n heard)) ∧
  (∀ (s : State) (id : Nat) (r : Slac),
    s.run id = some r →
    r.firstAt = none →
    ∃ t, exec (.cmStartAttenCharInd id) s = .next (s.after t) ∧ (t.run id).bind (·.firstAt) = some s.now) ∧
  (∀ (s : State) (id e : Nat) (att : List Nat) (r : Slac),
    s.run id = some r →
    r.firstAt = some e →
    r.sounds < 10 →
    s.now < e + ms 600 →
    r.chosen = none →
    exec (.cmMnbcSound id att) s = .next (s.after (s.onRun id fun r => { r with sounds := r.sounds + 1, att := (List.range 64).map fun n => r.att.getD n 0 + att.getD n (80 * 58) }))) ∧
  (∀ (s : State) (id e : Nat) (r : Slac),
    s.run id = some r →
    r.firstAt = some e →
    r.chosen = none →
    r.sounds = 10 ∨ e + ms 600 ≤ s.now →
    exec (.soundingEnd id) s = .next (s.after (s.decideRun r))) ∧
  (∀ (s : State) (r : Slac), r.sounds < 3 → ∃ r', s.decideRun r = s.drawn.ambiguous r' 2 ∧ r'.runId = r.runId ∧ r'.cands = r.cands) ∧
  (∀ (s : State) (id n v : Nat) (r : Slac),
    s.run id = some r →
    r.chosen = some n →
    exec (.cmValidate id n v v) s = .next (s.after (s.tell n Msg.validateCnf (leBytes 8 id)))) ∧
  (∀ (s : State) (id n : Nat) (r : Slac),
    n < s.hs.lanes.length →
    s.run id = some r →
    r.chosen = some n →
    s.kv.rngFail = false →
    ∃ t, exec (.cmSlacMatchReq id n) s = .next (s.after t) ∧ (t.hsl n).l.assoc = 3 ∧ (t.hsl n).l.evMac = r.mac ∧ (t.hsl n).l.setupEnd = some (s.now + sec 20) ∧ (t.hsl n).c.slacWon = satU 16 ((s.hsl n).c.slacWon + 1) ∧ t.run id = none)

/-- A preamble that finds an engine free takes it and the end of its frame frees it. The window that ends without an association is an HLC timeout (reason
6) of a DC lane and the basic path of an AC lane with fallback; the 3 s at S12 end by offering current under the guard; a lost link ends the session
with reason 4 and is a session failure; discovery is answered with the security asked for; a TLS handshake that succeeds marks the lane, one that
fails counts, reports its alert and is a session failure; the communication set-up and sequence timeouts, 200 ns after their ends, are HLC timeouts
with reasons 2 and 1. -/
def Obligations.HandshakeLinkAndSessionEnds : Prop :=
  (∀ (s : State) (die n e : Nat) (heard : List (Nat × Nat)),
    (strongest (heard.filter fun x => s.hears x.1 && x.1 / 32 == die) = some n) →
    s.freeEngine die n = some e →
    exec (.preambleDetected die heard) s = .next (s.after ({ s with hs := { s.hs with engBusy := s.hs.engBusy.set e true } }))) ∧
  (∀ (s : State) (e : Nat),
    exec (.hpavFrameReceived e) s = .next (s.after ({ s with hs := { s.hs with engBusy := s.hs.engBusy.set e false } }))) ∧
  (∀ (s : State) (n w : Nat),
    (s.hsl n).l.windowStart = some w →
    (s.hsl n).l.assoc ≠ 3 →
    (s.lane n).hlc = true →
    w + sec s.cfg.window ≤ s.now →
    LState.between .plugged .negotiate (s.lane n).st = true →
    (s.typ n).isAc = false →
    exec (.associationWindowEnd n) s = .next (s.after ((s.onLink n fun h => { h with windowStart := none, assoc := 4 }).hlcTimeout n 6))) ∧
  (∀ (s : State) (n w : Nat),
    (s.hsl n).l.windowStart = some w →
    (s.hsl n).l.assoc ≠ 3 →
    (s.lane n).hlc = true →
    w + sec s.cfg.window ≤ s.now →
    LState.between .plugged .negotiate (s.lane n).st = true →
    (s.typ n).isAc = true →
    (s.hsl n).l.tFallback = true →
    exec (.associationWindowEnd n) s = .next (s.after ((((((s.onLink n fun h => { h with windowStart := none, assoc := 4 }).onLane n fun l => { l with hlc := false }).cpS12 n).onLink n fun h => { h with fallbackEnd := some (s.now + sec 3) }).onCnt n fun c => { c with fallback := satU 16 (c.fallback + 1) })))) ∧
  (∀ (s : State) (n e : Nat),
    (s.hsl n).l.fallbackEnd = some e →
    e ≤ s.now →
    (s.lane n).st = .negotiate →
    exec (.acFallbackEnd n) s = .next (s.after ((s.onLink n fun h => { h with fallbackEnd := none }).cpOffer n ((s.onLink n fun h => { h with fallbackEnd := none }).energyGuard n)))) ∧
  (∀ (s : State) (n : Nat),
    (s.lane n).hlc = true →
    (s.hsl n).l.assoc = 3 →
    (s.lane n).st = .energy →
    exec (.hlcLinkLoss n true) s = .next (s.after (((s.onLink n fun h => { h with assoc := 0 }).hlcEnd n 4).hlcFailure n))) ∧
  (∀ (s : State) (n : Nat),
    (s.lane n).hlc = true →
    (s.hsl n).l.assoc = 3 →
    (s.lane n).st = .negotiate →
    exec (.hlcLinkLoss n false) s = .next (s.after (s.onLink n fun h => { h with assoc := 0, windowStart := some s.now }))) ∧
  (∀ (s : State) (n : Nat) (b : Bool),
    (s.hsl n).l.assoc = 3 →
    exec (.seccDiscovery n b) s = .next (s.after (s.tell n Msg.seccDiscovery (leBytes 1 (b2n b))))) ∧
  (∀ (s : State) (n version node : Nat),
    n < s.hs.lanes.length →
    (s.hsl n).l.assoc = 3 →
    s.isOrphan node = false →
    s.kv.rngFail = false →
    version = 3 →
    ∃ t, exec (.tlsHandshake n version node none) s = .next (s.after t) ∧ (t.hsl n).l.tls = true) ∧
  (∀ (s : State) (n node a g : Nat),
    (s.hsl n).l.assoc = 3 →
    s.isOrphan node = false →
    exec (.tlsHandshake n 3 node (some (a, g))) s = .next (s.after (((s.drawn.onCnt n fun c => { c with tlsFail := satU 16 (c.tlsFail + 1) }).evLane .external n 0x1105 (leBytes 1 a ++ leBytes 1 3 ++ leBytes 1 g)).hlcFailure n))) ∧
  (∀ (s : State) (n e : Nat),
    (s.hsl n).l.setupEnd = some e →
    e + 200 ≤ s.now →
    exec (.communicationSetupTimeout n) s = .next (s.after (s.hlcTimeout n 2))) ∧
  (∀ (s : State) (n e : Nat),
    (s.hsl n).l.seqEnd = some e →
    e + 200 ≤ s.now →
    exec (.sequenceTimeout n) s = .next (s.after (s.hlcTimeout n 1)))

/-- A V2G request of an open session that is in time counts, stops the sequence timeout and has its effect when it is in sequence; out of sequence it is a
sequence error (counted, answered, session ended, session failure); in FAULT it is answered with the failure code; a late one changes nothing.
SUPPORTED_APP_PROTOCOL on an associated lane opens the session, and offered DIN SPEC 70121 alone to a DC lane without TLS settles it. A certificate
request raises the reference and waits for the host; a host answer within 4 s goes to the vehicle; after 4 s and 200 ns without one the failure code
does. HS_LANE_READ, HS_COUNT_CLEAR and HS_CERT_FETCH read and clear. -/
def Obligations.VehicleRequestsAreAnswered : Prop :=
  (∀ (s : State) (n stamp : Nat) (r : V2gReq),
    (s.hsl n).l.isOpen = true →
    (s.hsl n).l.seqEnd = none →
    (s.lane n).st ≠ .fault →
    r.inSequence (s.lane n).st (s.hsl n).l.proto (s.typ n).isAc = true →
    exec (.v2gRequest n stamp r) s = .next (s.after (((s.onCnt n fun c => { c with msgRx := satU 32 (c.msgRx + 1) }).onLink n fun l => { l with lastReq := r.code, lastResp := 0xFF, seqEnd := none }).v2g n stamp r))) ∧
  (∀ (s : State) (n stamp : Nat) (r : V2gReq),
    (s.hsl n).l.isOpen = true →
    (s.hsl n).l.seqEnd = none →
    (s.lane n).st ≠ .fault →
    r.inSequence (s.lane n).st (s.hsl n).l.proto (s.typ n).isAc = false →
    exec (.v2gRequest n stamp r) s = .next (s.after (((s.onCnt n fun c => { c with msgRx := satU 32 (c.msgRx + 1) }).onLink n fun l => { l with lastReq := r.code, lastResp := 0xFF, seqEnd := none }).sequenceError n))) ∧
  (∀ (s : State) (n stamp : Nat) (r : V2gReq),
    (s.hsl n).l.isOpen = true →
    (s.hsl n).l.seqEnd = none →
    (s.lane n).st = .fault →
    r ≠ .sessionStop →
    exec (.v2gRequest n stamp r) s = .next (s.after (((s.onCnt n fun c => { c with msgRx := satU 32 (c.msgRx + 1) }).onLink n fun l => { l with lastReq := r.code, lastResp := 0xFF, seqEnd := none }).answer n 2 true))) ∧
  (∀ (s : State) (n stamp e : Nat) (r : V2gReq),
    (s.hsl n).l.seqEnd = some e →
    e < stamp →
    exec (.v2gRequest n stamp r) s = .next (s.after s)) ∧
  (∀ (s : State) (n : Nat),
    n < s.hs.lanes.length →
    (s.hsl n).l.assoc = 3 →
    (s.typ n).isDc = true →
    (s.hsl n).l.tls = false →
    bit (s.hsl n).l.tProto 0 = true →
    ∃ t, exec (.supportedAppProtocol n [1]) s = .next (s.after t) ∧ (t.hsl n).l.proto = 1 ∧ (t.hsl n).l.isOpen = true ∧ (t.hsl n).l.lastReq = 1) ∧
  (∀ (s : State) (n kind : Nat) (exi : Bytes),
    (s.hsl n).l.isOpen = true →
    ∃ t, exec (.certificateRequest n kind exi) s = .next (s.after t) ∧ t.hs.certRef = (s.hs.certRef + 1) % 2 ^ 32 ∧ t.hs.certs = s.hs.certs ++ [{ ref := (s.hs.certRef + 1) % 2 ^ 32, lane := n, kind := kind, proto := (s.hsl n).l.proto, arrived := s.now, exi := exi }]) ∧
  (∀ (s : State) (ref : Nat) (c : CertReq),
    s.certReq ref = some c →
    c.arrived + sec 4 + 200 ≤ s.now →
    exec (.certAnswerTimeout ref) s = .next (s.after (s.certAnswer c none))) ∧
  (∀ (s : State) (tk : Nat) (t : Ticket) (c : CertReq),
    s.ticket tk 0x0213 = some t →
    s.certReq (t.u 0 4) = some c →
    t.u 4 1 = 0 →
    t.acceptTime ≤ c.arrived + sec 4 →
    exec (.hsCertAnswer tk) s = .next (s.after ((s.certAnswer c (some (t.rest 5))).complete t St.ok))) ∧
  (∀ (s : State) (tk : Nat) (t : Ticket) (c : CertReq),
    s.ticket tk 0x0212 = some t →
    s.certReq (t.u 0 4) = some c →
    exec (.hsCertFetch tk) s = .next (s.after (s.complete t St.ok (c.exi.take 8192)))) ∧
  (∀ (s : State) (tk : Nat) (t : Ticket),
    s.ticket tk 0x0210 = some t →
    s.nLanes > t.u 0 1 →
    (s.typ (t.u 0 1)).charges = true →
    exec (.hsLaneRead tk) s = .next (s.after (s.complete t St.ok (s.hsLaneBytes (t.u 0 1))))) ∧
  (∀ (s : State) (tk : Nat) (t : Ticket),
    s.ticket tk 0x0211 = some t →
    s.nLanes > t.u 0 1 →
    (s.typ (t.u 0 1)).charges = true →
    t.u 0 1 ≠ 0xFF →
    exec (.hsCountClear tk) s = .next (s.after ((s.onCnt (t.u 0 1) CntHs.cleared).complete t St.ok))) ∧
  (∀ (s : State) (tk : Nat) (t : Ticket),
    s.ticket tk 0x0211 = some t →
    t.u 0 1 = 0xFF →
    exec (.hsCountClear tk) s = .next (s.after (((List.range 64).foldl (fun (s : State) n => s.onCnt n CntHs.cleared) s).complete t St.ok)))

/-- In ISOLATION_TEST phase 1 ends after 20 ms by closing PRECHARGE and entering phase 2; in phases 3 and 4 a shorted outlet below 20 V is an isolation
hazard after CONTACTOR; a closing command confirmed in time reports its time (DCPOS then opens PRECHARGE 20 ms later, AC_MAIN notes its TIME for the
phase measurement), one not confirmed counts and is an output fault; 20 ms after DCPOS the module goes to current mode with direction import and the
vehicle gets its answer; a power-delivery request held 150 ms is answered FAILED and is a session failure; DCNEG opens 40 ms after OPEN_CHECK entry;
the outlet below 60 V while WELD runs passes the check, and OPEN_CHECK without a cause ends in UNLOCK. -/
def Obligations.ContactorsAndCableCheck : Prop :=
  (∀ (s : State) (n : Nat),
    (s.lane n).st = .isolationTest →
    (s.ppl n).phase = 1 →
    (s.ppl n).phaseAt + ms 20 ≤ s.now →
    exec (.cableCheckPhaseEnd n) s = .next (s.after ((s.contact n 3 true).onPp n fun p => { p with phase := 2, phaseAt := (s.contact n 3 true).now }))) ∧
  (∀ (s : State) (n : Nat),
    (s.lane n).st = .isolationTest →
    (s.ppl n).phase = 3 ∨ (s.ppl n).phase = 4 →
    (s.lane n).uOut < 200 →
    exec (.outletShort n) s = .next (s.after ((s.evContactor n 2 1 2 0).hazard n .isolation))) ∧
  (∀ (s : State) (n e : Nat),
    n < s.pp.lanes.length →
    (s.ppl n).confEnd = some (1, e) →
    s.now ≤ e →
    s.confirms n 1 = true →
    ∃ t, exec (.contactorConfirmed n) s = .next (s.after t) ∧ (t.ppl n).cDcpos = true ∧ (t.ppl n).confEnd = none ∧ (t.ppl n).preOpenDue = some (s.now + ms 20)) ∧
  (∀ (s : State) (n e : Nat),
    (s.ppl n).confEnd = some (4, e) →
    s.now ≤ e →
    s.confirms n 4 = true →
    exec (.contactorConfirmed n) s = .next (s.after (((s.onPp n fun p => { p with cAcMain := true, confEnd := none }).evContactor n 4 1 0 ((s.now - (s.ppl n).confFrom) / 1000000)).onPs n fun q => { q with acSince := some s.now }))) ∧
  (∀ (s : State) (n fn e : Nat),
    (s.ppl n).confEnd = some (fn, e) →
    e ≤ s.now →
    exec (.contactorConfirmTimeout n) s = .next (s.after (((s.onPp n fun p => { p with confEnd := none, contactFail := satU 16 (p.contactFail + 1) }).evContactor n fn 1 1 ((s.now - (s.ppl n).confFrom) / 1000000)).outputFault n 2))) ∧
  (∀ (s : State) (n e : Nat),
    (s.ppl n).preOpenDue = some e →
    e ≤ s.now →
    exec (.prechargeOpenDelay n) s = .next (s.after (((((s.onPp n fun p => { p with preOpenDue := none, currentMode := true }).contact n 3 false).onLane n fun l => { l with dir := 1, rampFrom := 20, rampAt := ((s.onPp n fun p => { p with preOpenDue := none, currentMode := true }).contact n 3 false).now }).answer n 0 true)))) ∧
  (∀ (s : State) (n e : Nat),
    (s.ppl n).pdSince = some e →
    e + ms 150 ≤ s.now →
    exec (.powerDeliveryHoldExpiry n) s = .next (s.after (((s.onPp n fun p => { p with pdSince := none }).answer n 2 true).hlcFailure n))) ∧
  (∀ (s : State) (n e : Nat),
    (s.ppl n).dcnegDue = some e →
    e ≤ s.now →
    exec (.dcnegOpenDelay n) s = .next (s.after ((s.contact n 2 false).onPp n fun p => { p with dcnegDue := none }))) ∧
  (∀ (s : State) (n : Nat),
    n < s.lanes.length →
    ((s.lane n).timer Tm.weld).isSome = true →
    (s.ppl n).belowSince.isSome = true →
    (s.lane n).st = .openCheck →
    (s.lane n).causes = [] →
    ∃ t, exec (.weldCheckPass n) s = .next (s.after t) ∧ (t.lane n).st = .unlock) ∧
  (∀ (s : State) (n : Nat),
    (s.lane n).unlockDue = true →
    s.unlockGuard n = true →
    (s.lane n).pulsing = false →
    (s.lane n).st ≠ .fault →
    (s.ppl n).lockPos = true →
    exec (.unlockGuardTrue n) s = .next (s.after ((s.onLane n fun l => { l with unlockDue := false }).lockPulse n 2 1)))

/-- With feedback that fits, a lock or unlock is decided good and the lane goes on; one not confirmed is pulsed once more in PLUGGED, and every 30 s in
UNLOCK under the guard; feedback lost from IDENTIFY to SUSPENDED is reported and pulsed again; 100 ms at 0 A end with the other direction and
DIRECTION reports how long it took; a controller that enters bus-off counts once and returns with its counters 0; a written controller setting applies
once no lane uses it; PP_LANE_READ and PP_COUNT_CLEAR read and clear. -/
def Obligations.LockDirectionAndController : Prop :=
  (∀ (s : State) (n e : Nat),
    (s.ppl n).lockWin = some e →
    (s.ppl n).feedbackFits = true →
    exec (.lockConfirmWindow n) s = .next (s.after ((s.lockDecided n true).advance n))) ∧
  (∀ (s : State) (n e : Nat),
    (s.ppl n).lockWin = some e →
    (s.ppl n).feedbackFits = false →
    e ≤ s.now →
    exec (.lockConfirmWindow n) s = .next (s.after ((s.lockDecided n false).advance n))) ∧
  (∀ (s : State) (n e : Nat),
    (s.ppl n).lockRetry = some e →
    e ≤ s.now →
    (s.lane n).st = .plugged →
    (s.lane n).pulsing = false →
    exec (.lockRetry n) s = .next (s.after (s.lockPulse n 1 2))) ∧
  (∀ (s : State) (n e : Nat),
    (s.ppl n).unlockRetry = some e →
    e ≤ s.now →
    (s.lane n).st = .unlock →
    (s.lane n).pulsing = false →
    s.unlockGuard n = true →
    exec (.unlockRetry n) s = .next (s.after (s.lockPulse n 2 ((s.ppl n).lockTry + 1)))) ∧
  (∀ (s : State) (n : Nat),
    (s.lockInput n).isSome = true →
    (s.ppl n).feedback = false →
    (s.ppl n).cLock = true →
    LState.between .identify .suspended (s.lane n).st = true →
    (s.lane n).pulsing = false →
    exec (.lockFeedbackLost n) s = .next (s.after ((s.evLock n 0 2 (s.ppl n).lockTry).lockPulse n 1 ((s.ppl n).lockTry + 1)))) ∧
  (∀ (s : State) (n e : Nat),
    (s.ppl n).dirHold = some e →
    e ≤ s.now →
    exec (.directionHoldEnd n) s = .next (s.after ((((s.onPp n fun p => { p with dirTarget := 0, dirHold := none }).onLane n fun l => { l with dir := (s.ppl n).dirTarget, rampFrom := 0, rampAt := s.now }).evLane .external n 0x1206 (leBytes 1 (s.ppl n).dirTarget ++ leBytes 2 (satU 16 ((s.now - (e - ms 100)) / 1000000))))))) ∧
  (∀ (s : State) (k : Nat),
    exec (.canBusOff k) s = .next (s.after (s.onCan k fun c => if c.isOff then c else { c with isOff := true, busOff := satU 8 (c.busOff + 1), tec := 255 }))) ∧
  (∀ (s : State) (k : Nat),
    exec (.canBusOffRecovery k) s = .next (s.after (s.onCan k fun c => if c.isOff then { c with isOff := false, tec := 0, recErr := 0 } else c))) ∧
  (∀ (s : State) (k : Nat),
    s.canFree k = true →
    exec (.ppCanApply k) s = .next (s.after (s.onCan k PpCan.applied))) ∧
  (∀ (s : State) (tk : Nat) (t : Ticket),
    s.ticket tk 0x0220 = some t →
    s.nLanes > t.u 0 1 →
    (s.typ (t.u 0 1)).charges = true →
    exec (.ppLaneRead tk) s = .next (s.after (s.complete t St.ok (s.ppLaneBytes (t.u 0 1))))) ∧
  (∀ (s : State) (tk : Nat) (t : Ticket),
    s.ticket tk 0x0221 = some t →
    s.nLanes > t.u 0 1 →
    (s.typ (t.u 0 1)).charges = true →
    t.u 0 1 ≠ 0xFF →
    exec (.ppCountClear tk) s = .next (s.after ((s.onPp (t.u 0 1) PpLane.cleared).complete t St.ok))) ∧
  (∀ (s : State) (tk : Nat) (t : Ticket),
    s.ticket tk 0x0221 = some t →
    t.u 0 1 = 0xFF →
    exec (.ppCountClear tk) s = .next (s.after (((List.range 64).foldl (fun (s : State) n => s.onPp n PpLane.cleared) s).complete t St.ok)))

/-- A DC lane on a CAN controller that is enabled and not bus-off, out of OFFLINE and with its period over, puts the sixteen bytes (eight in a classic
frame) of its next setpoint on the controller and remembers that setpoint: the frame goes out under the identifier of its CAN entry, last of all
frames sent. Feedback on the lane's identifier with a good CRC and a new counter is taken now and is not lost; with a bad CRC it only counts. When
TIMEOUT has passed from ISOLATION_TEST to SUSPENDED the feedback is lost, FEEDBACK_LOST is raised and the lane has an output fault. -/
def Obligations.SetpointsAndFeedback : Prop :=
  (∀ (s : State) (n k : Nat) (e : CanEnt),
    s.pathOf n = some k →
    k < 4 →
    (s.lane n).st ≠ .offline →
    (s.ppl n).spTx.sentAt + s.periodOf n ≤ s.now →
    s.canEnt n 0 = some e →
    e.dlc ≠ 8 →
    (s.can k).enable = true →
    (s.can k).isOff = false →
    n < s.pp.lanes.length →
    ∃ t, exec (.setpointSend n) s = .next (s.after t) ∧ t.pp.canOut = s.pp.canOut ++ [(k, e.resource % 2 ^ 30, (s.nextSetpoint n).bytes n)] ∧ (t.ppl n).spTx = s.nextSetpoint n) ∧
  (∀ (s : State) (n k : Nat) (b : Bytes) (e : CanEnt),
    s.canEnt n 1 = some e →
    (s.typ n).isDc = true →
    s.pathOf n = some k →
    k < 4 →
    (s.can k).enable = true →
    exec (.feedbackReceived n b) s = .next (s.after ((s.traceCan k (e.resource % 2 ^ 30) b).feedback n (e.dlc == 8) b))) ∧
  (∀ (s : State) (n : Nat) (c : Bool) (b : Bytes), fbCrcOk c b = false →
    s.feedback n c b = s.onPp n fun p => { p with badFb := satU 16 (p.badFb + 1) }) ∧
  (∀ (s : State) (n : Nat) (b : Bytes), n < s.pp.lanes.length → fbCrcOk false b = true → (s.ppl n).fb.atT = none → leNat (sub b 1 1) = 2 →
    let u := ((s.feedback n false b).ppl n).fb
    u.atT = some s.now ∧ u.lost = false ∧ u.counter = leNat (sub b 0 1) ∧ u.state = 2 ∧ u.u = leNat (sub b 2 2) ∧ u.i = ofBits 16 (leNat (sub b 4 2))) ∧
  (∀ (s : State) (n k : Nat),
    s.pathOf n = some k →
    LState.between .isolationTest .suspended (s.lane n).st = true →
    (s.ppl n).fb.lost = false →
    max ((s.ppl n).fb.atT.getD 0) (s.ppl n).isoAt + s.fbTimeout n ≤ s.now →
    exec (.feedbackTimeout n) s = .next (s.after (((s.onPp n fun p => { p with fb := { p.fb with lost := true }, fbLost := satU 16 (p.fbLost + 1), fbGood := none }).evLane .external n 0x1204 (leBytes 1 k ++ leBytes 1 (s.ppl n).fb.state)).outputFault n 3)))

/-- The regular round runs as allocRound says and no other field of the lanes than their allocation is set by a share. A GLIM level that is new and held 1
ms becomes active with CURTAIL_START and a round at once, or is lifted and its limit held for RELEASE_S. The hold that has run out is marked over and
reported by CURTAIL_END; a curtailment past its legal end is removed and lifted; a dispatch past its duration ends and is reported; a hub member 3 s
without a grant reports it and takes its fallback; a master notes a module 3 s without a report absent, with its event; the phase measurement of a
lane stores its sector and reports a change. -/
def Obligations.SharingRoundsAndTimedChanges : Prop :=
  (∀ (s : State),
    exec (.allocationRound) s = .next (s.after (s.allocRound true))) ∧
  (∀ (s : State) (t0 : Nat) (lvl : Bool),
    (lvl == s.ps.glim0Pol) = true →
    s.ps.glim0Act = false →
    t0 + ms 1 ≤ s.now →
    exec (.glimChange 0 lvl t0) s = .next (s.after (((({ s with ps := { s.ps with glim0Act := true } } : State).lowered 0 0xFF).evCurtailStart 0 0xFF s.ps.glim0W t0).allocRound false))) ∧
  (∀ (s : State) (t0 : Nat) (lvl : Bool),
    (lvl == s.ps.glim1Pol) = false →
    s.ps.glim1Act = true →
    t0 + ms 1 ≤ s.now →
    exec (.glimChange 1 lvl t0) s = .next (s.after (({ s with ps := { s.ps with glim1Act := false } } : State).lifted 1 0xFF s.ps.glim1W))) ∧
  (∀ (s : State) (src scope : Nat) (r : Release),
    ((s.ps.releases.find? fun r => r.source == src && r.scope == scope && !r.ended) = some r) →
    r.until_ ≤ s.now →
    exec (.releaseHoldEnd src scope) s = .next (s.after (({ s with ps := { s.ps with releases := s.ps.releases.map fun (x : Release) => if x.source == src && x.scope == scope then { x with ended := true } else x } } : State).evCurtailEnd src scope r.hold))) ∧
  (∀ (s : State) (scope e : Nat) (c : Curtail),
    ((s.ps.curtails.find? fun c => c.scope == scope) = some c) →
    c.endLegal = some e →
    e ≤ s.legalSec →
    exec (.curtailExpiry scope) s = .next (s.after (({ s with ps := { s.ps with curtails := s.ps.curtails.filter fun x => x.scope != scope } } : State).lifted 2 scope c.limit))) ∧
  (∀ (s : State) (e : Nat) (d : Dispatch),
    s.ps.dispatch = some d →
    d.until_ = some e →
    e ≤ s.now →
    exec (.dispatchExpiry) s = .next (s.after (({ s with ps := { s.ps with dispatch := none } } : State).evDispatch 2 s.exporters.length d.target))) ∧
  (∀ (s : State),
    s.hubMember = true →
    s.ps.fallback = false →
    s.ps.grantFrom + sec 3 ≤ s.now →
    exec (.grantLoss) s = .next (s.after ((s.evMod .diag s.rd.active 0 0x5105 (leBytes 1 (b2n s.ps.newMaster) ++ leBytes 4 s.ps.fallbackW)).grantTakes s.ps.fallbackW true))) ∧
  (∀ (s : State) (a : Nat) (r : HubRep),
    ((s.ps.reports.find? fun r => r.addr == a) = some r) →
    s.kz.master = true →
    r.absent = false →
    r.atT + sec 3 ≤ s.now →
    exec (.moduleReportLoss a) s = .next (s.after (({ s with ps := { s.ps with reports := s.ps.reports.map fun (x : HubRep) => if x.addr == a then { x with absent := true } else x } } : State).evMod .diag s.rd.active 0 0x5106 (leBytes 2 a ++ leBytes 4 r.fallback)))) ∧
  (∀ (s : State) (n e ref per c : Nat),
    n < s.ps.lanes.length →
    s.lineRef = some (ref, per) →
    (s.typ n).isAc = true →
    (s.psl n).acSince = some c →
    s.now ≤ c + ms 200 →
    ∃ t, exec (.phaseSectorMeasure n e) s = .next (s.after t) ∧ (t.psl n).sector = phaseSector (phaseLag e ref per) per)

/-- PS_CURTAIL for the module or a listed group replaces the curtailment of its scope, reports CURTAIL_START, runs a round at once and completes;
PS_CURTAIL_CLEAR lifts it and completes; PS_DISPATCH over DCB lanes, PS_LANE_CAP and PS_HUB_LIMIT on a master wait, once, for the round that completes
them; PS_READ completes with status, totals, phases, hub word and the allocation of 64 lanes. A share put for a lane of the list is read back, the
others stand; an allocation that fits every budget leaves every budget that lists the lane once within its limit. -/
def Obligations.SharingRequests : Prop :=
  (∀ (s : State) (tk : Nat) (t : Ticket),
    s.ticket tk 0x0301 = some t →
    t.u 0 1 = 0xFF →
    exec (.psCurtail tk) s = .next (s.after ((((({ (s.lowered 2 0xFF) with ps := { (s.lowered 2 0xFF).ps with curtails := ((s.lowered 2 0xFF).ps.curtails.filter fun (c : Curtail) => c.scope != 0xFF) ++
      [{ scope := 0xFF, limit := t.u 1 4, endLegal := if t.u 5 4 = 0 then none else some (s.legalSec + t.u 5 4) }] } } : State).evCurtailStart 2 0xFF (t.u 1 4) s.now).allocRound false)).complete t St.ok))) ∧
  (∀ (s : State) (tk : Nat) (t : Ticket) (c : Curtail),
    s.ticket tk 0x0302 = some t →
    ((s.ps.curtails.find? fun c => c.scope == t.u 0 1) = some c) →
    exec (.psCurtailClear tk) s = .next (s.after ((({ s with ps := { s.ps with curtails := s.ps.curtails.filter fun x => x.scope != t.u 0 1 } } : State).lifted 2 (t.u 0 1) c.limit).complete t St.ok))) ∧
  (∀ (s : State) (tk : Nat) (t : Ticket),
    s.ticket tk 0x0303 = some t →
    (((bitsOf 64 (t.u 0 8)).any fun n => s.typ n != .dcb) = false) →
    s.ps.roundTickets.contains tk = false →
    exec (.psDispatch tk) s = .next (s.after ({ s with ps := { s.ps with roundTickets := s.ps.roundTickets ++ [tk] } }))) ∧
  (∀ (s : State) (tk : Nat) (t : Ticket),
    s.ticket tk 0x0304 = some t →
    t.u 0 1 < s.nLanes →
    s.ps.roundTickets.contains tk = false →
    exec (.psLaneCap tk) s = .next (s.after ({ s with ps := { s.ps with roundTickets := s.ps.roundTickets ++ [tk] } }))) ∧
  (∀ (s : State) (tk : Nat) (t : Ticket),
    s.ticket tk 0x0305 = some t →
    s.kz.master = true →
    s.ps.hubTickets.contains tk = false →
    exec (.psHubLimit tk) s = .next (s.after ({ s with ps := { s.ps with hubTickets := s.ps.hubTickets ++ [tk] } }))) ∧
  (∀ (s : State) (tk : Nat) (t : Ticket),
    s.ticket tk 0x0306 = some t →
    exec (.psRead tk) s = .next (s.after (s.complete t St.ok (regBytes s.psStatus ++ regBytes (regOf [(0, 32, s.ps.importW), (32, 32, s.ps.exportW)]) ++ regBytes s.psPhase ++ regBytes s.psHub ++ (List.range 64).flatMap fun n => leBytes 2 (toBits 16 (s.lane n).pAlloc))))) ∧
  (∀ (a : Shares) (k m : Nat) (v : Rat), k ∈ a.map (·.1) →
    (a.put k v).get k = v ∧ (k ≠ m → (a.put k v).get m = a.get m)) ∧
  (∀ (bs : List Budget) (b : Budget) (a : Shares) (k : Nat) (w d : Rat), b ∈ bs → (b.ws.find? fun x => x.1 == k) = some (k, w) → fitsAll bs a k d = true →
    b.used a + w * d ≤ b.limit)

/-- At a TIME that is a multiple of 40 ms every group takes the fit of its chip, and at no other TIME; a group without connected lanes starts its chips
afresh and is IDLE, or stays LOCKED; 480 ms without a sound update after isolating a lane make the group reaction; 10 s after the contactors of a lane
are confirmed open its ISOLATION clears; a current-sense test that is due starts unless a cable-check window is open; its end stores pass or fail with
the time, an increase within 5 % of the amplitude passing; EF_READ reads the five words of its group; EF_SELFTEST starts a test that its end
completes; EF_GROUP_CLEAR ends LOCKED; EF_COUNT_CLEAR sets the four counters to 0. -/
def Obligations.InsulationMonitoring : Prop :=
  (∀ (s : State) (fits : List ChipFit),
    s.now % 40000000 = 0 →
    exec (.chipBoundary fits) s = .next (s.after (fits.foldl State.groupChip s))) ∧
  (∀ (s : State) (fits : List ChipFit),
    s.now % 40000000 ≠ 0 →
    exec (.chipBoundary fits) s = .next (s.after s)) ∧
  (∀ (s : State) (f : ChipFit), f.group < s.ef.groups.length → (s.cfg.group f.group).isSome = true → s.connected f.group = [] →
    let e := (s.groupChip f).efg f.group
    e.chips = 0 ∧ e.rGrp = 0xFFFFFFFF ∧ e.state = if (s.efg f.group).state = Iso.locked then Iso.locked else Iso.idle) ∧
  (∀ (s : State) (g e : Nat),
    (s.efg g).verifyEnd = some e →
    e ≤ s.now →
    exec (.isolationVerifyDeadline g) s = .next (s.after (s.groupReaction g))) ∧
  (∀ (s : State) (n e : Nat),
    (s.efl n).openSince = some e →
    e + sec 10 ≤ s.now →
    exec (.isolationCauseClear n) s = .next (s.after (s.clearCause n .isolation 0))) ∧
  (∀ (s : State) (g : Nat),
    (s.efg g).testing = false →
    s.connected g ≠ [] →
    s.windowOpen g = false →
    (s.efg g).testDue = true →
    exec (.currentSenseTest g) s = .next (s.after (s.startTest g none))) ∧
  (∀ (s : State) (g na : Nat) (x : Group),
    g < s.ef.groups.length →
    (s.efg g).testing = true →
    (s.efg g).testTicket = none →
    (s.efg g).testFrom + ms 640 ≤ s.now →
    s.cfg.group g = some x →
    (max na (x.amplitude * 10000) - min na (x.amplitude * 10000)) * 20 ≤ x.amplitude * 10000 →
    (s.efg g).state ≠ Iso.normal →
    (s.efg g).state ≠ Iso.warning →
    ∃ t, exec (.currentSenseTestEnd g na) s = .next (s.after t) ∧ (t.efg g).testing = false ∧ (t.efg g).testAt = s.now ∧ (t.efg g).testPass = true ∧ (t.efg g).testFail = false ∧ (t.efg g).stFail = false ∧ t.ef.testFails = satU 16 s.ef.testFails) ∧
  (∀ (s : State) (tk : Nat) (t : Ticket) (x : Group),
    s.ticket tk 0x0F10 = some t →
    s.cfg.group (t.u 0 1) = some x →
    x.driver ≠ 0xFF →
    exec (.efRead tk) s = .next (s.after (s.complete t St.ok (regBytes (s.efGroup x.group) ++ regBytes (s.efThresh x.group) ++ regBytes (s.efLoc x.group) ++ regBytes s.efTest ++ regBytes s.efCount)))) ∧
  (∀ (s : State) (tk : Nat) (t : Ticket) (x : Group),
    s.ticket tk 0x0F11 = some t →
    s.cfg.group (t.u 0 1) = some x →
    x.driver ≠ 0xFF →
    (s.efg x.group).state ≠ Iso.idle →
    (s.efg x.group).testing = false →
    s.windowOpen x.group = false →
    exec (.efSelftest tk) s = .next (s.after (s.startTest x.group (some tk)))) ∧
  (∀ (s : State) (tk : Nat) (t : Ticket) (x : Group),
    s.ticket tk 0x0F12 = some t →
    s.cfg.group (t.u 0 1) = some x →
    x.driver ≠ 0xFF →
    (s.efg x.group).locked = true →
    exec (.efGroupClear tk) s = .next (s.after (((s.onEfg x.group fun e => { e with locked := false, reactions := [] }).isoState x.group Iso.idle).complete t St.ok))) ∧
  (∀ (s : State) (tk : Nat) (t : Ticket),
    s.ticket tk 0x0F13 = some t →
    exec (.efCountClear tk) s = .next (s.after (({ s with ef := { s.ef with isoFaults := 0, isoWarnings := 0, resTrips := 0, testFails := 0 } } : State).complete t St.ok)))

/-- On an AC lane whose AC_MAIN is commanded closed: a period mean 150 mA or more away from the zero trips stage 2 at once; at the end of a period, 45 mA
over 5 periods stage 1, 5 mA over 200 periods since the zeroing stage 0, 25 mA rms in five successive periods stage 3, in that order; else the lane
takes its means and count and goes on. A lane without a fluxgate is left alone. A fluxgate fault withdraws the estimate, and on an AC lane trips stage
5 with the last values. -/
def Obligations.ResidualCurrentStages : Prop :=
  (∀ (s : State) (n r : Nat) (period : Bool) (a b c : Int),
    bit (s.slot n).options 0 = false →
    exec (.residualEval n period a b c r) s = .next (s.after s)) ∧
  (∀ (s : State) (n r : Nat) (a b c : Int),
    bit (s.slot n).options 0 = true →
    (s.typ n).isAc = true →
    (s.ppl n).acMain = true →
    150000 ≤ (a - (s.efl n).zeroUa).natAbs →
    exec (.residualEval n false a b c r) s = .next (s.after (s.residualTrip n 2 (a - (s.efl n).zeroUa) r))) ∧
  (∀ (s : State) (n r : Nat) (a b c : Int),
    bit (s.slot n).options 0 = true →
    (a - (s.efl n).zeroUa).natAbs < 150000 →
    exec (.residualEval n false a b c r) s = .next (s.after s)) ∧
  (∀ (s : State) (n r : Nat) (a b c : Int),
    n < s.ef.lanes.length →
    bit (s.slot n).options 0 = true →
    (s.typ n).isAc = true →
    (s.ppl n).acMain = true →
    (a - (s.efl n).zeroUa).natAbs < 150000 →
    (b - (s.efl n).zeroUa).natAbs < 45000 →
    (c - (s.efl n).zeroUa).natAbs < 5000 →
    r < 25000 →
    ∃ t, exec (.residualEval n true a b c r) s = .next (s.after t) ∧ (t.efl n).acRuns = 0 ∧ (t.efl n).iDc = (a - (s.efl n).zeroUa) / 10 ∧ (t.efl n).iAc = satU 16 (r / 10) ∧ t.ef.resTrips = s.ef.resTrips ∧ t.lanes = s.lanes) ∧
  (∀ (s : State) (n r : Nat) (a b c : Int),
    bit (s.slot n).options 0 = true →
    (s.typ n).isAc = true →
    (s.ppl n).acMain = true →
    (a - (s.efl n).zeroUa).natAbs < 150000 →
    45000 ≤ (b - (s.efl n).zeroUa).natAbs ∨ (5000 ≤ (c - (s.efl n).zeroUa).natAbs ∧ (s.efl n).zeroAt + 200 * s.mainsPeriod ≤ s.now) ∨ (25000 ≤ r ∧ 4 ≤ (s.efl n).acRuns) →
    ∃ t, exec (.residualEval n true a b c r) s = .next (s.after t) ∧ t.ef.resTrips = satU 16 (s.ef.resTrips + 1)) ∧
  (∀ (s : State) (n : Nat),
    bit (s.slot n).options 0 = true →
    (s.typ n).isAc = true →
    exec (.fluxgateFault n) s = .next (s.after ((s.onEfl n fun e => { e with flux := true, rLane := 0xFFFFFFFF }).residualTrip n 5 ((s.efl n).iDc * 10) ((s.efl n).iAc * 10)))) ∧
  (∀ (s : State) (n : Nat),
    n < s.ef.lanes.length →
    bit (s.slot n).options 0 = true →
    (s.typ n).isAc = false →
    ∃ t, exec (.fluxgateFault n) s = .next (s.after t) ∧ (t.efl n).flux = true ∧ (t.efl n).rLane = 0xFFFFFFFF)

/-- A channel in use that fails its activity check is faulty (counted, reported, its lane faulted as DIE_FAULT), once; a failed or passed reference check
of a Tracer die faults the die or finds it sound and reports a change; 10 ms of clipping end its validity; 1 s of valid samples clears a channel
fault; a settled coil is settled; a PT1000 reading in range is the temperature and ends a sensor fault, one out of range for 30 ms is a lost sensor
and counts as T_STOP; the creep gate changes after ten like evaluations; test mode ends at its time; a tracer sample not on the raster or not new does
nothing. -/
def Obligations.ChannelFaultsAndConnectorTemperature : Prop :=
  (∀ (s : State) (c : Nat),
    s.usedChans.contains c = true →
    (s.chan c).fault = false →
    exec (.activityCheckFail c) s = .next (s.after (((({ (((s.onChan c fun h => { h with actOk := false, validSince := none }).onChan c fun h => { h with fault := true })) with mt := { ((s.onChan c fun h => { h with actOk := false, validSince := none }).onChan c fun h => { h with fault := true }).mt with chanFaults := satU 16 (s.mt.chanFaults + 1) } } : State).evChanFault (tracerDie (c / 5)) c 0 1 (c / 5) (s.chanLane c)).faultAny (s.chanLane c) .dieFault)))) ∧
  (∀ (s : State) (k : Nat) (ok : Bool),
    k < 4 →
    s.dieBad (2 + k) ≠ ok →
    exec (.referenceCheck k ok) s = .next (s.after (if ok then ({ s with mt := { s.mt with refOk := s.mt.refOk.set k ok } } : State).dieSound (2 + k) else ({ s with mt := { s.mt with refOk := s.mt.refOk.set k ok } } : State).dieFails (2 + k)))) ∧
  (∀ (s : State) (c e : Nat),
    (s.chan c).clipSince = some e →
    e + ms 10 ≤ s.now →
    (s.chan c).clip = true →
    exec (.clipTimeout c) s = .next (s.after (s.onChan c fun h => { h with clipTimeout := true, validSince := none }))) ∧
  (∀ (s : State) (c e : Nat),
    (s.chan c).fault = true →
    s.chanValid c = true →
    (s.chan c).validSince = some e →
    e + sec 1 ≤ s.now →
    exec (.channelFaultClear c) s = .next (s.after ((((s.onChan c fun h => { h with fault := false }).evChanFault (tracerDie (c / 5)) c 0 0 (c / 5) (s.chanLane c)).settleDie (s.chanLane c)).settleMeter (s.chanLane c)))) ∧
  (∀ (s : State) (c e : Nat),
    (s.chan c).settleEnd = some e →
    e ≤ s.now →
    exec (.coilSettled c) s = .next (s.after ((s.onChan c fun h => { h with settleEnd := none }).settleMeter (s.chanLane c)))) ∧
  (∀ (s : State) (n ohm : Nat) (v : Int),
    bit (s.slot n).options 1 = true →
    700 ≤ ohm →
    ohm ≤ 2000 →
    (s.mtl n).tempFault = false →
    exec (.pt1000Reading n ohm v) s = .next (s.after ((s.onMtl n fun m => { m with temp := v, tempBad := none, tempFault := false }).evalTemp n v))) ∧
  (∀ (s : State) (n ohm e : Nat) (v : Int),
    n < s.mt.lanes.length →
    bit (s.slot n).options 1 = true →
    ohm < 700 ∨ 2000 < ohm →
    (s.mtl n).tempBad = some e →
    e + ms 30 ≤ s.now →
    ∃ t, exec (.pt1000Reading n ohm v) s = .next (s.after t) ∧ (t.mtl n).tempFault = true ∧ (t.mtl n).temp = -32768) ∧
  (∀ (s : State) (n : Nat),
    n < s.mt.lanes.length →
    (s.typ n).isLane = true →
    (s.slot n).sensor ≠ 3 →
    ∃ t, exec (.creepGateEval n) s = .next (s.after t) ∧ (t.mtl n).dcN = 0 ∧ (t.mtl n).run = (if (s.mtl n).run then (t.mtl n).under != 10 else (t.mtl n).above == 10) ∧ (t.mtl n).above ≤ 10 ∧ (t.mtl n).under ≤ 10) ∧
  (∀ (s : State) (n e : Nat),
    (s.mtl n).testEnd = some e →
    e ≤ s.now →
    exec (.testModeExpiry n) s = .next (s.after (s.endTest n))) ∧
  (∀ (s : State) (e : Nat) (xs : List ChanIn) (flux : List (Nat × Int)),
    e % 31250 ≠ 0 ∨ e ≤ s.en.lastStamp →
    exec (.tracerSample e xs flux) s = .next (s.after s)) ∧
  (∀ (s : State) (e : Nat) (xs : List ChanIn) (flux : List (Nat × Int)),
    e % 31250 = 0 →
    s.en.lastStamp < e →
    e ≤ s.now →
    s.en.warnAt = none →
    ∃ t, exec (.tracerSample e xs flux) s = .next (s.after t) ∧ t.en.lastStamp = e ∧ ∀ p, t.sess p = s.sess p ∧ t.clock = s.clock ∧ t.mx = s.mx)

/-- A level shorter than FILTER is rejected and counted, a longer one is accepted and its counting transition counts once with its stamp; the plate cores
take every change of the counts and end the seconds input by input; a line break or short of a NAMUR input, or its supply, faults it once; a fold-back
stands and is restored 1 ms after it began; MT_CAL_WRITE in range on a lane without a session changes the coefficients together; MT_CAL_READ, MT_TEST,
MT_TEST_READ, MT_PULSE_READ and MT_COUNT_CLEAR complete with what they read or set. -/
def Obligations.PulseInputsAndMeasurementRequests : Prop :=
  (∀ (s : State) (i e d : Nat) (on : Bool) (p : Pulse),
    s.cfg.pulse i = some p →
    p.mode ≠ 0 →
    s.pw.state ≤ 2 →
    e + d ≤ s.now →
    d < p.filterNs →
    exec (.pulseLevelAccepted i on e d) s = .next (s.after (s.onPls i fun x => { x with rejected := satU 12 (x.rejected + 1) }))) ∧
  (∀ (s : State) (i e d : Nat) (on : Bool) (p : Pulse),
    i < s.mt.pulses.length →
    s.cfg.pulse i = some p →
    p.mode ≠ 0 →
    s.pw.state ≤ 2 →
    e + d ≤ s.now →
    p.filterNs ≤ d →
    (s.pls i).level ≠ on →
    on ≠ bit p.flags 2 →
    (s.pls i).fault = 0 →
    ∃ t, exec (.pulseLevelAccepted i on e d) s = .next (s.after t) ∧ (t.pls i).level = on ∧ (t.pls i).count = ((s.pls i).count + 1) % 2 ^ 32 ∧ (t.pls i).inSec = (s.pls i).inSec + 1 ∧ (t.pls i).stamps = (s.pls i).stamps ++ [e]) ∧
  (∀ (s : State),
    exec (.pulseCollect) s = .next (s.after (s.cfg.pulses.foldl (fun (s : State) (p : Pulse) => (s.onPls p.input fun x => { x with taken := x.count, stamps := [] }).enterPulses p (match s.en.warnAt with | some w => (s.pls p.input).stamps.filter fun t => decide (t ≤ w) | none => (s.pls p.input).stamps).length) s))) ∧
  (∀ (s : State),
    exec (.pulseRateCheck) s = .next (s.after (s.cfg.pulses.foldl (fun (s : State) (p : Pulse) => s.pulseSecond p) s))) ∧
  (∀ (s : State) (i : Nat),
    i < 32 →
    exec (.pulseInputFault i 3) s = .next (s.after ((List.range 8).foldl (fun (s : State) j => s.pulseFails (i / 8 * 8 + j) 3) s))) ∧
  (∀ (s : State) (i k : Nat) (p : Pulse),
    i < 32 →
    k = 1 ∨ k = 2 →
    s.cfg.pulse i = some p →
    p.mode = 2 →
    exec (.pulseInputFault i k) s = .next (s.after (s.pulseFails i k))) ∧
  (∀ (s : State) (i : Nat),
    i < 32 →
    i < s.mt.pulses.length →
    (s.pls i).fault ≠ 0 →
    ∃ t, exec (.pulseFaultClear i) s = .next (s.after t) ∧ (t.pls i).fault = 0) ∧
  (∀ (s : State) (i : Nat),
    (s.pls i).folded = false →
    exec (.pulseFoldback i) s = .next (s.after (s.onPls i fun x => { x with folded := true, foldAt := s.now }))) ∧
  (∀ (s : State) (i : Nat),
    (s.pls i).folded = true →
    (s.pls i).foldAt + ms 1 ≤ s.now →
    exec (.pulseFoldbackRestore i) s = .next (s.after (s.onPls i fun x => { x with folded := false }))) ∧
  (∀ (s : State) (tk : Nat) (t : Ticket),
    s.ticket tk 0x0401 = some t →
    t.u 0 1 < s.nLanes →
    (s.typ (t.u 0 1)).isLane = true →
    s.isPending (t.u 0 1) = false →
    1 ≤ t.coeffs.length →
    t.coeffs.length ≤ 10 →
    t.arg.length = 2 + 12 * t.coeffs.length →
    ((t.coeffs.any fun (c, g, o, d) => !(s.existChans (t.u 0 1)).contains c || !coeffOk g o d) = false) →
    (s.lane (t.u 0 1)).session = 0 →
    exec (.mtCalWrite tk) s = .next (s.after ((s.calibrate (t.u 0 1) t.coeffs).complete t St.ok (leBytes 4 ((s.calibrate (t.u 0 1) t.coeffs).mtl (t.u 0 1)).calGen)))) ∧
  (∀ (s : State) (tk : Nat) (t : Ticket),
    s.ticket tk 0x0402 = some t →
    t.u 0 1 < s.nLanes →
    (s.typ (t.u 0 1)).isLane = true →
    exec (.mtCalRead tk) s = .next (s.after (s.complete t St.ok (leBytes 4 (s.mtl (t.u 0 1)).calGen ++ leBytes 1 (b2n (s.mtl (t.u 0 1)).uncal) ++ (s.existChans (t.u 0 1)).flatMap fun c => leBytes 2 c ++ leBytes 4 (s.chan c).gain ++ leBytes 4 (toBits 32 (s.chan c).offset) ++ leBytes 2 (toBits 16 (s.chan c).delay))))) ∧
  (∀ (s : State) (tk : Nat) (t : Ticket),
    s.ticket tk 0x0403 = some t →
    t.u 0 1 < s.nLanes →
    (s.typ (t.u 0 1)).isLane = true →
    t.u 1 1 = 1 →
    (s.lane (t.u 0 1)).st = .offline →
    (s.lane (t.u 0 1)).enable = false →
    exec (.mtTest tk) s = .next (s.after ((s.onMtl (t.u 0 1) fun m => { m with test := true, testEnd := some (s.now + sec 86400), testImp := 0, testExp := 0 }).complete t St.ok))) ∧
  (∀ (s : State) (tk : Nat) (t : Ticket),
    s.ticket tk 0x0404 = some t →
    t.u 0 1 < s.nLanes →
    (s.typ (t.u 0 1)).isLane = true →
    exec (.mtTestRead tk) s = .next (s.after (s.complete t St.ok (leBytes 8 (reading (s.mtl (t.u 0 1)).testImp) ++ leBytes 8 (reading (s.mtl (t.u 0 1)).testExp) ++ leBytes 1 (b2n (s.mtl (t.u 0 1)).run) ++ leBytes 8 s.now)))) ∧
  (∀ (s : State) (tk : Nat) (t : Ticket),
    s.ticket tk 0x0405 = some t →
    exec (.mtPulseRead tk) s = .next (s.after (s.complete t St.ok ((List.range 32).flatMap fun i => regBytes (s.mtPls i))))) ∧
  (∀ (s : State) (tk : Nat) (t : Ticket),
    s.ticket tk 0x0406 = some t →
    exec (.mtCountClear tk) s = .next (s.after ((s.writeMtCount (2 ^ 64 - 1)).complete t St.ok)))

/-- The mirror takes every accumulator and its stamp; the commit of every 100 ms writes the copy whose turn it is with TIME and legal time and leaves the
other; reverse flow sets tamper bit 0 and starts its measurement afresh; a bypass sets bit 1, a missing neutral bit 2, and either condition stands
until found not to hold; an opened cover is latched; the oldest closed record whose SEQ is known goes to the ring with its index; a power-fail ball
that changes is taken, and the module resets itself when its supplies are still valid 50 ms after the save, or 100 ms after a warning before restore
has cleared. -/
def Obligations.RegistersAreMirroredAndCommitted : Prop :=
  (∀ (s : State),
    s.twin = true →
    exec (.accumulatorMirror) s = .next (s.after ({ s with en := { s.en with mirror := s.en.lanes, mirrorCust := s.en.cust, mirrorStamp := s.en.lastStamp } }))) ∧
  (∀ (s : State),
    s.en.warnAt = none →
    5 ≤ s.rs.phase →
    s.en.nextCopy = 0 →
    ∃ t, exec (.registerCommit) s = .next (s.after t) ∧ t.en.copyA.lanes = s.en.lanes ∧ t.en.copyA.cust = s.en.cust ∧ t.en.copyA.tw = s.now ∧ t.en.copyA.lw = s.legal ∧ t.en.copyA.crcOk = true ∧ t.en.copyA.seq = s.seqAsked ∧ t.en.copyB = s.en.copyB ∧ t.en.nextCopy = 1 ∧ t.en.lanes = s.en.lanes) ∧
  (∀ (s : State),
    s.en.warnAt = none →
    5 ≤ s.rs.phase →
    s.en.nextCopy = 1 →
    ∃ t, exec (.registerCommit) s = .next (s.after t) ∧ t.en.copyB.lanes = s.en.lanes ∧ t.en.copyB.cust = s.en.cust ∧ t.en.copyB.tw = s.now ∧ t.en.copyB.lw = s.legal ∧ t.en.copyB.crcOk = true ∧ t.en.copyB.seq = s.seqAsked ∧ t.en.copyA = s.en.copyA ∧ t.en.nextCopy = 0 ∧ t.en.lanes = s.en.lanes) ∧
  (∀ (s : State) (n : Nat),
    n < s.en.lanes.length →
    (s.typ n).isLane = true →
    s.isBidir false n = false →
    s.revFresh false n = true →
    s.revHeld false n = true →
    ∃ t, exec (.reverseFlow false n) s = .next (s.after t) ∧ bit (t.enr false n).tamper 0 = true ∧ (t.enr false n).revAt = some s.now ∧ (t.enr false n).revExp = reading (s.enr false n).acc.exp) ∧
  (∀ (s : State) (n mis larger : Nat),
    n < s.en.lanes.length →
    s.bypassed n mis larger = true →
    ∃ t, exec (.bypass n mis larger) s = .next (s.after t) ∧ bit (t.enr false n).tamper 1 = true ∧ (t.enr false n).bypass = true) ∧
  (∀ (s : State) (n mis larger : Nat),
    s.bypassed n mis larger = false →
    exec (.bypass n mis larger) s = .next (s.after (s.onEn false n fun e => { e with bypass := false }))) ∧
  (∀ (s : State) (n vn vp : Nat),
    (s.typ n).isAc = true →
    500 < vn →
    (s.slot n).ratedU ≤ 200 * vp →
    exec (.missingNeutral n vn vp) s = .next (s.after (((s.setTamper false n 2).onEn false n fun e => { e with noNeutral := true }).evLane .metering n 0x4003 (leBytes 2 (satU 16 vn))))) ∧
  (∀ (s : State),
    s.pw.state = 0 →
    s.en.coverNow = false →
    exec (.coverOpen) s = .next (s.after (({ s with en := { s.en with coverNow := true, coverOpen := true } } : State).evCover true s.legal))) ∧
  (∀ (s : State),
    1 ≤ s.pw.state →
    s.pw.state ≤ 3 →
    s.en.coverNow = false →
    exec (.coverOpen) s = .next (s.after ({ s with en := { s.en with coverNow := true, coverPend := some (s.en.coverPend.getD s.legal) } }))) ∧
  (∀ (s : State),
    s.pw.state = 0 →
    s.en.coverNow = true →
    exec (.coverClosed) s = .next (s.after (({ s with en := { s.en with coverNow := false } } : State).evCover false s.legal))) ∧
  (∀ (s : State) (x : RecPend) (rest : List RecPend),
    s.en.closing = x :: rest →
    x.endSeq ≠ 0 →
    s.dieBad 13 = false →
    ∃ t, exec (.sessionRecord) s = .next (s.after t) ∧ t.en.closing = rest ∧ t.en.recordNext = (s.en.recordNext + 1) % recordSlots ∧ t.en.recordCount = (s.en.recordCount + 1) % 2 ^ 32 ∧ (t.en.records.drop 1) = (s.en.records.take (recordSlots - 1))) ∧
  (∀ (s : State),
    s.pw.state ≠ 4 →
    s.rs.pfw = false →
    exec (.powerFailWarning true) s = .next (s.after (({ s with rs := { s.rs with pfw := true, cPfw := satU 16 (s.rs.cPfw + 1) }.pfClear s.now } : State).powerWarning))) ∧
  (∀ (s : State),
    s.pw.state ≠ 4 →
    s.rs.pfw = true →
    exec (.powerFailWarning false) s = .next (s.after ({ s with rs := { s.rs with pfw := false }.pfClear s.now }))) ∧
  (∀ (s : State) (e : Nat),
    s.en.warnAt = some e →
    e + ms 50 ≤ s.now →
    exec (.saveSelfReset) s = .next (s.after (s.moduleReset 4))) ∧
  (∀ (s : State) (e : Nat),
    s.rs.pfClearAt = some e →
    s.rs.pfStop = true →
    e + ms 100 ≤ s.now →
    exec (.powerFailClearWait) s = .next (s.after (s.moduleReset 4)))

/-- EN_READ answers the eleven registers of a lane; EN_RECORD_READ the record of a lane and session or of a ring index; EN_IMPRESSION_READ one to ten
impressions of the ring in ascending order; EN_CABLE_WRITE takes an impression and stores the new cable resistance; EN_TAMPER_CLEAR takes an
impression and clears the bits named but those whose condition holds; EN_IMPRESS takes an impression. -/
def Obligations.EnergyRequests : Prop :=
  (∀ (s : State) (tk : Nat) (t : Ticket),
    s.ticket tk 0x0410 = some t →
    t.u 0 1 = 0 →
    t.u 1 1 < s.nLanes →
    (s.typ (t.u 1 1)).isLane = true →
    exec (.enRead tk) s = .next (s.after (s.complete t St.ok ((s.enRegs false (t.u 1 1)).flatMap regBytes)))) ∧
  (∀ (s : State) (tk : Nat) (t : Ticket) (b : Bytes),
    s.ticket tk 0x0411 = some t →
    t.u 0 1 ≠ 0xFF →
    ((s.en.records.find? fun b => leNat (sub b 0x10 1) == t.u 0 1 && leNat (sub b 0x14 4) == t.u 1 4) = some b) →
    exec (.enRecordRead tk) s = .next (s.after (s.complete t St.ok b))) ∧
  (∀ (s : State) (tk : Nat) (t : Ticket),
    s.ticket tk 0x0412 = some t →
    1 ≤ t.u 2 1 →
    t.u 2 1 ≤ 10 →
    t.u 0 2 < imprSlots →
    ringAge s.en.imprNext imprSlots (t.u 0 2) < s.en.imprs.length →
    t.u 2 1 ≤ ringAge s.en.imprNext imprSlots (t.u 0 2) + 1 →
    exec (.enImpressionRead tk) s = .next (s.after (s.complete t St.ok ((List.range (t.u 2 1)).flatMap fun j => s.en.imprs.getD (ringAge s.en.imprNext imprSlots (t.u 0 2) - j) [])))) ∧
  (∀ (s : State) (tk : Nat) (t : Ticket),
    s.ticket tk 0x0413 = some t →
    t.u 0 1 < s.nLanes →
    (s.typ (t.u 0 1)).isLane = true →
    (s.slot (t.u 0 1)).sensor ≠ 3 →
    (s.lane (t.u 0 1)).session = 0 →
    exec (.enCableWrite tk) s = .next (s.after ((((s.impress false (t.u 0 1) 5 0 s.legal).onEn false (t.u 0 1) fun e => { e with cableR := t.u 1 4 }).evLane .metering (t.u 0 1) 0x3012 (leBytes 4 (s.enr false (t.u 0 1)).cableR ++ leBytes 4 (t.u 1 4))).complete t St.ok))) ∧
  (∀ (s : State) (tk : Nat) (t : Ticket) (n : Nat),
    s.ticket tk 0x0414 = some t →
    t.u 1 1 < s.en.lanes.length →
    t.u 0 1 = 0 →
    t.u 1 1 < s.nLanes →
    (s.typ (t.u 1 1)).isLane = true →
    n = t.u 1 1 →
    ∃ u, exec (.enTamperClear tk) s = .next (s.after u) ∧ (u.enr false n).tamper = ((s.enr false n).tamper - ((s.enr false n).tamper &&& t.u 2 2)) ||| (s.impress false n 7 0 s.legal).tamperHolds false n ∧ u.en.imprNext = (s.en.imprNext + 1) % imprSlots) ∧
  (∀ (s : State) (tk : Nat) (t : Ticket),
    s.ticket tk 0x0414 = some t →
    t.u 0 1 = 2 →
    s.en.coverOpen = true →
    s.en.coverNow = false →
    bit (t.u 2 2) 3 = true →
    exec (.enTamperClear tk) s = .next (s.after (((({ s with en := { s.en with coverOpen := false } } : State).raise { cls := .metering, die := s.rd.active, unit := 0, lane := 0xFF, code := 0x4005, time := s.now, data := leBytes 1 2 ++ leBytes 1 (t.u 1 1) ++ leBytes 2 8 }).complete t St.ok)))) ∧
  (∀ (s : State) (tk : Nat) (t : Ticket),
    s.ticket tk 0x0415 = some t →
    t.u 0 1 = 0 →
    t.u 1 1 < s.nLanes →
    (s.typ (t.u 1 1)).isLane = true →
    t.u 1 1 ≠ 0xFF →
    exec (.enImpress tk) s = .next (s.after ((s.impress false (t.u 1 1) 6 0 s.legal).complete t St.ok (leBytes 2 s.en.imprNext))))

/-- After the Graver has settled its outputs each of the sixteen PERMIT balls is high if and only if no reason stands against it. No reason stands only if
the Graver is powered, has loaded its block and taken a grant word, grants the group, no comparator of the group is latched, the emergency stop and
guard pairs of the group are both closed, no external trip of the group is asserted, no fault of a pair of the group stands, the grant watchdog has
not expired and no self-check has failed. A lane gate is closed when the watchdog has expired, the self-check has failed, the lane is not granted or
its pilot is bad. Latches, counts, grants and inputs are not written by the settling. -/
def Obligations.PermitBallsFollowTheirConditions : Prop :=
  (∀ (s : State) (g : Nat), g < 16 → s.settlePermits.permit g = (s.permitLow g == 0)) ∧
  (∀ (s : State) (g : Nat), s.permitLow g = 0 ↔
    (s.grvStarted = true ∧ bit s.sf.grv.grants g = true) ∧ s.groupLatched g = false ∧
    (bit s.sf.grvPar.estMask g = true → bit s.sf.grv.pairs 0 = true ∧ bit s.sf.grv.pairs 1 = true ∧ s.sf.grv.estFault = false) ∧
    (bit s.sf.grvPar.grdMask g = true → bit s.sf.grv.pairs 2 = true ∧ bit s.sf.grv.pairs 3 = true ∧ s.sf.grv.grdFault = false) ∧
    (∀ x < 4, bit (s.sf.grvPar.xtripMask.getD x 0) g = true → bit s.sf.grv.xtrip x = false) ∧ s.sf.grv.wd = false ∧ s.sf.grv.selfFail = false) ∧
  (∀ (s : State) (n : Nat), s.laneGate n = true ↔
    s.sf.grv.powered = true ∧ s.sf.grv.loaded = true ∧ s.sf.grv.everTaken = true ∧ bit s.sf.grv.laneGrants n = true ∧ s.sf.grv.wd = false ∧ bit s.sf.grv.pilotBad n = false ∧ s.sf.grv.selfFail = false) ∧
  (∀ (s : State), s.settlePermits.sf.grv.latches = s.sf.grv.latches ∧ s.settlePermits.sf.grv.pairs = s.sf.grv.pairs ∧ s.settlePermits.sf.grv.grants = s.sf.grv.grants ∧ s.settlePermits.sf.trips = s.sf.trips ∧ s.settlePermits.lanes = s.lanes)

/-- A grant word with a good CRC and a new counter from the side that holds the latch is taken with its TIME; one with a bad CRC is not; 8 ms without one
count every grant as withdrawn; VGRV rising clears latches and grants; a failed self-check is kept and faults die 8; a crossing of an armed threshold
that is not latched latches it, counts the trip and gives the lanes the cause; a latch clears after 100 ms inside with every cause cleared; a
comparator that is not armed is not compared, and eight mismatches in a row are a disagreement. -/
def Obligations.GrantsComparatorsAndWatch : Prop :=
  (∀ (s : State) (ctr : Nat),
    s.sf.grv.powered = true →
    s.sf.grv.counter ≠ some (ctr % 256) →
    s.rd.holder = s.rd.active →
    ∃ t, exec (.grantWord ctr true) s = .next (s.after t) ∧ t.sf.grv.takenAt = s.now ∧ t.sf.grv.everTaken = true ∧ t.sf.grv.counter = some (ctr % 256) ∧ t.sf.grv.wd = false) ∧
  (∀ (s : State) (ctr : Nat),
    ∃ t, exec (.grantWord ctr false) s = .next (s.after t) ∧ t.sf.grv.takenAt = s.sf.grv.takenAt ∧ t.sf.grv.grants = s.sf.grv.grants ∧ t.sf.grv.counter = s.sf.grv.counter) ∧
  (∀ (s : State),
    s.sf.grv.everTaken = true →
    s.sf.grv.wd = false →
    s.sf.grv.takenAt + ms 8 ≤ s.now →
    exec (.grantWatchdogExpiry) s = .next (s.after (({ (s.onGrv fun v => { v with wd := true, wdTold := false }) with sf := { (s.onGrv fun v => { v with wd := true, wdTold := false }).sf with grantTimeouts := satU 16 (s.sf.grantTimeouts + 1) } } : State).withPermits id))) ∧
  (∀ (s : State),
    ∃ t, exec (.vgrvRise) s = .next (s.after t) ∧ t.sf.grv.powered = true ∧ t.sf.grv.latches = [] ∧ t.sf.grv.grants = 0 ∧ t.sf.grv.laneGrants = 0 ∧ t.sf.grv.everTaken = false ∧ t.sf.grv.loaded = s.sf.blockOk ∧ ∀ g < 16, t.permit g = false) ∧
  (∀ (s : State),
    exec (.graverSelfCheckFail) s = .next (s.after ((s.onGrv fun v => { v with selfFail := true }).withPermits fun s => s.dieFails 8))) ∧
  (∀ (s : State) (k edge : Nat) (x : Int) (c : Comp),
    s.cfg.comp k = some c →
    s.armed c = true →
    bit c.flags edge = true →
    edge ≤ 1 →
    k ∉ s.sf.grv.latches →
    ∃ t, exec (.comparatorCrossing k edge x) s = .next (s.after t) ∧ t.sf.grv.latches = s.sf.grv.latches ++ [k] ∧ t.sf.trips = satU 16 (s.sf.trips + 1)) ∧
  (∀ (s : State) (k e : Nat),
    s.sf.grv.latches.contains k = true →
    (s.sf.grv.inside.find? (fun x => x.1 == k) = some (k, e)) →
    e + ms 100 ≤ s.now →
    s.sf.grv.taken = [] →
    exec (.tripLatchClear k) s = .next (s.after ((s.onGrv fun v => { v with latches := v.latches.filter (· != k), taken := v.taken.filter fun x => x.1 != k }).withPermits id))) ∧
  (∀ (s : State) (k : Nat) (inside : Bool) (lo hi : Int) (c : Comp),
    s.cfg.comp k = some c →
    s.armed c = false →
    exec (.watchComparison k inside lo hi) s = .next (s.after (s.onGrv fun v => v.report k inside s.now))) ∧
  (∀ (s : State) (k : Nat) (inside : Bool) (lo hi : Int) (c : Comp),
    k < s.sf.watch.length →
    s.cfg.comp k = some c →
    c.comp = k →
    s.armed c = true →
    c.allBeyond 105 lo hi = false →
    (c.allInside 70 lo hi = true ∧ inside = false) ∨ (c.allBeyond 80 lo hi = true ∧ inside = true) →
    (s.wat k).mism = 7 →
    (s.wat k).stands = false →
    ∃ t, exec (.watchComparison k inside lo hi) s = .next (s.after t) ∧ (t.wat k).mism = 8 ∧ (t.wat k).stands = true ∧ (t.wat k).matchAt = none ∧ t.sf.disagrees = satU 16 (s.sf.disagrees + 1)) ∧
  (∀ (s : State) (k : Nat) (inside : Bool) (lo hi : Int) (c : Comp),
    k < s.sf.watch.length →
    s.cfg.comp k = some c →
    s.armed c = true →
    c.allBeyond 105 lo hi = false →
    (c.allInside 70 lo hi && !inside) = false →
    (c.allBeyond 80 lo hi && inside) = false →
    (s.wat k).matchAt = none →
    ∃ t, exec (.watchComparison k inside lo hi) s = .next (s.after t) ∧ (t.wat k).mism = 0 ∧ (t.wat k).matchAt = some s.now ∧ t.lanes = s.lanes)

/-- An input that opens or closes while it stood otherwise is taken; a pair whose channels have differed for DISC_TIME latches its fault; the guard test
goes from phase 1 to 3 with the guard found open, from 2 to 3 after 100 ms open, and passes after 100 ms closed; a pilot fault line that changes moves
the lane's bit and, when bad, faults the lane; a stipple pulse of a channel that is off does nothing, one in the blanking window is deferred, a miss
counts and the second in a row makes the channel suspect; a suspect channel off for its hold is clear. -/
def Obligations.SafetyInputsStippleAndPilotLine : Prop :=
  (∀ (s : State) (i : Nat),
    i < 4 ∧ bit s.sf.grv.pairs i = true ∨ 4 ≤ i ∧ i < 8 ∧ bit s.sf.grv.xtrip (i - 4) = false →
    exec (.safetyInputOpen i) s = .next (s.after (s.inputTakes i true))) ∧
  (∀ (s : State) (i : Nat),
    i < 4 ∧ bit s.sf.grv.pairs i = false ∨ 4 ≤ i ∧ i < 8 ∧ bit s.sf.grv.xtrip (i - 4) = true →
    exec (.safetyInputClose i) s = .next (s.after (s.inputTakes i false))) ∧
  (∀ (s : State) (p a b : Nat),
    p < 2 →
    bit s.sf.grv.pairs (2 * p) ≠ bit s.sf.grv.pairs (2 * p + 1) →
    (if p = 0 then s.sf.grv.estFault else s.sf.grv.grdFault) = false →
    s.sf.grv.moveAt.getD (2 * p) none = some a →
    s.sf.grv.moveAt.getD (2 * p + 1) none = some b →
    max a b + ms s.sf.grvPar.discTime ≤ s.now →
    ∃ t, exec (.dualChannelFault p) s = .next (s.after t) ∧ (if p = 0 then t.sf.grv.estFault else t.sf.grv.grdFault) = true) ∧
  (∀ (s : State),
    s.sf.phase = 1 →
    bit s.sf.grv.pairs 2 = false →
    bit s.sf.grv.pairs 3 = false →
    exec (.guardTestHold) s = .next (s.after ({ s with sf := { s.sf with phase := 3, phaseAt := none } }))) ∧
  (∀ (s : State) (e : Nat),
    s.sf.phase = 2 →
    s.sf.phaseAt = some e →
    e + ms 100 ≤ s.now →
    s.sf.grv.grdFault = false →
    exec (.guardTestHold) s = .next (s.after ({ s with sf := { s.sf with phase := 3, phaseAt := none } }))) ∧
  (∀ (s : State) (e : Nat),
    s.sf.phase = 3 →
    s.sf.phaseAt = some e →
    e + ms 100 ≤ s.now →
    s.sf.grv.grdFault = false →
    exec (.guardTestHold) s = .next (s.after (({ s with sf := { s.sf with phase := 4, phaseAt := none, guardTested := true } } : State).evMod .safety s.rd.active 0 0x2006 (leBytes 1 0 ++ leBytes 1 s.sf.required)))) ∧
  (∀ (s : State) (n : Nat) (b : Bool),
    n < 64 →
    (s.typ n).charges = true →
    bit s.sf.grv.pilotBad n ≠ b →
    ∃ t, exec (.pilotFaultLine n b) s = .next (s.after t) ∧ t.sf.grv.pilotBad = setBit s.sf.grv.pilotBad n b) ∧
  (∀ (s : State) (g mv : Nat),
    s.permit g = false →
    exec (.stipplePulse 1 g mv) s = .next (s.after s)) ∧
  (∀ (s : State) (g mv : Nat),
    s.permit g = true →
    (s.stip 1 g).deferred = false →
    mv ≤ 800 →
    exec (.stipplePulse 1 g mv) s = .next (s.after (s.onStip 1 g fun p => { p with misses := 0, goods := p.goods + 1, deferred := false, suspect := p.suspect && decide (p.goods + 1 < 2) }))) ∧
  (∀ (s : State) (g mv : Nat),
    g < s.sf.stipP.length →
    s.permit g = true →
    800 < mv →
    (s.stip 1 g).misses = 1 →
    (s.stip 1 g).suspect = false →
    ∃ t, exec (.stipplePulse 1 g mv) s = .next (s.after t) ∧ (t.stip 1 g).suspect = true ∧ (t.stip 1 g).goods = 0 ∧ t.sf.stippleMiss = satU 16 (s.sf.stippleMiss + 1)) ∧
  (∀ (s : State) (g : Nat),
    s.permit g = false →
    exec (.suspectClearHold 1 g) s = .next (s.after (s.onStip 1 g fun p => { p with suspect := false, misses := 0, goods := 0 }))) ∧
  (∀ (s : State) (k : Nat),
    (s.och k).cmd = false →
    exec (.suspectClearHold 0 k) s = .next (s.after (s.onStip 0 k fun p => { p with suspect := false, misses := 0, goods := 0 })))

/-- SP_WRITE with the password in force and 1 to 16 parameters that are known and leave every parameter in its range commits the block: it is in force,
the changed parameters count, the guard is no longer tested and the Graver reloads within 10 ms; with a wrong password it is CHECK_FAILED and counted.
A parameter outside its range leaves the block. The reload takes the block's masks. The first password is set with an empty old one; the lock and the
replacement window end at their times. SF_READ, SP_READ and SP_LOG_READ read. -/
def Obligations.SafetyParameterBlock : Prop :=
  (∀ (s : State) (tk : Nat) (t : Ticket) (pw : Bytes) (c : Nat) (b : SpBlock),
    s.ticket tk 0x0C03 = some t →
    s.pwLocked = false →
    s.sf.password = some pw →
    sub t.arg 1 (t.u 0 1) = pw →
    1 ≤ c →
    c ≤ 16 →
    c = t.u (1 + t.u 0 1) 1 →
    t.arg.length = 2 + t.u 0 1 + 6 * c →
    (((spItems (t.rest (2 + t.u 0 1)) c).find? fun x => (s.sf.block.value x.1).isNone) = none) →
    (b = (spItems (t.rest (2 + t.u 0 1)) c).foldl (fun b x => b.put x.1 x.2) s.sf.block) →
    b.firstBad = none →
    exec (.spWrite tk) s = .next (s.after (if b = s.sf.block ∧ s.sf.blockOk = true then s.complete t St.ok else (s.spCommit t.role b).complete t St.ok))) ∧
  (∀ (s : State) (tk : Nat) (t : Ticket) (pw : Bytes),
    s.ticket tk 0x0C03 = some t →
    s.pwLocked = false →
    s.sf.password = some pw →
    sub t.arg 1 (t.u 0 1) ≠ pw →
    exec (.spWrite tk) s = .next (s.after (s.pwFail t))) ∧
  (∀ (s : State) (r : Role) (b : SpBlock), (s.spCommit r b).sf.block = b ∧ (s.spCommit r b).sf.guardTested = false ∧ (s.spCommit r b).sf.phase = 1 ∧ (s.spCommit r b).sf.blockOk = true ∧ (s.spCommit r b).sf.grv.reloadDue = some (s.now + ms 10)) ∧
  (∀ (b : SpBlock) (key : Nat), b.firstBad = none → (b.value key).isSome = true → (b.range key).1 ≤ (b.value key).getD 0 ∧ (b.value key).getD 0 ≤ (b.range key).2) ∧
  (∀ (s : State) (e : Nat),
    s.sf.grv.reloadDue = some e →
    exec (.graverBlockReload) s = .next (s.after ((({ s with sf := { s.sf with grvPar := { discTime := s.sf.block.discTime, estMask := s.sf.block.estMask, grdMask := s.sf.block.grdMask, xtripMask := s.sf.block.xtripMask } } } : State).onGrv fun v => { v with reloadDue := none, loaded := s.sf.blockOk }).withPermits fun t => t.inputsChanged s))) ∧
  (∀ (s : State) (tk : Nat) (t : Ticket) (new : Bytes),
    s.ticket tk 0x0C04 = some t →
    s.pwLocked = false →
    t.u 0 1 = 0 →
    new = sub t.arg 2 (t.u 1 1) →
    passwordOk new = true →
    t.arg.length = 2 + t.u 1 1 →
    s.sf.password = none →
    exec (.spPasswordSet tk) s = .next (s.after ((({ s with sf := { s.sf with password := some new, replace := none } } : State).logParam t.role 0xFFFF 0 0).complete t St.ok))) ∧
  (∀ (s : State) (e : Nat),
    s.sf.pwLock = some e →
    e ≤ s.now →
    exec (.passwordLockEnd) s = .next (s.after ({ s with sf := { s.sf with pwLock := none } }))) ∧
  (∀ (s : State) (e : Nat) (p : Bytes),
    s.sf.replace = some (p, e) →
    e < s.now →
    exec (.passwordReplaceWindowEnd) s = .next (s.after ({ s with sf := { s.sf with replace := none } }))) ∧
  (∀ (s : State) (tk : Nat) (t : Ticket),
    s.ticket tk 0x0C01 = some t →
    exec (.sfRead tk) s = .next (s.after (s.complete t St.ok ([s.sfStatus, s.sfInputs, s.sfLanegate, s.sfTrip 0, s.sfTrip 1, s.sfSuspect 0, s.sfSuspect 1, s.sfSuspectP, s.sfBlock, s.sfCount].flatMap regBytes)))) ∧
  (∀ (s : State) (tk : Nat) (t : Ticket) (v : Nat),
    s.ticket tk 0x0C02 = some t →
    t.u 0 2 ≠ 0xFFFF →
    s.sf.block.value (t.u 0 2) = some v →
    exec (.spRead tk) s = .next (s.after (s.complete t St.ok (leBytes 2 (t.u 0 2) ++ leBytes 4 v)))) ∧
  (∀ (s : State) (tk : Nat) (t : Ticket),
    s.ticket tk 0x0C05 = some t →
    1 ≤ t.u 1 1 →
    t.u 1 1 ≤ 32 →
    exec (.spLogRead tk) s = .next (s.after (s.complete t St.ok ((List.range (t.u 1 1)).flatMap fun i => s.logEntry ((t.u 0 1 + i) % 256)))))

/-- The end of the blanking window ends it; a channel that is on trips by overload outside blanking, by a current of 6 A (9 A in blanking) or more, and by
its junction; a trip puts the channel off and counts it, and it latches when no retry remains (or, for a thermal trip, when the channel latches on
thermal shutdown), else a retry waits for RETRY_DELAY; after the delay a cool channel restarts and its counter rises, a hot one waits for cooling,
which restarts it; 10 s on without a trip set the counter to 0; two clamp events in 60 s only report, the third trips. -/
def Obligations.ProtectedOutputTrips : Prop :=
  (∀ (s : State) (k : Nat),
    s.blanking k = false →
    exec (.blankingEnd k) s = .next (s.after (s.onCh k fun c => { c with blankEnd := none }))) ∧
  (∀ (s : State) (k : Nat),
    (s.och k).out = true →
    s.blanking k = false →
    (s.och k).lowered = 0 →
    exec (.overloadTrip k) s = .next (s.after (s.chanTrip k 1))) ∧
  (∀ (s : State) (k cur : Nat),
    (s.och k).out = true →
    s.blanking k = false →
    60000 ≤ cur →
    exec (.shortTrip k cur) s = .next (s.after ((s.onCh k fun c => { c with current := cur }).chanTrip k 0))) ∧
  (∀ (s : State) (k cur : Nat),
    s.blanking k = true →
    cur < 90000 →
    exec (.shortTrip k cur) s = .next (s.after s)) ∧
  (∀ (s : State) (k tj : Nat),
    (s.och k).out = true →
    exec (.thermalShutdown k tj) s = .next (s.after ((s.onCh k fun c => { c with tj := tj }).chanTrip k 2))) ∧
  (∀ (s : State) (k kind : Nat), k < s.po.chans.length →
    let u := (s.trip k kind).och k
    let o := (s.cfg.output k).getD {}
    u.out = false ∧ u.trips = satU 8 ((s.och k).trips + 1) ∧ u.current = 0 ∧ u.cmd = (s.och k).cmd ∧
    u.latched = ((kind == 2 && bit o.flags 2) || decide (o.retries ≤ (s.och k).used)) ∧ u.retryAt = (if u.latched then none else some (s.now + ms (10 * o.retryDelay)))) ∧
  (∀ (s : State) (k e : Nat),
    (s.och k).tripped = true →
    (s.och k).retryAt = some e →
    e ≤ s.now →
    exec (.retryDelayEnd k true) s = .next (s.after ((s.onCh k fun c => { c with thermal := false }).restart k))) ∧
  (∀ (s : State) (k e : Nat),
    (s.och k).tripped = true →
    (s.och k).retryAt = some e →
    e ≤ s.now →
    exec (.retryDelayEnd k false) s = .next (s.after (s.onCh k fun c => { c with retryAt := none, waitCool := true }))) ∧
  (∀ (s : State) (k : Nat),
    (s.och k).waitCool = true →
    s.cfg.output k = none →
    exec (.thermalRestart k) s = .next (s.after ((s.onCh k fun c => { c with thermal := false }).restart k))) ∧
  (∀ (s : State) (k n : Nat) (o : Output),
    (s.och k).waitCool = false →
    s.cfg.output k = some o →
    ownerLane o.owner = some n →
    exec (.thermalRestart k) s = .next (s.after ((s.onCh k fun c => { c with thermal := false }).settleOutput n))) ∧
  (∀ (s : State) (k e : Nat),
    (s.och k).onSince = some e →
    e + sec 10 ≤ s.now →
    exec (.usedReset k) s = .next (s.after (s.onCh k fun c => { c with used := 0 }))) ∧
  (∀ (s : State) (k : Nat),
    (2 ≤ ((s.och k).clamps.filter fun t => decide (s.now < t + sec 60)).length) →
    exec (.clampEvent k) s = .next (s.after ((s.onCh k fun c => { c with clamps := [] }).chanTrip k 3))) ∧
  (∀ (s : State) (k : Nat),
    k < s.po.chans.length →
    (((s.och k).clamps.filter fun t => decide (s.now < t + sec 60)).length < 2) →
    ∃ t, exec (.clampEvent k) s = .next (s.after t) ∧ ((t.och k).clamps = s.now :: (s.och k).clamps.filter fun t => decide (s.now < t + sec 60)) ∧ (t.och k).out = (s.och k).out ∧ (t.och k).trips = (s.och k).trips)

/-- Each tick of the limiter takes what the die measures; above 10.0 A it lowers one limit, below 9.5 A it restores all. A limit lowered for 50 ms trips
by overload. A channel that is on and below its threshold is an open load, one that is off and high is shorted to supply; the test current is judged
only with OFF_DIAG. Undervoltage of VSWk puts its channels off without a trip and recovery returns them; a rise of VSWk starts them afresh. PO_SET
commands a GENERAL channel that is neither latched nor failed; PO_CLEAR with nothing latched completes; PO_PROOF proves the channels and answers a
result each; PO_READ reads a die. -/
def Obligations.OutputDiesLoadsAndRequests : Prop :=
  (∀ (s : State) (d lim vsw : Nat) (cur tj : List Nat),
    d < 4 →
    4 ≤ s.po.dies.length →
    ∃ t, exec (.dieLimiterTick d cur tj lim vsw) s = .next (s.after t) ∧ (t.swd d).vsw = vsw ∧ t.lanes = s.lanes) ∧
  (∀ (s : State) (k e : Nat),
    (s.och k).lowAt = some e →
    e + ms 50 ≤ s.now →
    (s.och k).out = true →
    (s.och k).limit = true →
    exec (.loweredLimitTrip k) s = .next (s.after (s.chanTrip k 1))) ∧
  (∀ (s : State) (k cur : Nat) (high : Bool),
    k < s.po.chans.length →
    (s.och k).out = true →
    s.blanking k = false →
    ∃ t, exec (.openLoadCheck k cur high) s = .next (s.after t) ∧ (t.och k).openOn = decide (cur < ((s.cfg.output k).getD {}).openThreshold)) ∧
  (∀ (s : State) (k cur : Nat) (high : Bool),
    k < s.po.chans.length →
    (s.och k).out = false →
    ∃ t, exec (.openLoadCheck k cur high) s = .next (s.after t) ∧ (t.och k).shortSup = high ∧ (t.och k).openOn = (s.och k).openOn) ∧
  (∀ (s : State) (k : Nat) (above : Bool) (o : Output),
    (s.och k).out = false →
    s.cfg.output k = some o →
    bit o.flags 3 = true →
    exec (.offStateTest k above) s = .next (s.after ((s.onCh k fun c => { c with openOff := above }).evOpen k 1 (s.och k).current (s.och k).openOff above))) ∧
  (∀ (s : State) (d v : Nat),
    d < 4 →
    (s.swd d).uv = false →
    v < 80 →
    exec (.vswUndervoltage d v) s = .next (s.after (((List.range 32).foldl (fun (s : State) i => s.drive (32 * d + i)) (s.onDie d fun x => { x with uv := true, vsw := v })).evUv d 1 v))) ∧
  (∀ (s : State) (d v : Nat),
    d < 4 →
    (s.swd d).uv = true →
    85 < v →
    exec (.vswRestored d v) s = .next (s.after (((List.range 32).foldl (fun (s : State) i => s.drive (32 * d + i)) (s.onDie d fun x => { x with uv := false, vsw := v })).evUv d 0 v))) ∧
  (∀ (s : State) (d v : Nat),
    d < 4 →
    exec (.vswRise d v) s = .next (s.after ((List.range 32).foldl (fun (s : State) i => (s.onCh (32 * d + i) fun _ => {}).drive (32 * d + i)) (s.onDie d fun _ => { vsw := v })))) ∧
  (∀ (s : State) (tk : Nat) (t : Ticket) (o : Output),
    s.ticket tk 0x0E01 = some t →
    s.cfg.output (t.u 0 1) = some o →
    o.func = 0 →
    t.u 1 1 ≤ 1 →
    (s.och (t.u 0 1)).latched = false →
    (s.och (t.u 0 1)).proofFail = false →
    exec (.poSet tk) s = .next (s.after ((s.command (t.u 0 1) (t.u 1 1 == 1)).complete t St.ok))) ∧
  (∀ (s : State) (tk : Nat) (t : Ticket) (o : Output) (bad above : List Nat),
    s.ticket tk 0x0E02 = some t →
    s.cfg.output (t.u 0 1) = some o →
    (s.och (t.u 0 1)).latched = false →
    t.u 0 1 ≠ 0xFF →
    exec (.poClear tk bad above) s = .next (s.after (s.complete t St.ok))) ∧
  (∀ (s : State) (tk : Nat) (t : Ticket) (o : Output) (bad above : List Nat),
    s.ticket tk 0x0E02 = some t →
    s.cfg.outputs = [o] →
    t.u 0 1 = o.output →
    o.output ≠ 0xFF →
    s.cfg.output o.output = some o →
    (s.och o.output).latched = true →
    exec (.poClear tk bad above) s = .next (s.after (((List.range 64).foldl (fun (s : State) n => s.settleOutput n) (((s.onCh o.output fun x => { x with latched := false, used := 0 }).proofAll [o.output] bad above).evProof o.output (if (((s.onCh o.output fun x => { x with latched := false, used := 0 }).proofAll [o.output] bad above).och o.output).proofFail then 1 else 0))).complete t St.ok))) ∧
  (∀ (s : State) (tk : Nat) (t : Ticket) (o : Output) (bad above chans res : List Nat),
    s.ticket tk 0x0E03 = some t →
    s.cfg.output (t.u 0 1) = some o →
    s.laneHolds (t.u 0 1) = false →
    t.u 0 1 ≠ 0xFF →
    (chans = (s.cfg.outputs.map (·.output)).filter fun c => c == t.u 0 1) →
    (res = chans.map fun c => if s.laneHolds c then 2 else b2n (bad.contains c)) →
    exec (.poProof tk bad above) s = .next (s.after (((s.proofAll chans bad above).evProof (t.u 0 1) (res.filter (· == 1)).length).complete t St.ok (res.flatMap fun r => leBytes 1 r)))) ∧
  (∀ (s : State) (tk : Nat) (t : Ticket),
    s.ticket tk 0x0E04 = some t →
    t.u 0 1 < 4 →
    exec (.poRead tk) s = .next (s.after (s.complete t St.ok (((List.range 32).flatMap fun i => regBytes (s.poCh (32 * t.u 0 1 + i))) ++ leBytes 2 (satU 16 (s.swd (t.u 0 1)).total) ++ leBytes 2 (s.swd (t.u 0 1)).vsw))))

/-- A heartbeat that arrives on either path of a twin module is stamped, and one that arrives on neither counts as missed; 3 ms without one are a failure
of the active side, as is a fault it reports; a fault of the standby restarts it. A side that fails without a synchronised standby, or in DOZE, resets
the module; with one the other side becomes active, is numbered first by SIDE_CHANGE with the smallest multiple of 65,536 above the SEQ mirrored, and
discards every open ticket. A link fault counts and ends synchronisation; a side that lost the latch restarts as standby; 10 ms after take-over the
failed side boots; a standby with a complete mirror and no mismatch is synchronised. -/
def Obligations.TwinSidesFailAndReturn : Prop :=
  (∀ (s : State) (a b : Bool),
    s.twin = true →
    a = false →
    b = false →
    exec (.heartbeat a b) s = .next (s.after ({ s with rd := { s.rd with linkA := false, linkB := false, missed := satU 16 (s.rd.missed + 1) } }))) ∧
  (∀ (s : State) (a b : Bool),
    s.twin = true →
    a = true ∨ b = true →
    s.rd.faultA = false →
    s.rd.faultB = false →
    exec (.heartbeat a b) s = .next (s.after ({ s with rd := { s.rd with hbAt := s.now, linkA := a, linkB := b, faultA := false, faultB := false } }))) ∧
  (∀ (s : State),
    s.twin = true →
    s.rs.phase = 7 →
    s.rd.hbAt + ms 3 ≤ s.now →
    exec (.heartbeatLoss) s = .next (s.after (s.sideFails 0 0))) ∧
  (∀ (s : State) (side k m off : Nat),
    side < 2 →
    k ≠ 0 →
    k ≤ 7 →
    k ≠ 3 →
    k ≠ 7 →
    exec (.sideFaultReport side k m off) s = .next (s.after (s.sideFault side k))) ∧
  (∀ (s : State) (side m off : Nat),
    side < 2 →
    exec (.sideFaultReport side 7 m off) s = .next (s.after ((s.memUe side 3 off 0).sideFault side 7))) ∧
  (∀ (s : State) (r k : Nat), s.twin = false ∨ s.rd.sync = false ∨ s.pw.state = 2 → s.sideFails r k = s.moduleReset 5) ∧
  (∀ (s : State) (r k : Nat), s.twin = true → s.rd.sync = true → s.pw.state ≠ 2 → s.rd.active < 2 → s.emits = [] → s.seqr.mirrored = s.seqr.seqLast →
    let u := s.after (s.sideFails r k)
    u.rd.active = 1 - s.rd.active ∧ u.rd.holder = u.rd.active ∧ u.rd.sync = false ∧
    (∃ x ∈ u.seqr.journal, x.seq = (s.seqr.seqLast / 65536 + 1) * 65536 ∧ x.ev.code = 0x6001 ∧ x.ev.die = u.rd.active) ∧ ∀ p c, u.sess p = some c → c.outstanding = []) ∧
  (∀ (s : State) (p : Nat),
    s.twin = true →
    p ≤ 1 →
    (if p = 0 then s.rd.faultA else s.rd.faultB) = false →
    s.rd.standby ≠ 4 →
    exec (.linkFault p) s = .next (s.after (({ s with rd := { s.rd with linkFaults := satU 16 (s.rd.linkFaults + 1), linkA := s.rd.linkA && p != 0, linkB := s.rd.linkB && p != 1, faultA := s.rd.faultA || p == 0, faultB := s.rd.faultB || p == 1 } } : State).evMod .diag s.rd.active 0 0x6004 (leBytes 1 p ++ leBytes 1 1)))) ∧
  (∀ (s : State) (k : Nat),
    s.twin = true →
    s.rd.standby ≠ 5 →
    exec (.holderLatchLost k) s = .next (s.after ({ s with rd := { s.rd with refused := satU 16 (s.rd.refused + k), sync := false, standby := 1, heldReset := some s.now } }))) ∧
  (∀ (s : State) (e : Nat),
    s.rd.heldReset = some e →
    e + ms 10 ≤ s.now →
    s.rd.standby = 1 →
    exec (.failedSideRelease) s = .next (s.after (s.setStandby 2 0 0))) ∧
  (∀ (s : State),
    s.twin = true →
    s.rd.standby = 3 →
    s.rd.faultA = false →
    s.mismatch ≠ 0 →
    exec (.standbySynchronised) s = .next (s.after (s.setStandby 6 0 s.mismatch))) ∧
  (∀ (s : State),
    s.twin = true →
    s.rd.standby = 3 →
    s.rd.faultA = false →
    s.mismatch = 0 →
    s.rd.restartTk = none →
    exec (.standbySynchronised) s = .next (s.after ({ (s.setStandby 4 0 0).mirror with ac := { s.ac with credStby := s.ac.credGen } })))

/-- A counterproof swap falls due at its TIME and a revert swap once the preferred side has stayed synchronised for the revert delay; a swap whose
conditions are met begins its drain of 2 ms and completes its RD_SWAP; after 60 s it waits no longer for protected tickets; the end of the drain
passes the latch and counts a planned swap; a counterproof swap not taken in 600 s is postponed by 1 h and counted. RD_SWAP waits for its conditions
and ends TIMEOUT after 10 s; RD_STANDBY_RESTART boots the standby and ends TIMEOUT at its limit; RD_RELEASE frees a held side; RD_READ reads the six
registers. -/
def Obligations.PlannedSwapsAndTheirRequests : Prop :=
  (∀ (s : State),
    s.twin = true →
    s.cfg.cpInterval ≠ 0 →
    s.cpDue ≤ s.now →
    s.rd.swap = none →
    s.sideHeld = false →
    exec (.counterproofDue) s = .next (s.after ({ s with rd := { s.rd with swap := some { reason := 2, since := s.now } } }))) ∧
  (∀ (s : State),
    s.twin = true →
    s.preferred = some (1 - s.rd.active) →
    s.rd.sync = true →
    s.rd.syncAt + sec s.cfg.revertS ≤ s.now →
    s.rd.swap = none →
    s.sideHeld = false →
    exec (.revertDelayEnd) s = .next (s.after ({ s with rd := { s.rd with swap := some { reason := 3, since := s.now } } }))) ∧
  (∀ (s : State) (x : RdSwap),
    s.rd.swap = some x →
    x.reason = 2 →
    x.drainEnd = none →
    x.since + sec 600 ≤ s.now →
    exec (.swapPostpone) s = .next (s.after (({ s with rd := { s.rd with swap := none, cpPostpone := s.rd.cpPostpone + sec 3600, postponed := satU 16 (s.rd.postponed + 1) } } : State).evPostponed 2 (if 0 < s.swapBlockers.length then 0 else if s.rd.sync = false then 1 else if s.rd.swapHold = true then 2 else 3) s.swapBlockers.length))) ∧
  (∀ (s : State) (x : RdSwap),
    s.rd.swap = some x →
    x.drainEnd = none →
    s.swapOk x.reason = true →
    s.protectedOpen = false ∨ x.waited = true →
    x.ticket = none →
    exec (.swapConditionsMet) s = .next (s.after ({ s with rd := { s.rd with swap := some { x with drainEnd := some (s.now + ms 2), ticket := none } } }))) ∧
  (∀ (s : State) (x : RdSwap),
    s.rd.swap = some x →
    x.since + sec 60 ≤ s.now →
    x.drainEnd = none →
    exec (.protectedTicketWaitEnd) s = .next (s.after ({ s with rd := { s.rd with swap := some { x with waited := true } } }))) ∧
  (∀ (s : State) (x : RdSwap) (e : Nat),
    s.rd.swap = some x →
    x.drainEnd = some e →
    s.rd.sync = true →
    ∃ t, exec (.drainEnd) s = .next (s.after t) ∧ t.rd.active = 1 - s.rd.active ∧ t.rd.holder = 1 - s.rd.active ∧ t.rd.planned = satU 16 (s.rd.planned + 1) ∧ t.rd.sync = true ∧ t.rd.syncAt = s.now ∧ t.rd.swap = none) ∧
  (∀ (s : State) (tk : Nat) (t : Ticket),
    s.ticket tk 0x0D01 = some t →
    exec (.rdRead tk) s = .next (s.after (s.complete t St.ok ([s.rdStatus, s.rdCfg, s.rdNext, s.rdLast, s.rdCount, s.rdHb].flatMap regBytes)))) ∧
  (∀ (s : State) (tk : Nat) (t : Ticket),
    s.ticket tk 0x0D02 = some t →
    s.twin = true →
    s.rd.sync = true →
    s.rd.swap = none →
    exec (.rdSwap tk) s = .next (s.after ({ s with rd := { s.rd with swap := some { reason := 4, since := s.now, ticket := some tk } } }))) ∧
  (∀ (s : State) (x : RdSwap) (tk : Nat) (k : Ticket),
    s.rd.swap = some x →
    x.ticket = some tk →
    x.drainEnd = none →
    x.since + sec 10 ≤ s.now →
    ({ s with rd := { s.rd with swap := none } } : State).ticket tk 0x0D02 = some k →
    exec (.rdSwapTimeout) s = .next (s.after (({ s with rd := { s.rd with swap := none } } : State).complete k St.timeout))) ∧
  (∀ (s : State) (tk : Nat) (t : Ticket),
    s.ticket tk 0x0D03 = some t →
    s.twin = true →
    s.sideHeld = false →
    s.rd.restartTk = none →
    exec (.rdStandbyRestart tk) s = .next (s.after (({ s with rd := { s.rd with restartTk := some (tk, t.acceptTime + sec 30), swap := s.rd.swap.filter fun w => w.drainEnd.isNone } } : State).setStandby 2 0 0))) ∧
  (∀ (s : State) (tk e : Nat) (k : Ticket),
    s.rd.restartTk = some (tk, e) →
    e ≤ s.now →
    ({ s with rd := { s.rd with restartTk := none } } : State).ticket tk 0x0D03 = some k →
    exec (.standbyRestartTimeout) s = .next (s.after (({ s with rd := { s.rd with restartTk := none } } : State).complete k St.timeout))) ∧
  (∀ (s : State) (tk : Nat) (t : Ticket),
    s.ticket tk 0x0D04 = some t →
    s.twin = true →
    s.sideHeld = true →
    exec (.rdRelease tk) s = .next (s.after ((s.setStandby 2 0 0).complete t St.ok)))

/-- Under every table, the billing period close found after a legal second is the instant of BP_HOUR:00:00 tariff time of a date, later than that second,
on which the period closes: day BP_DAY of the month under BP_MODE 0, weekday BP_DAY under BP_MODE 1, every day under BP_MODE 2; and every earlier date
searched closes nothing, or closed at or before that second. When such a close is due BILLING_PERIOD_CLOSE closes the period at that legal second.
Dates of 2000 to 2099 go over to days and back. -/
def Obligations.BillingPeriodsCloseOnTheirDay : Prop :=
  (∀ (c : CalTab) (after k d i : Nat), c.nextPeriodFrom after k d = some i →
    ∃ e, d ≤ e ∧ e < d + k ∧ i = c.instantOf (e * 86400 + c.bpHour * 3600) ∧ after < i ∧
      (c.bpMode = 0 → (civilOf e).2.2 = c.bpDay) ∧ (c.bpMode = 1 → weekdayOf e = c.bpDay) ∧
      ∀ f, d ≤ f → f < e → c.closesOn f = false ∨ c.instantOf (f * 86400 + c.bpHour * 3600) ≤ after) ∧
  (∀ (c : CalTab) (d : Nat), c.closesOn d = true ↔ (c.bpMode = 0 ∧ (civilOf d).2.2 = c.bpDay) ∨ (c.bpMode = 1 ∧ weekdayOf d = c.bpDay) ∨ 2 ≤ c.bpMode) ∧
  (∀ (s : State) (i : Nat),
    s.dueBound = some (i, .period) →
    exec (.billingPeriodClose) s = .next (s.after (s.periodClose 0 i))) ∧
  (∀ d, d < 36525 → dayOf (civilOf d).1 (civilOf d).2.1 (civilOf d).2.2 = d ∧ 1 ≤ (civilOf d).2.2 ∧ (civilOf d).2.2 ≤ monthDays (civilOf d).1 (civilOf d).2.1 ∧ 1 ≤ (civilOf d).2.1 ∧ (civilOf d).2.1 ≤ 12)

/-- A due demand boundary closes the interval at its legal second and moves its mark; a due switch takes the new rate; a due activation makes the passive
table the active one and empties it; daylight saving that changed is taken; the end of a slew anchors legal time there; TM_SET within 2 s of legal
time slews, else steps legal time to the target plus the TIME since its acceptance; a table that passes the checks becomes the passive table at its
instant; CAL_CANCEL empties it; CAL_READ, TM_READ, BL_HISTORY_READ and BL_RATE_READ read. -/
def Obligations.BoundariesAndCorrections : Prop :=
  (∀ (s : State) (i : Nat),
    s.dueBound = some (i, .demand) →
    ∃ t, exec (.demandClose) s = .next (s.after t) ∧ t.bl.hwmD = max s.bl.hwmD (i * 2 ^ 32) ∧ t.bl.advanced = [] ∧ t.bl.intStart = i * 2 ^ 32 ∧ t.bl.rate = s.bl.rate) ∧
  (∀ (s : State) (i r : Nat),
    s.dueBound = some (i, .switch r) →
    ∃ t, exec (.tariffSwitch) s = .next (s.after t) ∧ t.bl.rate = r ∧ t.bl.hwmT = max s.bl.hwmT (i * 2 ^ 32) ∧ t.bl.hwmD = s.bl.hwmD) ∧
  (∀ (s : State) (i j : Nat) (c : CalTab),
    s.dueBound = some (i, .activation) →
    s.bl.passive = some (c, j) →
    ∃ t, exec (.calendarActivation) s = .next (s.after t) ∧ t.bl.cal = c ∧ t.bl.passive = none ∧ t.bl.rate = c.rateAt (c.tariff i) ∧ t.bl.perFrom = i) ∧
  (∀ (s : State),
    s.bl.dst ≠ s.dstNow →
    ∃ t, exec (.daylightSavingChange) s = .next (s.after t) ∧ t.bl.dst = s.dstNow) ∧
  (∀ (s : State) (e : Nat),
    s.clock.slewEnd = some e →
    e ≤ s.now →
    exec (.slewEnd) s = .next (s.after ({ s with clock := { s.clock with prevTime := s.clock.anchorTime, prevLegal := s.clock.anchorLegal, anchorTime := e, anchorLegal := s.legalAt e, slewDelta := 0, slewEnd := none } }))) ∧
  (∀ (s : State) (tk : Nat) (t : Ticket) (d : Int),
    s.ticket tk 0x0563 = some t →
    s.hubTime = false →
    d = s.corrDelta (t.u 0 8) t.acceptTime →
    s.corrRefused (t.u 0 8) d = false →
    exec (.tmSet tk) s = .next (s.after ((s.drawn.correct (t.u 0 8) t.acceptTime 0 d (s.corrNs d)).complete t St.ok (leBytes 1 (s.corrMode d) ++ leBytes 8 (toBits 64 (s.corrNs d)))))) ∧
  (∀ (s : State) (target e src : Nat) (d ns : Int), s.corrMode d ≠ 0 →
    let u := s.correct target e src d ns
    u.clock.anchorTime = s.now ∧ u.clock.anchorLegal = target + (s.now - e) * 2 ^ 32 / 1000000000 ∧ u.clock.legalValid = true ∧ u.clock.rtcSetDue = some (s.now + sec 1)) ∧
  (∀ (s : State) (target e src : Nat) (d ns : Int), s.corrMode d = 0 →
    let u := s.correct target e src d ns
    u.clock.anchorTime = s.now ∧ u.clock.anchorLegal = s.legal ∧ u.clock.slewDelta = ns ∧ u.clock.slewEnd = some (s.now + sec 60) ∧ u.bl.steps = s.bl.steps) ∧
  (∀ (s : State) (tk : Nat) (t : Ticket) (c : CalTab),
    s.ticket tk 0x0560 = some t →
    s.checkTable (t.rest 4) = .inr c →
    t.u 0 4 ≠ 0 →
    s.instantOk c (t.u 0 4) = true →
    exec (.calLoad tk) s = .next (s.after (({ s with bl := { s.bl with passive := some (c, t.u 0 4) } } : State).complete t St.ok (leBytes 4 (t.u 0 4))))) ∧
  (∀ (s : State) (tk : Nat) (t : Ticket),
    s.ticket tk 0x0561 = some t →
    exec (.calCancel tk) s = .next (s.after (({ s with bl := { s.bl with passive := none } } : State).complete t St.ok))) ∧
  (∀ (s : State) (tk : Nat) (t : Ticket),
    s.ticket tk 0x0562 = some t →
    t.u 0 1 = 0 →
    exec (.calRead tk) s = .next (s.after (s.complete t St.ok s.bl.cal.image))) ∧
  (∀ (s : State) (tk : Nat) (t : Ticket),
    s.ticket tk 0x0564 = some t →
    exec (.tmRead tk) s = .next (s.after (s.complete t St.ok (leBytes 8 s.legal ++ leBytes 8 s.now ++ leBytes 2 (toBits 16 (s.bl.cal.stdOffset + (if s.bl.dst then s.bl.cal.dstShift else 0 : Nat))) ++ leBytes 8 s.blStatus ++ leBytes 8 s.blSlew)))) ∧
  (∀ (s : State) (tk : Nat) (t : Ticket) (l : List Bytes) (e : Bytes),
    s.ticket tk 0x0565 = some t →
    t.u 0 1 = 0 →
    t.u 1 1 < s.nLanes →
    (s.typ (t.u 1 1)).isLane = true →
    ((s.bl.history.find? fun y => y.1 == 0 && y.2.1 == t.u 1 1) = some (0, t.u 1 1, l)) →
    l[t.u 2 1]? = some e →
    exec (.blHistoryRead tk) s = .next (s.after (s.complete t St.ok e))) ∧
  (∀ (s : State) (tk : Nat) (t : Ticket),
    s.ticket tk 0x0566 = some t →
    t.u 0 1 = 0 →
    t.u 1 1 < s.nLanes →
    (s.typ (t.u 1 1)).isLane = true →
    exec (.blRateRead tk) s = .next (s.after (s.complete t St.ok ((s.rates false false (t.u 1 1) ++ s.rates false true (t.u 1 1)).flatMap (leBytes 8)))))

/-- The debit of a second debits, for every lane and then every custody channel whose charge is due, the whole credit units accrued; the credit check goes
over the lanes, then the custody channels; friendly time that begins or ends for some classes is taken and reported; a price table whose instant has
come is in force; AC_PRICE_LOAD with good groups and an instant of a whole minute ahead waits for it; AC_FRIENDLY_WRITE and AC_CLASS_WRITE store what
is in range; AC_STATUS reads. -/
def Obligations.DebitsChecksAndPrices : Prop :=
  (∀ (s : State),
    exec (.accountDebit) s = .next (s.after ((List.range 32).foldl (fun (s : State) n => match s.ac.custody.getD n none with
      | some c => if c.due s.now then { (s.debitSecond 0xFF c).1 with ac := { (s.debitSecond 0xFF c).1.ac with custody := (s.debitSecond 0xFF c).1.ac.custody.set n (some (s.debitSecond 0xFF c).2) } } else s
      | none => s) ((List.range 64).foldl (fun (s : State) n => match s.ac.charges.getD n none with
      | some c => if c.due s.now then { (s.debitSecond n c).1 with ac := { (s.debitSecond n c).1.ac with charges := (s.debitSecond n c).1.ac.charges.set n (some (s.debitSecond n c).2) } } else s
      | none => s) s)))) ∧
  (∀ (s : State),
    exec (.creditCheck) s = .next (s.after ((List.range 32).foldl (fun (s : State) n => s.creditCust n) ((List.range 64).foldl (fun (s : State) n => s.creditLane n) s)))) ∧
  (∀ (s : State) (m : Nat),
    m = bitsLess (s.friendlyAt s.legalSec) s.ac.frNow →
    m ≠ 0 →
    ∃ t, exec (.friendlyStart) s = .next (s.after t) ∧ t.ac.frNow = s.ac.frNow ||| m ∧ t.lanes = s.lanes) ∧
  (∀ (s : State) (m : Nat),
    m = bitsLess s.ac.frNow (s.friendlyAt s.legalSec) →
    m ≠ 0 →
    ∃ t, exec (.friendlyEnd) s = .next (s.after t) ∧ t.ac.frNow = bitsLess s.ac.frNow m) ∧
  (∀ (s : State) (p : PriceTab) (i : Nat),
    s.ac.pricePend = some (p, i) →
    i ≤ s.legalSec →
    exec (.priceActivation) s = .next (s.after (({ s with ac := { s.ac with price := p, pricePend := none } } : State).evMod .metering s.rd.active 0 0x4035 (leBytes 4 p.crc ++ leBytes 4 i)))) ∧
  (∀ (s : State) (tk : Nat) (t : Ticket) (b : Bytes) (gs : List (Option PriceGrp)),
    s.ticket tk 0x0508 = some t →
    s.bulkRuns = false →
    b = t.rest 4 →
    b.length = 5124 →
    leNat (sub b 5120 4) = crc32 (b.take 5120) →
    (gs = (List.range 64).map (fun k => parseGroup (sub b (80 * k) 80))) →
    gs.any (·.isNone) = false →
    t.u 0 4 ≠ 0 →
    t.u 0 4 % 60 = 0 →
    s.legal < t.u 0 4 * 2 ^ 32 →
    exec (.acPriceLoad tk) s = .next (s.after (({ s with ac := { s.ac with pricePend := some ({ groups := gs.map fun (g : Option PriceGrp) => g.getD {} }, t.u 0 4) } } : State).complete t St.ok (leBytes 4 (t.u 0 4))))) ∧
  (∀ (s : State) (tk : Nat) (t : Ticket) (ws : List (FrWin × Bool)) (ds : List (FrDay × Bool)),
    s.ticket tk 0x0509 = some t →
    s.bulkRuns = false →
    t.arg.length = 192 →
    (ws = (List.range 8).map (fun k => parseWindow (sub t.arg (8 * k) 8))) →
    (ds = (List.range 32).map (fun k => parseFrDay (sub t.arg (64 + 4 * k) 4))) →
    ((ws.any fun w => !w.2) = false) →
    ((ds.any fun d => !d.2) = false) →
    exec (.acFriendlyWrite tk) s = .next (s.after (({ s with ac := { s.ac with windows := ws.map (·.1), frDays := ds.map (·.1) } } : State).complete t St.ok))) ∧
  (∀ (s : State) (tk : Nat) (t : Ticket),
    s.ticket tk 0x0507 = some t →
    t.u 0 1 ≤ 15 →
    t.u 1 4 ≤ 2000000000 →
    t.u 5 4 ≤ 2000000000 →
    t.u 9 4 ≤ 2000000000 →
    t.u 13 1 ≤ 64 →
    t.u 14 1 ≤ 1 →
    t.u 15 1 = 1 →
    t.u 16 1 = 0 →
    exec (.acClassWrite tk) s = .next (s.after (({ s with ac := { s.ac with classes := s.ac.classes.set (t.u 0 1) { ecLimit := t.u 1 4, startMin := t.u 5 4, lowCredit := t.u 9 4, maxSessions := t.u 13 1, action := t.u 14 1, friendly := true } } } : State).complete t St.ok))) ∧
  (∀ (s : State) (tk : Nat) (t : Ticket),
    s.ticket tk 0x050A = some t →
    exec (.acStatus tk) s = .next (s.after (s.complete t St.ok (leBytes 4 (s.ac.cells.filter fun x => x.2.used).length ++ leBytes 4 s.ac.creds.length ++ leBytes 1 (s.ac.charges.filter (·.isSome)).length ++ leBytes 4 s.ac.price.crc ++ leBytes 4 (match s.ac.pricePend with | some (_, i) => i | none => 0) ++ leBytes 1 (b2n (s.ac.frNow != 0)) ++ leBytes 2 s.ac.frNow)))) ∧
  (∀ (s : State) (c : Nat), s.available c = (s.cell c).balance + (s.acClass (s.cell c).cls).ecLimit - ((s.chargesOn c).map Charge.undebited).sum) ∧
  (∀ c : Charge, c.undebited * 2 ^ 32 ≤ c.acc - c.debited * 2 ^ 32 ∧ c.acc - c.debited * 2 ^ 32 < (c.undebited + 1) * 2 ^ 32)

/-- AC_CELL_WRITE changes the fields it carries and keeps balance and totals; AC_CELL_READ answers the cell, reduced for READER; AC_CREDIT adds its amount
once: with a transaction number already taken it changes no cell and answers the balance of then; AC_CRED_WRITE enters, blocks, unblocks or removes an
entry under a new store generation; AC_CRED_FETCH answers the identifier of a reference; AC_CUSTODY_BIND binds or ends; AC_BULK_LOAD of a stream that
passes its checks waits for the commit, which puts cells and store in force, and the load ends once applied; the index of the credentials is rebuilt. -/
def Obligations.CellsCredentialsAndBulkLoads : Prop :=
  (∀ (s : State) (tk : Nat) (t : Ticket) (x : Cell),
    s.ticket tk 0x0502 = some t →
    parseCell (t.rest 4) = some (x, false) →
    t.u 0 4 < cellCount →
    exec (.acCellWrite tk) s = .next (s.after ((s.writeCell (t.u 0 4) { s.cell (t.u 0 4) with tariffGroup := x.tariffGroup, cls := x.cls, used := x.used, blocked := x.blocked, prepaid := x.prepaid, expiry := x.expiry, seq := s.seqAsked + 1 }).complete t St.ok))) ∧
  (∀ (s : State) (tk : Nat) (t : Ticket),
    s.ticket tk 0x0503 = some t →
    t.u 0 4 < cellCount →
    exec (.acCellRead tk) s = .next (s.after (s.complete t St.ok (if t.role = .reader then reducedCell (s.cell (t.u 0 4)).bytes else (s.cell (t.u 0 4)).bytes)))) ∧
  (∀ (s : State) (tk : Nat) (t : Ticket) (b : Int),
    s.ticket tk 0x0504 = some t →
    t.u 0 4 < cellCount →
    t.u 12 8 ≠ 0 →
    s.bulkRuns = false →
    ((s.ac.txns.find? fun x => x.id == t.u 12 8) = none) →
    b = (s.cell (t.u 0 4)).balance + t.i 4 8 →
    -(2 ^ 63 : Int) ≤ b →
    b < 2 ^ 63 →
    exec (.acCredit tk) s = .next (s.after (let u := (s.evCredit (t.u 0 4) (t.i 4 8) false).writeCell (t.u 0 4) { s.cell (t.u 0 4) with balance := b, seq := s.seqAsked + 1 }; ({ u with ac := { u.ac with txns := (({ id := t.u 12 8, balance := b } : Txn) :: u.ac.txns).take 4096 } } : State).complete t St.ok (leBytes 8 (toBits 64 b))))) ∧
  (∀ (s : State) (tk : Nat) (t : Ticket) (x : Txn),
    s.ticket tk 0x0504 = some t →
    t.u 0 4 < cellCount →
    t.u 12 8 ≠ 0 →
    s.bulkRuns = false →
    ((s.ac.txns.find? fun x => x.id == t.u 12 8) = some x) →
    exec (.acCredit tk) s = .next (s.after ((s.evCredit (t.u 0 4) (t.i 4 8) true).complete t St.ok (leBytes 8 (toBits 64 x.balance))))) ∧
  (∀ (s : State) (tk : Nat) (t : Ticket) (e : CredEnt),
    s.ticket tk 0x0505 = some t →
    t.u 0 1 = 0 →
    parseEntry (t.rest 1) false = some e →
    s.ac.creds = [] →
    exec (.acCredWrite tk) s = .next (s.after ((s.credCommit [{ e with gen := s.ac.credGen + 1 }]).complete t St.ok (beBytes 4 (s.credRef e.kind e.ident))))) ∧
  (∀ (s : State) (tk : Nat) (t : Ticket) (e x : CredEnt),
    s.ticket tk 0x0505 = some t →
    parseEntry (t.rest 1) false = some e →
    s.ac.creds = [x] →
    e.same x = true →
    t.u 0 1 ≤ 2 →
    1 ≤ t.u 0 1 →
    exec (.acCredWrite tk) s = .next (s.after ((s.credCommit [{ x with blocked := t.u 0 1 == 1, gen := s.ac.credGen + 1 }]).complete t St.ok (beBytes 4 (s.credRef x.kind x.ident))))) ∧
  (∀ (s : State) (tk : Nat) (t : Ticket) (k : Nat) (id : Bytes) (e : CredEnt),
    s.ticket tk 0x0506 = some t →
    s.identOf (beNat (sub t.arg 0 4)) (t.role == .admin) = some (k, id) →
    ((s.ac.creds.find? fun e => e.kind == k && e.ident == id) = some e) →
    exec (.acCredFetch tk) s = .next (s.after (s.complete t St.ok (leBytes 1 k ++ leBytes 1 id.length ++ id ++ leBytes 4 e.cell)))) ∧
  (∀ (s : State) (tk : Nat) (t : Ticket),
    s.ticket tk 0x050B = some t →
    t.u 0 1 ≤ 31 →
    t.u 1 4 < cellCount →
    s.custExists (t.u 0 1) = true →
    s.ac.custody.getD (t.u 0 1) none = none →
    exec (.acCustodyBind tk) s = .next (s.after (({ s with ac := { s.ac with custody := s.ac.custody.set (t.u 0 1) (some { cell := t.u 1 4, begun := true, timeAt := s.now, debitAt := s.now }) } } : State).complete t St.ok))) ∧
  (∀ (s : State) (tk : Nat) (t : Ticket) (b : Bytes) (mode : Nat) (cells : List (Nat × Cell × Bool)) (creds : List CredEnt),
    s.ticket tk 0x0501 = some t →
    s.ac.bulk = none →
    s.applying = false →
    ((s.up.xfers.any fun x => decide (x.kind < 2)) = false) →
    s.xferBytes (t.u 0 4) 3 = some b →
    s.checkBulk b = .inr (mode, cells, creds) →
    exec (.acBulkLoad tk) s = .next (s.after (let u := (s.onXfer (t.u 0 4) fun x => { x with inUse := true }).dropArchives; { u with ac := { u.ac with bulk := some { ticket := tk, xfer := t.u 0 4, mode := mode, cells := cells, creds := creds, archives := s.archives } } }))) ∧
  (∀ (s : State) (b : Bulk),
    s.ac.bulk = some b →
    b.committed = false →
    b.cells = [] →
    s.ticket b.ticket 0x0501 = none →
    ∃ t, exec (.bulkCommit) s = .next (s.after t) ∧ t.ac.bulk = some { b with committed := true, applyPtr := 0 } ∧ t.ac.creds = bulkCreds s.ac.creds b.creds b.mode (s.ac.credGen + 1) ∧ t.ac.credGen = s.ac.credGen + 1 ∧ t.ac.cells = (if b.mode = 0 then [] else s.ac.cells)) ∧
  (∀ (s : State) (b : Bulk),
    s.ac.bulk = some b →
    b.committed = true →
    exec (.bulkApplyEnd) s = .next (s.after ({ s with ac := { s.ac with bulk := none } }))) ∧
  (∀ (s : State),
    exec (.credentialIndexRebuild) s = .next (s.after ({ s with ac := { s.ac with rebuild := none } })))

/-- An SNRM sets up the link on MP with 128 to 1,024 bytes; 120 s without a frame release it and the associations on MP; an AARQ of a client SAP without
lockout, with room and with the strength and protection of its role opens one association of that client (PUBLIC without authentication, the others
when keys are held and it verifies); release and 120 s of inactivity end one; a lockout ends at its time. An accepted APDU updates the invocation
counter; GET answers its values within the room and holds the rest for the next block; SET and ACTION of the clock by ADMIN or METROLOGY correct legal
time, anything else is answered with its error. -/
def Obligations.CosemLinkAndAssociations : Prop :=
  (∀ (s : State) (info : Nat),
    exec (.hdlcSnrm info) s = .next (s.after ({ s with cosem := { s.cosem with hdlc := true, hdlcInfo := (if info < 128 then 128 else if 1024 < info then 1024 else info), hdlcAt := s.now } }))) ∧
  (∀ (s : State),
    s.cosem.hdlc = true →
    s.cosem.hdlcAt + sec 120 ≤ s.now →
    ∃ t, exec (.hdlcLinkTimeout) s = .next (s.after t) ∧ t.cosem.hdlc = false ∧ t.cosem.hdlcInfo = 128 ∧ (∀ a ∈ t.cosem.assocs, a.transport ≠ 4) ∧ (t.cosem.assocs = s.cosem.assocs.filter (fun a => a.transport != 4))) ∧
  (∀ (s : State) (transport client mech prot : Nat) (authOk : Bool),
    s.cosemUp transport = true →
    s.cosemLocked transport = false →
    ((s.cosem.assocs.filter fun a => a.transport == transport && a.client != client).length < assocLimit transport) →
    mech = 0 →
    ∃ t, exec (.aarq transport client 16 mech prot authOk) s = .next (s.after t) ∧ (t.cosem.assocs = s.cosem.assocs.filter (fun x => !(x.transport == transport && x.client == client)) ++ [{ transport := transport, client := client, sap := 16, role := .pub, mechanism := 0, lastApdu := s.now }]) ∧ t.cosem.out = s.cosem.out ++ [(transport, client, [0, 0x00, 0x00, 0x10])]) ∧
  (∀ (s : State) (transport client sap : Nat) (r : Role),
    s.cosemUp transport = true →
    sapRole sap = some r →
    r ≠ .pub →
    s.cosemLocked transport = false →
    ((s.cosem.assocs.filter fun a => a.transport == transport && a.client != client).length < assocLimit transport) →
    s.isOrphan 4 = false →
    s.isOrphan 1 = false →
    s.assocKeys r 7 = true →
    ∃ t, exec (.aarq transport client sap 7 2 true) s = .next (s.after t) ∧ (t.cosem.assocs = s.cosem.assocs.filter (fun x => !(x.transport == transport && x.client == client)) ++ [{ transport := transport, client := client, sap := sap, role := r, mechanism := 7, lastApdu := s.now }])) ∧
  (∀ (s : State) (transport client : Nat) (a : Assoc),
    s.assocOf transport client = some a →
    s.cosemUp transport = true →
    exec (.releaseRequest transport client) s = .next (s.after (({ s with cosem := { s.cosem with assocs := s.cosem.assocs.filter fun x => !(x.transport == a.transport && x.client == a.client) } } : State).evMod .host s.rd.active a.transport 0x7022 (leBytes 1 a.transport ++ (leBytes 1 a.sap ++ leBytes 1 0))))) ∧
  (∀ (s : State) (transport client : Nat) (a : Assoc),
    s.assocOf transport client = some a →
    transport < 2 →
    a.lastApdu + sec 120 ≤ s.now →
    exec (.associationInactivity transport client) s = .next (s.after (({ s with cosem := { s.cosem with assocs := s.cosem.assocs.filter fun x => !(x.transport == a.transport && x.client == a.client) } } : State).evMod .host s.rd.active a.transport 0x7022 (leBytes 1 a.transport ++ (leBytes 1 a.sap ++ leBytes 1 1))))) ∧
  (∀ (s : State) (tr e : Nat),
    (tr, e) ∈ s.cosem.lockouts →
    ∃ t, exec (.cosemLockoutEnd) s = .next (s.after t) ∧ ((tr, e) ∈ t.cosem.lockouts ↔ s.now < e) ∧ t.cosem.fails = s.cosem.fails ∧ t.cosem.assocs = s.cosem.assocs) ∧
  (∀ (s : State) (transport client ctr : Nat) (ok : Bool) (a : Assoc) (f : State → Assoc → State),
    s.assocOf transport client = some a → s.cosemUp transport = true → a.role ≠ .pub → ok = true →
    (∀ k, s.cosem.invRx.find? (fun x => x.1 == a.sap) = some k → k.2 < ctr) →
    ∃ u : State, s.cosemApdu transport client ctr ok f = f u a ∧ u.cosem.invRx.head? = some (a.sap, ctr) ∧ u.cosem.invTx = (s.cosem.invTx + 1) % 2 ^ 32 ∧ u.cosem.out = s.cosem.out ∧ u.lanes = s.lanes) ∧
  (∀ (s : State) (transport client ctr : Nat) (ok : Bool) (a : Assoc) (k : Nat) (f : State → Assoc → State),
    s.assocOf transport client = some a → s.cosemUp transport = true → a.role ≠ .pub → s.cosem.invRx.find? (fun x => x.1 == a.sap) = some (a.sap, k) → ctr ≤ k →
    s.cosemApdu transport client ctr ok f = s.onPort (if transport = 1 then 1 else 0) fun p => { p with authFail := satU 16 (p.authFail + 1) }) ∧
  (∀ (s : State) (transport client ctr room : Nat) (ok : Bool) (l : List CosemRef) (a : Assoc) (b : Bytes),
    s.assocOf transport client = some a →
    s.cosemUp transport = true →
    a.role = .pub →
    (b = l.flatMap (fun r => (s.cosemApdu transport client ctr true fun u _ => u).cosemGet a.role r)) →
    room = 0 ∨ b.length ≤ room →
    ∃ t, exec (.get transport client ctr ok (.refs l room)) s = .next (s.after t) ∧ t.cosem.out = s.cosem.out ++ [(transport, client, b)]) ∧
  (∀ (s : State) (transport client ctr room : Nat) (ok : Bool) (a : Assoc) (b : Bytes),
    s.assocOf transport client = some a →
    s.cosemUp transport = true →
    a.role = .pub →
    a.rest = some b →
    0 < room →
    room < b.length →
    ∃ t, exec (.get transport client ctr ok (.next room)) s = .next (s.after t) ∧ t.cosem.out = s.cosem.out ++ [(transport, client, b.take room)] ∧ (∀ x, t.assocOf transport client = some x → x.rest = some (b.drop room))) ∧
  (∀ (s : State) (transport client ctr value : Nat) (r : CosemRef) (a : Assoc) (o : Nat × List (Nat × Bytes)),
    s.assocOf transport client = some a →
    s.cosemUp transport = true →
    clockRight a.role = true →
    ((s.cosemApdu transport client ctr true fun u _ => u).cosemObj r = some o) →
    r.cls = 8 →
    r.attr = 2 →
    ((s.cosem.invRx.find? fun x => x.1 == a.sap) = none) →
    exec (.set transport client ctr true true r value) s = .next (s.after (let u := (s.cosemApdu transport client ctr true fun u _ => u); (u.cosemClock value).1.cosemReply transport client (leBytes 1 (u.cosemClock value).2)))) ∧
  (∀ (s : State) (transport client ctr : Nat) (value : Int) (r : CosemRef) (a : Assoc) (o : Nat × List (Nat × Bytes)),
    s.assocOf transport client = some a →
    s.cosemUp transport = true →
    clockRight a.role = true →
    ((s.cosemApdu transport client ctr true fun u _ => u).cosemObj r = some o) →
    r.cls = 8 →
    r.attr = 6 →
    -900 ≤ value ∧ value ≤ 900 →
    ((s.cosem.invRx.find? fun x => x.1 == a.sap) = none) →
    exec (.action transport client ctr true true r value) s = .next (s.after (let u := (s.cosemApdu transport client ctr true fun u _ => u); (u.cosemClock ((u.legal : Int) + value * 2 ^ 32)).1.cosemReply transport client (leBytes 1 (u.cosemClock ((u.legal : Int) + value * 2 ^ 32)).2)))) ∧
  (∀ (s : State) (target : Int), s.hubTime = false → 0 ≤ target → s.corrRefused target.toNat (s.corrDelta target.toNat s.now) = false →
    s.cosemClock target = (s.drawn.correct target.toNat s.now 1 (s.corrDelta target.toNat s.now) (s.corrNs (s.corrDelta target.toNat s.now)), 0))

/-- For a request of the role its node needs: KV_NODE_CREATE gives a good record the lowest free number under its parent; KV_NODE_INVALIDATE raises a
node's generation and marks its certificate stale; KV_NODE_RENEW gives an orphaned node its parent's generation; KV_NODE_DELETE removes a node without
children, and its object; KV_NODE_READ answers the record, with the public key for usages 1 and 2; KV_OBJECT_STORE keeps the node's slot or takes the
lowest free one; KV_SIGN signs with a node of HOST_USE and counts the signature; a node that is orphaned is refused with ORPHANED and counted;
KV_CERT_READ answers the chain. -/
def Obligations.VaultNodesAndObjects : Prop :=
  (∀ (s : State) (tk : Nat) (t : Ticket) (p x : KvNode) (n : Nat),
    s.ticket tk 0x0601 = some t →
    s.kvNode (t.u 0 2) = some p →
    t.vaultRole p.plate = true →
    p.usage = 0 →
    p.depth < 6 →
    t.u 2 1 ≤ 4 →
    t.u 3 1 = 4 →
    1 ≤ t.u 4 1 ∧ t.u 4 1 ≤ 32 →
    (t.rest 5).length = t.u 4 1 →
    (s.kv.nodes.any (fun x => x.parent == p.node && x.label == t.rest 5) = false) →
    s.kv.rngFail = false →
    (((List.range 4096).find? fun n => (s.kvNode n).isNone) = some n) →
    x = { node := n, parent := p.node, depth := p.depth + 1, usage := t.u 2 1, hostUse := true, label := t.rest 5, gen := 1, parentGen := p.gen } →
    exec (.kvNodeCreate tk) s = .next (s.after (let u : State := { s with kv := { s.kv with nodes := insertNode x s.kv.nodes } }; (u.evMod .host 13 0 0xE001 (leBytes 2 n ++ leBytes 2 p.node ++ leBytes 1 (t.u 2 1) ++ leBytes 1 (u.kvFlags x))).complete t St.ok (leBytes 2 n ++ leBytes 4 1)))) ∧
  (∀ (s : State) (tk : Nat) (t : Ticket) (x : KvNode),
    s.ticket tk 0x0602 = some t →
    t.u 0 2 ≠ 0 →
    s.kvNode (t.u 0 2) = some x →
    t.vaultRole x.plate = true →
    exec (.kvNodeInvalidate tk) s = .next (s.after (let u := s.onNode x.node fun y => { y with gen := (x.gen + 1) % 2 ^ 32, certStale := y.cert }; (u.evMod .host 13 0 0xE002 (leBytes 2 x.node ++ leBytes 4 ((x.gen + 1) % 2 ^ 32) ++ leBytes 2 (u.newOrphans s) ++ leBytes 1 0)).complete t St.ok (leBytes 4 ((x.gen + 1) % 2 ^ 32) ++ leBytes 2 (u.newOrphans s))))) ∧
  (∀ (s : State) (tk : Nat) (t : Ticket) (x p : KvNode),
    s.ticket tk 0x0603 = some t →
    s.kvNode (t.u 0 2) = some x →
    t.vaultRole x.plate = true →
    s.kvNode x.parent = some p →
    s.isOrphan x.node = true →
    s.isOrphan p.node = false →
    exec (.kvNodeRenew tk) s = .next (s.after (((s.onNode x.node fun x => { x with parentGen := p.gen, gen := (x.gen + 1) % 2 ^ 32, certStale := x.cert }).evMod .host 13 0 0xE003 (leBytes 2 x.node ++ leBytes 4 ((x.gen + 1) % 2 ^ 32) ++ leBytes 4 p.gen)).complete t St.ok (leBytes 4 ((x.gen + 1) % 2 ^ 32))))) ∧
  (∀ (s : State) (tk : Nat) (t : Ticket) (x : KvNode),
    s.ticket tk 0x0604 = some t →
    4 < t.u 0 2 →
    s.kvNode (t.u 0 2) = some x →
    t.vaultRole x.plate = true →
    ((s.kv.nodes.any fun y => y.parent == x.node) = false) →
    exec (.kvNodeDelete tk) s = .next (s.after (({ s with kv := { s.kv with nodes := s.kv.nodes.filter fun y => y.node != x.node, objects := s.kv.objects.filter fun o => o.2.1 != x.node } } : State).complete t St.ok))) ∧
  (∀ (s : State) (tk : Nat) (t : Ticket) (x : KvNode),
    s.ticket tk 0x0605 = some t →
    s.kvNode (t.u 0 2) = some x →
    s.isOrphan x.node = false →
    exec (.kvNodeRead tk) s = .next (s.after (s.complete t St.ok (if x.usage = 1 ∨ x.usage = 2 then s.kvRecord x ++ s.nodePublic x.node else s.kvRecord x)))) ∧
  (∀ (s : State) (tk : Nat) (t : Ticket) (x : KvNode),
    s.ticket tk 0x0605 = some t →
    s.kvNode (t.u 0 2) = some x →
    s.isOrphan x.node = true →
    x.usage = 1 ∨ x.usage = 2 →
    exec (.kvNodeRead tk) s = .next (s.after (({ s with kv := { s.kv with orphanRef := if s.kv.orphanRef < 65535 then s.kv.orphanRef + 1 else 65535 } } : State).complete t St.orphaned))) ∧
  (∀ (s : State) (tk : Nat) (t : Ticket) (x : KvNode) (k : Nat),
    s.ticket tk 0x060C = some t →
    s.kvNode (t.u 0 2) = some x →
    t.vaultRole x.plate = true →
    x.usage = 3 →
    1 ≤ (t.rest 2).length ∧ (t.rest 2).length ≤ 2048 →
    s.isOrphan x.node = false →
    x.object = none →
    (((List.range 64).find? fun k => !s.kv.objects.any fun o => o.1 == k) = some k) →
    exec (.kvObjectStore tk) s = .next (s.after (let u := s.onNode x.node fun x => { x with object := some k }; ({ u with kv := { u.kv with objects := (k, x.node, t.rest 2) :: s.kv.objects.filter fun o => o.1 != k } } : State).complete t St.ok (leBytes 1 k)))) ∧
  (∀ (s : State) (tk : Nat) (t : Ticket) (x : KvNode) (k : Nat),
    s.ticket tk 0x060C = some t →
    s.kvNode (t.u 0 2) = some x →
    t.vaultRole x.plate = true →
    x.usage = 3 →
    1 ≤ (t.rest 2).length ∧ (t.rest 2).length ≤ 2048 →
    s.isOrphan x.node = false →
    x.object = some k →
    exec (.kvObjectStore tk) s = .next (s.after (let u := s.onNode x.node fun x => { x with object := some k }; ({ u with kv := { u.kv with objects := (k, x.node, t.rest 2) :: s.kv.objects.filter fun o => o.1 != k } } : State).complete t St.ok (leBytes 1 k)))) ∧
  (∀ (s : State) (tk : Nat) (t : Ticket) (x : KvNode),
    s.ticket tk 0x060B = some t →
    s.kvNode (t.u 0 2) = some x →
    x.plate = false →
    x.usage = 1 →
    x.hostUse = true →
    (t.rest 2).length = 32 →
    s.isOrphan x.node = false →
    exec (.kvSign tk) s = .next (s.after (({ s with kv := { s.kv with signatures := (s.kv.signatures + 1) % 2 ^ 32 } } : State).drawn.complete t St.ok (P256.sign (s.nodeScalar x.node) (t.rest 2) (if s.kv.rngFail then [] else s.freeBytes 32))))) ∧
  (∀ (s : State) (tk : Nat) (t : Ticket) (x : KvNode),
    s.ticket tk 0x0608 = some t →
    s.kvNode (t.u 0 2) = some x →
    x.cert = true →
    exec (.kvCertRead tk) s = .next (s.after (s.complete t St.ok x.chain)))

/-- KV_CSR answers a request over the node's public key signed by it (usage 1) or by node 1 (usage 2); KV_CERT_STORE keeps a chain whose leaf carries the
node's public key; KV_ANCHOR_SET by the slot's role keeps a key on the curve, or empties the slot, and tells it; a first KV_ROOT_RETIRE waits 300 s
for another role's, which retires the root: a new generation of the root, node 1 renewed, every other node of its own generation orphaned; the pending
half ends at 300 s. A failing health test raises RNG_FAIL once; 1,024 passes end it; reseed and mask rotation advance outside RNG_FAIL and leave
everything under it. -/
def Obligations.CertificatesAnchorsRootAndRandom : Prop :=
  (∀ (s : State) (tk : Nat) (t : Ticket) (x : KvNode),
    s.ticket tk 0x0606 = some t →
    s.kvNode (t.u 0 2) = some x →
    t.vaultRole x.plate = true →
    t.arg.length ≤ 258 →
    x.usage = 1 →
    s.isOrphan x.node = false →
    exec (.kvCsr tk) s = .next (s.after ((s.signed x.node).complete t St.ok (csrOf (csrInfo (t.rest 2) (s.nodePublic x.node)) ((s.signature x.node (sha256 (csrInfo (t.rest 2) (s.nodePublic x.node)))).getD []))))) ∧
  (∀ (s : State) (tk : Nat) (t : Ticket) (x : KvNode),
    s.ticket tk 0x0606 = some t →
    s.kvNode (t.u 0 2) = some x →
    t.vaultRole x.plate = true →
    t.arg.length ≤ 258 →
    x.usage = 2 →
    s.isOrphan x.node = false →
    s.isOrphan 1 = false →
    exec (.kvCsr tk) s = .next (s.after ((s.signed 1).complete t St.ok (csrOf (csrInfo (t.rest 2) (s.nodePublic x.node)) ((s.signature 1 (sha256 (csrInfo (t.rest 2) (s.nodePublic x.node)))).getD []))))) ∧
  (∀ (s : State) (tk : Nat) (t : Ticket) (x : KvNode),
    s.ticket tk 0x0607 = some t →
    s.kvNode (t.u 0 2) = some x →
    t.vaultRole x.plate = true →
    x.usage = 1 ∨ x.usage = 2 →
    t.arg.length ≤ 4098 →
    s.isOrphan x.node = false →
    leafKey (t.rest 2) = some (s.nodePublic x.node) →
    exec (.kvCertStore tk) s = .next (s.after ((s.onNode x.node fun x => { x with cert := true, certStale := false, chain := t.rest 2 }).complete t St.ok))) ∧
  (∀ (s : State) (tk : Nat) (t : Ticket),
    s.ticket tk 0x0609 = some t →
    t.u 0 1 ≤ 27 →
    t.u 0 1 ≠ 2 →
    t.role = anchorRole (t.u 0 1) →
    (t.rest 1).length = 64 →
    (t.rest 1).all (· == 0) = true →
    exec (.kvAnchorSet tk) s = .next (s.after ((({ s with kv := { s.kv with anchors := s.kv.anchors.filter fun x => x.1 != t.u 0 1 } } : State).evMod .host 13 0 0xE006 (leBytes 1 (t.u 0 1) ++ leBytes 1 t.role.code)).complete t St.ok))) ∧
  (∀ (s : State) (tk : Nat) (t : Ticket),
    s.ticket tk 0x0609 = some t →
    t.u 0 1 ≤ 27 →
    t.u 0 1 ≠ 2 →
    t.role = anchorRole (t.u 0 1) →
    (t.rest 1).length = 64 →
    (t.rest 1).all (· == 0) = false →
    P256.onCurve (t.rest 1) = true →
    ∃ u, exec (.kvAnchorSet tk) s = .next (s.after u) ∧ u.anchor (t.u 0 1) = some (t.rest 1) ∧ (∀ k, k ≠ t.u 0 1 → u.anchor k = s.anchor k)) ∧
  (∀ (s : State) (tk : Nat) (t : Ticket),
    s.ticket tk 0x060A = some t →
    s.kv.rngFail = false →
    s.kv.retire = none →
    exec (.kvRootRetire tk) s = .next (s.after ((({ s with kv := { s.kv with retire := some (t.role, s.now + sec 300) } } : State).evMod .host 13 0 0xE004 (leBytes 1 t.role.code ++ leBytes 2 300)).complete t St.ok))) ∧
  (∀ (s : State) (tk : Nat) (t : Ticket) (r : Role) (e : Nat) (x : KvNode),
    s.ticket tk 0x060A = some t →
    s.kv.rngFail = false →
    s.kv.retire = some (r, e) →
    r ≠ t.role →
    s.now ≤ e →
    s.kvNode 0 = some x →
    ∃ u, exec (.kvRootRetire tk) s = .next (s.after u) ∧ u.kv.retire = none ∧ u.kv.rootEpoch = s.kv.rootEpoch + 1 ∧ u.kvNode 0 = some { x with gen := (x.gen + 1) % 2 ^ 32 } ∧ (∀ y, s.kvNode 1 = some y → u.kvNode 1 = some { y with parentGen := (x.gen + 1) % 2 ^ 32, gen := (y.gen + 1) % 2 ^ 32, certStale := y.cert }) ∧ (∀ k, 1 < k → u.kvNode k = s.kvNode k)) ∧
  (∀ (s : State) (r : Role) (e : Nat),
    s.kv.retire = some (r, e) →
    e ≤ s.now →
    exec (.rootRetireWindowEnd) s = .next (s.after ({ s with kv := { s.kv with retire := none } }))) ∧
  (∀ (s : State),
    s.kv.rngFail = false →
    exec (.drbgReseed) s = .next (s.after (({ s with kv := { s.kv with reseeds := s.kv.reseeds + 1 } } : State).drawn))) ∧
  (∀ s : State, s.kv.rngFail = true → exec .drbgReseed s = .next (s.after s) ∧ ∀ b, exec (.maskRotation b) s = .next (s.after s)) ∧
  (∀ (s : State) (late : Bool),
    s.kv.rngFail = false →
    s.kv.rotLate < 65535 →
    exec (.maskRotation late) s = .next (s.after (({ s with kv := { s.kv with mask := s.kv.mask + 1, rotAt := s.now, rotLate := s.kv.rotLate + (if late then 1 else 0) } } : State).drawn))) ∧
  (∀ (s : State) (k : Nat),
    s.kv.rngFail = false →
    exec (.healthTest k false) s = .next (s.after (({ s with kv := { s.kv with rngFail := true, healthOk := 0 } } : State).evMod .diag 13 0 0xE007 (leBytes 1 k ++ leBytes 1 1)))) ∧
  (∀ (s : State) (k : Nat),
    s.kv.rngFail = true →
    s.kv.healthOk = 1023 →
    exec (.healthTest k true) s = .next (s.after (({ s with kv := { s.kv with rngFail := false, healthOk := 0 } } : State).evMod .diag 13 0 0xE007 (leBytes 1 k ++ leBytes 1 0)))) ∧
  (∀ (s : State) (k : Nat),
    s.kv.rngFail = true →
    s.kv.healthOk < 1023 →
    exec (.healthTest k true) s = .next (s.after ({ s with kv := { s.kv with healthOk := s.kv.healthOk + 1 } })))

/-- A frame that is good, new, for this node and expected is accepted and counted, a repeated counter is counted as an authentication failure; an ACK in
its window ends its frame; after 14.6 ms without one a frame is repeated, a mode down after the second failure in one mode, and fails at the seventh
attempt; a frame held 2 s behind a preamble goes out; PRESENCE goes to the master after 10 s without a frame; edges of ZC give the last ten periods
and their validity; load above 80 % and below 70 % is told once; KZ_READ, KZ_WAKE and KZ_COUNT_CLEAR answer. -/
def Obligations.KryuzFramesAndAcknowledgements : Prop :=
  (∀ (s : State) (f : KzFrame), s.kzOn = true → f.hdrOk = true → 4 * f.erased ≤ kzSymbols f.mode (kzLen f.body) → (s.kz.keyEn = true → f.tagOk = true) →
    (∀ x, s.kzPairOf f.eui = some x → x.counter < f.counter) → f.dest = 0xFFFF ∨ f.dest = s.kz.address →
    ∃ t, s.kzReceive f true = (.accepted, t) ∧ t.kz.rxOk = satU 32 (s.kz.rxOk + 1) ∧ t.lanes = s.lanes ∧
      (∀ x, t.kzPairOf f.eui = some x → x.counter = f.counter ∧ x.addr = f.src ∧ x.snrs.length ≤ 8)) ∧
  (∀ (s : State) (f : KzFrame) (b : Bool) (x : KzPair), s.kzOn = true → f.hdrOk = true → 4 * f.erased ≤ kzSymbols f.mode (kzLen f.body) → f.tagOk = true →
    s.kzPairOf f.eui = some x → f.counter ≤ x.counter → s.kzReceive f b = (.dropped, { s with kz := { s.kz with authFail := satU 16 (s.kz.authFail + 1) } })) ∧
  (∀ (s : State) (fsn : Nat) (x : KzTx),
    ((s.kz.txs.find? fun x => x.fsn == fsn && x.wakeEnd.isNone && !([2, 6, 13].contains x.ft)) = some x) →
    s.kzOn = true →
    x.endAt ≤ s.now →
    s.now ≤ x.endAt + 14600000 →
    x.bind = false →
    exec (.ack fsn) s = .next (s.after ({ s with kz := { s.kz with rxOk := satU 32 (s.kz.rxOk + 1), txOk := satU 32 (s.kz.txOk + (s.kz.txs.filter fun y => y == x).length), txs := s.kz.txs.filter fun y => !(y == x) } }))) ∧
  (∀ (s : State) (fsn : Nat) (x : KzTx),
    ((s.kz.txs.find? fun x => x.fsn == fsn) = some x) →
    s.kzOn = true →
    x.wakeEnd = none →
    x.endAt + 14600000 ≤ s.now →
    x.attempt = 7 →
    exec (.ackTimeout fsn) s = .next (s.after ({ s with kz := { s.kz with txs := s.kz.txs.erase x, txFail := if s.kz.txFail + 1 < 65536 then s.kz.txFail + 1 else 65535 } }))) ∧
  (∀ (s : State) (fsn : Nat) (x : KzTx),
    ((s.kz.txs.find? fun x => x.fsn == fsn) = some x) →
    s.kzOn = true →
    x.wakeEnd = none →
    x.endAt + 14600000 ≤ s.now →
    x.attempt < 7 →
    ∃ t, exec (.ackTimeout fsn) s = .next (s.after t) ∧ t.kz.out = s.kz.out ++ [{ ft := x.ft, dest := x.dest, counter := (s.kz.counter + 1) % 2 ^ 32, fsn := x.fsn, mode := (if x.failsIn = 1 then min 4 (x.mode + 1) else x.mode), body := x.body }] ∧ t.kz.txs.length = s.kz.txs.length ∧ t.kz.txFail = s.kz.txFail) ∧
  (∀ (s : State) (fsn e : Nat) (x : KzTx),
    ((s.kz.txs.find? fun x => x.fsn == fsn) = some x) →
    s.kzOn = true →
    x.wakeEnd = some e →
    e ≤ s.now →
    ∃ t, exec (.ackTimeout fsn) s = .next (s.after t) ∧ t.kz.out.length = s.kz.out.length + 1 ∧ (∀ y ∈ t.kz.txs, y.fsn = fsn → y = { x with attempt := 1, wakeEnd := none, endAt := s.now + kzAirtime x.mode (kzLen x.body) } ∨ y ∈ s.kz.txs)) ∧
  (∀ (s : State) (x : KzPair),
    s.kz.presAt + sec 10 ≤ s.now →
    s.kzOn = true →
    s.kz.master = false →
    s.kz.joined = true →
    s.kzPairOf s.kz.masterEui = some x →
    exec (.presenceSend) s = .next (s.after ((s.kzUnicast 4 x.addr (leBytes 1 s.kzSector ++ leBytes 1 0 ++ leBytes 1 s.kzSnr)).drawn))) ∧
  (∀ (s : State) (a : Nat),
    s.kz.zcAt = some a →
    s.kz.zcPers.length ≤ 10 →
    ∃ t, exec (.zcEdge) s = .next (s.after t) ∧ t.kz.zcAt = some s.now ∧ t.kz.zcPers.getLast? = some (s.now - a) ∧ t.kz.zcPers.length = min 10 (s.kz.zcPers.length + 1) ∧ (t.kz.zcValid = true → 15400000 ≤ s.now - a ∧ s.now - a ≤ 22200000 ∧ ∀ x ∈ t.kz.zcPers, ∀ y ∈ t.kz.zcPers, (x - y) * 100 ≤ s.now - a)) ∧
  (∀ (s : State),
    s.kz.zcAt = none →
    ∃ t, exec (.zcEdge) s = .next (s.after t) ∧ t.kz.zcAt = some s.now ∧ t.kz.zcValid = false ∧ t.kz.zcPers = []) ∧
  (∀ (s : State) (busy own : Nat),
    80 < busy ∧ busy ≤ 100 ∧ own ≤ 100 →
    s.kz.loadHigh = false →
    exec (.kryuzLoadMeasure busy own) s = .next (s.after (({ s with kz := { s.kz with busy := busy, own := own, loadHigh := true } } : State).evMod .diag s.rd.active 0 0x7034 (leBytes 1 busy ++ leBytes 1 1 ++ leBytes 1 own)))) ∧
  (∀ (s : State) (busy own : Nat),
    busy < 70 →
    own ≤ 100 →
    s.kz.loadHigh = true →
    exec (.kryuzLoadMeasure busy own) s = .next (s.after (({ s with kz := { s.kz with busy := busy, own := own, loadHigh := false } } : State).evMod .diag s.rd.active 0 0x7034 (leBytes 1 busy ++ leBytes 1 0 ++ leBytes 1 own)))) ∧
  (∀ (s : State) (busy own : Nat),
    70 ≤ busy →
    busy ≤ 80 →
    own ≤ 100 →
    exec (.kryuzLoadMeasure busy own) s = .next (s.after ({ s with kz := { s.kz with busy := busy, own := own } }))) ∧
  (∀ (s : State) (tk : Nat) (t : Ticket),
    s.ticket tk 0x0A01 = some t →
    exec (.kzRead tk) s = .next (s.after (s.complete t St.ok (leBytes 8 s.kzStatus ++ (leBytes 8 s.kzCfg ++ (leBytes 8 s.kz.masterEui ++ (leBytes 8 s.kzLink ++ (leBytes 8 s.kzLoad ++ (leBytes 8 s.kzCount0 ++ (leBytes 8 s.kzCount1 ++ leBytes 8 s.kzDist)))))))))) ∧
  (∀ (s : State) (tk : Nat) (t : Ticket),
    s.ticket tk 0x0A04 = some t →
    s.kzOn = true →
    exec (.kzWake tk) s = .next (s.after (({ s with kz := { s.kz with wakes := s.kz.wakes + 1 } } : State).complete t St.ok))) ∧
  (∀ (s : State) (tk : Nat) (t : Ticket),
    s.ticket tk 0x0A06 = some t →
    exec (.kzCountClear tk) s = .next (s.after (({ s with kz := { s.kz with rxOk := 0, hdrFail := 0, erased := 0, txOk := 0, txFail := 0, authFail := 0 } } : State).complete t St.ok)))

/-- A beacon of the followed master keeps the master and its time; a master that hears a lower EUI-64 yields, one that hears a higher stays; 1.0 s without
a beacon begins a listening of 1.0 to 1.2 s, at whose end the module is master; a master beacons every 199 ms or later with a 25-byte body; JOIN_CNF
of status 0 gives the address, another takes it, status 2 with 60 s of wait, which end; a node unknown to the master gets an entry and a JOIN_CNF, a
failing tag a refusal of status 2; PRESENCE updates an entry; a node silent for 30 s departs; KZ_NODE_READ answers the entries. -/
def Obligations.KryuzMasterJoiningAndNodes : Prop :=
  (∀ (s : State) (f : KzFrame) (u : State),
    s.kzReceive f ((leNat (sub f.body 0 8) == f.eui && f.eui != s.ident.eui64)) = (.accepted, u) →
    u.kz.master = false →
    u.kz.masterEui = f.eui →
    exec (.beacon f) s = .next (s.after (u.followBeacon f))) ∧
  (∀ (s : State) (f : KzFrame) (u : State),
    s.kzReceive f ((leNat (sub f.body 0 8) == f.eui && f.eui != s.ident.eui64)) = (.accepted, u) →
    u.kz.master = true →
    u.ident.eui64 ≤ f.eui →
    exec (.beacon f) s = .next (s.after (u))) ∧
  (∀ (s : State) (f : KzFrame) (u : State),
    s.kzReceive f ((leNat (sub f.body 0 8) == f.eui && f.eui != s.ident.eui64)) = (.accepted, u) →
    u.kz.master = true →
    f.eui < u.ident.eui64 →
    ∃ t, exec (.beacon f) s = .next (s.after t) ∧ t.kz.master = false ∧ t.kz.masterEui = f.eui ∧ t.kz.beaconAt = some s.now) ∧
  (∀ (s : State) (f : KzFrame) (u : State),
    s.kzReceive f ((leNat (sub f.body 0 8) == f.eui && f.eui != s.ident.eui64)) = (.accepted, u) →
    u.kz.master = false →
    u.kz.masterEui ≠ 0 →
    u.kz.masterEui < f.eui →
    u.kz.listenEnd = none →
    exec (.beacon f) s = .next (s.after (u))) ∧
  (∀ (s : State) (b : Nat),
    s.kzOn = true →
    s.kz.master = false →
    s.kz.listenEnd = none →
    s.kz.beaconAt = some b →
    b + sec 1 ≤ s.now →
    ∃ t, exec (.beaconLoss) s = .next (s.after t) ∧ (∃ e, t.kz.listenEnd = some e ∧ s.now + sec 1 ≤ e ∧ e ≤ s.now + sec 1 + ms 200)) ∧
  (∀ (s : State) (e : Nat),
    s.kz.listenEnd = some e →
    e ≤ s.now →
    s.kzOn = true →
    ∃ t, exec (.masterListenEnd) s = .next (s.after t) ∧ t.kz.master = true ∧ t.kz.masterEui = s.ident.eui64 ∧ t.kz.joined = true ∧ t.kz.listenEnd = none ∧ (∃ x, t.kz.nodes.head? = some x ∧ x.eui = s.ident.eui64 ∧ x.addr = t.kz.address ∧ x.sector = 0) ∧ (s.kz.address ≠ 0 → t.kz.address = s.kz.address)) ∧
  (∀ (s : State) (b : Nat),
    s.kzOn = true →
    s.kz.master = true →
    s.kz.beaconSent = some b →
    b + ms 199 ≤ s.now →
    ∃ t, exec (.beaconSend) s = .next (s.after t) ∧ t.kz.beaconSent = some s.now ∧ t.kz.counter = (s.kz.counter + 1) % 2 ^ 32 ∧ (∃ x, t.kz.out = s.kz.out ++ [x] ∧ x.ft = 0 ∧ x.dest = 0xFFFF ∧ x.mode = s.kz.beaconMode ∧ x.body.take 8 = leBytes 8 s.ident.eui64 ∧ sub x.body 8 8 = leBytes 8 s.legal ∧ x.body.length = 25)) ∧
  (∀ (s : State) (f : KzFrame) (u : State),
    s.kzReceive f (!s.kz.master && f.eui == s.kz.masterEui && leNat (sub f.body 0 8) == s.ident.eui64) = (.accepted, u) →
    leNat (sub f.body 10 1) = 0 →
    ∃ t, exec (.joinCnf f) s = .next (s.after t) ∧ t.kz.address = leNat (sub f.body 8 2) % 4096 ∧ t.kz.joined = true ∧ t.kz.joinPend = false ∧ t.kz.master = u.kz.master) ∧
  (∀ (s : State) (f : KzFrame) (u : State),
    s.kzReceive f (!s.kz.master && f.eui == s.kz.masterEui && leNat (sub f.body 0 8) == s.ident.eui64) = (.accepted, u) →
    leNat (sub f.body 10 1) = 2 →
    ∃ t, exec (.joinCnf f) s = .next (s.after t) ∧ t.kz.address = 0 ∧ t.kz.joined = false ∧ t.kz.joinWait = some (s.now + sec 60)) ∧
  (∀ (s : State) (e : Nat),
    s.kz.joinWait = some e →
    e ≤ s.now →
    exec (.joinRetryWaitEnd) s = .next (s.after ({ s with kz := { s.kz with joinWait := none } }))) ∧
  (∀ (s : State) (f : KzFrame) (u : State),
    s.kzReceive f (s.kz.master) = (.accepted, u) →
    ((u.kz.nodes.find? fun x => x.eui == f.eui && u.holdsAddr x) = none) →
    u.kzLive.length < 256 →
    leNat (sub f.body 10 2) = 0 →
    f.eui ≠ u.ident.eui64 →
    (∀ x ∈ u.kz.nodes, x.eui ≠ f.eui) →
    ∃ t, exec (.joinReq f) s = .next (s.after t) ∧ ((∃ x, (t.kz.nodes.find? fun x => x.eui == f.eui) = some x ∧ x.departed = none ∧ x.heardAt = s.now ∧ x.kind = leNat (sub f.body 8 1) ∧ x.sector = leNat (sub f.body 9 1)))) ∧
  (∀ (s : State) (f : KzFrame) (u : State),
    s.kzReceive f s.kz.master = (.badTag, u) →
    u.kz.master = true →
    f.dest = u.kz.address ∨ f.dest = 0xFFFF →
    exec (.joinReq f) s = .next (s.after ((u.evMod .external u.rd.active 0 0x7033 (leBytes 8 f.eui ++ leBytes 1 2)).kzUnicast 3 f.src (leBytes 8 f.eui ++ leBytes 2 0 ++ leBytes 1 2)))) ∧
  (∀ (s : State) (f : KzFrame) (u : State),
    (s.kzReceive f ((s.kz.master && (s.kzLive.any fun x => x.eui == f.eui))) = (.accepted, u)) →
    (∀ x ∈ s.kz.nodes, x.eui = f.eui → x.departed = none) →
    ∃ t, exec (.presence f) s = .next (s.after t) ∧ (∀ x ∈ t.kz.nodes, x.eui = f.eui → x.power = leNat (sub f.body 1 1) ∧ x.snr = leNat (sub f.body 2 1)) ∧ (∀ x ∈ t.kz.pairs, x.eui = f.eui → x.asleep = (leNat (sub f.body 1 1) == 1))) ∧
  (∀ (s : State) (eui : Nat) (x : KzNode),
    ((s.kzLive.find? fun x => x.eui == eui) = some x) →
    s.kz.master = true →
    eui ≠ s.ident.eui64 →
    x.heardAt + sec 30 ≤ s.now →
    exec (.nodeDeparture eui) s = .next (s.after (({ s with kz := { s.kz with nodes := s.kz.nodes.map fun y => if y.eui == eui then { y with departed := some s.now } else y } } : State).evMod .external s.rd.active 0 0x7032 (leBytes 8 eui ++ leBytes 2 x.addr)))) ∧
  (∀ (s : State) (tk : Nat) (t : Ticket),
    s.ticket tk 0x0A02 = some t →
    s.kz.master = true →
    1 ≤ t.u 1 1 ∧ t.u 1 1 ≤ 32 →
    exec (.kzNodeRead tk) s = .next (s.after (s.complete t St.ok (((s.kzLive.drop (t.u 0 1)).take (t.u 1 1)).flatMap fun x => leBytes 8 x.eui ++ leBytes 2 x.addr ++ leBytes 1 x.kind ++ leBytes 1 x.sector ++ leBytes 1 x.snr ++ leBytes 1 x.power ++ leBytes 2 (if x.eui = s.ident.eui64 then 0 else satU 16 ((s.now - x.heardAt) / 1000000000))))))

/-- The master's round of each second advances its number, grants every reporting module its share and broadcasts them; a module takes the grant that
names its address and the hub limit; it reports every second to its master, which keeps the latest report of each module; KZ_PEER_BIND sends BIND and
ends with TIMEOUT after 10 s, a stored binding goes out again after a change of master; CARD of a bound post head is presented to its lanes, FEEDBACK
of the bound cabinet to the lanes of its group; an announcement, a segment, a poll and a status advance a distribution; a pass ends it or begins the
next. -/
def Obligations.KryuzSharingBindingsAndDistribution : Prop :=
  (∀ (s : State) (r : Nat),
    s.kz.master = true →
    s.kz.roundAt = some r →
    r + sec 1 ≤ s.now →
    s.ps.hubTickets = [] →
    ∃ t, exec (.hubRound) s = .next (s.after t) ∧ t.kz.roundAt = some s.now ∧ t.kz.round = (s.kz.round + 1) % 2 ^ 32 ∧ t.ps.hubLimit = s.ps.hubLimit ∧ (t.ps.grantsOut = hubGrants (s.ps.hubLimit - ((s.ps.reports.filter fun r => r.absent).map (·.fallback)).sum) (sortBy (fun (x y : HubRep) => decide (x.eui < y.eui)) (s.ownReport :: s.ps.reports.filter fun r => !r.absent)))) ∧
  (∀ (s : State) (f : KzFrame) (u : State) (gs : List (Nat × Nat)),
    s.kzReceive f (!s.kz.master && f.eui == s.kz.masterEui) = (.accepted, u) →
    (gs = (List.range (leNat (sub f.body 8 1))).map (fun i => (leNat (sub f.body (9 + 6 * i) 2), leNat (sub f.body (11 + 6 * i) 4)))) →
    exec (.grant f) s = .next (s.after (u.granted ((gs.find? fun g => g.1 == u.kz.address).map (·.2)) (leNat (sub f.body 4 4))))) ∧
  (∀ (s : State) (x : KzPair) (p : Nat),
    s.kzPairOf s.kz.masterEui = some x →
    s.kzOn = true →
    s.kz.joined = true →
    s.kz.master = false →
    s.kz.shareAt = some p →
    p + sec 1 ≤ s.now →
    exec (.shareReportSend) s = .next (s.after (({ s with kz := { s.kz with shareAt := some s.now } } : State).kzUnicast 8 x.addr (s.ownReport.body s.ps.phaseLimit)))) ∧
  (∀ (s : State) (f : KzFrame) (u : State),
    (s.kzReceive f (s.kz.master && s.kzLive.any fun x => x.eui == f.eui && x.kind == 0) = (.accepted, u)) →
    ∃ t, exec (.shareReport f) s = .next (s.after t) ∧ (∀ r ∈ t.ps.reports, r.eui = f.eui → r.addr = f.src ∧ r.atT = s.now ∧ r.budget = leNat (sub f.body 0 4) ∧ r.absent = false) ∧ (t.ps.reports.filter (fun r => r.eui != f.eui) = s.ps.reports.filter (fun r => r.eui != f.eui)) ∧ (∃ r ∈ t.ps.reports, r.eui = f.eui)) ∧
  (∀ (s : State) (k : Nat) (p : KzPeer) (q : KzPair),
    s.kz.peers[k]? = some p →
    p.resend = true →
    s.kzOn = true →
    s.kzPairOf p.eui = some q →
    exec (.kryuzBind k) s = .next (s.after (({ s with kz := { s.kz with peers := s.kz.peers.modify k fun x => { x with resend := false } } } : State).kzUnicast 5 q.addr (leBytes 1 p.role ++ leBytes 1 p.group ++ leBytes 8 p.mask) false))) ∧
  (∀ (s : State) (tk : Nat) (t : Ticket) (q : KzPair),
    s.ticket tk 0x0A03 = some t →
    s.kz.bindTk = none →
    t.u 8 1 = 1 →
    t.u 10 8 < 2 ^ s.nLanes →
    s.kzPairOf (t.u 0 8) = some q →
    exec (.kzPeerBind tk) s = .next (s.after (({ s with kz := { s.kz with bindTk := some (tk, { eui := t.u 0 8, role := 1, group := t.u 9 1, mask := t.u 10 8 }, s.now + sec 10) } } : State).kzUnicast 5 q.addr (leBytes 1 1 ++ leBytes 1 (t.u 9 1) ++ leBytes 8 (t.u 10 8)) true))) ∧
  (∀ (s : State) (tk e : Nat) (p : KzPeer) (t : Ticket),
    s.kz.bindTk = some (tk, p, e) →
    e ≤ s.now →
    s.ticket tk 0x0A03 = some t →
    exec (.peerBindTimeout) s = .next (s.after (({ s with kz := { s.kz with bindTk := none, txs := s.kz.txs.filter fun x => !x.bind } } : State).complete t St.timeout))) ∧
  (∀ (s : State) (f : KzFrame) (u : State),
    (s.kzReceive f (s.kz.peers.any fun x => x.role == 2 && x.group == leNat (sub f.body 0 1) && x.eui == f.eui) = (.accepted, u)) →
    leNat (sub f.body 1 1) = 0 →
    exec (.kryuzFeedback f) s = .next (s.after ((u.kzAck f.src).kzAcked fun x => x.ft == 6 && x.dest == f.src && leNat (sub x.body 0 1) == leNat (sub f.body 0 1)))) ∧
  (∀ (s : State) (f : KzFrame) (u : State) (lanes : List Nat),
    (s.kzReceive f (s.kz.peers.any fun x => x.role == 1 && x.eui == f.eui) = (.accepted, u)) →
    (lanes = (bitsOf 64 (((s.kz.peers.find? fun x => x.role == 1 && x.eui == f.eui).map (·.mask)).getD 0)).filter (fun k => decide (k < (u.kzAck f.src).nLanes) && ((u.kzAck f.src).typ k).charges)) →
    exec (.card f) s = .next (s.after ((u.kzAck f.src).present (if lanes.contains (leNat (sub f.body 0 1)) then [leNat (sub f.body 0 1)] else lanes) { src := 3, ident := sub f.body 2 (min 10 (leNat (sub f.body 1 1))), time := s.now } .external))) ∧
  (∀ (s : State) (f : KzFrame) (u : State) (x : Xfer),
    s.kzReceive f (!s.kz.master && f.eui == s.kz.masterEui) = (.accepted, u) →
    (((List.range (leNat (sub f.body 42 1))).any fun i => leNat (sub f.body (43 + 2 * i) 2) == u.kz.address) = true) →
    ((u.up.xfers.find? fun x => x.hash == sub f.body 10 32 && x.size == leNat (sub f.body 4 4)) = some x) →
    exec (.distAnnounce f) s = .next (s.after ({ u with kz := { u.kz with rxDist := leNat (sub f.body 0 4), rxNum := x.num, segs := if u.kz.rxNum = x.num then u.kz.segs else [] } }))) ∧
  (∀ (s : State) (f : KzFrame) (u : State) (x : Xfer),
    s.kzReceive f (!s.kz.master && f.eui == s.kz.masterEui) = (.accepted, u) →
    u.xfer u.kz.rxNum = some x →
    u.kz.rxDist ≠ 0 →
    leNat (sub f.body 0 4) = u.kz.rxDist →
    x.complete = false →
    leNat (sub f.body 4 2) < x.frags →
    leNat (sub f.body 6 1) ≤ 9 →
    (x.held u.rd.active).contains (leNat (sub f.body 4 2)) = false →
    f.body.length = 7 + segLen (leNat (sub f.body 6 1)) →
    u.kz.segs = [] →
    exec (.distSegment f) s = .next (s.after ({ u with kz := { u.kz with segs := [(leNat (sub f.body 4 2), [(leNat (sub f.body 6 1), f.body.drop 7)])] } }))) ∧
  (∀ (s : State) (f : KzFrame) (u : State),
    s.kzReceive f (!s.kz.master && f.eui == s.kz.masterEui) = (.accepted, u) →
    exec (.distPoll f) s = .next (s.after (u.kzUnicast 14 f.src (u.distStatus (leNat (sub f.body 0 4)))))) ∧
  (∀ (s : State) (f : KzFrame) (u : State) (d : KzDist),
    (s.kzReceive f ((match s.kz.dist with | some d => d.targets.any fun t => t.eui == f.eui | none => false)) = (.accepted, u)) →
    u.kz.dist = some d →
    leNat (sub f.body 0 4) = d.xfer →
    ∃ t, exec (.distStatus f) s = .next (s.after t) ∧ (∃ e, t.kz.dist = some e ∧ e.targets.map (·.eui) = d.targets.map (·.eui) ∧ ∀ x ∈ e.targets, x.eui = f.eui → x.seen = true ∧ ∀ k, k < leNat (sub f.body 6 2) → k ∈ x.held)) ∧
  (∀ (s : State) (d : KzDist) (x : Xfer),
    s.kz.dist = some d →
    s.xfer d.xfer = some x →
    ((s.kz.txs.any fun y => y.ft == 13) = false) →
    d.pass = 16 →
    exec (.distPassEnd) s = .next (s.after (s.distEnds d x.frags))) ∧
  (∀ (s : State) (d : KzDist) (x : Xfer),
    s.kz.dist = some d →
    s.xfer d.xfer = some x →
    ((s.kz.txs.any fun y => y.ft == 13) = false) →
    d.pass ≠ 16 →
    ((d.targets.all fun t => t.addr == 0 || t.status x.frags == 0) = false) →
    exec (.distPassEnd) s = .next (s.after (s.distPass { d with pass := d.pass + 1 } x))) ∧
  (∀ (s : State) (tk : Nat) (t : Ticket) (x : Xfer),
    s.ticket tk 0x0A05 = some t →
    s.kz.master = true →
    s.kz.dist = none →
    s.xfer (t.u 0 4) = some x →
    x.complete = true →
    1 ≤ t.u 4 1 ∧ t.u 4 1 ≤ 15 →
    t.arg.length = 5 + 8 * t.u 4 1 →
    ∃ u, exec (.kzDistribute tk) s = .next (s.after u) ∧ ((∃ d, u.kz.dist = some d ∧ d.ticket = tk ∧ d.xfer = x.num ∧ d.pass = 1 ∧ d.targets.map (·.eui) = (List.range (t.u 4 1)).map fun i => t.u (5 + 8 * i) 8)) ∧ u.up = s.up)

/-- After 2 ms without carrier a dwell begins at the next port with demand; after 40 ms it ends: one EPC of 12 to 32 bytes that is not held off is
presented to the port's lanes, two or more are reported as ambiguous and none is presented, and the carrier goes off; an interface fault takes the
link, a port fault takes the present port for 60 s, and both are told when they come and go; an empty slot lowers Q by 0.3, a collision raises it, a
good EPC is kept with its time; a bad CRC-16 counts. -/
def Obligations.TagDwellsFaultsAndReplies : Prop :=
  (∀ (s : State) (o p : Nat),
    s.twin = true →
    s.pw.state = 0 →
    s.tg.link = true →
    s.tg.carrier = false →
    s.tg.offAt = some o →
    o + ms 2 ≤ s.now →
    s.nextPort = some p →
    s.tg.write = none →
    exec (.carrierOffEnd) s = .next (s.after ({ s with tg := { s.tg with carrier := true, port := p, dwellAt := s.now, qfp := 10 * (s.tg.qInit : Int), q := s.tg.qInit, rlBad := true, epcs := [] } }))) ∧
  (∀ (s : State) (e : TgTag),
    s.tg.carrier = true →
    s.tg.dwellAt + ms 40 ≤ s.now →
    s.tg.write = none →
    s.tg.inv = [] →
    s.tg.epcs = [e] →
    12 ≤ e.epc.length ∧ e.epc.length ≤ 32 →
    s.heldOff s.tg.port e = false →
    s.tg.shortEpc < 65536 →
    exec (.tagDwellEnd) s = .next (s.after (let u := s.onTgp s.tg.port fun q => { q with shown := { epc := e.epc, atT := s.now, last := e.stamp } :: q.shown.filter fun x => x.epc != e.epc }; let v := u.present (s.portLanes s.tg.port) { src := 2, ident := e.epc, time := e.stamp } .external; { v with tg := { v.tg with carrier := false, offAt := some v.now, epcs := [] } }))) ∧
  (∀ (s : State) (a b : TgTag),
    s.tg.carrier = true →
    s.tg.dwellAt + ms 40 ≤ s.now →
    s.tg.write = none →
    s.tg.inv = [] →
    s.tg.epcs = [a, b] →
    12 ≤ a.epc.length ∧ a.epc.length ≤ 32 →
    12 ≤ b.epc.length ∧ b.epc.length ≤ 32 →
    ∃ t, exec (.tagDwellEnd) s = .next (s.after t) ∧ t.tg.carrier = false ∧ t.tg.epcs = [] ∧ t.tg.offAt = some s.now ∧ t.tg.ambiguous = (if s.tg.ambiguous < 65535 then s.tg.ambiguous + 1 else 65535) ∧ t.lanes = s.lanes) ∧
  (∀ (s : State),
    s.tg.carrier = true →
    s.tg.dwellAt + ms 40 ≤ s.now →
    s.tg.write = none →
    s.tg.inv = [] →
    s.tg.epcs = [] →
    ∃ t, exec (.tagDwellEnd) s = .next (s.after t) ∧ t.tg.carrier = false ∧ t.tg.offAt = some s.now ∧ t.lanes = s.lanes ∧ t.tg.ports = s.tg.ports) ∧
  (∀ (s : State),
    s.twin = true →
    s.tg.link = true →
    exec (.tagPortFault 0) s = .next (s.after (({ s with tg := { s.tg with carrier := false, offAt := some s.now, epcs := [], link := false, linkLost := true } } : State).evMod .diag s.rd.active s.tg.port 0xB003 (leBytes 1 1 ++ leBytes 1 0 ++ leBytes 1 s.tg.port)))) ∧
  (∀ (s : State),
    s.twin = true →
    s.tg.carrier = true →
    (s.tgp s.tg.port).fault = false →
    exec (.tagPortFault 1) s = .next (s.after ((({ s with tg := { s.tg with carrier := false, offAt := some s.now, epcs := [] } } : State).onTgp s.tg.port fun q => { q with fault := true, faultEnd := some (s.now + sec 60), faultKind := 1 }).evMod .diag s.rd.active s.tg.port 0xB003 (leBytes 1 1 ++ leBytes 1 1 ++ leBytes 1 s.tg.port)))) ∧
  (∀ (s : State) (p e : Nat),
    (s.tgp p).faultEnd = some e →
    e ≤ s.now →
    exec (.portFaultEnd p) s = .next (s.after ((s.onTgp p fun q => { q with fault := false, faultEnd := none }).evMod .diag s.rd.active p 0xB003 (leBytes 1 0 ++ leBytes 1 (s.tgp p).faultKind ++ leBytes 1 p)))) ∧
  (∀ (s : State),
    s.twin = true →
    s.tg.link = false →
    s.tg.linkLost = true →
    exec (.receiveFramesReturn) s = .next (s.after (({ s with tg := { s.tg with link := true, linkLost := false } } : State).evMod .diag s.rd.active s.tg.port 0xB003 (leBytes 1 0 ++ leBytes 1 0 ++ leBytes 1 s.tg.port)))) ∧
  (∀ (s : State),
    s.twin = true →
    s.tg.link = false →
    s.tg.linkLost = false →
    exec (.receiveFramesReturn) s = .next (s.after ({ s with tg := { s.tg with link := true } }))) ∧
  (∀ (s : State) (rssi fwd refl : Int),
    s.tg.carrier = true →
    s.tg.link = true →
    s.tg.write = none →
    3 ≤ s.tg.qfp ∧ s.tg.qfp ≤ 150 →
    ∃ t, exec (.tagReply .empty rssi fwd refl) s = .next (s.after t) ∧ t.tg.qfp = s.tg.qfp - 3 ∧ t.tg.fwd = fwd ∧ t.tg.refl = refl ∧ t.tg.epcs = s.tg.epcs) ∧
  (∀ (s : State) (rssi fwd refl : Int),
    s.tg.carrier = true →
    s.tg.link = true →
    s.tg.write = none →
    0 ≤ s.tg.qfp ∧ s.tg.qfp ≤ 147 →
    ∃ t, exec (.tagReply .collision rssi fwd refl) s = .next (s.after t) ∧ t.tg.qfp = s.tg.qfp + 3 ∧ t.tg.collisions = satU 16 (s.tg.collisions + 1)) ∧
  (∀ (s : State) (e : Bytes) (rssi fwd refl : Int),
    s.tg.carrier = true →
    s.tg.link = true →
    s.tg.write = none →
    ((s.tg.epcs.any fun x => x.epc == e) = false) →
    ∃ t, exec (.tagReply (.epc e true) rssi fwd refl) s = .next (s.after t) ∧ t.tg.epcs = s.tg.epcs ++ [{ epc := e, stamp := s.now, rssi := rssi, reads := 1 }] ∧ t.tg.reads = satU 32 (s.tg.reads + 1)) ∧
  (∀ (s : State) (e : Bytes) (rssi fwd refl : Int),
    s.tg.carrier = true →
    s.tg.link = true →
    s.tg.write = none →
    ∃ t, exec (.tagReply (.epc e false) rssi fwd refl) s = .next (s.after t) ∧ t.tg.epcs = s.tg.epcs ∧ t.tg.crcFail = satU 16 (s.tg.crcFail + 1) ∧ t.tg.reads = s.tg.reads)

/-- TG_WRITE with good arguments begins a write with 1 s to find its tag; with the handle and a good margin the next word is sent with a 20 ms window;
success moves to the next word, silence leaves the word to be read back; the time limit of 1 s stops the writing, that of 2 s of the verification ends
the write with every word attempted unknown (WRITE_UNCERTAIN); words read back equal end it with OK. TG_INVENTORY collects its tags until its duration
is over and answers them; TG_READ and TG_COUNT_CLEAR answer. -/
def Obligations.TagWritesAndRequests : Prop :=
  (∀ (s : State) (tk : Nat) (t : Ticket),
    s.ticket tk 0x0902 = some t →
    s.twin = true →
    s.tg.write = none →
    t.u 0 1 ≤ 7 →
    12 ≤ t.u 1 1 ∧ t.u 1 1 ≤ 32 →
    t.u 34 1 = 1 ∨ t.u 34 1 = 3 →
    1 ≤ t.u 37 1 ∧ t.u 37 1 ≤ 16 →
    t.arg.length = 42 + 2 * t.u 37 1 →
    exec (.tgWrite tk) s = .next (s.after ({ s with tg := { s.tg with write := some { ticket := tk, port := t.u 0 1, epc := sub t.arg 2 (t.u 1 1), bank := t.u 34 1, ptr := t.u 35 2, pwd := t.u 38 4, data := (List.range (t.u 37 1)).map fun i => t.u (42 + 2 * i) 2, until_ := s.now + sec 1 } } }))) ∧
  (∀ (s : State) (k : Nat) (rssi fwd refl : Int) (w : TgWr),
    s.tg.carrier = true →
    s.tg.link = true →
    s.portWrite s.tg.port = some w →
    0 < w.seen →
    w.handle = none →
    w.phase ≠ 2 →
    w.word < w.data.length →
    w.pwd = 0 →
    s.tg.writeRssi ≤ rssi →
    20 * s.tg.writePtag ≤ fwd + 10 * rssi + 100 →
    ∃ t, exec (.tagReply (.handle k) rssi fwd refl) s = .next (s.after t) ∧ t.tg.sent = s.tg.sent ++ [(2, w.ptr + w.word, w.data.getD w.word 0)] ∧ t.tg.write = some { w with handle := some k, phase := 1, accessed := true, margin := false, window := some (s.now + ms 20) }) ∧
  (∀ (s : State) (k : Nat) (rssi fwd refl : Int) (w : TgWr),
    s.tg.carrier = true →
    s.tg.link = true →
    s.portWrite s.tg.port = some w →
    0 < w.seen →
    w.handle = none →
    w.phase ≠ 2 →
    w.word < w.data.length →
    rssi < s.tg.writeRssi →
    w.margin = false →
    ∃ t, exec (.tagReply (.handle k) rssi fwd refl) s = .next (s.after t) ∧ t.tg.sent = s.tg.sent ∧ (∃ x, t.tg.write = some x ∧ x.margin = true ∧ x.until_ = s.now + sec 1 ∧ x.handle = none ∧ x.word = w.word)) ∧
  (∀ (s : State) (d : List Nat) (rssi fwd refl : Int) (w : TgWr),
    s.tg.carrier = true →
    s.tg.link = true →
    s.portWrite s.tg.port = some w →
    w.phase = 2 →
    w.handle.isSome = true →
    d = w.data →
    w.tried = List.range w.data.length →
    w.data ≠ [] →
    s.ticket w.ticket 0x0902 = none →
    ∃ t, exec (.tagReply (.words d) rssi fwd refl) s = .next (s.after t) ∧ t.tg.write = none ∧ t.tg.writes = satU 16 (s.tg.writes + 1) ∧ t.tg.uncertain = s.tg.uncertain) ∧
  (∀ (s : State) (w : TgWr) (e : Nat),
    s.tg.write = some w →
    w.window = some e →
    e ≤ s.now →
    w.word + 1 < w.data.length →
    ∃ t, exec (.writeReplyWindow) s = .next (s.after t) ∧ (∃ x, t.tg.write = some x ∧ x.word = w.word + 1 ∧ x.tried = w.tried ++ [w.word] ∧ x.until_ = s.now + sec 1 ∧ x.window = none ∧ x.handle = none ∧ x.phase = w.phase)) ∧
  (∀ (s : State) (w : TgWr) (e : Nat),
    s.tg.write = some w →
    w.window = some e →
    e ≤ s.now →
    w.data.length ≤ w.word + 1 →
    ∃ t, exec (.writeReplyWindow) s = .next (s.after t) ∧ (∃ x, t.tg.write = some x ∧ x.phase = 2 ∧ x.until_ = s.now + sec 2 ∧ x.tried = w.tried ++ [w.word])) ∧
  (∀ (s : State) (w : TgWr),
    s.tg.write = some w →
    w.until_ ≤ s.now →
    w.window = none →
    w.phase ≠ 2 →
    w.tried ≠ [] →
    ∃ t, exec (.tagWriteTimeLimit) s = .next (s.after t) ∧ (∃ x, t.tg.write = some x ∧ x.phase = 2 ∧ x.stopped = 1 ∧ x.until_ = s.now + sec 2 ∧ x.tried = w.tried)) ∧
  (∀ (s : State) (w : TgWr) (q : Ticket),
    s.tg.write = some w →
    w.until_ ≤ s.now →
    w.window = none →
    w.phase = 2 →
    (∃ k, k < w.data.length ∧ k ∈ w.tried) →
    s.ticket w.ticket 0x0902 = some q →
    ∃ t, exec (.tagWriteTimeLimit) s = .next (s.after t) ∧ t.tg.write = none ∧ t.tg.uncertain = satU 16 (s.tg.uncertain + 1) ∧ t.tg.writes = satU 16 (s.tg.writes + 1) ∧ t.lanes = s.lanes) ∧
  (∀ (s : State) (tk : Nat) (t : Ticket),
    s.ticket tk 0x0901 = some t →
    s.twin = true →
    ((s.tg.inv.any fun i => i.ticket == tk) = false) →
    t.u 0 1 ≤ 7 →
    40 ≤ t.u 1 2 ∧ t.u 1 2 ≤ 2000 →
    exec (.tgInventory tk) s = .next (s.after ({ s with tg := { s.tg with inv := s.tg.inv ++ [{ ticket := tk, port := t.u 0 1, until_ := s.now + ms (t.u 1 2) }] } }))) ∧
  (∀ (s : State) (tk : Nat) (i : TgInv) (t : Ticket),
    ((s.tg.inv.find? fun i => i.ticket == tk) = some i) →
    i.until_ ≤ s.now →
    s.ticket tk 0x0901 = some t →
    exec (.inventoryDurationEnd tk) s = .next (s.after (let u : State := { s with tg := { s.tg with inv := s.tg.inv.filter fun x => x.ticket != tk } }; (u.complete t St.ok (i.tags.flatMap fun x => leBytes 4 (u.credRef 2 x.epc) ++ leBytes 1 x.epc.length ++ leBytes 1 (satS 8 x.rssi) ++ leBytes 2 (satU 16 x.reads))).drawn))) ∧
  (∀ (s : State) (tk : Nat) (t : Ticket),
    s.ticket tk 0x0903 = some t →
    s.twin = true →
    exec (.tgRead tk) s = .next (s.after (s.complete t St.ok (leBytes 8 s.tgStatus ++ (leBytes 8 s.tgCfg ++ ((List.range 8).flatMap (fun p => leBytes 8 (s.tgPort p)) ++ (leBytes 8 s.tgCount0 ++ leBytes 8 s.tgCount1))))))) ∧
  (∀ (s : State) (tk : Nat) (t : Ticket),
    s.ticket tk 0x0904 = some t →
    s.twin = true →
    exec (.tgCountClear tk) s = .next (s.after (({ s with tg := { s.tg with reads := 0, collisions := 0, crcFail := 0, ambiguous := 0, shortEpc := 0, writes := 0, uncertain := 0 } } : State).complete t St.ok)))

/-- A frame comes 11.765 ms after the last, finishes rectangles that have had their frames and completes their tickets; rails go off 100 ms after the last
rectangle; DS_DRAW of a rectangle that fits is queued, DS_WAVE_LOAD takes a good table, DS_PROOF proves enabled panels and puts their settings in
force, a failing panel is marked FAULT; an NTC reading gives the band, a missing one band 3 with a report; a changed legal field is redrawn after 1 s;
every 10 s the CRC over the fields is compared: a match ends the misses, the second miss in succession reports the panel; DS_READ answers. -/
def Obligations.DisplaysDrawProveAndRedraw : Prop :=
  (∀ (s : State) (rs : List Nat) (f : Nat),
    s.pw.state = 0 →
    s.en.warnAt = none →
    s.ds.frameAt = some f →
    s.now < f + 11764705 →
    exec (.displayFrame rs) s = .next (s.after s)) ∧
  (∀ (s : State) (rs : List Nat),
    s.pw.state = 0 →
    s.en.warnAt = none →
    s.ds.frameAt = none →
    s.ds.waveOk = true →
    (∀ q ∈ s.ds.panels, q.flight = [] ∧ q.queue = [] ∧ q.needProof = false) →
    s.ds.railsOn = true →
    s.ds.railsOff = none →
    ∃ t, exec (.displayFrame rs) s = .next (s.after t) ∧ t.ds.frameAt = some s.now ∧ t.ds.railsOff = some (s.now + ms 100) ∧ t.ds.rects = s.ds.rects ∧ t.lanes = s.lanes) ∧
  (∀ (s : State) (p : Nat) (r : Rect), p < s.ds.panels.length → r.tickets = [] → (if (s.panel p).ntcBad then 3 else (s.panel p).band) = r.band →
    s.rectDone p r = State.onPanel { s with ds := { s.ds with rects := satU 32 (s.ds.rects + 1) } } p fun q => { q with flight := q.flight.erase r, journal := q.journal.erase r.entry }) ∧
  (∀ (s : State) (e : Nat),
    s.ds.railsOff = some e →
    e ≤ s.now →
    exec (.railOffDelay) s = .next (s.after ({ s with ds := { s.ds with railsOn := false, railsOff := none } }))) ∧
  (∀ (s : State) (tk : Nat) (t : Ticket) (p : Nat),
    s.ticket tk 0x0801 = some t →
    p = t.u 0 1 →
    p ≤ 3 →
    p < s.ds.panels.length →
    (s.panel p).enable = true →
    (s.panel p).fault = false →
    (s.panel p).queue = [] →
    (s.panel p).flight = [] →
    t.u 1 2 % 8 = 0 →
    t.u 5 2 % 8 = 0 →
    0 < t.u 5 2 ∧ 0 < t.u 7 2 →
    t.u 1 2 + t.u 5 2 ≤ (s.panel p).width →
    t.u 3 2 + t.u 7 2 ≤ (s.panel p).height →
    s.hasMode (t.u 9 1) = true →
    (t.rest 10).length = t.u 5 2 * t.u 7 2 / 2 →
    (t.rest 10).length ≤ 65536 →
    s.fields p = [] →
    ∃ u, exec (.dsDraw tk) s = .next (s.after u) ∧ (u.panel p).queue = [{ x := t.u 1 2, y := t.u 3 2, w := t.u 5 2, h := t.u 7 2, mode := t.u 9 1, cls := 2, tickets := [tk], pixels := t.rest 10 }] ∧ (u.panel p).flight = [] ∧ (∀ k, k ≠ p → u.panel k = s.panel k)) ∧
  (∀ (s : State) (tk : Nat) (t : Ticket) (x : Xfer) (n : Nat) (b : Bytes),
    s.ticket tk 0x0802 = some t →
    s.xfer (t.u 0 4) = some x →
    x.kind = 4 →
    x.complete = true →
    ((s.ds.panels.any fun q => !q.flight.isEmpty) = false) →
    x.bytes.length = n + 4 →
    b = x.bytes.take n →
    leNat (x.bytes.drop n) = crc32 b →
    exec (.dsWaveLoad tk) s = .next (s.after (let c := (List.range 128).map (fun i => min 256 ((Config.waveCounts b).getD i 0)); let m := maskOf ((List.range 16).filter fun m => (List.range 8).all fun k => c.getD (8 * m + k) 0 != 0); if bit m 0 then (State.consumeXfer { s with ds := { s.ds with waveOk := true, waveCrc := crc32 b, waveModes := m, waveCnt := c, waveBnd := (Config.waveBounds b).take 7, waveBody := b } } x.num).complete t St.ok (leBytes 4 (crc32 b)) else s.complete t St.checkFailed))) ∧
  (∀ (s : State) (tk : Nat) (t : Ticket) (rs : List Nat),
    s.ticket tk 0x0803 = some t →
    t.u 0 1 ≤ 3 →
    (s.panel (t.u 0 1)).cfgEnable = true →
    (s.panel (t.u 0 1)).flight = [] →
    rs.getD (t.u 0 1) 0 = 0 →
    exec (.dsProof tk rs) s = .next (s.after ((s.onPanel (t.u 0 1) fun q => { q with width := q.cfgWidth, height := q.cfgHeight, enable := q.cfgEnable, vcom := q.cfgVcom, needProof := false, fault := false }).complete t St.ok [0]))) ∧
  (∀ (s : State) (p k : Nat), p < s.ds.panels.length → (s.panel p).cfgEnable = true → k ≠ 0 → ((s.proof p k).panel p).fault = true ∧ ((s.proof p k).panel p).width = (s.panel p).cfgWidth) ∧
  (∀ (s : State) (p : Nat) (v : Int),
    p ≤ 3 →
    exec (.ntcRead p (some v)) s = .next (s.after (s.onPanel p fun q => { q with temp := v, band := s.bandOf v, ntcBad := false }))) ∧
  (∀ (s : State) (p : Nat),
    p ≤ 3 →
    (s.panel p).ntcBad = false →
    (s.panel p).enable = true →
    exec (.ntcRead p none) s = .next (s.after ((s.onPanel p fun q => { q with temp := -32768, ntcBad := true }).evMod .diag s.rd.active p 0xA001 (leBytes 1 p ++ (leBytes 1 2 ++ leBytes 1 0xFF))))) ∧
  (∀ (s : State) (n p d : Nat) (b : Bytes),
    p = (s.slot n).panel →
    p ≤ 3 →
    (s.typ n).isLane = true →
    s.pw.state = 0 →
    ((s.panel p).fields.find? (fun x => x.1 == n) = some (n, b)) →
    b ≠ s.fieldValues n →
    ((s.panel p).drawnAt.find? (fun x => x.1 == n) = some (n, d)) →
    d + sec 1 ≤ s.now →
    exec (.legalFieldRedraw n) s = .next (s.after (s.renderField p n))) ∧
  (∀ (s : State) (p : Nat),
    p ≤ 3 →
    (s.panel p).enable = true →
    s.pw.state = 0 →
    (s.panel p).crcAt + sec 10 ≤ s.now →
    exec (.frameCrcCheck p (Config.fieldsCrc (s.panel p).fields % 2 ^ 32)) s = .next (s.after (s.onPanel p fun q => { q with crcAt := s.now, crcMiss := 0 }))) ∧
  (∀ (s : State) (p k : Nat),
    p ≤ 3 →
    p < s.ds.panels.length →
    (s.panel p).enable = true →
    s.pw.state = 0 →
    (s.panel p).crcAt + sec 10 ≤ s.now →
    0 < k →
    (s.panel p).fields = [] →
    ∃ t, exec (.frameCrcCheck p (Config.fieldsCrc (s.panel p).fields % 2 ^ 32 + k)) s = .next (s.after t) ∧ t.ds.crcFail = satU 16 (s.ds.crcFail + 1) ∧ (t.panel p).crcAt = s.now ∧ (t.panel p).crcMiss = min 2 ((s.panel p).crcMiss + 1) ∧ t.lanes = s.lanes) ∧
  (∀ (s : State) (tk : Nat) (t : Ticket),
    s.ticket tk 0x0804 = some t →
    exec (.dsRead tk) s = .next (s.after (s.complete t St.ok (leBytes 8 s.dsStatus ++ (leBytes 8 s.dsWave ++ (leBytes 8 s.ds.unshown ++ ((List.range 4).flatMap (fun p => leBytes 8 (s.dsPanel p)) ++ leBytes 8 s.dsCount)))))))

/-- The burnish engine moves to the next region each millisecond, counts a late one and reports a failing March element as a side fault; the hot flag of a
DRAM is kept; MM_READ and MM_COUNT_CLEAR answer. PW_REQUEST of a state no condition refuses begins a quiet window; automatic PARK begins one after its
seconds; pad groups are released; an alarm wakes the module or is told in RUN; PW_ALARM_SET sets an instant still to come or clears the alarm; PW_READ
and PW_COUNT_CLEAR answer; a draw above 10 mA in DORMANT resets the module with its wake cause. -/
def Obligations.MemoryTestsAndPowerStates : Prop :=
  (∀ (s : State) (side mem : Nat) (w : List Nat),
    mem ≤ 2 →
    s.sramOn side mem = true →
    (s.mms side).burnAt.getD mem none = none →
    side < s.mm.sides.length →
    ∃ t, exec (.burnishRegion side mem [] false none w) s = .next (s.after t) ∧ (t.mms side).region mem = ((s.mms side).region mem + 1) % burnRegions mem ∧ (∀ k, k ≤ 2 → k ≠ mem → (t.mms side).region k = (s.mms side).region k) ∧ t.lanes = s.lanes ∧ (t.mms side).burnLate = (s.mms side).burnLate) ∧
  (∀ (s : State) (side mem : Nat) (w : List Nat),
    mem ≤ 2 →
    s.sramOn side mem = true →
    (s.mms side).burnAt.getD mem none = none →
    side < s.mm.sides.length →
    ∃ t, exec (.burnishRegion side mem [] true none w) s = .next (s.after t) ∧ (t.mms side).region mem = (s.mms side).region mem ∧ (t.mms side).burnLate = satU 16 ((s.mms side).burnLate + 1)) ∧
  (∀ (s : State) (side : Nat) (hot : Bool),
    side = 0 ∨ s.twin = true →
    exec (.dramHot side hot) s = .next (s.after (s.onMms side fun m => { m with hot := hot }))) ∧
  (∀ (s : State) (tk : Nat) (t : Ticket),
    s.ticket tk 0x0F20 = some t →
    exec (.mmRead tk) s = .next (s.after (s.complete t St.ok (leBytes 8 s.mmStatus ++ (leBytes 8 (s.mmBurnish 0) ++ (leBytes 8 (s.mmBurnish 1) ++ (leBytes 8 (s.mmEcc 0) ++ (leBytes 8 (s.mmEcc 1) ++ (leBytes 8 s.mmMram ++ (leBytes 8 s.mmDma ++ leBytes 8 s.mmLastUe)))))))))) ∧
  (∀ (s : State) (tk : Nat) (t : Ticket),
    s.ticket tk 0x0F21 = some t →
    exec (.mmCountClear tk) s = .next (s.after (({ s with mm := { s.mm with mramCe := 0, mramUe := 0, refused := 0, stalls := List.replicate 8 0, sides := s.mm.sides.map fun m => { m with sramCe := 0, dramCe := 0, norRetry := 0, burnLate := 0 } } } : State).complete t St.ok))) ∧
  (∀ (s : State) (tk : Nat) (t : Ticket),
    s.ticket tk 0x0B01 = some t →
    t.arg.length = 1 →
    t.u 0 1 = 1 →
    s.pw.state = 0 →
    s.pw.entry = none →
    s.refusers 1 (ticketPort tk) = 0 →
    exec (.pwRequest tk) s = .next (s.after ({ s with pw := { s.pw with entry := some { target := 1, since := s.now, ticket := some t.id, port := ticketPort tk } } }))) ∧
  (∀ (s : State) (tk : Nat) (t : Ticket) (m : Nat),
    s.ticket tk 0x0B01 = some t →
    t.arg.length = 1 →
    t.u 0 1 = 2 →
    s.pw.state = 0 →
    s.pw.entry = none →
    m = s.refusers 2 (ticketPort tk) →
    m ≠ 0 →
    ∃ u, exec (.pwRequest tk) s = .next (s.after u) ∧ u.pw.entry = none ∧ u.pw.state = 0 ∧ (∀ k, k < 16 → u.pw.refusedN.getD k 0 = if bit m k then satU 16 (s.pw.refusedN.getD k 0 + 1) else s.pw.refusedN.getD k 0)) ∧
  (∀ (s : State),
    s.parkDue = true →
    s.refusers 1 3 = 0 →
    ∃ t, exec (.automaticPark) s = .next (s.after t) ∧ t.pw.entry = some { target := 1, since := s.now, ticket := none, port := 3 } ∧ t.pw.state = s.pw.state) ∧
  (∀ (s : State) (e : PwEntry),
    s.pw.entry = some e →
    e.since + ms 10 ≤ s.now →
    e.target = 1 →
    e.ticket = none →
    s.refusers 1 e.port = 0 →
    ∃ t, exec (.quietWindowEnd) s = .next (s.after t) ∧ t.pw.state = 1 ∧ t.pw.entry = none ∧ t.pw.held = s.pw.held ||| 0x0C ∧ t.lanes = s.lanes) ∧
  (∀ (s : State) (e : PwEntry) (m : Nat),
    s.pw.entry = some e →
    e.since + ms 10 ≤ s.now →
    m = s.refusers e.target e.port →
    m ≠ 0 →
    exec (.quietWindowEnd) s = .next (s.after (s.entryAborts e m))) ∧
  (∀ (s : State) (e : PwEntry) (m : Nat), (s.entryAborts e m).pw.entry = none ∧ (s.entryAborts e m).pw.state = s.pw.state ∧ (s.entryAborts e m).lanes = s.lanes) ∧
  (∀ (s : State) (m : Nat),
    exec (.padholdRelease m) s = .next (s.after ({ s with pw := { s.pw with held := maskOf ((bitsOf 7 s.pw.held).filter fun g => !bit m g) } }))) ∧
  (∀ (s : State) (src lane ua : Nat),
    src = 1 ∨ src = 2 ∨ src = 4 ∨ src = 5 →
    s.pw.state = 1 →
    s.pw.entry = none →
    s.wakeEnabled src = true →
    s.en.coverPend = none →
    ∃ t, exec (.wakeSource src lane ua) s = .next (s.after t) ∧ t.pw.state = 0 ∧ t.pw.lastWake = src ∧ t.pw.runAt = s.now ∧ t.pw.wakeUs ≤ 1000 ∧ t.lanes = s.lanes) ∧
  (∀ (s : State) (lane ua : Nat),
    lane < 64 →
    (s.typ lane).charges = true →
    s.pw.state = 3 →
    s.wakeEnabled 3 = true →
    ua < 65536 →
    exec (.wakeSource 3 lane ua) s = .next (s.after (State.moduleReset { s with pw := { s.pw with lastWake := 3, wakeLane := lane, lastUa := ua } } 8))) ∧
  (∀ (s : State) (src lane ua : Nat),
    s.pw.state = 0 →
    s.pw.entry = none →
    src = 1 ∨ src = 2 ∨ src = 4 ∨ src = 5 →
    exec (.wakeSource src lane ua) s = .next (s.after s)) ∧
  (∀ (s : State) (ua : Nat),
    s.pw.state = 3 →
    s.wakeEnabled 2 = true →
    ua < 65536 →
    exec (.wakePreamble ua) s = .next (s.after (State.moduleReset { s with pw := { s.pw with lastWake := 2, wakeLane := 0xFF, lastUa := ua } } 8))) ∧
  (∀ (s : State) (ua : Nat),
    s.pw.armed = true →
    s.clock.legalValid = true →
    s.clock.rtcOk = true →
    s.pw.alarmS ≤ s.legalSec →
    s.pw.state = 0 →
    s.pw.entry = none →
    exec (.rtcAlarm ua) s = .next (s.after (({ s with pw := { s.pw with armed := false } } : State).evMod .external s.rd.active 0 0x5003 (leBytes 1 6 ++ leBytes 1 0 ++ leBytes 4 0)))) ∧
  (∀ (s : State) (ua : Nat),
    s.pw.state = 3 →
    10000 < ua →
    ua < 65536 →
    s.pw.borLp < 65535 →
    exec (.borLp ua) s = .next (s.after (State.moduleReset { s with pw := { s.pw with lastWake := 7, lastUa := ua, borLp := s.pw.borLp + 1 } } 3))) ∧
  (∀ (s : State) (tk : Nat) (t : Ticket),
    s.ticket tk 0x0B03 = some t →
    t.arg.length = 4 →
    s.clock.legalValid = true →
    t.u 0 4 = 0 →
    exec (.pwAlarmSet tk) s = .next (s.after (({ s with pw := { s.pw with alarmS := 0, armed := false } } : State).complete t St.ok))) ∧
  (∀ (s : State) (tk : Nat) (t : Ticket),
    s.ticket tk 0x0B03 = some t →
    t.arg.length = 4 →
    s.clock.legalValid = true →
    t.u 0 4 ≠ 0 →
    s.legal ≤ t.u 0 4 * 2 ^ 32 →
    exec (.pwAlarmSet tk) s = .next (s.after (({ s with pw := { s.pw with alarmS := t.u 0 4, armed := true } } : State).complete t St.ok))) ∧
  (∀ (s : State) (tk : Nat) (t : Ticket),
    s.ticket tk 0x0B02 = some t →
    exec (.pwRead tk) s = .next (s.after (s.complete t St.ok (leBytes 8 s.pwStatus ++ (leBytes 8 s.pwCfg ++ (leBytes 8 s.pwAlarm ++ (leBytes 8 s.pw.held ++ (leBytes 8 s.pwAon ++ (List.range 8).flatMap fun k => leBytes 8 (s.pwCount k))))))))) ∧
  (∀ (s : State) (tk : Nat) (t : Ticket),
    s.ticket tk 0x0B04 = some t →
    exec (.pwCountClear tk) s = .next (s.after (({ s with pw := { s.pw with refusedN := List.replicate 16 0, abortedN := List.replicate 16 0 } } : State).complete t St.ok)))

/-- UP_OPEN of a kind and size that nothing refuses opens a transfer with its fragments and expiry under the next number; UP_FRAGMENT of a missing
fragment with its length and CRC-32 is held, one already held is answered so; a side copies a fragment it lacks from the other; a transfer expires and
is cancelled; UP_STATUS tells what is held; UP_APPLY of a complete image begins the installation, whose timed phases archive, write and restart;
UP_RESTORE boots the archive; UP_COMMIT raises the rollback counter to what both sides run. -/
def Obligations.FieldUpdateTransfersAndInstallation : Prop :=
  (∀ (s : State) (tk : Nat) (t : Ticket),
    s.ticket tk 0x0701 = some t →
    s.openRefusal (t.u 0 1) (t.u 1 4) = 0 →
    2 ≤ t.u 0 1 →
    t.role ≠ .service →
    s.up.nextNum + 1 < 2 ^ 32 →
    exec (.upOpen tk) s = .next (s.after ((({ s with up := { s.up with xfers := s.up.xfers ++ [{ num := s.up.nextNum, kind := t.u 0 1, size := t.u 1 4, hash := sub t.arg 5 32, frags := (t.u 1 4 + 4095) / 4096, expires := s.legalSec + 86400 * s.up.expiryD }], nextNum := s.up.nextNum + 1 } } : State).evUp 0x9001 (leBytes 4 s.up.nextNum ++ leBytes 1 (t.u 0 1) ++ leBytes 4 ((t.u 1 4 + 4095) / 4096))).complete t St.ok (leBytes 4 s.up.nextNum ++ leBytes 4 ((t.u 1 4 + 4095) / 4096) ++ leBytes 1 0)))) ∧
  (∀ (s : State) (tk : Nat) (t : Ticket) (x : Xfer),
    s.ticket tk 0x0702 = some t →
    s.xfer (t.u 0 4) = some x →
    t.role ≠ .service →
    t.u 4 4 < x.frags →
    t.u 8 2 = x.fragLen (t.u 4 4) →
    (t.rest 14).length = x.fragLen (t.u 4 4) →
    t.u 10 4 = crc32 (t.rest 14) →
    (x.held s.rd.active).contains (t.u 4 4) = false →
    exec (.upFragment tk) s = .next (s.after (((s.putFragment (t.u 0 4) (t.u 4 4) (t.rest 14)).complete t St.ok [0]).checkXfer (t.u 0 4)))) ∧
  (∀ (s : State) (tk : Nat) (t : Ticket) (x : Xfer),
    s.ticket tk 0x0702 = some t →
    s.xfer (t.u 0 4) = some x →
    t.role ≠ .service →
    t.u 4 4 < x.frags →
    t.u 8 2 = x.fragLen (t.u 4 4) →
    (t.rest 14).length = x.fragLen (t.u 4 4) →
    t.u 10 4 = crc32 (t.rest 14) →
    (x.held s.rd.active).contains (t.u 4 4) = true →
    exec (.upFragment tk) s = .next (s.after (s.complete t St.ok [1]))) ∧
  (∀ (s : State) (num : Nat) (x : Xfer), s.xfer num = some x → x.complete = false → x.frags ≤ (x.held s.rd.active).length → sha256 x.bytes = x.hash →
    s.checkXfer num = (s.onXfer num fun x => { x with complete := true }).evUp 0x9002 (leBytes 4 num ++ leBytes 1 0)) ∧
  (∀ (s : State) (side num k : Nat) (x : Xfer),
    s.xfer num = some x →
    s.twin = true →
    side = 1 - s.rd.active →
    side ≤ 1 →
    3 ≤ s.rd.standby →
    (x.held side).contains k = false →
    (x.held (1 - side)).contains k = true →
    2 ≤ x.kind →
    exec (.fragmentBackgroundCopy side num k) s = .next (s.after ((s.onXfer num fun x => x.hold side k).checkXfer num))) ∧
  (∀ (s : State) (num : Nat) (x : Xfer),
    s.xfer num = some x →
    x.expires ≤ s.legalSec →
    x.inUse = false →
    exec (.transferExpiry num) s = .next (s.after (s.closeXfer num 2))) ∧
  (∀ (s : State) (tk : Nat) (t : Ticket) (x : Xfer),
    s.ticket tk 0x0704 = some t →
    s.xfer (t.u 0 4) = some x →
    x.inUse = false →
    exec (.upCancel tk) s = .next (s.after ((s.closeXfer x.num 1).complete t St.ok))) ∧
  (∀ (s : State) (num r : Nat), (s.closeXfer num r).up.xfers = s.up.xfers.filter (fun x => x.num != num)) ∧
  (∀ (s : State) (tk : Nat) (t : Ticket) (x : Xfer),
    s.ticket tk 0x0703 = some t →
    s.xfer (t.u 0 4) = some x →
    (((List.range x.frags).find? fun k => !(x.held s.rd.active).contains k) = none) →
    exec (.upStatus tk) s = .next (s.after (s.complete t St.ok (leBytes 1 x.kind ++ leBytes 4 x.size ++ leBytes 4 x.heldA.length ++ leBytes 4 x.heldB.length ++ leBytes 4 x.frags ++ leBytes 4 x.expires ++ leBytes 1 (if x.complete then 1 else 0))))) ∧
  (∀ (s : State) (tk : Nat) (t : Ticket) (x : Xfer),
    s.ticket tk 0x0705 = some t →
    s.xfer (t.u 0 4) = some x →
    x.complete = true →
    x.kind ≤ 1 →
    t.u 4 1 ≤ 1 →
    t.u 5 1 ≤ 1 →
    (s.ups (t.u 4 1)).ticket = none →
    s.applying = false →
    s.applyRefused (t.u 4 1) = false →
    imgHeaderOk x.bytes x.kind = true →
    exec (.upApply tk true) s = .next (s.after (s.startApply x (t.u 4 1) (if x.kind = 1 then 1 else t.u 5 1) tk))) ∧
  (∀ (s : State) (x : Xfer) (side path tk : Nat), side < s.up.sides.length →
    let u := (s.startApply x side path tk).ups side
    u.phase = (if path = 0 then 1 else 4) ∧ u.path = path ∧ u.image = x.kind ∧ u.xfer = x.num ∧ u.newRb = imgRollback x.bytes ∧ u.newMf = imgMirror x.bytes ∧ u.ticket = some tk ∧ u.running = (s.ups side).running) ∧
  (∀ (s : State) (side : Nat),
    (s.ups side).phase = 1 →
    exec (.applyPhaseEnd side) s = .next (s.after ((s.onXfer (s.ups side).xfer fun x => x.dropCopy side).onUps side fun u => { u with phase := 2, archive := none }))) ∧
  (∀ (s : State) (side : Nat),
    (s.ups side).phase = 2 →
    exec (.applyPhaseEnd side) s = .next (s.after (s.onUps side fun u => { u with phase := 3, archive := some (u.running, u.mirror) }))) ∧
  (∀ (s : State) (side : Nat),
    (s.ups side).phase = 3 →
    exec (.applyPhaseEnd side) s = .next (s.after (s.onUps side fun u => { u with phase := 4 }))) ∧
  (∀ (s : State) (side : Nat),
    (s.ups side).phase = 4 →
    5 ≤ s.rs.phase →
    side = s.rd.active →
    exec (.applyPhaseEnd side) s = .next (s.after (s.commitApply side))) ∧
  (∀ (s : State) (tk : Nat) (t : Ticket) (rb mf : Nat),
    s.ticket tk 0x0706 = some t →
    t.u 0 1 ≤ 1 →
    (s.ups (t.u 0 1)).ticket = none →
    s.applying = false →
    s.applyRefused (t.u 0 1) = false →
    (s.ups (t.u 0 1)).archive = some (rb, mf) →
    exec (.upRestore tk) s = .next (s.after (s.onUps (t.u 0 1) fun u => { u with phase := 3, path := 0, image := 0, xfer := 0, newRb := rb, newMf := mf, img := [], ticket := some tk }))) ∧
  (∀ (s : State) (tk : Nat) (t : Ticket),
    s.ticket tk 0x0707 = some t →
    s.up.counter < t.u 0 4 →
    t.u 0 4 ≤ (s.ups 0).running →
    s.twin = true → t.u 0 4 ≤ (s.ups 1).running →
    exec (.upCommit tk) s = .next (s.after ((({ s with up := { s.up with counter := t.u 0 4, commits := (s.up.commits + 1) % 2 ^ 32 } } : State).evUp 0x9006 (leBytes 4 s.up.counter ++ leBytes 4 (t.u 0 4))).complete t St.ok))) ∧
  (∀ (s : State),
    s.twin = true →
    s.rd.standby = 2 →
    (s.ups (1 - s.rd.active)).phase = 0 →
    (s.ups (1 - s.rd.active)).running ≠ 0 →
    s.rs.clkLost = none →
    s.mismatch = 0 →
    ∃ t, exec (.sideBootEnd) s = .next (s.after t) ∧ t.rd.standby = 3 ∧ t.rd.active = s.rd.active ∧ t.up = s.up)

/-- A command of at most 256 characters of the role it needs or a higher one, at the monitor of the active side unlocked, notes the input and answers:
help, status, login with the right password, logout, rd, wr, ev, lane, req, mem, and the trace's start, stop, dump and clear; a command of too low a
role answers REFUSED_ROLE and does nothing else; a wrong password counts, the fifth within 300 s locks the logins for 300 s; 600 s without input
return the monitor to PUBLIC; MON_LOCK, MON_PASSWORD_SET and MON_READ act on the monitors. -/
def Obligations.MonitorCommandsAnswer : Prop :=
  (∀ (s : State) (side len : Nat),
    s.monMode side = 3 →
    side < s.mon.sides.length →
    s.mon.level = 0 →
    len ≤ 256 →
    exec (.help side len) s = .next (s.after (let u := s.onMons side fun m => { m with lastIn := s.now }; u.monSays side St.ok (monHelp (s.monRole side))))) ∧
  (∀ (s : State) (side len : Nat),
    s.monMode side = 3 →
    side < s.mon.sides.length →
    s.mon.level = 0 →
    len ≤ 256 →
    exec (.status side len) s = .next (s.after (let u := s.onMons side fun m => { m with lastIn := s.now }; u.monSays side St.ok [regText u.identReg, regText u.gstatus, asciiBytes (if side = 0 then "A" else "B"), asciiBytes (s.monRole side).name, decBytes 0]))) ∧
  (∀ (s : State) (side len : Nat) (p : Bytes),
    s.monMode side = 3 →
    side < s.mon.sides.length →
    s.mon.level = 0 →
    len ≤ 256 →
    (s.mon.sides.getD side {}).lockUntil = none →
    ((s.mon.passwords.find? fun x => x.1 == 3).map (·.2) = some p) →
    ∃ t, exec (.login side len .admin p) s = .next (s.after t) ∧ t.monRole side = .admin ∧ (t.mon.sides.getD side {}).fails = (s.mon.sides.getD side {}).fails ∧ t.mon.passwords = s.mon.passwords) ∧
  (∀ (s : State) (side len : Nat) (p : Bytes),
    s.monMode side = 3 →
    side < s.mon.sides.length →
    s.mon.level = 0 →
    len ≤ 256 →
    (s.mon.sides.getD side {}).lockUntil = none →
    ((s.mon.passwords.find? fun x => x.1 == 3).map (·.2) ≠ some p) →
    (((s.mon.sides.getD side {}).fails.filter fun x => decide (s.now < x + sec 300)).length = 4) →
    ∃ t, exec (.login side len .admin p) s = .next (s.after t) ∧ t.monRole side = s.monRole side ∧ (t.mon.sides.getD side {}).lockUntil = some (s.now + sec 300) ∧ (t.mon.sides.getD side {}).fails = []) ∧
  (∀ (s : State) (side len : Nat),
    s.monMode side = 3 →
    side < s.mon.sides.length →
    s.mon.level = 0 →
    len ≤ 256 →
    ∃ t, exec (.logout side len) s = .next (s.after t) ∧ t.monRole side = .pub ∧ t.mon.passwords = s.mon.passwords ∧ t.mon.level = s.mon.level) ∧
  (∀ (s : State) (side : Nat),
    side < s.mon.sides.length →
    (s.mon.sides.getD side {}).lastIn + sec 600 ≤ s.now →
    ∃ t, exec (.monitorIdleTimeout side) s = .next (s.after t) ∧ t.monRole side = .pub ∧ t.lanes = s.lanes) ∧
  (∀ (s : State) (side e : Nat),
    side < s.mon.sides.length →
    (s.mon.sides.getD side {}).lockUntil = some e →
    ∃ t, exec (.loginLockoutEnd side) s = .next (s.after t) ∧ (t.mon.sides.getD side {}).lockUntil = (if e ≤ s.now then none else some e) ∧ t.monRole side = s.monRole side) ∧
  (∀ (s : State) (side len : Nat) (addr : Nat),
    s.monMode side = 3 →
    side < s.mon.sides.length →
    s.mon.level = 0 →
    len ≤ 256 →
    (.reader : Role).code ≤ (s.monRole side).code →
    regSpanOk addr 1 16 = true →
    exec (.rd side len addr 1) s = .next (s.after (let u := s.onMons side fun m => { m with lastIn := s.now }; u.monSays side St.ok [regText (u.readReg addr)]))) ∧
  (∀ (s : State) (side len : Nat) (addr x : Nat),
    s.monMode side = 3 →
    side < s.mon.sides.length →
    s.mon.level = 0 →
    len ≤ 256 →
    (.operator : Role).code ≤ (s.monRole side).code →
    regSpanOk addr 1 1 = true →
    x < 2 ^ 64 →
    exec (.wr side len addr x) s = .next (s.after (let u := s.onMons side fun m => { m with lastIn := s.now }; (match u.writeReg (s.monRole side) addr x with | some w => w.monSays side St.ok | none => u.monSays side St.refusedRole)))) ∧
  (∀ (s : State) (side len : Nat) (count : Nat),
    s.monMode side = 3 →
    side < s.mon.sides.length →
    s.mon.level = 0 →
    len ≤ 256 →
    (.reader : Role).code ≤ (s.monRole side).code →
    1 ≤ count →
    count ≤ 64 →
    exec (.ev side len count) s = .next (s.after (let u := s.onMons side fun m => { m with lastIn := s.now }; (u.monSays side St.ok).monLines side ((s.seqr.journal.take count).map fun r => groupsOf4 (r.bytes false r.gap))))) ∧
  (∀ (s : State) (side len : Nat) (n : Nat),
    s.monMode side = 3 →
    side < s.mon.sides.length →
    s.mon.level = 0 →
    len ≤ 256 →
    (.reader : Role).code ≤ (s.monRole side).code →
    n < s.nLanes →
    exec (.lane side len n) s = .next (s.after (let u := s.onMons side fun m => { m with lastIn := s.now }; u.monSays side St.ok [regText (u.lnState n), regText (u.lnPower n), regText (u.lnSession n), regText (u.lnCtrl n)]))) ∧
  (∀ (s : State) (side len : Nat) (op : Nat) (arg : Bytes),
    s.monMode side = 3 →
    side < s.mon.sides.length →
    s.mon.level = 0 →
    len ≤ 256 →
    exec (.req side len op arg) s = .next (s.after (let u := s.onMons side fun m => { m with lastIn := s.now }; let u2 : State := { u with host := { u.host with mon := some { (u.host.mon.getD {}) with role := s.monRole side } } }; (u2.acceptReq 3 op 0 arg).1.monSays side (u2.acceptReq 3 op 0 arg).2.1 (if (u2.acceptReq 3 op 0 arg).2.1 = St.accepted then [hexBytes (beBytes 4 (u2.acceptReq 3 op 0 arg).2.2)] else [])))) ∧
  (∀ (s : State) (side len : Nat) (addr count : Nat),
    s.monMode side = 3 →
    side < s.mon.sides.length →
    s.mon.level = 0 →
    len ≤ 256 →
    (.service : Role).code ≤ (s.monRole side).code →
    1 ≤ count →
    count ≤ 256 →
    0x03800000 ≤ addr →
    exec (.mem side len addr count true) s = .next (s.after (let u := s.onMons side fun m => { m with lastIn := s.now }; (u.monSays side St.ok).drawn.monLines side ((List.range ((count + 15) / 16)).map fun i => hexBytes (sub (u.freeBytes count) (16 * i) 16))))) ∧
  (∀ (s : State) (side len : Nat) (fam lanes post : Nat),
    s.monMode side = 3 →
    side < s.mon.sides.length →
    s.mon.level = 0 →
    len ≤ 256 →
    (.service : Role).code ≤ (s.monRole side).code →
    post ≤ 2047 →
    exec (.traceStart side len fam lanes none none post) s = .next (s.after (let u := s.onMons side fun m => { m with lastIn := s.now }; ({ u with mon := { u.mon with trace := { u.mon.trace with running := true, famMask := fam % 2 ^ 16, laneMask := lanes % 2 ^ 64, can := none, trig := none, post := post, left := none } } } : State).monSays side St.ok))) ∧
  (∀ (s : State) (side len : Nat),
    s.monMode side = 3 →
    side < s.mon.sides.length →
    s.mon.level = 0 →
    len ≤ 256 →
    (.service : Role).code ≤ (s.monRole side).code →
    exec (.traceStop side len) s = .next (s.after (let u := s.onMons side fun m => { m with lastIn := s.now }; ({ u with mon := { u.mon with trace := { u.mon.trace with running := false } } } : State).monSays side St.ok))) ∧
  (∀ (s : State) (side len : Nat),
    s.monMode side = 3 →
    side < s.mon.sides.length →
    s.mon.level = 0 →
    len ≤ 256 →
    (.service : Role).code ≤ (s.monRole side).code →
    exec (.traceDump side len) s = .next (s.after (let u := s.onMons side fun m => { m with lastIn := s.now }; (u.monSays side St.ok).monLines side (s.mon.trace.ring.reverse.map groupsOf4)))) ∧
  (∀ (s : State) (side len : Nat),
    s.monMode side = 3 →
    side < s.mon.sides.length →
    s.mon.level = 0 →
    len ≤ 256 →
    (.service : Role).code ≤ (s.monRole side).code →
    exec (.traceClear side len) s = .next (s.after (let u := s.onMons side fun m => { m with lastIn := s.now }; ({ u with mon := { u.mon with trace := { u.mon.trace with ring := [] } } } : State).monSays side St.ok))) ∧
  (∀ (s : State) (side len : Nat) (c : MonCmd) (f : State → State), s.monMode side = 3 → s.mon.level ≠ 2 → len ≤ 256 → (s.monRole side).code < c.least.code →
    s.monCmd side len c f = (s.onMons side fun m => { m with lastIn := s.now }).monSays side St.refusedRole) ∧
  (∀ (s : State) (tk : Nat) (t : Ticket),
    s.ticket tk 0x0F30 = some t →
    t.arg.length = 1 →
    t.u 0 1 ≤ 2 →
    t.u 0 1 ≠ s.mon.level →
    s.mon.sides.length = 2 →
    ∃ u, exec (.monLock tk) s = .next (s.after u) ∧ u.mon.level = t.u 0 1 ∧ u.monRole 0 = .pub ∧ u.monRole 1 = .pub ∧ u.mon.passwords = s.mon.passwords) ∧
  (∀ (s : State) (tk : Nat) (t : Ticket),
    s.ticket tk 0x0F31 = some t →
    t.u 0 1 = 1 ∨ t.u 0 1 = 2 ∨ t.u 0 1 = 3 ∨ t.u 0 1 = 5 →
    t.rest 2 = [] →
    t.u 1 1 = 0 →
    exec (.monPasswordSet tk) s = .next (s.after (({ s with mon := { s.mon with passwords := s.mon.passwords.filter fun x => x.1 != t.u 0 1 } } : State).complete t St.ok))) ∧
  (∀ (s : State) (tk : Nat) (t : Ticket),
    s.ticket tk 0x0F31 = some t →
    t.u 0 1 = 1 ∨ t.u 0 1 = 2 ∨ t.u 0 1 = 3 ∨ t.u 0 1 = 5 →
    (t.rest 2).length = t.u 1 1 →
    passwordOk (t.rest 2) = true →
    exec (.monPasswordSet tk) s = .next (s.after (({ s with mon := { s.mon with passwords := s.mon.passwords.filter (fun x => x.1 != t.u 0 1) ++ [(t.u 0 1, t.rest 2)] } } : State).complete t St.ok))) ∧
  (∀ (s : State) (tk : Nat) (t : Ticket),
    s.ticket tk 0x0F32 = some t →
    exec (.monRead tk) s = .next (s.after (s.complete t St.ok (leBytes 1 s.mon.level ++ leBytes 1 (maskOf (s.mon.passwords.map (·.1))) ++ leBytes 1 (if s.monMode 0 = 0 then 0xFF else (s.monRole 0).code) ++ leBytes 1 (if s.monMode 1 = 0 then 0xFF else (s.monRole 1).code)))))

/-- A frame of good form and trailer with the number of its session and a fresh counter is accepted and its counter remembered, a repeated counter is
dropped and counted; HELLO goes out every 990 ms on an unbound port; a PUBLIC BIND of 92 bytes opens a session, any other is answered with a
CHALLENGE, whose PROOF binds when it verifies within 5 s; a late one fails; the fifth failure in 60 s locks the port, and the lockout ends; REQUEST in
one part is accepted with a ticket of the port and its serial, or refused; parts not all in within 1 s are refused; CLOSE and 3 s without a frame end
a session. -/
def Obligations.HostSessionsFramesAndRequests : Prop :=
  (∀ (s : State) (p typ : Nat) (f g : HostFrame) (c : Session) (k : State → Session → Bytes → State), s.hostOn = true → s.frameOf p typ f = some g → g.form = true → g.ok = true →
    (s.port p).session = some c → c.sid = g.sid → c.fresh g.counter = true →
    s.sessFrame p typ f k = k ((s.frameTaken p).onSess p fun c => c.accept g.counter s.now) (c.accept g.counter s.now) g.payload) ∧
  (∀ (s : State) (p typ : Nat) (f g : HostFrame) (c : Session) (k : State → Session → Bytes → State), s.hostOn = true → s.frameOf p typ f = some g → g.form = true → g.ok = true →
    (s.port p).session = some c → g.counter ∈ c.rxWindow → g.counter ≤ c.rxHigh → s.sessFrame p typ f k = (s.frameTaken p).onPort p fun q => { q with dropped := satU 16 (q.dropped + 1) }) ∧
  (∀ (s : State) (p : Nat),
    p < 2 →
    s.hostOn = true →
    (s.port p).session = none →
    (s.port p).helloAt + ms 990 ≤ s.now →
    (s.port p).ip4Enable = false →
    exec (.hello p) s = .next (s.after ((s.onPort p fun q => { q with helloAt := s.now, ip4Used := q.ip4 }).sendBare p 1 1 (s.helloBody p)))) ∧
  (∀ (s : State),
    s.hostOn = true →
    (s.port 2).session = none →
    (s.port 2).helloAt + ms 990 ≤ s.now →
    exec (.hello 2) s = .next (s.after (((s.onPort 2 fun q => { q with helloAt := s.now, ip4Used := q.ip4 }).onPort 2 fun q => { q with outbox := q.outbox.filter fun f => f.typ != 1 }).sendBare 2 1 0 (s.helloBody 2)))) ∧
  (∀ (s : State) (p : Nat) (f g : HostFrame),
    s.hostOn = true →
    s.frameOf p 2 f = some g →
    g.form = true →
    g.ok = true →
    g.payload.length = 92 →
    leNat (sub g.payload 0 1) = 0 →
    leNat (sub g.payload 1 1) ≤ 3 →
    (s.port p).session = none →
    s.bindLocked p = false →
    s.isOrphan 1 = false →
    p < s.host.ports.length →
    ∃ t, exec (.bind p f) s = .next (s.after t) ∧ (∃ c, (t.port p).session = some c ∧ c.role = .pub ∧ c.lastRx = s.now) ∧ (t.port p).bind = none) ∧
  (∀ (s : State) (p : Nat) (f g : HostFrame) (r : Role),
    s.hostOn = true →
    s.frameOf p 2 f = some g →
    g.form = true →
    g.ok = true →
    g.payload.length = 92 →
    Role.ofCode (leNat (sub g.payload 0 1)) = some r →
    r ≠ .pub →
    leNat (sub g.payload 1 1) ≤ 3 →
    (s.anchor (hostKeySlot r (leNat (sub g.payload 1 1)))).isSome = true →
    (s.port p).session = none →
    s.bindLocked p = false →
    s.isOrphan 1 = false →
    p < s.host.ports.length →
    ∃ t, exec (.bind p f) s = .next (s.after t) ∧ (∃ b, (t.port p).bind = some b ∧ b.role = r ∧ b.keyIndex = leNat (sub g.payload 1 1) ∧ b.challengeAt = s.now ∧ b.transcript.take 92 = g.payload) ∧ (t.port p).session = none) ∧
  (∀ (s : State) (p : Nat) (f g : HostFrame) (b : Bind) (k : Bytes),
    s.hostOn = true →
    s.frameOf p 4 f = some g →
    g.form = true →
    g.ok = true →
    (s.port p).bind = some b →
    g.sid = b.sid →
    s.anchor (hostKeySlot b.role b.keyIndex) = some k →
    s.now ≤ b.challengeAt + sec 5 →
    exec (.proof p f) s = .next (s.after (let v := s.frameTaken p; if P256.verify k (sha256 b.transcript) g.payload then v.bound p b else v.bindFails p b.role.code))) ∧
  (∀ (s : State) (p : Nat) (b : Bind),
    (s.port p).bind = some b →
    b.challengeAt + sec 5 ≤ s.now →
    exec (.proofLate p) s = .next (s.after (s.bindFails p b.role.code))) ∧
  (∀ (s : State) (p role : Nat), p < s.host.ports.length → ((s.port p).fails.filter fun x => decide (s.now < x + sec 60)).length = 4 →
    let u := (s.bindFails p role).port p
    u.lockUntil = some (s.now + sec 60) ∧ u.fails = [] ∧ u.bind = none ∧ u.bindFail = satU 16 ((s.port p).bindFail + 1) ∧ u.session = (s.port p).session) ∧
  (∀ (s : State) (p e : Nat),
    (s.port p).lockUntil = some e →
    e ≤ s.now →
    exec (.bindLockoutEnd p) s = .next (s.after (s.onPort p fun q => { q with lockUntil := none }))) ∧
  (∀ (s : State) (p : Nat) (f g : HostFrame) (c : Session) (op tag : Nat),
    s.hostOn = true →
    s.frameOf p 0x10 f = some g →
    g.form = true →
    g.ok = true →
    (s.port p).session = some c →
    c.sid = g.sid →
    c.fresh g.counter = true →
    p < s.host.ports.length →
    s.pw.state = 0 →
    s.pw.entry = none →
    12 ≤ g.payload.length →
    op = leNat (sub g.payload 0 2) →
    leNat (sub g.payload 2 1) = 0 →
    leNat (sub g.payload 3 1) = 1 →
    tag = leNat (sub g.payload 4 4) →
    leNat (sub g.payload 8 4) = g.payload.length - 12 →
    g.payload.length ≤ 88844 →
    c.tags = [] →
    exec (.request p f) s = .next (s.after (let v := (s.frameTaken p).onSess p fun c => c.accept g.counter s.now; (v.acceptReq p op tag (g.payload.drop 12)).1.respond p tag (v.acceptReq p op tag (g.payload.drop 12)).2.1 (v.acceptReq p op tag (g.payload.drop 12)).2.2))) ∧
  (∀ (s : State) (p op tag : Nat) (arg : Bytes) (c : Session) (l : List Role), s.sess p = some c → rolesOf op = some l → l.contains c.role = true → p < 2 → s.variantLacks op arg = false → c.outstanding.length < 256 → s.busyAt op arg = false →
    let k := p <<< 28 ||| c.serial
    s.acceptReq p op tag arg = ((s.onSess p fun c => { c with serial := if c.serial = 0x0FFFFFFF then 1 else c.serial + 1, outstanding := c.outstanding ++ [{ id := k, opcode := op, tag := tag, role := c.role, acceptTime := s.now, arg := arg, seqAt := s.seqr.seqLast }] }).evMod .host s.rd.active p 0x7010 (leBytes 4 k ++ leBytes 2 op ++ leBytes 4 tag), St.accepted, k)) ∧
  (∀ (s : State) (p tag : Nat) (c : Session) (b : PartBuf),
    s.sess p = some c →
    b ∈ c.parts →
    b.tag = tag →
    b.since + sec 1 ≤ s.now →
    exec (.requestPartsTimeout p tag) s = .next (s.after ((s.onSess p fun c => { c with parts := c.parts.filter fun x => x.tag != tag }).respond p tag St.badRequest 0))) ∧
  (∀ (s : State) (p : Nat) (f g : HostFrame) (c : Session),
    s.hostOn = true →
    s.frameOf p 0x30 f = some g →
    g.form = true →
    g.ok = true →
    (s.port p).session = some c →
    c.sid = g.sid →
    c.fresh g.counter = true →
    p < s.host.ports.length →
    exec (.close p f) s = .next (s.after (let v := (s.frameTaken p).onSess p fun c => c.accept g.counter s.now; v.endHost p 0x7003))) ∧
  (∀ (s : State) (p : Nat) (c : Session),
    (s.port p).session = some c →
    c.lastRx + sec 3 ≤ s.now →
    exec (.hostLost p) s = .next (s.after ((s.onPort p fun q => { q with lost := if q.lost + 1 < 65536 then q.lost + 1 else 65535 }).endHost p 0x7002))) ∧
  (∀ (s : State) (p k : Nat) (c : Session), (s.port p).session = some c → p < s.host.ports.length → ((s.endHost p k).port p).session = none) ∧
  (∀ (s : State) (p : Nat) (up : Bool),
    p ≤ 1 →
    (s.port p).link = !up →
    s.pw.state ≠ 2 →
    exec (.sgmiiLinkChange p up) s = .next (s.after (s.onPort p fun q => { q with link := up })))

/-- KEEPALIVE acknowledges up to its SEQ and one goes out after 1 s without a frame; EVENTS sends what the filter passes and advances the delivery point;
250 ms without an acknowledgement rewind it to the last acknowledged SEQ; TICKET_QUERY, EVENT_REPLAY and EVENT_FILTER act on their session; REG_READ
answers registers, REG_WRITE writes them in turn until one is refused, a register write of a role has the register's effect or none; on HP2, status,
message read and write, and register read and write of a bound session act while the module is in RUN or PARK with its pads free. -/
def Obligations.EventStreamRegistersAndSecondHost : Prop :=
  (∀ (s : State) (p : Nat) (f g : HostFrame) (c : Session),
    s.hostOn = true →
    s.frameOf p 0x21 f = some g →
    g.form = true →
    g.ok = true →
    (s.port p).session = some c →
    c.sid = g.sid →
    c.fresh g.counter = true →
    p < s.host.ports.length →
    g.payload.length = 16 →
    exec (.keepalive p f) s = .next (s.after (let v := (s.frameTaken p).onSess p fun c => c.accept g.counter s.now; v.acked p (leNat (sub g.payload 0 8))))) ∧
  (∀ (s : State) (p a : Nat) (c : Session), (s.port p).session = some c → p < 3 → p < s.host.ports.length → c.ackSeq < a → a ≤ c.sentThrough → c.replayTk = none →
    ∃ d, ((s.acked p a).port p).session = some d ∧ d.ackSeq = a ∧ d.ackAt = s.now ∧ d.sentThrough = c.sentThrough ∧ d.nextSeq = c.nextSeq) ∧
  (∀ (s : State) (p : Nat) (c : Session),
    (s.port p).session = some c →
    s.hostOn = true →
    c.lastTx + sec 1 ≤ s.now →
    exec (.keepaliveSend p) s = .next (s.after (s.sendFrame p 0x21 (leBytes 8 s.seqr.seqLast ++ leBytes 8 s.now)))) ∧
  (∀ (s : State) (p : Nat) (c : Session),
    (s.port p).session = some c →
    p < 3 →
    p < s.host.ports.length →
    s.hostOn = true →
    c.role ≠ .pub →
    c.nextSeq ≤ s.seqr.seqLast →
    (s.recordsFor c c.nextSeq).length ≤ 40 →
    c.inFlight + (s.recordsFor c c.nextSeq).length ≤ 1024 →
    ∃ t, exec (.events p) s = .next (s.after t) ∧ (∃ d, (t.port p).session = some d ∧ d.nextSeq = s.seqr.seqLast + 1 ∧ d.sentThrough = s.seqr.seqLast ∧ d.inFlight = c.inFlight + (s.recordsFor c c.nextSeq).length ∧ d.txCtr = c.txCtr + 1) ∧ t.lanes = s.lanes) ∧
  (∀ (s : State) (p : Nat) (c : Session),
    (s.port p).session = some c →
    s.hostOn = true →
    c.ackSeq < c.sentThrough →
    c.ackAt + ms 250 ≤ s.now →
    exec (.eventResend p) s = .next (s.after (s.onSess p fun c => { c with nextSeq := c.ackSeq + 1, sentThrough := c.ackSeq, inFlight := 0, ackAt := s.now }))) ∧
  (∀ (s : State) (tk : Nat) (t : Ticket) (c : Session),
    s.ticket tk 0x0001 = some t →
    s.sess (ticketPort tk) = some c →
    t.arg.length = 4 →
    ((c.outstanding.any fun x => x.id == t.u 0 4) = true) →
    exec (.ticketQuery tk) s = .next (s.after (s.complete t St.ok (leBytes 2 St.accepted)))) ∧
  (∀ (s : State) (tk : Nat) (t : Ticket) (c : Session),
    s.ticket tk 0x0002 = some t →
    ticketPort tk ≤ 2 →
    s.sess (ticketPort tk) = some c →
    ticketPort tk < s.host.ports.length →
    t.arg.length = 8 →
    t.u 0 8 ≤ c.nextSeq →
    c.replayTk = none →
    t.u 0 8 ≤ t.seqAt →
    ∃ u, exec (.eventReplay tk) s = .next (s.after u) ∧ (∃ d, u.sess (ticketPort tk) = some d ∧ d.nextSeq = t.u 0 8 ∧ d.ackSeq = t.u 0 8 - 1 ∧ d.inFlight = 0 ∧ d.replayTk = some (tk, t.seqAt) ∧ d.outstanding = c.outstanding)) ∧
  (∀ (s : State) (tk : Nat) (t : Ticket),
    s.ticket tk 0x0003 = some t →
    t.arg.length = 10 →
    exec (.eventFilter tk) s = .next (s.after ((s.onSess (ticketPort tk) fun c => { c with filterFam := t.u 0 2, filterLane := t.u 2 8 }).complete t St.ok))) ∧
  (∀ (s : State) (tk : Nat) (t : Ticket),
    s.ticket tk 0x0004 = some t →
    t.arg.length = 4 →
    regSpanOk (t.u 0 2) (t.u 2 2) 128 = true →
    exec (.regRead tk) s = .next (s.after (s.complete t St.ok ((List.range (t.u 2 2)).flatMap fun i => leBytes 8 (s.readReg (t.u 0 2 + 8 * i)))))) ∧
  (∀ (s : State) (tk : Nat) (t : Ticket),
    s.ticket tk 0x0005 = some t →
    regSpanOk (t.u 0 2) (t.u 2 2) 16 = true →
    t.arg.length = 4 + 8 * t.u 2 2 →
    exec (.regWrite tk) s = .next (s.after (match s.writeRegs t.role (t.u 0 2) ((List.range (t.u 2 2)).map fun i => t.u (4 + 8 * i) 8) with | (u, none) => u.complete t St.ok | (u, some a) => u.complete t St.refusedRole (leBytes 2 a)))) ∧
  (∀ (s : State) (role : Role) (addr v : Nat),
    v < 2 ^ 64 →
    exec (.registerWrite role addr v) s = .next (s.after (match s.writeReg role addr v with | some t => t | none => s))) ∧
  (∀ (s : State) (role : Role) (v : Nat),
    v < 64 →
    exec (.registerWrite role 0x2020 v) s = .next (s.after ({ s with pp := { s.pp with sel := v } }))) ∧
  (∀ (s : State),
    s.pw.state ≤ 1 →
    bit s.pw.held 0 = false →
    s.pw.entry = none →
    exec (.hp2Status) s = .next (s.after (let u := s.sourceFires 4 0xFF; { u with host := { u.host with hp2Out := u.host.hp2Out ++ [leBytes 1 ((if (u.port 2).outbox = [] then 0 else 1) ||| 2 * (if (u.port 2).inbox.length < 4 then 1 else 0) ||| 4 * (if (u.port 2).session = none then 0 else 1))] } }))) ∧
  (∀ (s : State) (n : Nat) (f : Frame) (l : List Frame),
    s.pw.state = 0 →
    s.pw.entry = none →
    bit s.pw.held 0 = false →
    (s.port 2).outbox = f :: l →
    f.bytes.length + 2 ≤ n →
    exec (.hp2MessageRead n) s = .next (s.after ((s.hp2Puts (leBytes 2 f.bytes.length ++ f.bytes)).onPort 2 fun q => { q with outbox := l }))) ∧
  (∀ (s : State) (b f : Bytes),
    s.pw.state = 0 →
    s.pw.entry = none →
    bit s.pw.held 0 = false →
    f = sub b 2 (leNat (sub b 0 2)) →
    leNat (sub b 0 2) + 2 ≤ b.length →
    (s.port 2).inbox.length < 4 →
    f.length = leNat (sub f 16 2) + 24 →
    leNat (sub f 16 2) ≤ 1400 →
    sub f 0 3 = [0x59, 0x48, 0x01] →
    isHostType (leNat (sub f 3 1)) = true →
    leNat (sub f (leNat (sub f 16 2) + 20) 4) = crc32 (sub f 0 (leNat (sub f 16 2) + 20)) →
    exec (.hp2MessageWrite b) s = .next (s.after (s.onPort 2 fun q => { q with inbox := q.inbox ++ [{ typ := leNat (sub f 3 1), session := leNat (sub f 4 4), counter := leNat (sub f 8 8), payload := sub f 20 (leNat (sub f 16 2)) }] }))) ∧
  (∀ (s : State) (addr : Nat),
    s.pw.state = 0 →
    s.pw.entry = none →
    bit s.pw.held 0 = false →
    addr % 8 = 0 →
    addr ≤ 0xFFF8 →
    exec (.hp2RegisterRead addr 8) s = .next (s.after (s.hp2Puts (leBytes 8 (s.readReg addr))))) ∧
  (∀ (s : State) (addr v : Nat) (c : Session),
    s.pw.state = 0 →
    s.pw.entry = none →
    bit s.pw.held 0 = false →
    (s.port 2).session = some c →
    c.role ≠ .pub →
    c.role ≠ .reader →
    addr % 8 = 0 →
    addr < 2 ^ 16 →
    v < 2 ^ 64 →
    exec (.hp2RegisterWrite addr v true) s = .next (s.after (match s.writeReg c.role addr v with | some t => t | none => s)))

/-- MATRIX_LOAD and MATRIX_LANE_LOAD of a stream refuse it with its first failing check or put it in wait with the lanes it changes pending; MATRIX_CHECK
answers the same checks but the state check and changes nothing else; MATRIX_INFO answers the matrix in force; MATRIX_REVERT puts the other stored
copy in wait, or refuses; a second load while one waits is BUSY; the commit puts the matrix in force, its copy active and the wait over; a copy that
does not verify is refused with CHECK_FAILED and nothing is applied. -/
def Obligations.MatrixLoadsChecksAndCommits : Prop :=
  (∀ (s : State) (tk : Nat) (t : Ticket) (b : Bytes) (x : Option Nat),
    s.ticket tk 0x0101 = some t →
    s.mx.job = none →
    s.mxStream t = some (b, x) →
    exec (.matrixLoad tk) s = .next (s.after (match s.checkMatrix b false with | .inl e => s.drawn.mxRefuse t e | .inr c => s.drawn.mxStart t c 0xFF x))) ∧
  (∀ (s : State) (tk : Nat) (t : Ticket) (b : Bytes) (x : Option Nat),
    s.ticket tk 0x0102 = some t →
    s.mx.job = none →
    s.mxStream t = some (b, x) →
    exec (.matrixLaneLoad tk) s = .next (s.after (match s.checkMatrix b true with | .inl e => s.drawn.mxRefuse t e | .inr c => s.drawn.mxStart t c (ru b 0x0B 1) x))) ∧
  (∀ (s : State) (t : Ticket) (c : Machine.Config) (k : Nat), s.mxCheck14 (changedLanes s.cfg c) = none →
    s.mxStart t c k none = { s with mx := { s.mx with job := some { ticket := t.id, cfg := c, changed := changedLanes s.cfg c, deltaSlot := k, xfer := none }, pending := changedLanes s.cfg c, blocked := 0 } }) ∧
  (∀ (s : State) (t : Ticket) (e : MxErr), (s.mxRefuse t e).mx.refused = satU 32 (s.mx.refused + 1) ∧ (s.mxRefuse t e).mx.errStatus = e.status ∧ (s.mxRefuse t e).mx.errCode = e.code ∧
    (s.mxRefuse t e).mx.applied = s.mx.applied ∧ (s.mxRefuse t e).mx.active = s.mx.active ∧ (s.mxRefuse t e).lanes = s.lanes) ∧
  (∀ (s : State) (tk : Nat) (t : Ticket) (j : MxJob),
    s.ticket tk 0x0101 = some t →
    s.mx.job = some j →
    j.ticket ≠ t.id →
    exec (.matrixLoad tk) s = .next (s.after (s.complete t St.busy))) ∧
  (∀ (s : State) (tk : Nat) (t : Ticket) (b : Bytes) (x : Option Nat),
    s.ticket tk 0x0103 = some t →
    s.mx.job = none →
    s.mxStream t = some (b, x) →
    exec (.matrixCheck tk) s = .next (s.after (match s.checkMatrix b (ru b 0x0A 1 == 1) with | .inl e => (s.drawn.mxFail e).complete t e.status | .inr _ => s.drawn.complete t St.ok))) ∧
  (∀ (s : State) (tk : Nat) (t : Ticket),
    s.ticket tk 0x0104 = some t →
    exec (.matrixInfo tk) s = .next (s.after (s.complete t St.ok (leBytes 1 s.mx.active ++ leBytes 4 s.cfg.generation ++ padTo 32 s.cfg.hash ++ leBytes 1 (if s.cfg.sealed then 1 else 0))))) ∧
  (∀ (s : State) (tk : Nat) (t : Ticket) (c : Machine.Config),
    s.ticket tk 0x0105 = some t →
    s.mx.job = none →
    s.mx.copy (1 - s.mx.active) = some c →
    s.mx.applied = none →
    exec (.matrixRevert tk) s = .next (s.after (match s.checkStored c with | some e => s.mxRefuse t e | none => s.mxStart t c 0xFF none))) ∧
  (∀ (s : State) (j : MxJob) (t0 : Ticket),
    s.mx.job = some j →
    j.deltaSlot = 0xFF →
    s.ticket j.ticket 0x0101 = some t0 →
    j.xfer = none →
    ∃ t, exec (.matrixCommit true) s = .next (s.after t) ∧ t.mx.applied = some j.cfg ∧ t.mx.active = 1 - s.mx.active ∧ t.mx.job = none ∧ t.mx.pending = 0 ∧ t.mx.appliedCount = (s.mx.appliedCount + 1) % 2 ^ 32 ∧ (s.mx.active = 1 → t.mx.copyA = some j.cfg ∧ t.mx.aValid = true ∧ t.mx.copyB = s.mx.copyB) ∧ (s.mx.active = 0 → t.mx.copyB = some j.cfg ∧ t.mx.bValid = true ∧ t.mx.copyA = s.mx.copyA)) ∧
  (∀ (s : State) (j : MxJob) (t0 : Ticket),
    s.mx.job = some j →
    j.deltaSlot = 0xFF →
    s.ticket j.ticket 0x0101 = some t0 →
    j.xfer = none →
    exec (.matrixCommit false) s = .next (s.after (s.unpend.mxRefuse t0 { status := St.checkFailed, code := 4 })))

/-- A module reset leaves reset cause and the one before, the counts, TIME 0, no session, lanes OFFLINE and the queue; with rails and RSTN good it is
released with the straps sampled; the phases of a start-up complete side by side, the latch is claimed after 5 s by the other side; RSTN low, VIO18
out, a lost XIN or a silent heartbeat reset with their causes; VAON going takes the module to OFF, its return powers on; a PLL lost fails its side;
oscillator stop and restart are told once; temperature limits are told at 135 and 125 °C; RS_RESET resets with cause HOST, RS_READ answers. -/
def Obligations.SuppliesClocksResetsAndStartup : Prop :=
  (∀ (s : State) (k : Nat), let u := s.moduleReset k
    u.rs.phase = 1 ∧ u.rs.cause = k ∧ u.rs.prev = s.rs.cause ∧ u.rs.resets = satU 16 (s.rs.resets + 1) ∧ u.clock.time = 0 ∧ u.pending = s.pending ∧ u.pw.state = 0 ∧
    (∀ p, (u.port p).session = none) ∧ u.kv.nodes = s.kv.nodes ∧ u.ac.cells = s.ac.cells ∧ u.mx.applied = none ∧ u.mx.copyA = s.mx.copyA ∧ u.mx.copyB = s.mx.copyB ∧ (∀ n, (u.lane n).st = .offline)) ∧
  (∀ (s : State) (straps : Nat),
    s.rs.phase = 1 →
    s.railsGood = true →
    s.rs.rstn = true →
    s.pw.state ≠ 4 →
    s.twin = true →
    ∃ t, exec (.resetRelease straps) s = .next (s.after t) ∧ t.rs.phase = 2 ∧ t.ident.sidepref = bit straps 0 ∧ t.ident.mpmode = bit straps 1 ∧ t.ident.testStrap = bit straps 2 ∧ t.rd.active = b2n (bit straps 0) ∧ t.rd.holder = t.rd.active ∧ t.clock.time = 0 ∧ t.rs.sides = [2, 2]) ∧
  (∀ (s : State) (side : Nat) (r : BootRes),
    2 ≤ s.rs.phase →
    s.rs.pfStop = false →
    side = 0 ∨ side = 1 ∧ s.twin = true →
    s.rs.sides.getD side 4 = 2 →
    r.ok = true →
    exec (.startupPhaseComplete side r) s = .next (s.after (s.phase2 side))) ∧
  (∀ (s : State) (side : Nat) (r : BootRes),
    2 ≤ s.rs.phase →
    s.rs.pfStop = false →
    side = 0 ∨ side = 1 ∧ s.twin = true →
    s.rs.sides.getD side 4 = 3 →
    exec (.startupPhaseComplete side r) s = .next (s.after (s.phase3 side r))) ∧
  (∀ (s : State) (side : Nat) (r : BootRes),
    s.rs.pfStop = false →
    side = 0 ∨ side = 1 ∧ s.twin = true →
    s.rs.sides.getD side 4 = 4 →
    side = s.rd.holder →
    s.rs.phase = 4 →
    exec (.startupPhaseComplete side r) s = .next (s.after (s.phase4 r))) ∧
  (∀ (s : State) (side : Nat) (r : BootRes),
    s.rs.pfStop = false →
    side = 0 ∨ side = 1 ∧ s.twin = true →
    s.rs.sides.getD side 4 = 4 →
    side = s.rd.holder →
    s.rs.phase = 6 →
    exec (.startupPhaseComplete side r) s = .next (s.after (s.phase6))) ∧
  (∀ (s : State),
    s.twin = true →
    s.rs.phase = 2 ∨ s.rs.phase = 3 →
    s.rs.released + sec 5 ≤ s.now →
    s.rs.sides.getD (1 - s.rd.holder) 0 = 4 →
    s.rs.sides.getD s.rd.holder 0 ≠ 4 →
    exec (.holderLatchClaim) s = .next (s.after ({ s with rd := { s.rd with holder := 1 - s.rd.holder, active := 1 - s.rd.holder, standby := 1 }, rs := { s.rs with phase := 4 } }))) ∧
  (∀ (s : State),
    5 ≤ s.rs.phase →
    s.pw.state ≤ 2 →
    s.rd.hbAt + ms 50 ≤ s.now →
    exec (.heartbeatWatchdogReset) s = .next (s.after (s.moduleReset 6))) ∧
  (∀ (s : State),
    s.pw.state ≠ 4 →
    s.rs.rstn = true →
    s.rs.phase ≠ 1 →
    exec (.rstn true) s = .next (s.after (State.moduleReset { s with rs := { s.rs with rstn := false } } 1))) ∧
  (∀ (s : State),
    s.pw.state ≠ 4 →
    s.rs.rstn = false →
    exec (.rstn false) s = .next (s.after ({ s with rs := { s.rs with rstn := true } }))) ∧
  (∀ (s : State) (mv : Int),
    s.pw.state ≠ 4 →
    s.rs.vio18 = true →
    s.rs.phase ≠ 1 →
    exec (.supplyTrip 8 false mv) s = .next (s.after (State.moduleReset { s with rs := { s.rs with vio18 := false } } 2))) ∧
  (∀ (s : State) (mv : Int),
    s.pw.state ≠ 4 →
    s.rs.vaon = true →
    ∃ t, exec (.supplyTrip 13 false mv) s = .next (s.after t) ∧ t.pw.state = 4 ∧ t.pw.entry = none ∧ t.rs.phase = 1 ∧ t.rs.vaon = false ∧ t.lanes = s.lanes) ∧
  (∀ (s : State),
    s.rs.vaon = false →
    exec (.vaonPowerOn) s = .next (s.after (State.moduleReset { s with rs := { s.rs with vaon := true }, pw := { s.pw with state := 0 }, clock := { s.clock with rtcLost := true } } 0))) ∧
  (∀ (s : State),
    s.rs.phase ≠ 1 →
    s.pw.state < 3 →
    s.saves = false →
    s.rs.cXin < 65535 →
    ∃ t, exec (.xinLoss 0) s = .next (s.after t) ∧ t.rs.phase = 1 ∧ t.rs.cause = 10 ∧ t.rs.clkLost = some 0 ∧ t.rs.cXin = s.rs.cXin + 1 ∧ t.clock.time = 0) ∧
  (∀ (s : State) (k : Nat),
    2 ≤ k →
    k ≤ 5 →
    exec (.xinLoss k) s = .next (s.after (((({ s with rs := { s.rs with clkLost := some k, lockA := setBit s.rs.lockA (k - 2) false } } : State).evMod .diag s.rd.active 0 0x5203 (leBytes 1 k ++ leBytes 1 1)).sideFault 0 6)))) ∧
  (∀ (s : State),
    s.clock.rtcOk = true →
    exec (.rtcOscillatorStop) s = .next (s.after (({ s with clock := { s.clock with rtcOk := false }, rs := { s.rs with x32Ok := false } } : State).evMod .diag 13 0 0x5203 (leBytes 1 1 ++ leBytes 1 1)))) ∧
  (∀ (s : State),
    s.clock.rtcOk = false →
    exec (.rtcOscillatorRestart) s = .next (s.after (({ s with clock := { s.clock with rtcOk := true }, rs := { s.rs with x32Ok := true } } : State).evMod .diag 13 0 0x5203 (leBytes 1 1 ++ leBytes 1 0)))) ∧
  (∀ (s : State) (v : Int),
    1350 < v →
    v < 32768 →
    s.rs.hot = false →
    exec (.temperatureMeasurement v) s = .next (s.after (({ s with rs := { s.rs with dieTemp := v, rtcComp := satS 16 (Config.rtcFactory v + s.rs.trim), hot := true } } : State).evMod .diag 13 0 0xF020 (leBytes 1 1 ++ leBytes 2 (toBits 16 v))))) ∧
  (∀ (s : State) (v : Int),
    -32768 ≤ v →
    v < 1250 →
    s.rs.hot = true →
    exec (.temperatureMeasurement v) s = .next (s.after (({ s with rs := { s.rs with dieTemp := v, rtcComp := satS 16 (Config.rtcFactory v + s.rs.trim), hot := false } } : State).evMod .diag 13 0 0xF020 (leBytes 1 0 ++ leBytes 2 (toBits 16 v))))) ∧
  (∀ (s : State) (v : Int),
    1250 ≤ v →
    v ≤ 1350 →
    exec (.temperatureMeasurement v) s = .next (s.after ({ s with rs := { s.rs with dieTemp := v, rtcComp := satS 16 (Config.rtcFactory v + s.rs.trim) } }))) ∧
  (∀ (s : State) (tk : Nat) (t : Ticket),
    s.ticket tk 0x0F40 = some t →
    t.arg.length = 1 →
    t.u 0 1 = 1 ∨ t.u 0 1 = 0 ∧ s.lanesRest = true →
    s.saves = false →
    exec (.rsReset tk) s = .next (s.after ((s.complete t St.ok).moduleReset 9))) ∧
  (∀ (s : State) (tk : Nat) (t : Ticket),
    s.ticket tk 0x0F41 = some t →
    exec (.rsRead tk) s = .next (s.after (s.complete t St.ok (leBytes 8 s.rsCause ++ (leBytes 8 s.supStatus ++ (leBytes 8 s.clkStatus ++ (leBytes 8 s.supCount ++ leBytes 8 s.rtcTrim)))))))

/-- For the commands named in each clause, by the part of the module they act on: whatever the state, a next state differs from the state before at most
in that part, in the host sessions where a request answers, in the sequencer and in the monitors with their trace; every other part of the module,
each register, counter, flag and table of it, is unchanged, and nothing is left to ask of the sequencer. Among them are the requests that only answer,
and the commands on time, lanes, handshake, power path, sharing, earth fault, measurement, energy, safety, outputs, sides, billing, accounts, COSEM,
vault, link, tags, displays, power, update and memory. -/
def Obligations.CommandsLeaveTheOtherPartsUnchanged : Prop :=
  (∀ s u : State,
    ((∃ a, exec (.bindLockoutEnd a) s = .next u) ∨ (∃ a b, exec (.requestPartsTimeout a b) s = .next u) ∨ (∃ a b, exec (.keepalive a b) s = .next u) ∨
     (∃ a, exec (.keepaliveSend a) s = .next u) ∨ (∃ a, exec (.events a) s = .next u) ∨ (∃ a, exec (.eventResend a) s = .next u) ∨
     (∃ a, exec (.ticketQuery a) s = .next u) ∨ (∃ a, exec (.eventReplay a) s = .next u) ∨ (∃ a, exec (.eventFilter a) s = .next u) ∨
     (∃ a, exec (.matrixInfo a) s = .next u) ∨ (∃ a, exec (.laneInfo a) s = .next u) ∨ (∃ a, exec (.hsCertFetch a) s = .next u) ∨
     (∃ a, exec (.ppLaneRead a) s = .next u) ∨ (∃ a, exec (.psRead a) s = .next u) ∨ (∃ a, exec (.efRead a) s = .next u) ∨
     (∃ a, exec (.mtCalRead a) s = .next u) ∨ (∃ a, exec (.mtTestRead a) s = .next u) ∨ (∃ a, exec (.mtPulseRead a) s = .next u) ∨
     (∃ a, exec (.enRead a) s = .next u) ∨ (∃ a, exec (.enRecordRead a) s = .next u) ∨ (∃ a, exec (.enImpressionRead a) s = .next u) ∨
     (∃ a, exec (.sfRead a) s = .next u) ∨ (∃ a, exec (.spRead a) s = .next u) ∨ (∃ a, exec (.spLogRead a) s = .next u) ∨
     (∃ a, exec (.poRead a) s = .next u) ∨ (∃ a, exec (.rdRead a) s = .next u) ∨ (∃ a, exec (.calRead a) s = .next u) ∨
     (∃ a, exec (.tmRead a) s = .next u) ∨ (∃ a, exec (.blHistoryRead a) s = .next u) ∨ (∃ a, exec (.blRateRead a) s = .next u) ∨
     (∃ a, exec (.acCellRead a) s = .next u) ∨ (∃ a, exec (.acCredFetch a) s = .next u) ∨ (∃ a, exec (.acStatus a) s = .next u) ∨
     (∃ a, exec (.kvCertRead a) s = .next u) ∨ (∃ a, exec (.kzRead a) s = .next u) ∨ (∃ a, exec (.kzNodeRead a) s = .next u) ∨
     (∃ a, exec (.tgRead a) s = .next u) ∨ (∃ a, exec (.dsRead a) s = .next u) ∨ (∃ a, exec (.mmRead a) s = .next u) ∨
     (∃ a, exec (.pwRead a) s = .next u) ∨ (∃ a, exec (.upStatus a) s = .next u) ∨ (∃ a b c d, exec (.login a b c d) s = .next u) ∨
     (∃ a b, exec (.logout a b) s = .next u) ∨ (∃ a b c d, exec (.req a b c d) s = .next u) ∨ (∃ a, exec (.monitorIdleTimeout a) s = .next u) ∨
     (∃ a, exec (.monLock a) s = .next u) ∨ (∃ a, exec (.monPasswordSet a) s = .next u) ∨ (∃ a, exec (.monRead a) s = .next u)) →
    u = { s with host := u.host, seqr := u.seqr, mon := u.mon, emits := [] }) ∧
  (∀ s u : State,
    (exec .timeReplicaRealign s = .next u ∨ (∃ a, exec (.legalAnchor a) s = .next u) ∨ exec .slewEnd s = .next u) →
    u = { s with clock := u.clock, seqr := u.seqr, mon := u.mon, emits := [] }) ∧
  (∀ s u : State,
    ((∃ a, exec (.laneClear a) s = .next u) ∨ (∃ a, exec (.dutyChange a) s = .next u) ∨ (∃ a, exec (.isolationCauseClear a) s = .next u) ∨
     (∃ a, exec (.pilotFaultClear a) s = .next u)) →
    u = { s with lanes := u.lanes, host := u.host, seqr := u.seqr, mon := u.mon, emits := [] }) ∧
  (∀ s u : State,
    ((∃ a b c, exec (.pilotStateChange a b c) s = .next u) ∨ (∃ a, exec (.pilotFoldback a) s = .next u) ∨ (∃ a b, exec (.foldbackTest a b) s = .next u) ∨
     (∃ a b, exec (.preambleDetected a b) s = .next u) ∨ (∃ a, exec (.hpavFrameReceived a) s = .next u) ∨ (∃ a b c, exec (.cmSlacParmReq a b c) s = .next u) ∨
     (∃ a, exec (.cmStartAttenCharInd a) s = .next u) ∨ (∃ a b, exec (.cmMnbcSound a b) s = .next u) ∨ (∃ a b c d, exec (.cmValidate a b c d) s = .next u) ∨
     (∃ a b, exec (.seccDiscovery a b) s = .next u) ∨ (∃ a b c, exec (.certificateRequest a b c) s = .next u) ∨ (∃ a, exec (.hsCountClear a) s = .next u)) →
    u = { s with hs := u.hs, host := u.host, seqr := u.seqr, mon := u.mon, emits := [] }) ∧
  (∀ s u : State,
    ((∃ a, exec (.soundingEnd a) s = .next u) ∨ (∃ a b, exec (.cmSlacMatchReq a b) s = .next u)) →
    u = { s with hs := u.hs, draws := u.draws, seqr := u.seqr, mon := u.mon, emits := [] }) ∧
  (∀ s u : State,
    ((∃ a, exec (.canBusOffRecovery a) s = .next u) ∨ (∃ a, exec (.ppCanApply a) s = .next u) ∨ (∃ a, exec (.ppCountClear a) s = .next u) ∨
     (∃ a, exec (.canBusOff a) s = .next u)) →
    u = { s with pp := u.pp, host := u.host, seqr := u.seqr, mon := u.mon, emits := [] }) ∧
  (∀ s u : State,
    ((∃ a b, exec (.releaseHoldEnd a b) s = .next u) ∨ (∃ a, exec (.curtailExpiry a) s = .next u) ∨ exec .dispatchExpiry s = .next u ∨
     (∃ a, exec (.moduleReportLoss a) s = .next u) ∨ (∃ a, exec (.psCurtailClear a) s = .next u) ∨ (∃ a, exec (.psDispatch a) s = .next u) ∨
     (∃ a, exec (.psLaneCap a) s = .next u) ∨ (∃ a, exec (.psHubLimit a) s = .next u)) →
    u = { s with ps := u.ps, host := u.host, seqr := u.seqr, mon := u.mon, emits := [] }) ∧
  (∀ s u : State,
    ((∃ a, exec (.currentSenseTest a) s = .next u) ∨ (∃ a b, exec (.currentSenseTestEnd a b) s = .next u) ∨ (∃ a, exec (.efSelftest a) s = .next u) ∨
     (∃ a, exec (.efGroupClear a) s = .next u) ∨ (∃ a, exec (.efCountClear a) s = .next u)) →
    u = { s with ef := u.ef, host := u.host, seqr := u.seqr, mon := u.mon, emits := [] }) ∧
  (∀ s u : State,
    ((∃ a, exec (.clipTimeout a) s = .next u) ∨ (∃ a, exec (.testModeExpiry a) s = .next u) ∨ (∃ a, exec (.pulseFoldback a) s = .next u) ∨
     (∃ a, exec (.pulseFoldbackRestore a) s = .next u) ∨ (∃ a, exec (.mtTest a) s = .next u) ∨ (∃ a, exec (.mtCountClear a) s = .next u)) →
    u = { s with mt := u.mt, host := u.host, seqr := u.seqr, mon := u.mon, emits := [] }) ∧
  (∀ s u : State,
    (exec .accumulatorMirror s = .next u ∨ (∃ a b c, exec (.missingNeutral a b c) s = .next u) ∨ exec .coverOpen s = .next u ∨
     (∃ a, exec (.enCableWrite a) s = .next u) ∨ (∃ a, exec (.enTamperClear a) s = .next u) ∨ (∃ a, exec (.enImpress a) s = .next u) ∨
     exec .coverClosed s = .next u) →
    u = { s with en := u.en, host := u.host, seqr := u.seqr, mon := u.mon, emits := [] }) ∧
  (∀ s u : State,
    ((∃ a b, exec (.suspectClearHold a b) s = .next u) ∨ exec .guardTestHold s = .next u ∨ (∃ a, exec (.spWrite a) s = .next u) ∨
     (∃ a, exec (.spPasswordSet a) s = .next u) ∨ exec .passwordLockEnd s = .next u ∨ exec .passwordReplaceWindowEnd s = .next u) →
    u = { s with sf := u.sf, host := u.host, seqr := u.seqr, mon := u.mon, emits := [] }) ∧
  (∀ s u : State,
    ((∃ a, exec (.blankingEnd a) s = .next u) ∨ (∃ a b, exec (.retryDelayEnd a b) s = .next u) ∨ (∃ a, exec (.usedReset a) s = .next u) ∨
     (∃ a b, exec (.offStateTest a b) s = .next u) ∨ (∃ a b, exec (.vswUndervoltage a b) s = .next u) ∨ (∃ a b, exec (.vswRestored a b) s = .next u) ∨
     (∃ a b, exec (.vswRise a b) s = .next u)) →
    u = { s with po := u.po, seqr := u.seqr, mon := u.mon, emits := [] }) ∧
  (∀ s u : State,
    ((∃ a b, exec (.heartbeat a b) s = .next u) ∨ (∃ a, exec (.holderLatchLost a) s = .next u) ∨ exec .counterproofDue s = .next u ∨
     exec .swapPostpone s = .next u ∨ exec .revertDelayEnd s = .next u ∨ exec .swapConditionsMet s = .next u ∨
     exec .protectedTicketWaitEnd s = .next u ∨ (∃ a, exec (.rdSwap a) s = .next u) ∨ exec .rdSwapTimeout s = .next u ∨
     exec .standbyRestartTimeout s = .next u) →
    u = { s with rd := u.rd, host := u.host, seqr := u.seqr, mon := u.mon, emits := [] }) ∧
  (∀ s u : State,
    (exec .demandClose s = .next u ∨ exec .tariffSwitch s = .next u ∨ exec .billingPeriodClose s = .next u ∨
     exec .calendarActivation s = .next u ∨ exec .daylightSavingChange s = .next u) →
    u = { s with bl := u.bl, en := u.en, seqr := u.seqr, mon := u.mon, emits := [] }) ∧
  (∀ s u : State,
    (exec .accountDebit s = .next u ∨ exec .friendlyStart s = .next u ∨ exec .priceActivation s = .next u ∨
     exec .bulkApplyEnd s = .next u ∨ (∃ a, exec (.acCellWrite a) s = .next u) ∨ (∃ a, exec (.acCredit a) s = .next u) ∨
     (∃ a, exec (.acCredWrite a) s = .next u) ∨ (∃ a, exec (.acClassWrite a) s = .next u) ∨ (∃ a, exec (.acPriceLoad a) s = .next u) ∨
     (∃ a, exec (.acFriendlyWrite a) s = .next u) ∨ (∃ a, exec (.acCustodyBind a) s = .next u) ∨ exec .credentialIndexRebuild s = .next u) →
    u = { s with ac := u.ac, host := u.host, seqr := u.seqr, mon := u.mon, emits := [] }) ∧
  (∀ s u : State,
    ((∃ a, exec (.hdlcSnrm a) s = .next u) ∨ exec .hdlcLinkTimeout s = .next u ∨ (∃ a b c d e, exec (.get a b c d e) s = .next u) ∨
     (∃ a b, exec (.releaseRequest a b) s = .next u) ∨ (∃ a b, exec (.associationInactivity a b) s = .next u) ∨ exec .cosemLockoutEnd s = .next u) →
    u = { s with cosem := u.cosem, host := u.host, seqr := u.seqr, mon := u.mon, emits := [] }) ∧
  (∀ s u : State,
    ((∃ a, exec (.kvNodeCreate a) s = .next u) ∨ (∃ a, exec (.kvNodeInvalidate a) s = .next u) ∨ (∃ a, exec (.kvNodeRenew a) s = .next u) ∨
     (∃ a, exec (.kvNodeDelete a) s = .next u) ∨ (∃ a, exec (.kvNodeRead a) s = .next u) ∨ (∃ a, exec (.kvCertStore a) s = .next u) ∨
     (∃ a, exec (.kvAnchorSet a) s = .next u) ∨ exec .rootRetireWindowEnd s = .next u ∨ (∃ a, exec (.kvObjectStore a) s = .next u) ∨
     (∃ a b, exec (.healthTest a b) s = .next u)) →
    u = { s with kv := u.kv, host := u.host, seqr := u.seqr, mon := u.mon, emits := [] }) ∧
  (∀ s u : State,
    ((∃ a, exec (.kvCsr a) s = .next u) ∨ (∃ a, exec (.kvRootRetire a) s = .next u) ∨ (∃ a, exec (.kvSign a) s = .next u) ∨
     exec .drbgReseed s = .next u ∨ (∃ a, exec (.maskRotation a) s = .next u)) →
    u = { s with kv := u.kv, draws := u.draws, host := u.host, seqr := u.seqr, mon := u.mon, emits := [] }) ∧
  (∀ s u : State,
    ((∃ a, exec (.ack a) s = .next u) ∨ (∃ a, exec (.ackTimeout a) s = .next u) ∨ exec .joinRetryWaitEnd s = .next u ∨
     (∃ a, exec (.presence a) s = .next u) ∨ (∃ a, exec (.nodeDeparture a) s = .next u) ∨ (∃ a b, exec (.kryuzLoadMeasure a b) s = .next u) ∨
     (∃ a, exec (.distStatus a) s = .next u) ∨ (∃ a, exec (.kzCountClear a) s = .next u) ∨ exec .peerBindTimeout s = .next u ∨
     exec .zcEdge s = .next u) →
    u = { s with kz := u.kz, host := u.host, seqr := u.seqr, mon := u.mon, emits := [] }) ∧
  (∀ s u : State,
    (exec .carrierOffEnd s = .next u ∨ (∃ a, exec (.tagPortFault a) s = .next u) ∨ (∃ a, exec (.portFaultEnd a) s = .next u) ∨
     (∃ a, exec (.tgInventory a) s = .next u) ∨ (∃ a, exec (.tgWrite a) s = .next u) ∨ (∃ a, exec (.tgCountClear a) s = .next u) ∨
     exec .receiveFramesReturn s = .next u) →
    u = { s with tg := u.tg, host := u.host, seqr := u.seqr, mon := u.mon, emits := [] }) ∧
  (∀ s u : State,
    (exec .railOffDelay s = .next u ∨ (∃ a b, exec (.ntcRead a b) s = .next u) ∨ (∃ a, exec (.dsDraw a) s = .next u) ∨
     (∃ a b, exec (.dsProof a b) s = .next u)) →
    u = { s with ds := u.ds, host := u.host, seqr := u.seqr, mon := u.mon, emits := [] }) ∧
  (∀ s u : State,
    (exec .automaticPark s = .next u ∨ (∃ a, exec (.padholdRelease a) s = .next u) ∨ (∃ a, exec (.pwAlarmSet a) s = .next u) ∨
     (∃ a, exec (.pwCountClear a) s = .next u)) →
    u = { s with pw := u.pw, host := u.host, seqr := u.seqr, mon := u.mon, emits := [] }) ∧
  (∀ s u : State,
    ((∃ a, exec (.upOpen a) s = .next u) ∨ (∃ a, exec (.upFragment a) s = .next u) ∨ (∃ a b c, exec (.fragmentBackgroundCopy a b c) s = .next u) ∨
     (∃ a, exec (.transferExpiry a) s = .next u) ∨ (∃ a, exec (.upCancel a) s = .next u) ∨ (∃ a b, exec (.upApply a b) s = .next u) ∨
     (∃ a, exec (.upRestore a) s = .next u) ∨ (∃ a, exec (.upCommit a) s = .next u)) →
    u = { s with up := u.up, host := u.host, seqr := u.seqr, mon := u.mon, emits := [] }) ∧
  (∀ s u : State,
    ((∃ a, exec (.mmCountClear a) s = .next u) ∨ (∃ a b, exec (.dramHot a b) s = .next u)) →
    u = { s with mm := u.mm, host := u.host, seqr := u.seqr, mon := u.mon, emits := [] }) ∧
  (∀ s u : State,
    ((∃ a, exec (.linkFault a) s = .next u) ∨ exec .failedSideRelease s = .next u ∨ (∃ a, exec (.rdStandbyRestart a) s = .next u) ∨
     (∃ a, exec (.rdRelease a) s = .next u) ∨ exec .holderLatchClaim s = .next u) →
    u = { s with rd := u.rd, rs := u.rs, host := u.host, seqr := u.seqr, mon := u.mon, emits := [] })
end

