-- ==== Sys2Proof/Laws/Bytes.lean ====
section
/-! SUPPORT. Bytes.lean: byte strings and numbers: lengths, and reading back what was written. -/
namespace Sys2Proof.Machine

@[simp] theorem leBytes_length (k n : Nat) : (leBytes k n).length = k := by simp [leBytes]
@[simp] theorem beBytes_length (k n : Nat) : (beBytes k n).length = k := by simp [beBytes]
theorem byteOf_toNat (n : Nat) : (byteOf n).toNat = n % 256 := by simp [byteOf]

/-- The bytes of a number: its lowest byte, then those of the rest. -/
theorem leBytes_succ (k n : Nat) : leBytes (k + 1) n = byteOf n :: leBytes k (n / 256) := by
  simp only [leBytes, List.range_succ_eq_map, List.map_cons, List.map_map, Nat.mul_zero, Nat.shiftRight_zero, List.cons.injEq, true_and]
  apply List.map_congr_left
  intro i _
  simp only [Function.comp, Nat.shiftRight_eq_div_pow, Nat.div_div_eq_div_mul]
  congr 2
  rw [Nat.mul_succ, Nat.pow_add, Nat.mul_comm]

/-- A number written in `k` bytes reads back as its remainder modulo `256 ^ k`. -/
theorem leNat_leBytes (k n : Nat) : leNat (leBytes k n) = n % 256 ^ k := by
  induction k generalizing n with
  | zero => simp [leBytes, leNat, Nat.mod_one]
  | succ k ih =>
    have h := ih (n / 256)
    rw [leBytes_succ]
    simp only [leNat, List.foldr_cons, byteOf_toNat] at h ⊢
    rw [h, Nat.pow_succ, Nat.mul_comm (256 ^ k), Nat.mod_mul]

/-- A piece that begins after a first part is that piece of the second. -/
theorem sub_append_right (a b : Bytes) (off len : Nat) (h : a.length = off) : sub (a ++ b) off len = b.take len := by
  subst h; simp [sub]

theorem crcBitR_lt (p c : Nat) (hp : p < 2 ^ 32) (hc : c < 2 ^ 32) : crcBitR p c < 2 ^ 32 := by
  have h : c >>> 1 < 2 ^ 32 := by rw [Nat.shiftRight_eq_div_pow]; omega
  simp only [crcBitR]
  split
  · exact Nat.xor_lt_two_pow h hp
  · exact h

/-- A fold keeps what its step keeps. -/
theorem foldl_keeps {α β : Type} (P : α → Prop) (f : α → β → α) (l : List β) (a : α) (h0 : P a) (h : ∀ x, P x → ∀ y ∈ l, P (f x y)) :
    P (l.foldl f a) := by
  induction l generalizing a with
  | nil => exact h0
  | cons y l ih => exact ih _ (h _ h0 _ (by simp)) fun x hx z hz => h x hx z (by simp [hz])

theorem crc32_lt (b : Bytes) : crc32 b < 2 ^ 32 := by
  simp only [crc32]
  refine Nat.xor_lt_two_pow (foldl_keeps (fun c => c < 2 ^ 32) _ b _ (by decide) fun c hc x _ => ?_) (by decide)
  refine foldl_keeps (fun c => c < 2 ^ 32) _ _ _ (Nat.xor_lt_two_pow hc ?_) fun d hd y _ => crcBitR_lt _ d (by decide) hd
  exact Nat.lt_of_lt_of_le x.isLt (by decide)

end Sys2Proof.Machine
end

