-- ==== Sys2Proof/Laws/State.lean ====
section
/-! SUPPORT. Laws/State.lean: for every update of the state, what it leaves alone, field by field, and what it gives the place it changes. -/
namespace Sys2Proof.Machine

/-! ### onLane -/

@[simp] theorem State.onLane_ident (s : State) (n : Nat) (f : Lane → Lane) : (s.onLane n f).ident = s.ident := rfl
@[simp] theorem State.onLane_clock (s : State) (n : Nat) (f : Lane → Lane) : (s.onLane n f).clock = s.clock := rfl
@[simp] theorem State.onLane_seqr (s : State) (n : Nat) (f : Lane → Lane) : (s.onLane n f).seqr = s.seqr := rfl
@[simp] theorem State.onLane_host (s : State) (n : Nat) (f : Lane → Lane) : (s.onLane n f).host = s.host := rfl
@[simp] theorem State.onLane_mx (s : State) (n : Nat) (f : Lane → Lane) : (s.onLane n f).mx = s.mx := rfl
@[simp] theorem State.onLane_hs (s : State) (n : Nat) (f : Lane → Lane) : (s.onLane n f).hs = s.hs := rfl
@[simp] theorem State.onLane_pp (s : State) (n : Nat) (f : Lane → Lane) : (s.onLane n f).pp = s.pp := rfl
@[simp] theorem State.onLane_ps (s : State) (n : Nat) (f : Lane → Lane) : (s.onLane n f).ps = s.ps := rfl
@[simp] theorem State.onLane_ef (s : State) (n : Nat) (f : Lane → Lane) : (s.onLane n f).ef = s.ef := rfl
@[simp] theorem State.onLane_mt (s : State) (n : Nat) (f : Lane → Lane) : (s.onLane n f).mt = s.mt := rfl
@[simp] theorem State.onLane_en (s : State) (n : Nat) (f : Lane → Lane) : (s.onLane n f).en = s.en := rfl
@[simp] theorem State.onLane_sf (s : State) (n : Nat) (f : Lane → Lane) : (s.onLane n f).sf = s.sf := rfl
@[simp] theorem State.onLane_po (s : State) (n : Nat) (f : Lane → Lane) : (s.onLane n f).po = s.po := rfl
@[simp] theorem State.onLane_rd (s : State) (n : Nat) (f : Lane → Lane) : (s.onLane n f).rd = s.rd := rfl
@[simp] theorem State.onLane_bl (s : State) (n : Nat) (f : Lane → Lane) : (s.onLane n f).bl = s.bl := rfl
@[simp] theorem State.onLane_ac (s : State) (n : Nat) (f : Lane → Lane) : (s.onLane n f).ac = s.ac := rfl
@[simp] theorem State.onLane_cosem (s : State) (n : Nat) (f : Lane → Lane) : (s.onLane n f).cosem = s.cosem := rfl
@[simp] theorem State.onLane_kv (s : State) (n : Nat) (f : Lane → Lane) : (s.onLane n f).kv = s.kv := rfl
@[simp] theorem State.onLane_kz (s : State) (n : Nat) (f : Lane → Lane) : (s.onLane n f).kz = s.kz := rfl
@[simp] theorem State.onLane_tg (s : State) (n : Nat) (f : Lane → Lane) : (s.onLane n f).tg = s.tg := rfl
@[simp] theorem State.onLane_ds (s : State) (n : Nat) (f : Lane → Lane) : (s.onLane n f).ds = s.ds := rfl
@[simp] theorem State.onLane_mm (s : State) (n : Nat) (f : Lane → Lane) : (s.onLane n f).mm = s.mm := rfl
@[simp] theorem State.onLane_pw (s : State) (n : Nat) (f : Lane → Lane) : (s.onLane n f).pw = s.pw := rfl
@[simp] theorem State.onLane_up (s : State) (n : Nat) (f : Lane → Lane) : (s.onLane n f).up = s.up := rfl
@[simp] theorem State.onLane_mon (s : State) (n : Nat) (f : Lane → Lane) : (s.onLane n f).mon = s.mon := rfl
@[simp] theorem State.onLane_rs (s : State) (n : Nat) (f : Lane → Lane) : (s.onLane n f).rs = s.rs := rfl
@[simp] theorem State.onLane_emits (s : State) (n : Nat) (f : Lane → Lane) : (s.onLane n f).emits = s.emits := rfl
@[simp] theorem State.onLane_draws (s : State) (n : Nat) (f : Lane → Lane) : (s.onLane n f).draws = s.draws := rfl
@[simp] theorem State.onLane_pending (s : State) (n : Nat) (f : Lane → Lane) : (s.onLane n f).pending = s.pending := rfl

/-! ### onHs -/

@[simp] theorem State.onHs_ident (s : State) (n : Nat) (f : HsLane → HsLane) : (s.onHs n f).ident = s.ident := rfl
@[simp] theorem State.onHs_clock (s : State) (n : Nat) (f : HsLane → HsLane) : (s.onHs n f).clock = s.clock := rfl
@[simp] theorem State.onHs_seqr (s : State) (n : Nat) (f : HsLane → HsLane) : (s.onHs n f).seqr = s.seqr := rfl
@[simp] theorem State.onHs_host (s : State) (n : Nat) (f : HsLane → HsLane) : (s.onHs n f).host = s.host := rfl
@[simp] theorem State.onHs_mx (s : State) (n : Nat) (f : HsLane → HsLane) : (s.onHs n f).mx = s.mx := rfl
@[simp] theorem State.onHs_lanes (s : State) (n : Nat) (f : HsLane → HsLane) : (s.onHs n f).lanes = s.lanes := rfl
@[simp] theorem State.onHs_pp (s : State) (n : Nat) (f : HsLane → HsLane) : (s.onHs n f).pp = s.pp := rfl
@[simp] theorem State.onHs_ps (s : State) (n : Nat) (f : HsLane → HsLane) : (s.onHs n f).ps = s.ps := rfl
@[simp] theorem State.onHs_ef (s : State) (n : Nat) (f : HsLane → HsLane) : (s.onHs n f).ef = s.ef := rfl
@[simp] theorem State.onHs_mt (s : State) (n : Nat) (f : HsLane → HsLane) : (s.onHs n f).mt = s.mt := rfl
@[simp] theorem State.onHs_en (s : State) (n : Nat) (f : HsLane → HsLane) : (s.onHs n f).en = s.en := rfl
@[simp] theorem State.onHs_sf (s : State) (n : Nat) (f : HsLane → HsLane) : (s.onHs n f).sf = s.sf := rfl
@[simp] theorem State.onHs_po (s : State) (n : Nat) (f : HsLane → HsLane) : (s.onHs n f).po = s.po := rfl
@[simp] theorem State.onHs_rd (s : State) (n : Nat) (f : HsLane → HsLane) : (s.onHs n f).rd = s.rd := rfl
@[simp] theorem State.onHs_bl (s : State) (n : Nat) (f : HsLane → HsLane) : (s.onHs n f).bl = s.bl := rfl
@[simp] theorem State.onHs_ac (s : State) (n : Nat) (f : HsLane → HsLane) : (s.onHs n f).ac = s.ac := rfl
@[simp] theorem State.onHs_cosem (s : State) (n : Nat) (f : HsLane → HsLane) : (s.onHs n f).cosem = s.cosem := rfl
@[simp] theorem State.onHs_kv (s : State) (n : Nat) (f : HsLane → HsLane) : (s.onHs n f).kv = s.kv := rfl
@[simp] theorem State.onHs_kz (s : State) (n : Nat) (f : HsLane → HsLane) : (s.onHs n f).kz = s.kz := rfl
@[simp] theorem State.onHs_tg (s : State) (n : Nat) (f : HsLane → HsLane) : (s.onHs n f).tg = s.tg := rfl
@[simp] theorem State.onHs_ds (s : State) (n : Nat) (f : HsLane → HsLane) : (s.onHs n f).ds = s.ds := rfl
@[simp] theorem State.onHs_mm (s : State) (n : Nat) (f : HsLane → HsLane) : (s.onHs n f).mm = s.mm := rfl
@[simp] theorem State.onHs_pw (s : State) (n : Nat) (f : HsLane → HsLane) : (s.onHs n f).pw = s.pw := rfl
@[simp] theorem State.onHs_up (s : State) (n : Nat) (f : HsLane → HsLane) : (s.onHs n f).up = s.up := rfl
@[simp] theorem State.onHs_mon (s : State) (n : Nat) (f : HsLane → HsLane) : (s.onHs n f).mon = s.mon := rfl
@[simp] theorem State.onHs_rs (s : State) (n : Nat) (f : HsLane → HsLane) : (s.onHs n f).rs = s.rs := rfl
@[simp] theorem State.onHs_emits (s : State) (n : Nat) (f : HsLane → HsLane) : (s.onHs n f).emits = s.emits := rfl
@[simp] theorem State.onHs_draws (s : State) (n : Nat) (f : HsLane → HsLane) : (s.onHs n f).draws = s.draws := rfl
@[simp] theorem State.onHs_pending (s : State) (n : Nat) (f : HsLane → HsLane) : (s.onHs n f).pending = s.pending := rfl

/-! ### onPilot -/

@[simp] theorem State.onPilot_ident (s : State) (n : Nat) (f : PilotHs → PilotHs) : (s.onPilot n f).ident = s.ident := rfl
@[simp] theorem State.onPilot_clock (s : State) (n : Nat) (f : PilotHs → PilotHs) : (s.onPilot n f).clock = s.clock := rfl
@[simp] theorem State.onPilot_seqr (s : State) (n : Nat) (f : PilotHs → PilotHs) : (s.onPilot n f).seqr = s.seqr := rfl
@[simp] theorem State.onPilot_host (s : State) (n : Nat) (f : PilotHs → PilotHs) : (s.onPilot n f).host = s.host := rfl
@[simp] theorem State.onPilot_mx (s : State) (n : Nat) (f : PilotHs → PilotHs) : (s.onPilot n f).mx = s.mx := rfl
@[simp] theorem State.onPilot_lanes (s : State) (n : Nat) (f : PilotHs → PilotHs) : (s.onPilot n f).lanes = s.lanes := rfl
@[simp] theorem State.onPilot_pp (s : State) (n : Nat) (f : PilotHs → PilotHs) : (s.onPilot n f).pp = s.pp := rfl
@[simp] theorem State.onPilot_ps (s : State) (n : Nat) (f : PilotHs → PilotHs) : (s.onPilot n f).ps = s.ps := rfl
@[simp] theorem State.onPilot_ef (s : State) (n : Nat) (f : PilotHs → PilotHs) : (s.onPilot n f).ef = s.ef := rfl
@[simp] theorem State.onPilot_mt (s : State) (n : Nat) (f : PilotHs → PilotHs) : (s.onPilot n f).mt = s.mt := rfl
@[simp] theorem State.onPilot_en (s : State) (n : Nat) (f : PilotHs → PilotHs) : (s.onPilot n f).en = s.en := rfl
@[simp] theorem State.onPilot_sf (s : State) (n : Nat) (f : PilotHs → PilotHs) : (s.onPilot n f).sf = s.sf := rfl
@[simp] theorem State.onPilot_po (s : State) (n : Nat) (f : PilotHs → PilotHs) : (s.onPilot n f).po = s.po := rfl
@[simp] theorem State.onPilot_rd (s : State) (n : Nat) (f : PilotHs → PilotHs) : (s.onPilot n f).rd = s.rd := rfl
@[simp] theorem State.onPilot_bl (s : State) (n : Nat) (f : PilotHs → PilotHs) : (s.onPilot n f).bl = s.bl := rfl
@[simp] theorem State.onPilot_ac (s : State) (n : Nat) (f : PilotHs → PilotHs) : (s.onPilot n f).ac = s.ac := rfl
@[simp] theorem State.onPilot_cosem (s : State) (n : Nat) (f : PilotHs → PilotHs) : (s.onPilot n f).cosem = s.cosem := rfl
@[simp] theorem State.onPilot_kv (s : State) (n : Nat) (f : PilotHs → PilotHs) : (s.onPilot n f).kv = s.kv := rfl
@[simp] theorem State.onPilot_kz (s : State) (n : Nat) (f : PilotHs → PilotHs) : (s.onPilot n f).kz = s.kz := rfl
@[simp] theorem State.onPilot_tg (s : State) (n : Nat) (f : PilotHs → PilotHs) : (s.onPilot n f).tg = s.tg := rfl
@[simp] theorem State.onPilot_ds (s : State) (n : Nat) (f : PilotHs → PilotHs) : (s.onPilot n f).ds = s.ds := rfl
@[simp] theorem State.onPilot_mm (s : State) (n : Nat) (f : PilotHs → PilotHs) : (s.onPilot n f).mm = s.mm := rfl
@[simp] theorem State.onPilot_pw (s : State) (n : Nat) (f : PilotHs → PilotHs) : (s.onPilot n f).pw = s.pw := rfl
@[simp] theorem State.onPilot_up (s : State) (n : Nat) (f : PilotHs → PilotHs) : (s.onPilot n f).up = s.up := rfl
@[simp] theorem State.onPilot_mon (s : State) (n : Nat) (f : PilotHs → PilotHs) : (s.onPilot n f).mon = s.mon := rfl
@[simp] theorem State.onPilot_rs (s : State) (n : Nat) (f : PilotHs → PilotHs) : (s.onPilot n f).rs = s.rs := rfl
@[simp] theorem State.onPilot_emits (s : State) (n : Nat) (f : PilotHs → PilotHs) : (s.onPilot n f).emits = s.emits := rfl
@[simp] theorem State.onPilot_draws (s : State) (n : Nat) (f : PilotHs → PilotHs) : (s.onPilot n f).draws = s.draws := rfl
@[simp] theorem State.onPilot_pending (s : State) (n : Nat) (f : PilotHs → PilotHs) : (s.onPilot n f).pending = s.pending := rfl

/-! ### onLink -/

@[simp] theorem State.onLink_ident (s : State) (n : Nat) (f : LinkHs → LinkHs) : (s.onLink n f).ident = s.ident := rfl
@[simp] theorem State.onLink_clock (s : State) (n : Nat) (f : LinkHs → LinkHs) : (s.onLink n f).clock = s.clock := rfl
@[simp] theorem State.onLink_seqr (s : State) (n : Nat) (f : LinkHs → LinkHs) : (s.onLink n f).seqr = s.seqr := rfl
@[simp] theorem State.onLink_host (s : State) (n : Nat) (f : LinkHs → LinkHs) : (s.onLink n f).host = s.host := rfl
@[simp] theorem State.onLink_mx (s : State) (n : Nat) (f : LinkHs → LinkHs) : (s.onLink n f).mx = s.mx := rfl
@[simp] theorem State.onLink_lanes (s : State) (n : Nat) (f : LinkHs → LinkHs) : (s.onLink n f).lanes = s.lanes := rfl
@[simp] theorem State.onLink_pp (s : State) (n : Nat) (f : LinkHs → LinkHs) : (s.onLink n f).pp = s.pp := rfl
@[simp] theorem State.onLink_ps (s : State) (n : Nat) (f : LinkHs → LinkHs) : (s.onLink n f).ps = s.ps := rfl
@[simp] theorem State.onLink_ef (s : State) (n : Nat) (f : LinkHs → LinkHs) : (s.onLink n f).ef = s.ef := rfl
@[simp] theorem State.onLink_mt (s : State) (n : Nat) (f : LinkHs → LinkHs) : (s.onLink n f).mt = s.mt := rfl
@[simp] theorem State.onLink_en (s : State) (n : Nat) (f : LinkHs → LinkHs) : (s.onLink n f).en = s.en := rfl
@[simp] theorem State.onLink_sf (s : State) (n : Nat) (f : LinkHs → LinkHs) : (s.onLink n f).sf = s.sf := rfl
@[simp] theorem State.onLink_po (s : State) (n : Nat) (f : LinkHs → LinkHs) : (s.onLink n f).po = s.po := rfl
@[simp] theorem State.onLink_rd (s : State) (n : Nat) (f : LinkHs → LinkHs) : (s.onLink n f).rd = s.rd := rfl
@[simp] theorem State.onLink_bl (s : State) (n : Nat) (f : LinkHs → LinkHs) : (s.onLink n f).bl = s.bl := rfl
@[simp] theorem State.onLink_ac (s : State) (n : Nat) (f : LinkHs → LinkHs) : (s.onLink n f).ac = s.ac := rfl
@[simp] theorem State.onLink_cosem (s : State) (n : Nat) (f : LinkHs → LinkHs) : (s.onLink n f).cosem = s.cosem := rfl
@[simp] theorem State.onLink_kv (s : State) (n : Nat) (f : LinkHs → LinkHs) : (s.onLink n f).kv = s.kv := rfl
@[simp] theorem State.onLink_kz (s : State) (n : Nat) (f : LinkHs → LinkHs) : (s.onLink n f).kz = s.kz := rfl
@[simp] theorem State.onLink_tg (s : State) (n : Nat) (f : LinkHs → LinkHs) : (s.onLink n f).tg = s.tg := rfl
@[simp] theorem State.onLink_ds (s : State) (n : Nat) (f : LinkHs → LinkHs) : (s.onLink n f).ds = s.ds := rfl
@[simp] theorem State.onLink_mm (s : State) (n : Nat) (f : LinkHs → LinkHs) : (s.onLink n f).mm = s.mm := rfl
@[simp] theorem State.onLink_pw (s : State) (n : Nat) (f : LinkHs → LinkHs) : (s.onLink n f).pw = s.pw := rfl
@[simp] theorem State.onLink_up (s : State) (n : Nat) (f : LinkHs → LinkHs) : (s.onLink n f).up = s.up := rfl
@[simp] theorem State.onLink_mon (s : State) (n : Nat) (f : LinkHs → LinkHs) : (s.onLink n f).mon = s.mon := rfl
@[simp] theorem State.onLink_rs (s : State) (n : Nat) (f : LinkHs → LinkHs) : (s.onLink n f).rs = s.rs := rfl
@[simp] theorem State.onLink_emits (s : State) (n : Nat) (f : LinkHs → LinkHs) : (s.onLink n f).emits = s.emits := rfl
@[simp] theorem State.onLink_draws (s : State) (n : Nat) (f : LinkHs → LinkHs) : (s.onLink n f).draws = s.draws := rfl
@[simp] theorem State.onLink_pending (s : State) (n : Nat) (f : LinkHs → LinkHs) : (s.onLink n f).pending = s.pending := rfl

/-! ### onCnt -/

@[simp] theorem State.onCnt_ident (s : State) (n : Nat) (f : CntHs → CntHs) : (s.onCnt n f).ident = s.ident := rfl
@[simp] theorem State.onCnt_clock (s : State) (n : Nat) (f : CntHs → CntHs) : (s.onCnt n f).clock = s.clock := rfl
@[simp] theorem State.onCnt_seqr (s : State) (n : Nat) (f : CntHs → CntHs) : (s.onCnt n f).seqr = s.seqr := rfl
@[simp] theorem State.onCnt_host (s : State) (n : Nat) (f : CntHs → CntHs) : (s.onCnt n f).host = s.host := rfl
@[simp] theorem State.onCnt_mx (s : State) (n : Nat) (f : CntHs → CntHs) : (s.onCnt n f).mx = s.mx := rfl
@[simp] theorem State.onCnt_lanes (s : State) (n : Nat) (f : CntHs → CntHs) : (s.onCnt n f).lanes = s.lanes := rfl
@[simp] theorem State.onCnt_pp (s : State) (n : Nat) (f : CntHs → CntHs) : (s.onCnt n f).pp = s.pp := rfl
@[simp] theorem State.onCnt_ps (s : State) (n : Nat) (f : CntHs → CntHs) : (s.onCnt n f).ps = s.ps := rfl
@[simp] theorem State.onCnt_ef (s : State) (n : Nat) (f : CntHs → CntHs) : (s.onCnt n f).ef = s.ef := rfl
@[simp] theorem State.onCnt_mt (s : State) (n : Nat) (f : CntHs → CntHs) : (s.onCnt n f).mt = s.mt := rfl
@[simp] theorem State.onCnt_en (s : State) (n : Nat) (f : CntHs → CntHs) : (s.onCnt n f).en = s.en := rfl
@[simp] theorem State.onCnt_sf (s : State) (n : Nat) (f : CntHs → CntHs) : (s.onCnt n f).sf = s.sf := rfl
@[simp] theorem State.onCnt_po (s : State) (n : Nat) (f : CntHs → CntHs) : (s.onCnt n f).po = s.po := rfl
@[simp] theorem State.onCnt_rd (s : State) (n : Nat) (f : CntHs → CntHs) : (s.onCnt n f).rd = s.rd := rfl
@[simp] theorem State.onCnt_bl (s : State) (n : Nat) (f : CntHs → CntHs) : (s.onCnt n f).bl = s.bl := rfl
@[simp] theorem State.onCnt_ac (s : State) (n : Nat) (f : CntHs → CntHs) : (s.onCnt n f).ac = s.ac := rfl
@[simp] theorem State.onCnt_cosem (s : State) (n : Nat) (f : CntHs → CntHs) : (s.onCnt n f).cosem = s.cosem := rfl
@[simp] theorem State.onCnt_kv (s : State) (n : Nat) (f : CntHs → CntHs) : (s.onCnt n f).kv = s.kv := rfl
@[simp] theorem State.onCnt_kz (s : State) (n : Nat) (f : CntHs → CntHs) : (s.onCnt n f).kz = s.kz := rfl
@[simp] theorem State.onCnt_tg (s : State) (n : Nat) (f : CntHs → CntHs) : (s.onCnt n f).tg = s.tg := rfl
@[simp] theorem State.onCnt_ds (s : State) (n : Nat) (f : CntHs → CntHs) : (s.onCnt n f).ds = s.ds := rfl
@[simp] theorem State.onCnt_mm (s : State) (n : Nat) (f : CntHs → CntHs) : (s.onCnt n f).mm = s.mm := rfl
@[simp] theorem State.onCnt_pw (s : State) (n : Nat) (f : CntHs → CntHs) : (s.onCnt n f).pw = s.pw := rfl
@[simp] theorem State.onCnt_up (s : State) (n : Nat) (f : CntHs → CntHs) : (s.onCnt n f).up = s.up := rfl
@[simp] theorem State.onCnt_mon (s : State) (n : Nat) (f : CntHs → CntHs) : (s.onCnt n f).mon = s.mon := rfl
@[simp] theorem State.onCnt_rs (s : State) (n : Nat) (f : CntHs → CntHs) : (s.onCnt n f).rs = s.rs := rfl
@[simp] theorem State.onCnt_emits (s : State) (n : Nat) (f : CntHs → CntHs) : (s.onCnt n f).emits = s.emits := rfl
@[simp] theorem State.onCnt_draws (s : State) (n : Nat) (f : CntHs → CntHs) : (s.onCnt n f).draws = s.draws := rfl
@[simp] theorem State.onCnt_pending (s : State) (n : Nat) (f : CntHs → CntHs) : (s.onCnt n f).pending = s.pending := rfl

/-! ### onPp -/

@[simp] theorem State.onPp_ident (s : State) (n : Nat) (f : PpLane → PpLane) : (s.onPp n f).ident = s.ident := rfl
@[simp] theorem State.onPp_clock (s : State) (n : Nat) (f : PpLane → PpLane) : (s.onPp n f).clock = s.clock := rfl
@[simp] theorem State.onPp_seqr (s : State) (n : Nat) (f : PpLane → PpLane) : (s.onPp n f).seqr = s.seqr := rfl
@[simp] theorem State.onPp_host (s : State) (n : Nat) (f : PpLane → PpLane) : (s.onPp n f).host = s.host := rfl
@[simp] theorem State.onPp_mx (s : State) (n : Nat) (f : PpLane → PpLane) : (s.onPp n f).mx = s.mx := rfl
@[simp] theorem State.onPp_lanes (s : State) (n : Nat) (f : PpLane → PpLane) : (s.onPp n f).lanes = s.lanes := rfl
@[simp] theorem State.onPp_hs (s : State) (n : Nat) (f : PpLane → PpLane) : (s.onPp n f).hs = s.hs := rfl
@[simp] theorem State.onPp_ps (s : State) (n : Nat) (f : PpLane → PpLane) : (s.onPp n f).ps = s.ps := rfl
@[simp] theorem State.onPp_ef (s : State) (n : Nat) (f : PpLane → PpLane) : (s.onPp n f).ef = s.ef := rfl
@[simp] theorem State.onPp_mt (s : State) (n : Nat) (f : PpLane → PpLane) : (s.onPp n f).mt = s.mt := rfl
@[simp] theorem State.onPp_en (s : State) (n : Nat) (f : PpLane → PpLane) : (s.onPp n f).en = s.en := rfl
@[simp] theorem State.onPp_sf (s : State) (n : Nat) (f : PpLane → PpLane) : (s.onPp n f).sf = s.sf := rfl
@[simp] theorem State.onPp_po (s : State) (n : Nat) (f : PpLane → PpLane) : (s.onPp n f).po = s.po := rfl
@[simp] theorem State.onPp_rd (s : State) (n : Nat) (f : PpLane → PpLane) : (s.onPp n f).rd = s.rd := rfl
@[simp] theorem State.onPp_bl (s : State) (n : Nat) (f : PpLane → PpLane) : (s.onPp n f).bl = s.bl := rfl
@[simp] theorem State.onPp_ac (s : State) (n : Nat) (f : PpLane → PpLane) : (s.onPp n f).ac = s.ac := rfl
@[simp] theorem State.onPp_cosem (s : State) (n : Nat) (f : PpLane → PpLane) : (s.onPp n f).cosem = s.cosem := rfl
@[simp] theorem State.onPp_kv (s : State) (n : Nat) (f : PpLane → PpLane) : (s.onPp n f).kv = s.kv := rfl
@[simp] theorem State.onPp_kz (s : State) (n : Nat) (f : PpLane → PpLane) : (s.onPp n f).kz = s.kz := rfl
@[simp] theorem State.onPp_tg (s : State) (n : Nat) (f : PpLane → PpLane) : (s.onPp n f).tg = s.tg := rfl
@[simp] theorem State.onPp_ds (s : State) (n : Nat) (f : PpLane → PpLane) : (s.onPp n f).ds = s.ds := rfl
@[simp] theorem State.onPp_mm (s : State) (n : Nat) (f : PpLane → PpLane) : (s.onPp n f).mm = s.mm := rfl
@[simp] theorem State.onPp_pw (s : State) (n : Nat) (f : PpLane → PpLane) : (s.onPp n f).pw = s.pw := rfl
@[simp] theorem State.onPp_up (s : State) (n : Nat) (f : PpLane → PpLane) : (s.onPp n f).up = s.up := rfl
@[simp] theorem State.onPp_mon (s : State) (n : Nat) (f : PpLane → PpLane) : (s.onPp n f).mon = s.mon := rfl
@[simp] theorem State.onPp_rs (s : State) (n : Nat) (f : PpLane → PpLane) : (s.onPp n f).rs = s.rs := rfl
@[simp] theorem State.onPp_emits (s : State) (n : Nat) (f : PpLane → PpLane) : (s.onPp n f).emits = s.emits := rfl
@[simp] theorem State.onPp_draws (s : State) (n : Nat) (f : PpLane → PpLane) : (s.onPp n f).draws = s.draws := rfl
@[simp] theorem State.onPp_pending (s : State) (n : Nat) (f : PpLane → PpLane) : (s.onPp n f).pending = s.pending := rfl

/-! ### onCan -/

@[simp] theorem State.onCan_ident (s : State) (n : Nat) (f : PpCan → PpCan) : (s.onCan n f).ident = s.ident := rfl
@[simp] theorem State.onCan_clock (s : State) (n : Nat) (f : PpCan → PpCan) : (s.onCan n f).clock = s.clock := rfl
@[simp] theorem State.onCan_seqr (s : State) (n : Nat) (f : PpCan → PpCan) : (s.onCan n f).seqr = s.seqr := rfl
@[simp] theorem State.onCan_host (s : State) (n : Nat) (f : PpCan → PpCan) : (s.onCan n f).host = s.host := rfl
@[simp] theorem State.onCan_mx (s : State) (n : Nat) (f : PpCan → PpCan) : (s.onCan n f).mx = s.mx := rfl
@[simp] theorem State.onCan_lanes (s : State) (n : Nat) (f : PpCan → PpCan) : (s.onCan n f).lanes = s.lanes := rfl
@[simp] theorem State.onCan_hs (s : State) (n : Nat) (f : PpCan → PpCan) : (s.onCan n f).hs = s.hs := rfl
@[simp] theorem State.onCan_ps (s : State) (n : Nat) (f : PpCan → PpCan) : (s.onCan n f).ps = s.ps := rfl
@[simp] theorem State.onCan_ef (s : State) (n : Nat) (f : PpCan → PpCan) : (s.onCan n f).ef = s.ef := rfl
@[simp] theorem State.onCan_mt (s : State) (n : Nat) (f : PpCan → PpCan) : (s.onCan n f).mt = s.mt := rfl
@[simp] theorem State.onCan_en (s : State) (n : Nat) (f : PpCan → PpCan) : (s.onCan n f).en = s.en := rfl
@[simp] theorem State.onCan_sf (s : State) (n : Nat) (f : PpCan → PpCan) : (s.onCan n f).sf = s.sf := rfl
@[simp] theorem State.onCan_po (s : State) (n : Nat) (f : PpCan → PpCan) : (s.onCan n f).po = s.po := rfl
@[simp] theorem State.onCan_rd (s : State) (n : Nat) (f : PpCan → PpCan) : (s.onCan n f).rd = s.rd := rfl
@[simp] theorem State.onCan_bl (s : State) (n : Nat) (f : PpCan → PpCan) : (s.onCan n f).bl = s.bl := rfl
@[simp] theorem State.onCan_ac (s : State) (n : Nat) (f : PpCan → PpCan) : (s.onCan n f).ac = s.ac := rfl
@[simp] theorem State.onCan_cosem (s : State) (n : Nat) (f : PpCan → PpCan) : (s.onCan n f).cosem = s.cosem := rfl
@[simp] theorem State.onCan_kv (s : State) (n : Nat) (f : PpCan → PpCan) : (s.onCan n f).kv = s.kv := rfl
@[simp] theorem State.onCan_kz (s : State) (n : Nat) (f : PpCan → PpCan) : (s.onCan n f).kz = s.kz := rfl
@[simp] theorem State.onCan_tg (s : State) (n : Nat) (f : PpCan → PpCan) : (s.onCan n f).tg = s.tg := rfl
@[simp] theorem State.onCan_ds (s : State) (n : Nat) (f : PpCan → PpCan) : (s.onCan n f).ds = s.ds := rfl
@[simp] theorem State.onCan_mm (s : State) (n : Nat) (f : PpCan → PpCan) : (s.onCan n f).mm = s.mm := rfl
@[simp] theorem State.onCan_pw (s : State) (n : Nat) (f : PpCan → PpCan) : (s.onCan n f).pw = s.pw := rfl
@[simp] theorem State.onCan_up (s : State) (n : Nat) (f : PpCan → PpCan) : (s.onCan n f).up = s.up := rfl
@[simp] theorem State.onCan_mon (s : State) (n : Nat) (f : PpCan → PpCan) : (s.onCan n f).mon = s.mon := rfl
@[simp] theorem State.onCan_rs (s : State) (n : Nat) (f : PpCan → PpCan) : (s.onCan n f).rs = s.rs := rfl
@[simp] theorem State.onCan_emits (s : State) (n : Nat) (f : PpCan → PpCan) : (s.onCan n f).emits = s.emits := rfl
@[simp] theorem State.onCan_draws (s : State) (n : Nat) (f : PpCan → PpCan) : (s.onCan n f).draws = s.draws := rfl
@[simp] theorem State.onCan_pending (s : State) (n : Nat) (f : PpCan → PpCan) : (s.onCan n f).pending = s.pending := rfl

/-! ### onPs -/

@[simp] theorem State.onPs_ident (s : State) (n : Nat) (f : PsLane → PsLane) : (s.onPs n f).ident = s.ident := rfl
@[simp] theorem State.onPs_clock (s : State) (n : Nat) (f : PsLane → PsLane) : (s.onPs n f).clock = s.clock := rfl
@[simp] theorem State.onPs_seqr (s : State) (n : Nat) (f : PsLane → PsLane) : (s.onPs n f).seqr = s.seqr := rfl
@[simp] theorem State.onPs_host (s : State) (n : Nat) (f : PsLane → PsLane) : (s.onPs n f).host = s.host := rfl
@[simp] theorem State.onPs_mx (s : State) (n : Nat) (f : PsLane → PsLane) : (s.onPs n f).mx = s.mx := rfl
@[simp] theorem State.onPs_lanes (s : State) (n : Nat) (f : PsLane → PsLane) : (s.onPs n f).lanes = s.lanes := rfl
@[simp] theorem State.onPs_hs (s : State) (n : Nat) (f : PsLane → PsLane) : (s.onPs n f).hs = s.hs := rfl
@[simp] theorem State.onPs_pp (s : State) (n : Nat) (f : PsLane → PsLane) : (s.onPs n f).pp = s.pp := rfl
@[simp] theorem State.onPs_ef (s : State) (n : Nat) (f : PsLane → PsLane) : (s.onPs n f).ef = s.ef := rfl
@[simp] theorem State.onPs_mt (s : State) (n : Nat) (f : PsLane → PsLane) : (s.onPs n f).mt = s.mt := rfl
@[simp] theorem State.onPs_en (s : State) (n : Nat) (f : PsLane → PsLane) : (s.onPs n f).en = s.en := rfl
@[simp] theorem State.onPs_sf (s : State) (n : Nat) (f : PsLane → PsLane) : (s.onPs n f).sf = s.sf := rfl
@[simp] theorem State.onPs_po (s : State) (n : Nat) (f : PsLane → PsLane) : (s.onPs n f).po = s.po := rfl
@[simp] theorem State.onPs_rd (s : State) (n : Nat) (f : PsLane → PsLane) : (s.onPs n f).rd = s.rd := rfl
@[simp] theorem State.onPs_bl (s : State) (n : Nat) (f : PsLane → PsLane) : (s.onPs n f).bl = s.bl := rfl
@[simp] theorem State.onPs_ac (s : State) (n : Nat) (f : PsLane → PsLane) : (s.onPs n f).ac = s.ac := rfl
@[simp] theorem State.onPs_cosem (s : State) (n : Nat) (f : PsLane → PsLane) : (s.onPs n f).cosem = s.cosem := rfl
@[simp] theorem State.onPs_kv (s : State) (n : Nat) (f : PsLane → PsLane) : (s.onPs n f).kv = s.kv := rfl
@[simp] theorem State.onPs_kz (s : State) (n : Nat) (f : PsLane → PsLane) : (s.onPs n f).kz = s.kz := rfl
@[simp] theorem State.onPs_tg (s : State) (n : Nat) (f : PsLane → PsLane) : (s.onPs n f).tg = s.tg := rfl
@[simp] theorem State.onPs_ds (s : State) (n : Nat) (f : PsLane → PsLane) : (s.onPs n f).ds = s.ds := rfl
@[simp] theorem State.onPs_mm (s : State) (n : Nat) (f : PsLane → PsLane) : (s.onPs n f).mm = s.mm := rfl
@[simp] theorem State.onPs_pw (s : State) (n : Nat) (f : PsLane → PsLane) : (s.onPs n f).pw = s.pw := rfl
@[simp] theorem State.onPs_up (s : State) (n : Nat) (f : PsLane → PsLane) : (s.onPs n f).up = s.up := rfl
@[simp] theorem State.onPs_mon (s : State) (n : Nat) (f : PsLane → PsLane) : (s.onPs n f).mon = s.mon := rfl
@[simp] theorem State.onPs_rs (s : State) (n : Nat) (f : PsLane → PsLane) : (s.onPs n f).rs = s.rs := rfl
@[simp] theorem State.onPs_emits (s : State) (n : Nat) (f : PsLane → PsLane) : (s.onPs n f).emits = s.emits := rfl
@[simp] theorem State.onPs_draws (s : State) (n : Nat) (f : PsLane → PsLane) : (s.onPs n f).draws = s.draws := rfl
@[simp] theorem State.onPs_pending (s : State) (n : Nat) (f : PsLane → PsLane) : (s.onPs n f).pending = s.pending := rfl

/-! ### onEfg -/

@[simp] theorem State.onEfg_ident (s : State) (n : Nat) (f : EfGroup → EfGroup) : (s.onEfg n f).ident = s.ident := rfl
@[simp] theorem State.onEfg_clock (s : State) (n : Nat) (f : EfGroup → EfGroup) : (s.onEfg n f).clock = s.clock := rfl
@[simp] theorem State.onEfg_seqr (s : State) (n : Nat) (f : EfGroup → EfGroup) : (s.onEfg n f).seqr = s.seqr := rfl
@[simp] theorem State.onEfg_host (s : State) (n : Nat) (f : EfGroup → EfGroup) : (s.onEfg n f).host = s.host := rfl
@[simp] theorem State.onEfg_mx (s : State) (n : Nat) (f : EfGroup → EfGroup) : (s.onEfg n f).mx = s.mx := rfl
@[simp] theorem State.onEfg_lanes (s : State) (n : Nat) (f : EfGroup → EfGroup) : (s.onEfg n f).lanes = s.lanes := rfl
@[simp] theorem State.onEfg_hs (s : State) (n : Nat) (f : EfGroup → EfGroup) : (s.onEfg n f).hs = s.hs := rfl
@[simp] theorem State.onEfg_pp (s : State) (n : Nat) (f : EfGroup → EfGroup) : (s.onEfg n f).pp = s.pp := rfl
@[simp] theorem State.onEfg_ps (s : State) (n : Nat) (f : EfGroup → EfGroup) : (s.onEfg n f).ps = s.ps := rfl
@[simp] theorem State.onEfg_mt (s : State) (n : Nat) (f : EfGroup → EfGroup) : (s.onEfg n f).mt = s.mt := rfl
@[simp] theorem State.onEfg_en (s : State) (n : Nat) (f : EfGroup → EfGroup) : (s.onEfg n f).en = s.en := rfl
@[simp] theorem State.onEfg_sf (s : State) (n : Nat) (f : EfGroup → EfGroup) : (s.onEfg n f).sf = s.sf := rfl
@[simp] theorem State.onEfg_po (s : State) (n : Nat) (f : EfGroup → EfGroup) : (s.onEfg n f).po = s.po := rfl
@[simp] theorem State.onEfg_rd (s : State) (n : Nat) (f : EfGroup → EfGroup) : (s.onEfg n f).rd = s.rd := rfl
@[simp] theorem State.onEfg_bl (s : State) (n : Nat) (f : EfGroup → EfGroup) : (s.onEfg n f).bl = s.bl := rfl
@[simp] theorem State.onEfg_ac (s : State) (n : Nat) (f : EfGroup → EfGroup) : (s.onEfg n f).ac = s.ac := rfl
@[simp] theorem State.onEfg_cosem (s : State) (n : Nat) (f : EfGroup → EfGroup) : (s.onEfg n f).cosem = s.cosem := rfl
@[simp] theorem State.onEfg_kv (s : State) (n : Nat) (f : EfGroup → EfGroup) : (s.onEfg n f).kv = s.kv := rfl
@[simp] theorem State.onEfg_kz (s : State) (n : Nat) (f : EfGroup → EfGroup) : (s.onEfg n f).kz = s.kz := rfl
@[simp] theorem State.onEfg_tg (s : State) (n : Nat) (f : EfGroup → EfGroup) : (s.onEfg n f).tg = s.tg := rfl
@[simp] theorem State.onEfg_ds (s : State) (n : Nat) (f : EfGroup → EfGroup) : (s.onEfg n f).ds = s.ds := rfl
@[simp] theorem State.onEfg_mm (s : State) (n : Nat) (f : EfGroup → EfGroup) : (s.onEfg n f).mm = s.mm := rfl
@[simp] theorem State.onEfg_pw (s : State) (n : Nat) (f : EfGroup → EfGroup) : (s.onEfg n f).pw = s.pw := rfl
@[simp] theorem State.onEfg_up (s : State) (n : Nat) (f : EfGroup → EfGroup) : (s.onEfg n f).up = s.up := rfl
@[simp] theorem State.onEfg_mon (s : State) (n : Nat) (f : EfGroup → EfGroup) : (s.onEfg n f).mon = s.mon := rfl
@[simp] theorem State.onEfg_rs (s : State) (n : Nat) (f : EfGroup → EfGroup) : (s.onEfg n f).rs = s.rs := rfl
@[simp] theorem State.onEfg_emits (s : State) (n : Nat) (f : EfGroup → EfGroup) : (s.onEfg n f).emits = s.emits := rfl
@[simp] theorem State.onEfg_draws (s : State) (n : Nat) (f : EfGroup → EfGroup) : (s.onEfg n f).draws = s.draws := rfl
@[simp] theorem State.onEfg_pending (s : State) (n : Nat) (f : EfGroup → EfGroup) : (s.onEfg n f).pending = s.pending := rfl

/-! ### onEfl -/

@[simp] theorem State.onEfl_ident (s : State) (n : Nat) (f : EfLane → EfLane) : (s.onEfl n f).ident = s.ident := rfl
@[simp] theorem State.onEfl_clock (s : State) (n : Nat) (f : EfLane → EfLane) : (s.onEfl n f).clock = s.clock := rfl
@[simp] theorem State.onEfl_seqr (s : State) (n : Nat) (f : EfLane → EfLane) : (s.onEfl n f).seqr = s.seqr := rfl
@[simp] theorem State.onEfl_host (s : State) (n : Nat) (f : EfLane → EfLane) : (s.onEfl n f).host = s.host := rfl
@[simp] theorem State.onEfl_mx (s : State) (n : Nat) (f : EfLane → EfLane) : (s.onEfl n f).mx = s.mx := rfl
@[simp] theorem State.onEfl_lanes (s : State) (n : Nat) (f : EfLane → EfLane) : (s.onEfl n f).lanes = s.lanes := rfl
@[simp] theorem State.onEfl_hs (s : State) (n : Nat) (f : EfLane → EfLane) : (s.onEfl n f).hs = s.hs := rfl
@[simp] theorem State.onEfl_pp (s : State) (n : Nat) (f : EfLane → EfLane) : (s.onEfl n f).pp = s.pp := rfl
@[simp] theorem State.onEfl_ps (s : State) (n : Nat) (f : EfLane → EfLane) : (s.onEfl n f).ps = s.ps := rfl
@[simp] theorem State.onEfl_mt (s : State) (n : Nat) (f : EfLane → EfLane) : (s.onEfl n f).mt = s.mt := rfl
@[simp] theorem State.onEfl_en (s : State) (n : Nat) (f : EfLane → EfLane) : (s.onEfl n f).en = s.en := rfl
@[simp] theorem State.onEfl_sf (s : State) (n : Nat) (f : EfLane → EfLane) : (s.onEfl n f).sf = s.sf := rfl
@[simp] theorem State.onEfl_po (s : State) (n : Nat) (f : EfLane → EfLane) : (s.onEfl n f).po = s.po := rfl
@[simp] theorem State.onEfl_rd (s : State) (n : Nat) (f : EfLane → EfLane) : (s.onEfl n f).rd = s.rd := rfl
@[simp] theorem State.onEfl_bl (s : State) (n : Nat) (f : EfLane → EfLane) : (s.onEfl n f).bl = s.bl := rfl
@[simp] theorem State.onEfl_ac (s : State) (n : Nat) (f : EfLane → EfLane) : (s.onEfl n f).ac = s.ac := rfl
@[simp] theorem State.onEfl_cosem (s : State) (n : Nat) (f : EfLane → EfLane) : (s.onEfl n f).cosem = s.cosem := rfl
@[simp] theorem State.onEfl_kv (s : State) (n : Nat) (f : EfLane → EfLane) : (s.onEfl n f).kv = s.kv := rfl
@[simp] theorem State.onEfl_kz (s : State) (n : Nat) (f : EfLane → EfLane) : (s.onEfl n f).kz = s.kz := rfl
@[simp] theorem State.onEfl_tg (s : State) (n : Nat) (f : EfLane → EfLane) : (s.onEfl n f).tg = s.tg := rfl
@[simp] theorem State.onEfl_ds (s : State) (n : Nat) (f : EfLane → EfLane) : (s.onEfl n f).ds = s.ds := rfl
@[simp] theorem State.onEfl_mm (s : State) (n : Nat) (f : EfLane → EfLane) : (s.onEfl n f).mm = s.mm := rfl
@[simp] theorem State.onEfl_pw (s : State) (n : Nat) (f : EfLane → EfLane) : (s.onEfl n f).pw = s.pw := rfl
@[simp] theorem State.onEfl_up (s : State) (n : Nat) (f : EfLane → EfLane) : (s.onEfl n f).up = s.up := rfl
@[simp] theorem State.onEfl_mon (s : State) (n : Nat) (f : EfLane → EfLane) : (s.onEfl n f).mon = s.mon := rfl
@[simp] theorem State.onEfl_rs (s : State) (n : Nat) (f : EfLane → EfLane) : (s.onEfl n f).rs = s.rs := rfl
@[simp] theorem State.onEfl_emits (s : State) (n : Nat) (f : EfLane → EfLane) : (s.onEfl n f).emits = s.emits := rfl
@[simp] theorem State.onEfl_draws (s : State) (n : Nat) (f : EfLane → EfLane) : (s.onEfl n f).draws = s.draws := rfl
@[simp] theorem State.onEfl_pending (s : State) (n : Nat) (f : EfLane → EfLane) : (s.onEfl n f).pending = s.pending := rfl

/-! ### onChan -/

@[simp] theorem State.onChan_ident (s : State) (n : Nat) (f : MtChan → MtChan) : (s.onChan n f).ident = s.ident := rfl
@[simp] theorem State.onChan_clock (s : State) (n : Nat) (f : MtChan → MtChan) : (s.onChan n f).clock = s.clock := rfl
@[simp] theorem State.onChan_seqr (s : State) (n : Nat) (f : MtChan → MtChan) : (s.onChan n f).seqr = s.seqr := rfl
@[simp] theorem State.onChan_host (s : State) (n : Nat) (f : MtChan → MtChan) : (s.onChan n f).host = s.host := rfl
@[simp] theorem State.onChan_mx (s : State) (n : Nat) (f : MtChan → MtChan) : (s.onChan n f).mx = s.mx := rfl
@[simp] theorem State.onChan_lanes (s : State) (n : Nat) (f : MtChan → MtChan) : (s.onChan n f).lanes = s.lanes := rfl
@[simp] theorem State.onChan_hs (s : State) (n : Nat) (f : MtChan → MtChan) : (s.onChan n f).hs = s.hs := rfl
@[simp] theorem State.onChan_pp (s : State) (n : Nat) (f : MtChan → MtChan) : (s.onChan n f).pp = s.pp := rfl
@[simp] theorem State.onChan_ps (s : State) (n : Nat) (f : MtChan → MtChan) : (s.onChan n f).ps = s.ps := rfl
@[simp] theorem State.onChan_ef (s : State) (n : Nat) (f : MtChan → MtChan) : (s.onChan n f).ef = s.ef := rfl
@[simp] theorem State.onChan_en (s : State) (n : Nat) (f : MtChan → MtChan) : (s.onChan n f).en = s.en := rfl
@[simp] theorem State.onChan_sf (s : State) (n : Nat) (f : MtChan → MtChan) : (s.onChan n f).sf = s.sf := rfl
@[simp] theorem State.onChan_po (s : State) (n : Nat) (f : MtChan → MtChan) : (s.onChan n f).po = s.po := rfl
@[simp] theorem State.onChan_rd (s : State) (n : Nat) (f : MtChan → MtChan) : (s.onChan n f).rd = s.rd := rfl
@[simp] theorem State.onChan_bl (s : State) (n : Nat) (f : MtChan → MtChan) : (s.onChan n f).bl = s.bl := rfl
@[simp] theorem State.onChan_ac (s : State) (n : Nat) (f : MtChan → MtChan) : (s.onChan n f).ac = s.ac := rfl
@[simp] theorem State.onChan_cosem (s : State) (n : Nat) (f : MtChan → MtChan) : (s.onChan n f).cosem = s.cosem := rfl
@[simp] theorem State.onChan_kv (s : State) (n : Nat) (f : MtChan → MtChan) : (s.onChan n f).kv = s.kv := rfl
@[simp] theorem State.onChan_kz (s : State) (n : Nat) (f : MtChan → MtChan) : (s.onChan n f).kz = s.kz := rfl
@[simp] theorem State.onChan_tg (s : State) (n : Nat) (f : MtChan → MtChan) : (s.onChan n f).tg = s.tg := rfl
@[simp] theorem State.onChan_ds (s : State) (n : Nat) (f : MtChan → MtChan) : (s.onChan n f).ds = s.ds := rfl
@[simp] theorem State.onChan_mm (s : State) (n : Nat) (f : MtChan → MtChan) : (s.onChan n f).mm = s.mm := rfl
@[simp] theorem State.onChan_pw (s : State) (n : Nat) (f : MtChan → MtChan) : (s.onChan n f).pw = s.pw := rfl
@[simp] theorem State.onChan_up (s : State) (n : Nat) (f : MtChan → MtChan) : (s.onChan n f).up = s.up := rfl
@[simp] theorem State.onChan_mon (s : State) (n : Nat) (f : MtChan → MtChan) : (s.onChan n f).mon = s.mon := rfl
@[simp] theorem State.onChan_rs (s : State) (n : Nat) (f : MtChan → MtChan) : (s.onChan n f).rs = s.rs := rfl
@[simp] theorem State.onChan_emits (s : State) (n : Nat) (f : MtChan → MtChan) : (s.onChan n f).emits = s.emits := rfl
@[simp] theorem State.onChan_draws (s : State) (n : Nat) (f : MtChan → MtChan) : (s.onChan n f).draws = s.draws := rfl
@[simp] theorem State.onChan_pending (s : State) (n : Nat) (f : MtChan → MtChan) : (s.onChan n f).pending = s.pending := rfl

/-! ### onMtl -/

@[simp] theorem State.onMtl_ident (s : State) (n : Nat) (f : MtLane → MtLane) : (s.onMtl n f).ident = s.ident := rfl
@[simp] theorem State.onMtl_clock (s : State) (n : Nat) (f : MtLane → MtLane) : (s.onMtl n f).clock = s.clock := rfl
@[simp] theorem State.onMtl_seqr (s : State) (n : Nat) (f : MtLane → MtLane) : (s.onMtl n f).seqr = s.seqr := rfl
@[simp] theorem State.onMtl_host (s : State) (n : Nat) (f : MtLane → MtLane) : (s.onMtl n f).host = s.host := rfl
@[simp] theorem State.onMtl_mx (s : State) (n : Nat) (f : MtLane → MtLane) : (s.onMtl n f).mx = s.mx := rfl
@[simp] theorem State.onMtl_lanes (s : State) (n : Nat) (f : MtLane → MtLane) : (s.onMtl n f).lanes = s.lanes := rfl
@[simp] theorem State.onMtl_hs (s : State) (n : Nat) (f : MtLane → MtLane) : (s.onMtl n f).hs = s.hs := rfl
@[simp] theorem State.onMtl_pp (s : State) (n : Nat) (f : MtLane → MtLane) : (s.onMtl n f).pp = s.pp := rfl
@[simp] theorem State.onMtl_ps (s : State) (n : Nat) (f : MtLane → MtLane) : (s.onMtl n f).ps = s.ps := rfl
@[simp] theorem State.onMtl_ef (s : State) (n : Nat) (f : MtLane → MtLane) : (s.onMtl n f).ef = s.ef := rfl
@[simp] theorem State.onMtl_en (s : State) (n : Nat) (f : MtLane → MtLane) : (s.onMtl n f).en = s.en := rfl
@[simp] theorem State.onMtl_sf (s : State) (n : Nat) (f : MtLane → MtLane) : (s.onMtl n f).sf = s.sf := rfl
@[simp] theorem State.onMtl_po (s : State) (n : Nat) (f : MtLane → MtLane) : (s.onMtl n f).po = s.po := rfl
@[simp] theorem State.onMtl_rd (s : State) (n : Nat) (f : MtLane → MtLane) : (s.onMtl n f).rd = s.rd := rfl
@[simp] theorem State.onMtl_bl (s : State) (n : Nat) (f : MtLane → MtLane) : (s.onMtl n f).bl = s.bl := rfl
@[simp] theorem State.onMtl_ac (s : State) (n : Nat) (f : MtLane → MtLane) : (s.onMtl n f).ac = s.ac := rfl
@[simp] theorem State.onMtl_cosem (s : State) (n : Nat) (f : MtLane → MtLane) : (s.onMtl n f).cosem = s.cosem := rfl
@[simp] theorem State.onMtl_kv (s : State) (n : Nat) (f : MtLane → MtLane) : (s.onMtl n f).kv = s.kv := rfl
@[simp] theorem State.onMtl_kz (s : State) (n : Nat) (f : MtLane → MtLane) : (s.onMtl n f).kz = s.kz := rfl
@[simp] theorem State.onMtl_tg (s : State) (n : Nat) (f : MtLane → MtLane) : (s.onMtl n f).tg = s.tg := rfl
@[simp] theorem State.onMtl_ds (s : State) (n : Nat) (f : MtLane → MtLane) : (s.onMtl n f).ds = s.ds := rfl
@[simp] theorem State.onMtl_mm (s : State) (n : Nat) (f : MtLane → MtLane) : (s.onMtl n f).mm = s.mm := rfl
@[simp] theorem State.onMtl_pw (s : State) (n : Nat) (f : MtLane → MtLane) : (s.onMtl n f).pw = s.pw := rfl
@[simp] theorem State.onMtl_up (s : State) (n : Nat) (f : MtLane → MtLane) : (s.onMtl n f).up = s.up := rfl
@[simp] theorem State.onMtl_mon (s : State) (n : Nat) (f : MtLane → MtLane) : (s.onMtl n f).mon = s.mon := rfl
@[simp] theorem State.onMtl_rs (s : State) (n : Nat) (f : MtLane → MtLane) : (s.onMtl n f).rs = s.rs := rfl
@[simp] theorem State.onMtl_emits (s : State) (n : Nat) (f : MtLane → MtLane) : (s.onMtl n f).emits = s.emits := rfl
@[simp] theorem State.onMtl_draws (s : State) (n : Nat) (f : MtLane → MtLane) : (s.onMtl n f).draws = s.draws := rfl
@[simp] theorem State.onMtl_pending (s : State) (n : Nat) (f : MtLane → MtLane) : (s.onMtl n f).pending = s.pending := rfl

/-! ### onPls -/

@[simp] theorem State.onPls_ident (s : State) (n : Nat) (f : MtPulse → MtPulse) : (s.onPls n f).ident = s.ident := rfl
@[simp] theorem State.onPls_clock (s : State) (n : Nat) (f : MtPulse → MtPulse) : (s.onPls n f).clock = s.clock := rfl
@[simp] theorem State.onPls_seqr (s : State) (n : Nat) (f : MtPulse → MtPulse) : (s.onPls n f).seqr = s.seqr := rfl
@[simp] theorem State.onPls_host (s : State) (n : Nat) (f : MtPulse → MtPulse) : (s.onPls n f).host = s.host := rfl
@[simp] theorem State.onPls_mx (s : State) (n : Nat) (f : MtPulse → MtPulse) : (s.onPls n f).mx = s.mx := rfl
@[simp] theorem State.onPls_lanes (s : State) (n : Nat) (f : MtPulse → MtPulse) : (s.onPls n f).lanes = s.lanes := rfl
@[simp] theorem State.onPls_hs (s : State) (n : Nat) (f : MtPulse → MtPulse) : (s.onPls n f).hs = s.hs := rfl
@[simp] theorem State.onPls_pp (s : State) (n : Nat) (f : MtPulse → MtPulse) : (s.onPls n f).pp = s.pp := rfl
@[simp] theorem State.onPls_ps (s : State) (n : Nat) (f : MtPulse → MtPulse) : (s.onPls n f).ps = s.ps := rfl
@[simp] theorem State.onPls_ef (s : State) (n : Nat) (f : MtPulse → MtPulse) : (s.onPls n f).ef = s.ef := rfl
@[simp] theorem State.onPls_en (s : State) (n : Nat) (f : MtPulse → MtPulse) : (s.onPls n f).en = s.en := rfl
@[simp] theorem State.onPls_sf (s : State) (n : Nat) (f : MtPulse → MtPulse) : (s.onPls n f).sf = s.sf := rfl
@[simp] theorem State.onPls_po (s : State) (n : Nat) (f : MtPulse → MtPulse) : (s.onPls n f).po = s.po := rfl
@[simp] theorem State.onPls_rd (s : State) (n : Nat) (f : MtPulse → MtPulse) : (s.onPls n f).rd = s.rd := rfl
@[simp] theorem State.onPls_bl (s : State) (n : Nat) (f : MtPulse → MtPulse) : (s.onPls n f).bl = s.bl := rfl
@[simp] theorem State.onPls_ac (s : State) (n : Nat) (f : MtPulse → MtPulse) : (s.onPls n f).ac = s.ac := rfl
@[simp] theorem State.onPls_cosem (s : State) (n : Nat) (f : MtPulse → MtPulse) : (s.onPls n f).cosem = s.cosem := rfl
@[simp] theorem State.onPls_kv (s : State) (n : Nat) (f : MtPulse → MtPulse) : (s.onPls n f).kv = s.kv := rfl
@[simp] theorem State.onPls_kz (s : State) (n : Nat) (f : MtPulse → MtPulse) : (s.onPls n f).kz = s.kz := rfl
@[simp] theorem State.onPls_tg (s : State) (n : Nat) (f : MtPulse → MtPulse) : (s.onPls n f).tg = s.tg := rfl
@[simp] theorem State.onPls_ds (s : State) (n : Nat) (f : MtPulse → MtPulse) : (s.onPls n f).ds = s.ds := rfl
@[simp] theorem State.onPls_mm (s : State) (n : Nat) (f : MtPulse → MtPulse) : (s.onPls n f).mm = s.mm := rfl
@[simp] theorem State.onPls_pw (s : State) (n : Nat) (f : MtPulse → MtPulse) : (s.onPls n f).pw = s.pw := rfl
@[simp] theorem State.onPls_up (s : State) (n : Nat) (f : MtPulse → MtPulse) : (s.onPls n f).up = s.up := rfl
@[simp] theorem State.onPls_mon (s : State) (n : Nat) (f : MtPulse → MtPulse) : (s.onPls n f).mon = s.mon := rfl
@[simp] theorem State.onPls_rs (s : State) (n : Nat) (f : MtPulse → MtPulse) : (s.onPls n f).rs = s.rs := rfl
@[simp] theorem State.onPls_emits (s : State) (n : Nat) (f : MtPulse → MtPulse) : (s.onPls n f).emits = s.emits := rfl
@[simp] theorem State.onPls_draws (s : State) (n : Nat) (f : MtPulse → MtPulse) : (s.onPls n f).draws = s.draws := rfl
@[simp] theorem State.onPls_pending (s : State) (n : Nat) (f : MtPulse → MtPulse) : (s.onPls n f).pending = s.pending := rfl

/-! ### onSfl -/

@[simp] theorem State.onSfl_ident (s : State) (n : Nat) (f : SfLane → SfLane) : (s.onSfl n f).ident = s.ident := rfl
@[simp] theorem State.onSfl_clock (s : State) (n : Nat) (f : SfLane → SfLane) : (s.onSfl n f).clock = s.clock := rfl
@[simp] theorem State.onSfl_seqr (s : State) (n : Nat) (f : SfLane → SfLane) : (s.onSfl n f).seqr = s.seqr := rfl
@[simp] theorem State.onSfl_host (s : State) (n : Nat) (f : SfLane → SfLane) : (s.onSfl n f).host = s.host := rfl
@[simp] theorem State.onSfl_mx (s : State) (n : Nat) (f : SfLane → SfLane) : (s.onSfl n f).mx = s.mx := rfl
@[simp] theorem State.onSfl_lanes (s : State) (n : Nat) (f : SfLane → SfLane) : (s.onSfl n f).lanes = s.lanes := rfl
@[simp] theorem State.onSfl_hs (s : State) (n : Nat) (f : SfLane → SfLane) : (s.onSfl n f).hs = s.hs := rfl
@[simp] theorem State.onSfl_pp (s : State) (n : Nat) (f : SfLane → SfLane) : (s.onSfl n f).pp = s.pp := rfl
@[simp] theorem State.onSfl_ps (s : State) (n : Nat) (f : SfLane → SfLane) : (s.onSfl n f).ps = s.ps := rfl
@[simp] theorem State.onSfl_ef (s : State) (n : Nat) (f : SfLane → SfLane) : (s.onSfl n f).ef = s.ef := rfl
@[simp] theorem State.onSfl_mt (s : State) (n : Nat) (f : SfLane → SfLane) : (s.onSfl n f).mt = s.mt := rfl
@[simp] theorem State.onSfl_en (s : State) (n : Nat) (f : SfLane → SfLane) : (s.onSfl n f).en = s.en := rfl
@[simp] theorem State.onSfl_po (s : State) (n : Nat) (f : SfLane → SfLane) : (s.onSfl n f).po = s.po := rfl
@[simp] theorem State.onSfl_rd (s : State) (n : Nat) (f : SfLane → SfLane) : (s.onSfl n f).rd = s.rd := rfl
@[simp] theorem State.onSfl_bl (s : State) (n : Nat) (f : SfLane → SfLane) : (s.onSfl n f).bl = s.bl := rfl
@[simp] theorem State.onSfl_ac (s : State) (n : Nat) (f : SfLane → SfLane) : (s.onSfl n f).ac = s.ac := rfl
@[simp] theorem State.onSfl_cosem (s : State) (n : Nat) (f : SfLane → SfLane) : (s.onSfl n f).cosem = s.cosem := rfl
@[simp] theorem State.onSfl_kv (s : State) (n : Nat) (f : SfLane → SfLane) : (s.onSfl n f).kv = s.kv := rfl
@[simp] theorem State.onSfl_kz (s : State) (n : Nat) (f : SfLane → SfLane) : (s.onSfl n f).kz = s.kz := rfl
@[simp] theorem State.onSfl_tg (s : State) (n : Nat) (f : SfLane → SfLane) : (s.onSfl n f).tg = s.tg := rfl
@[simp] theorem State.onSfl_ds (s : State) (n : Nat) (f : SfLane → SfLane) : (s.onSfl n f).ds = s.ds := rfl
@[simp] theorem State.onSfl_mm (s : State) (n : Nat) (f : SfLane → SfLane) : (s.onSfl n f).mm = s.mm := rfl
@[simp] theorem State.onSfl_pw (s : State) (n : Nat) (f : SfLane → SfLane) : (s.onSfl n f).pw = s.pw := rfl
@[simp] theorem State.onSfl_up (s : State) (n : Nat) (f : SfLane → SfLane) : (s.onSfl n f).up = s.up := rfl
@[simp] theorem State.onSfl_mon (s : State) (n : Nat) (f : SfLane → SfLane) : (s.onSfl n f).mon = s.mon := rfl
@[simp] theorem State.onSfl_rs (s : State) (n : Nat) (f : SfLane → SfLane) : (s.onSfl n f).rs = s.rs := rfl
@[simp] theorem State.onSfl_emits (s : State) (n : Nat) (f : SfLane → SfLane) : (s.onSfl n f).emits = s.emits := rfl
@[simp] theorem State.onSfl_draws (s : State) (n : Nat) (f : SfLane → SfLane) : (s.onSfl n f).draws = s.draws := rfl
@[simp] theorem State.onSfl_pending (s : State) (n : Nat) (f : SfLane → SfLane) : (s.onSfl n f).pending = s.pending := rfl

/-! ### onWatch -/

@[simp] theorem State.onWatch_ident (s : State) (n : Nat) (f : Watch → Watch) : (s.onWatch n f).ident = s.ident := rfl
@[simp] theorem State.onWatch_clock (s : State) (n : Nat) (f : Watch → Watch) : (s.onWatch n f).clock = s.clock := rfl
@[simp] theorem State.onWatch_seqr (s : State) (n : Nat) (f : Watch → Watch) : (s.onWatch n f).seqr = s.seqr := rfl
@[simp] theorem State.onWatch_host (s : State) (n : Nat) (f : Watch → Watch) : (s.onWatch n f).host = s.host := rfl
@[simp] theorem State.onWatch_mx (s : State) (n : Nat) (f : Watch → Watch) : (s.onWatch n f).mx = s.mx := rfl
@[simp] theorem State.onWatch_lanes (s : State) (n : Nat) (f : Watch → Watch) : (s.onWatch n f).lanes = s.lanes := rfl
@[simp] theorem State.onWatch_hs (s : State) (n : Nat) (f : Watch → Watch) : (s.onWatch n f).hs = s.hs := rfl
@[simp] theorem State.onWatch_pp (s : State) (n : Nat) (f : Watch → Watch) : (s.onWatch n f).pp = s.pp := rfl
@[simp] theorem State.onWatch_ps (s : State) (n : Nat) (f : Watch → Watch) : (s.onWatch n f).ps = s.ps := rfl
@[simp] theorem State.onWatch_ef (s : State) (n : Nat) (f : Watch → Watch) : (s.onWatch n f).ef = s.ef := rfl
@[simp] theorem State.onWatch_mt (s : State) (n : Nat) (f : Watch → Watch) : (s.onWatch n f).mt = s.mt := rfl
@[simp] theorem State.onWatch_en (s : State) (n : Nat) (f : Watch → Watch) : (s.onWatch n f).en = s.en := rfl
@[simp] theorem State.onWatch_po (s : State) (n : Nat) (f : Watch → Watch) : (s.onWatch n f).po = s.po := rfl
@[simp] theorem State.onWatch_rd (s : State) (n : Nat) (f : Watch → Watch) : (s.onWatch n f).rd = s.rd := rfl
@[simp] theorem State.onWatch_bl (s : State) (n : Nat) (f : Watch → Watch) : (s.onWatch n f).bl = s.bl := rfl
@[simp] theorem State.onWatch_ac (s : State) (n : Nat) (f : Watch → Watch) : (s.onWatch n f).ac = s.ac := rfl
@[simp] theorem State.onWatch_cosem (s : State) (n : Nat) (f : Watch → Watch) : (s.onWatch n f).cosem = s.cosem := rfl
@[simp] theorem State.onWatch_kv (s : State) (n : Nat) (f : Watch → Watch) : (s.onWatch n f).kv = s.kv := rfl
@[simp] theorem State.onWatch_kz (s : State) (n : Nat) (f : Watch → Watch) : (s.onWatch n f).kz = s.kz := rfl
@[simp] theorem State.onWatch_tg (s : State) (n : Nat) (f : Watch → Watch) : (s.onWatch n f).tg = s.tg := rfl
@[simp] theorem State.onWatch_ds (s : State) (n : Nat) (f : Watch → Watch) : (s.onWatch n f).ds = s.ds := rfl
@[simp] theorem State.onWatch_mm (s : State) (n : Nat) (f : Watch → Watch) : (s.onWatch n f).mm = s.mm := rfl
@[simp] theorem State.onWatch_pw (s : State) (n : Nat) (f : Watch → Watch) : (s.onWatch n f).pw = s.pw := rfl
@[simp] theorem State.onWatch_up (s : State) (n : Nat) (f : Watch → Watch) : (s.onWatch n f).up = s.up := rfl
@[simp] theorem State.onWatch_mon (s : State) (n : Nat) (f : Watch → Watch) : (s.onWatch n f).mon = s.mon := rfl
@[simp] theorem State.onWatch_rs (s : State) (n : Nat) (f : Watch → Watch) : (s.onWatch n f).rs = s.rs := rfl
@[simp] theorem State.onWatch_emits (s : State) (n : Nat) (f : Watch → Watch) : (s.onWatch n f).emits = s.emits := rfl
@[simp] theorem State.onWatch_draws (s : State) (n : Nat) (f : Watch → Watch) : (s.onWatch n f).draws = s.draws := rfl
@[simp] theorem State.onWatch_pending (s : State) (n : Nat) (f : Watch → Watch) : (s.onWatch n f).pending = s.pending := rfl

/-! ### onCh -/

@[simp] theorem State.onCh_ident (s : State) (n : Nat) (f : PoCh → PoCh) : (s.onCh n f).ident = s.ident := rfl
@[simp] theorem State.onCh_clock (s : State) (n : Nat) (f : PoCh → PoCh) : (s.onCh n f).clock = s.clock := rfl
@[simp] theorem State.onCh_seqr (s : State) (n : Nat) (f : PoCh → PoCh) : (s.onCh n f).seqr = s.seqr := rfl
@[simp] theorem State.onCh_host (s : State) (n : Nat) (f : PoCh → PoCh) : (s.onCh n f).host = s.host := rfl
@[simp] theorem State.onCh_mx (s : State) (n : Nat) (f : PoCh → PoCh) : (s.onCh n f).mx = s.mx := rfl
@[simp] theorem State.onCh_lanes (s : State) (n : Nat) (f : PoCh → PoCh) : (s.onCh n f).lanes = s.lanes := rfl
@[simp] theorem State.onCh_hs (s : State) (n : Nat) (f : PoCh → PoCh) : (s.onCh n f).hs = s.hs := rfl
@[simp] theorem State.onCh_pp (s : State) (n : Nat) (f : PoCh → PoCh) : (s.onCh n f).pp = s.pp := rfl
@[simp] theorem State.onCh_ps (s : State) (n : Nat) (f : PoCh → PoCh) : (s.onCh n f).ps = s.ps := rfl
@[simp] theorem State.onCh_ef (s : State) (n : Nat) (f : PoCh → PoCh) : (s.onCh n f).ef = s.ef := rfl
@[simp] theorem State.onCh_mt (s : State) (n : Nat) (f : PoCh → PoCh) : (s.onCh n f).mt = s.mt := rfl
@[simp] theorem State.onCh_en (s : State) (n : Nat) (f : PoCh → PoCh) : (s.onCh n f).en = s.en := rfl
@[simp] theorem State.onCh_sf (s : State) (n : Nat) (f : PoCh → PoCh) : (s.onCh n f).sf = s.sf := rfl
@[simp] theorem State.onCh_rd (s : State) (n : Nat) (f : PoCh → PoCh) : (s.onCh n f).rd = s.rd := rfl
@[simp] theorem State.onCh_bl (s : State) (n : Nat) (f : PoCh → PoCh) : (s.onCh n f).bl = s.bl := rfl
@[simp] theorem State.onCh_ac (s : State) (n : Nat) (f : PoCh → PoCh) : (s.onCh n f).ac = s.ac := rfl
@[simp] theorem State.onCh_cosem (s : State) (n : Nat) (f : PoCh → PoCh) : (s.onCh n f).cosem = s.cosem := rfl
@[simp] theorem State.onCh_kv (s : State) (n : Nat) (f : PoCh → PoCh) : (s.onCh n f).kv = s.kv := rfl
@[simp] theorem State.onCh_kz (s : State) (n : Nat) (f : PoCh → PoCh) : (s.onCh n f).kz = s.kz := rfl
@[simp] theorem State.onCh_tg (s : State) (n : Nat) (f : PoCh → PoCh) : (s.onCh n f).tg = s.tg := rfl
@[simp] theorem State.onCh_ds (s : State) (n : Nat) (f : PoCh → PoCh) : (s.onCh n f).ds = s.ds := rfl
@[simp] theorem State.onCh_mm (s : State) (n : Nat) (f : PoCh → PoCh) : (s.onCh n f).mm = s.mm := rfl
@[simp] theorem State.onCh_pw (s : State) (n : Nat) (f : PoCh → PoCh) : (s.onCh n f).pw = s.pw := rfl
@[simp] theorem State.onCh_up (s : State) (n : Nat) (f : PoCh → PoCh) : (s.onCh n f).up = s.up := rfl
@[simp] theorem State.onCh_mon (s : State) (n : Nat) (f : PoCh → PoCh) : (s.onCh n f).mon = s.mon := rfl
@[simp] theorem State.onCh_rs (s : State) (n : Nat) (f : PoCh → PoCh) : (s.onCh n f).rs = s.rs := rfl
@[simp] theorem State.onCh_emits (s : State) (n : Nat) (f : PoCh → PoCh) : (s.onCh n f).emits = s.emits := rfl
@[simp] theorem State.onCh_draws (s : State) (n : Nat) (f : PoCh → PoCh) : (s.onCh n f).draws = s.draws := rfl
@[simp] theorem State.onCh_pending (s : State) (n : Nat) (f : PoCh → PoCh) : (s.onCh n f).pending = s.pending := rfl

/-! ### onDie -/

@[simp] theorem State.onDie_ident (s : State) (n : Nat) (f : PoDie → PoDie) : (s.onDie n f).ident = s.ident := rfl
@[simp] theorem State.onDie_clock (s : State) (n : Nat) (f : PoDie → PoDie) : (s.onDie n f).clock = s.clock := rfl
@[simp] theorem State.onDie_seqr (s : State) (n : Nat) (f : PoDie → PoDie) : (s.onDie n f).seqr = s.seqr := rfl
@[simp] theorem State.onDie_host (s : State) (n : Nat) (f : PoDie → PoDie) : (s.onDie n f).host = s.host := rfl
@[simp] theorem State.onDie_mx (s : State) (n : Nat) (f : PoDie → PoDie) : (s.onDie n f).mx = s.mx := rfl
@[simp] theorem State.onDie_lanes (s : State) (n : Nat) (f : PoDie → PoDie) : (s.onDie n f).lanes = s.lanes := rfl
@[simp] theorem State.onDie_hs (s : State) (n : Nat) (f : PoDie → PoDie) : (s.onDie n f).hs = s.hs := rfl
@[simp] theorem State.onDie_pp (s : State) (n : Nat) (f : PoDie → PoDie) : (s.onDie n f).pp = s.pp := rfl
@[simp] theorem State.onDie_ps (s : State) (n : Nat) (f : PoDie → PoDie) : (s.onDie n f).ps = s.ps := rfl
@[simp] theorem State.onDie_ef (s : State) (n : Nat) (f : PoDie → PoDie) : (s.onDie n f).ef = s.ef := rfl
@[simp] theorem State.onDie_mt (s : State) (n : Nat) (f : PoDie → PoDie) : (s.onDie n f).mt = s.mt := rfl
@[simp] theorem State.onDie_en (s : State) (n : Nat) (f : PoDie → PoDie) : (s.onDie n f).en = s.en := rfl
@[simp] theorem State.onDie_sf (s : State) (n : Nat) (f : PoDie → PoDie) : (s.onDie n f).sf = s.sf := rfl
@[simp] theorem State.onDie_rd (s : State) (n : Nat) (f : PoDie → PoDie) : (s.onDie n f).rd = s.rd := rfl
@[simp] theorem State.onDie_bl (s : State) (n : Nat) (f : PoDie → PoDie) : (s.onDie n f).bl = s.bl := rfl
@[simp] theorem State.onDie_ac (s : State) (n : Nat) (f : PoDie → PoDie) : (s.onDie n f).ac = s.ac := rfl
@[simp] theorem State.onDie_cosem (s : State) (n : Nat) (f : PoDie → PoDie) : (s.onDie n f).cosem = s.cosem := rfl
@[simp] theorem State.onDie_kv (s : State) (n : Nat) (f : PoDie → PoDie) : (s.onDie n f).kv = s.kv := rfl
@[simp] theorem State.onDie_kz (s : State) (n : Nat) (f : PoDie → PoDie) : (s.onDie n f).kz = s.kz := rfl
@[simp] theorem State.onDie_tg (s : State) (n : Nat) (f : PoDie → PoDie) : (s.onDie n f).tg = s.tg := rfl
@[simp] theorem State.onDie_ds (s : State) (n : Nat) (f : PoDie → PoDie) : (s.onDie n f).ds = s.ds := rfl
@[simp] theorem State.onDie_mm (s : State) (n : Nat) (f : PoDie → PoDie) : (s.onDie n f).mm = s.mm := rfl
@[simp] theorem State.onDie_pw (s : State) (n : Nat) (f : PoDie → PoDie) : (s.onDie n f).pw = s.pw := rfl
@[simp] theorem State.onDie_up (s : State) (n : Nat) (f : PoDie → PoDie) : (s.onDie n f).up = s.up := rfl
@[simp] theorem State.onDie_mon (s : State) (n : Nat) (f : PoDie → PoDie) : (s.onDie n f).mon = s.mon := rfl
@[simp] theorem State.onDie_rs (s : State) (n : Nat) (f : PoDie → PoDie) : (s.onDie n f).rs = s.rs := rfl
@[simp] theorem State.onDie_emits (s : State) (n : Nat) (f : PoDie → PoDie) : (s.onDie n f).emits = s.emits := rfl
@[simp] theorem State.onDie_draws (s : State) (n : Nat) (f : PoDie → PoDie) : (s.onDie n f).draws = s.draws := rfl
@[simp] theorem State.onDie_pending (s : State) (n : Nat) (f : PoDie → PoDie) : (s.onDie n f).pending = s.pending := rfl

/-! ### onPort -/

@[simp] theorem State.onPort_ident (s : State) (n : Nat) (f : Port → Port) : (s.onPort n f).ident = s.ident := rfl
@[simp] theorem State.onPort_clock (s : State) (n : Nat) (f : Port → Port) : (s.onPort n f).clock = s.clock := rfl
@[simp] theorem State.onPort_seqr (s : State) (n : Nat) (f : Port → Port) : (s.onPort n f).seqr = s.seqr := rfl
@[simp] theorem State.onPort_mx (s : State) (n : Nat) (f : Port → Port) : (s.onPort n f).mx = s.mx := rfl
@[simp] theorem State.onPort_lanes (s : State) (n : Nat) (f : Port → Port) : (s.onPort n f).lanes = s.lanes := rfl
@[simp] theorem State.onPort_hs (s : State) (n : Nat) (f : Port → Port) : (s.onPort n f).hs = s.hs := rfl
@[simp] theorem State.onPort_pp (s : State) (n : Nat) (f : Port → Port) : (s.onPort n f).pp = s.pp := rfl
@[simp] theorem State.onPort_ps (s : State) (n : Nat) (f : Port → Port) : (s.onPort n f).ps = s.ps := rfl
@[simp] theorem State.onPort_ef (s : State) (n : Nat) (f : Port → Port) : (s.onPort n f).ef = s.ef := rfl
@[simp] theorem State.onPort_mt (s : State) (n : Nat) (f : Port → Port) : (s.onPort n f).mt = s.mt := rfl
@[simp] theorem State.onPort_en (s : State) (n : Nat) (f : Port → Port) : (s.onPort n f).en = s.en := rfl
@[simp] theorem State.onPort_sf (s : State) (n : Nat) (f : Port → Port) : (s.onPort n f).sf = s.sf := rfl
@[simp] theorem State.onPort_po (s : State) (n : Nat) (f : Port → Port) : (s.onPort n f).po = s.po := rfl
@[simp] theorem State.onPort_rd (s : State) (n : Nat) (f : Port → Port) : (s.onPort n f).rd = s.rd := rfl
@[simp] theorem State.onPort_bl (s : State) (n : Nat) (f : Port → Port) : (s.onPort n f).bl = s.bl := rfl
@[simp] theorem State.onPort_ac (s : State) (n : Nat) (f : Port → Port) : (s.onPort n f).ac = s.ac := rfl
@[simp] theorem State.onPort_cosem (s : State) (n : Nat) (f : Port → Port) : (s.onPort n f).cosem = s.cosem := rfl
@[simp] theorem State.onPort_kv (s : State) (n : Nat) (f : Port → Port) : (s.onPort n f).kv = s.kv := rfl
@[simp] theorem State.onPort_kz (s : State) (n : Nat) (f : Port → Port) : (s.onPort n f).kz = s.kz := rfl
@[simp] theorem State.onPort_tg (s : State) (n : Nat) (f : Port → Port) : (s.onPort n f).tg = s.tg := rfl
@[simp] theorem State.onPort_ds (s : State) (n : Nat) (f : Port → Port) : (s.onPort n f).ds = s.ds := rfl
@[simp] theorem State.onPort_mm (s : State) (n : Nat) (f : Port → Port) : (s.onPort n f).mm = s.mm := rfl
@[simp] theorem State.onPort_pw (s : State) (n : Nat) (f : Port → Port) : (s.onPort n f).pw = s.pw := rfl
@[simp] theorem State.onPort_up (s : State) (n : Nat) (f : Port → Port) : (s.onPort n f).up = s.up := rfl
@[simp] theorem State.onPort_mon (s : State) (n : Nat) (f : Port → Port) : (s.onPort n f).mon = s.mon := rfl
@[simp] theorem State.onPort_rs (s : State) (n : Nat) (f : Port → Port) : (s.onPort n f).rs = s.rs := rfl
@[simp] theorem State.onPort_emits (s : State) (n : Nat) (f : Port → Port) : (s.onPort n f).emits = s.emits := rfl
@[simp] theorem State.onPort_draws (s : State) (n : Nat) (f : Port → Port) : (s.onPort n f).draws = s.draws := rfl
@[simp] theorem State.onPort_pending (s : State) (n : Nat) (f : Port → Port) : (s.onPort n f).pending = s.pending := rfl

/-! ### onTgp -/

@[simp] theorem State.onTgp_ident (s : State) (n : Nat) (f : TgPort → TgPort) : (s.onTgp n f).ident = s.ident := rfl
@[simp] theorem State.onTgp_clock (s : State) (n : Nat) (f : TgPort → TgPort) : (s.onTgp n f).clock = s.clock := rfl
@[simp] theorem State.onTgp_seqr (s : State) (n : Nat) (f : TgPort → TgPort) : (s.onTgp n f).seqr = s.seqr := rfl
@[simp] theorem State.onTgp_host (s : State) (n : Nat) (f : TgPort → TgPort) : (s.onTgp n f).host = s.host := rfl
@[simp] theorem State.onTgp_mx (s : State) (n : Nat) (f : TgPort → TgPort) : (s.onTgp n f).mx = s.mx := rfl
@[simp] theorem State.onTgp_lanes (s : State) (n : Nat) (f : TgPort → TgPort) : (s.onTgp n f).lanes = s.lanes := rfl
@[simp] theorem State.onTgp_hs (s : State) (n : Nat) (f : TgPort → TgPort) : (s.onTgp n f).hs = s.hs := rfl
@[simp] theorem State.onTgp_pp (s : State) (n : Nat) (f : TgPort → TgPort) : (s.onTgp n f).pp = s.pp := rfl
@[simp] theorem State.onTgp_ps (s : State) (n : Nat) (f : TgPort → TgPort) : (s.onTgp n f).ps = s.ps := rfl
@[simp] theorem State.onTgp_ef (s : State) (n : Nat) (f : TgPort → TgPort) : (s.onTgp n f).ef = s.ef := rfl
@[simp] theorem State.onTgp_mt (s : State) (n : Nat) (f : TgPort → TgPort) : (s.onTgp n f).mt = s.mt := rfl
@[simp] theorem State.onTgp_en (s : State) (n : Nat) (f : TgPort → TgPort) : (s.onTgp n f).en = s.en := rfl
@[simp] theorem State.onTgp_sf (s : State) (n : Nat) (f : TgPort → TgPort) : (s.onTgp n f).sf = s.sf := rfl
@[simp] theorem State.onTgp_po (s : State) (n : Nat) (f : TgPort → TgPort) : (s.onTgp n f).po = s.po := rfl
@[simp] theorem State.onTgp_rd (s : State) (n : Nat) (f : TgPort → TgPort) : (s.onTgp n f).rd = s.rd := rfl
@[simp] theorem State.onTgp_bl (s : State) (n : Nat) (f : TgPort → TgPort) : (s.onTgp n f).bl = s.bl := rfl
@[simp] theorem State.onTgp_ac (s : State) (n : Nat) (f : TgPort → TgPort) : (s.onTgp n f).ac = s.ac := rfl
@[simp] theorem State.onTgp_cosem (s : State) (n : Nat) (f : TgPort → TgPort) : (s.onTgp n f).cosem = s.cosem := rfl
@[simp] theorem State.onTgp_kv (s : State) (n : Nat) (f : TgPort → TgPort) : (s.onTgp n f).kv = s.kv := rfl
@[simp] theorem State.onTgp_kz (s : State) (n : Nat) (f : TgPort → TgPort) : (s.onTgp n f).kz = s.kz := rfl
@[simp] theorem State.onTgp_ds (s : State) (n : Nat) (f : TgPort → TgPort) : (s.onTgp n f).ds = s.ds := rfl
@[simp] theorem State.onTgp_mm (s : State) (n : Nat) (f : TgPort → TgPort) : (s.onTgp n f).mm = s.mm := rfl
@[simp] theorem State.onTgp_pw (s : State) (n : Nat) (f : TgPort → TgPort) : (s.onTgp n f).pw = s.pw := rfl
@[simp] theorem State.onTgp_up (s : State) (n : Nat) (f : TgPort → TgPort) : (s.onTgp n f).up = s.up := rfl
@[simp] theorem State.onTgp_mon (s : State) (n : Nat) (f : TgPort → TgPort) : (s.onTgp n f).mon = s.mon := rfl
@[simp] theorem State.onTgp_rs (s : State) (n : Nat) (f : TgPort → TgPort) : (s.onTgp n f).rs = s.rs := rfl
@[simp] theorem State.onTgp_emits (s : State) (n : Nat) (f : TgPort → TgPort) : (s.onTgp n f).emits = s.emits := rfl
@[simp] theorem State.onTgp_draws (s : State) (n : Nat) (f : TgPort → TgPort) : (s.onTgp n f).draws = s.draws := rfl
@[simp] theorem State.onTgp_pending (s : State) (n : Nat) (f : TgPort → TgPort) : (s.onTgp n f).pending = s.pending := rfl

/-! ### onPanel -/

@[simp] theorem State.onPanel_ident (s : State) (n : Nat) (f : Panel → Panel) : (s.onPanel n f).ident = s.ident := rfl
@[simp] theorem State.onPanel_clock (s : State) (n : Nat) (f : Panel → Panel) : (s.onPanel n f).clock = s.clock := rfl
@[simp] theorem State.onPanel_seqr (s : State) (n : Nat) (f : Panel → Panel) : (s.onPanel n f).seqr = s.seqr := rfl
@[simp] theorem State.onPanel_host (s : State) (n : Nat) (f : Panel → Panel) : (s.onPanel n f).host = s.host := rfl
@[simp] theorem State.onPanel_mx (s : State) (n : Nat) (f : Panel → Panel) : (s.onPanel n f).mx = s.mx := rfl
@[simp] theorem State.onPanel_lanes (s : State) (n : Nat) (f : Panel → Panel) : (s.onPanel n f).lanes = s.lanes := rfl
@[simp] theorem State.onPanel_hs (s : State) (n : Nat) (f : Panel → Panel) : (s.onPanel n f).hs = s.hs := rfl
@[simp] theorem State.onPanel_pp (s : State) (n : Nat) (f : Panel → Panel) : (s.onPanel n f).pp = s.pp := rfl
@[simp] theorem State.onPanel_ps (s : State) (n : Nat) (f : Panel → Panel) : (s.onPanel n f).ps = s.ps := rfl
@[simp] theorem State.onPanel_ef (s : State) (n : Nat) (f : Panel → Panel) : (s.onPanel n f).ef = s.ef := rfl
@[simp] theorem State.onPanel_mt (s : State) (n : Nat) (f : Panel → Panel) : (s.onPanel n f).mt = s.mt := rfl
@[simp] theorem State.onPanel_en (s : State) (n : Nat) (f : Panel → Panel) : (s.onPanel n f).en = s.en := rfl
@[simp] theorem State.onPanel_sf (s : State) (n : Nat) (f : Panel → Panel) : (s.onPanel n f).sf = s.sf := rfl
@[simp] theorem State.onPanel_po (s : State) (n : Nat) (f : Panel → Panel) : (s.onPanel n f).po = s.po := rfl
@[simp] theorem State.onPanel_rd (s : State) (n : Nat) (f : Panel → Panel) : (s.onPanel n f).rd = s.rd := rfl
@[simp] theorem State.onPanel_bl (s : State) (n : Nat) (f : Panel → Panel) : (s.onPanel n f).bl = s.bl := rfl
@[simp] theorem State.onPanel_ac (s : State) (n : Nat) (f : Panel → Panel) : (s.onPanel n f).ac = s.ac := rfl
@[simp] theorem State.onPanel_cosem (s : State) (n : Nat) (f : Panel → Panel) : (s.onPanel n f).cosem = s.cosem := rfl
@[simp] theorem State.onPanel_kv (s : State) (n : Nat) (f : Panel → Panel) : (s.onPanel n f).kv = s.kv := rfl
@[simp] theorem State.onPanel_kz (s : State) (n : Nat) (f : Panel → Panel) : (s.onPanel n f).kz = s.kz := rfl
@[simp] theorem State.onPanel_tg (s : State) (n : Nat) (f : Panel → Panel) : (s.onPanel n f).tg = s.tg := rfl
@[simp] theorem State.onPanel_mm (s : State) (n : Nat) (f : Panel → Panel) : (s.onPanel n f).mm = s.mm := rfl
@[simp] theorem State.onPanel_pw (s : State) (n : Nat) (f : Panel → Panel) : (s.onPanel n f).pw = s.pw := rfl
@[simp] theorem State.onPanel_up (s : State) (n : Nat) (f : Panel → Panel) : (s.onPanel n f).up = s.up := rfl
@[simp] theorem State.onPanel_mon (s : State) (n : Nat) (f : Panel → Panel) : (s.onPanel n f).mon = s.mon := rfl
@[simp] theorem State.onPanel_rs (s : State) (n : Nat) (f : Panel → Panel) : (s.onPanel n f).rs = s.rs := rfl
@[simp] theorem State.onPanel_emits (s : State) (n : Nat) (f : Panel → Panel) : (s.onPanel n f).emits = s.emits := rfl
@[simp] theorem State.onPanel_draws (s : State) (n : Nat) (f : Panel → Panel) : (s.onPanel n f).draws = s.draws := rfl
@[simp] theorem State.onPanel_pending (s : State) (n : Nat) (f : Panel → Panel) : (s.onPanel n f).pending = s.pending := rfl

/-! ### onMms -/

@[simp] theorem State.onMms_ident (s : State) (n : Nat) (f : MmSide → MmSide) : (s.onMms n f).ident = s.ident := rfl
@[simp] theorem State.onMms_clock (s : State) (n : Nat) (f : MmSide → MmSide) : (s.onMms n f).clock = s.clock := rfl
@[simp] theorem State.onMms_seqr (s : State) (n : Nat) (f : MmSide → MmSide) : (s.onMms n f).seqr = s.seqr := rfl
@[simp] theorem State.onMms_host (s : State) (n : Nat) (f : MmSide → MmSide) : (s.onMms n f).host = s.host := rfl
@[simp] theorem State.onMms_mx (s : State) (n : Nat) (f : MmSide → MmSide) : (s.onMms n f).mx = s.mx := rfl
@[simp] theorem State.onMms_lanes (s : State) (n : Nat) (f : MmSide → MmSide) : (s.onMms n f).lanes = s.lanes := rfl
@[simp] theorem State.onMms_hs (s : State) (n : Nat) (f : MmSide → MmSide) : (s.onMms n f).hs = s.hs := rfl
@[simp] theorem State.onMms_pp (s : State) (n : Nat) (f : MmSide → MmSide) : (s.onMms n f).pp = s.pp := rfl
@[simp] theorem State.onMms_ps (s : State) (n : Nat) (f : MmSide → MmSide) : (s.onMms n f).ps = s.ps := rfl
@[simp] theorem State.onMms_ef (s : State) (n : Nat) (f : MmSide → MmSide) : (s.onMms n f).ef = s.ef := rfl
@[simp] theorem State.onMms_mt (s : State) (n : Nat) (f : MmSide → MmSide) : (s.onMms n f).mt = s.mt := rfl
@[simp] theorem State.onMms_en (s : State) (n : Nat) (f : MmSide → MmSide) : (s.onMms n f).en = s.en := rfl
@[simp] theorem State.onMms_sf (s : State) (n : Nat) (f : MmSide → MmSide) : (s.onMms n f).sf = s.sf := rfl
@[simp] theorem State.onMms_po (s : State) (n : Nat) (f : MmSide → MmSide) : (s.onMms n f).po = s.po := rfl
@[simp] theorem State.onMms_rd (s : State) (n : Nat) (f : MmSide → MmSide) : (s.onMms n f).rd = s.rd := rfl
@[simp] theorem State.onMms_bl (s : State) (n : Nat) (f : MmSide → MmSide) : (s.onMms n f).bl = s.bl := rfl
@[simp] theorem State.onMms_ac (s : State) (n : Nat) (f : MmSide → MmSide) : (s.onMms n f).ac = s.ac := rfl
@[simp] theorem State.onMms_cosem (s : State) (n : Nat) (f : MmSide → MmSide) : (s.onMms n f).cosem = s.cosem := rfl
@[simp] theorem State.onMms_kv (s : State) (n : Nat) (f : MmSide → MmSide) : (s.onMms n f).kv = s.kv := rfl
@[simp] theorem State.onMms_kz (s : State) (n : Nat) (f : MmSide → MmSide) : (s.onMms n f).kz = s.kz := rfl
@[simp] theorem State.onMms_tg (s : State) (n : Nat) (f : MmSide → MmSide) : (s.onMms n f).tg = s.tg := rfl
@[simp] theorem State.onMms_ds (s : State) (n : Nat) (f : MmSide → MmSide) : (s.onMms n f).ds = s.ds := rfl
@[simp] theorem State.onMms_pw (s : State) (n : Nat) (f : MmSide → MmSide) : (s.onMms n f).pw = s.pw := rfl
@[simp] theorem State.onMms_up (s : State) (n : Nat) (f : MmSide → MmSide) : (s.onMms n f).up = s.up := rfl
@[simp] theorem State.onMms_mon (s : State) (n : Nat) (f : MmSide → MmSide) : (s.onMms n f).mon = s.mon := rfl
@[simp] theorem State.onMms_rs (s : State) (n : Nat) (f : MmSide → MmSide) : (s.onMms n f).rs = s.rs := rfl
@[simp] theorem State.onMms_emits (s : State) (n : Nat) (f : MmSide → MmSide) : (s.onMms n f).emits = s.emits := rfl
@[simp] theorem State.onMms_draws (s : State) (n : Nat) (f : MmSide → MmSide) : (s.onMms n f).draws = s.draws := rfl
@[simp] theorem State.onMms_pending (s : State) (n : Nat) (f : MmSide → MmSide) : (s.onMms n f).pending = s.pending := rfl

/-! ### onUps -/

@[simp] theorem State.onUps_ident (s : State) (n : Nat) (f : UpSide → UpSide) : (s.onUps n f).ident = s.ident := rfl
@[simp] theorem State.onUps_clock (s : State) (n : Nat) (f : UpSide → UpSide) : (s.onUps n f).clock = s.clock := rfl
@[simp] theorem State.onUps_seqr (s : State) (n : Nat) (f : UpSide → UpSide) : (s.onUps n f).seqr = s.seqr := rfl
@[simp] theorem State.onUps_host (s : State) (n : Nat) (f : UpSide → UpSide) : (s.onUps n f).host = s.host := rfl
@[simp] theorem State.onUps_mx (s : State) (n : Nat) (f : UpSide → UpSide) : (s.onUps n f).mx = s.mx := rfl
@[simp] theorem State.onUps_lanes (s : State) (n : Nat) (f : UpSide → UpSide) : (s.onUps n f).lanes = s.lanes := rfl
@[simp] theorem State.onUps_hs (s : State) (n : Nat) (f : UpSide → UpSide) : (s.onUps n f).hs = s.hs := rfl
@[simp] theorem State.onUps_pp (s : State) (n : Nat) (f : UpSide → UpSide) : (s.onUps n f).pp = s.pp := rfl
@[simp] theorem State.onUps_ps (s : State) (n : Nat) (f : UpSide → UpSide) : (s.onUps n f).ps = s.ps := rfl
@[simp] theorem State.onUps_ef (s : State) (n : Nat) (f : UpSide → UpSide) : (s.onUps n f).ef = s.ef := rfl
@[simp] theorem State.onUps_mt (s : State) (n : Nat) (f : UpSide → UpSide) : (s.onUps n f).mt = s.mt := rfl
@[simp] theorem State.onUps_en (s : State) (n : Nat) (f : UpSide → UpSide) : (s.onUps n f).en = s.en := rfl
@[simp] theorem State.onUps_sf (s : State) (n : Nat) (f : UpSide → UpSide) : (s.onUps n f).sf = s.sf := rfl
@[simp] theorem State.onUps_po (s : State) (n : Nat) (f : UpSide → UpSide) : (s.onUps n f).po = s.po := rfl
@[simp] theorem State.onUps_rd (s : State) (n : Nat) (f : UpSide → UpSide) : (s.onUps n f).rd = s.rd := rfl
@[simp] theorem State.onUps_bl (s : State) (n : Nat) (f : UpSide → UpSide) : (s.onUps n f).bl = s.bl := rfl
@[simp] theorem State.onUps_ac (s : State) (n : Nat) (f : UpSide → UpSide) : (s.onUps n f).ac = s.ac := rfl
@[simp] theorem State.onUps_cosem (s : State) (n : Nat) (f : UpSide → UpSide) : (s.onUps n f).cosem = s.cosem := rfl
@[simp] theorem State.onUps_kv (s : State) (n : Nat) (f : UpSide → UpSide) : (s.onUps n f).kv = s.kv := rfl
@[simp] theorem State.onUps_kz (s : State) (n : Nat) (f : UpSide → UpSide) : (s.onUps n f).kz = s.kz := rfl
@[simp] theorem State.onUps_tg (s : State) (n : Nat) (f : UpSide → UpSide) : (s.onUps n f).tg = s.tg := rfl
@[simp] theorem State.onUps_ds (s : State) (n : Nat) (f : UpSide → UpSide) : (s.onUps n f).ds = s.ds := rfl
@[simp] theorem State.onUps_mm (s : State) (n : Nat) (f : UpSide → UpSide) : (s.onUps n f).mm = s.mm := rfl
@[simp] theorem State.onUps_pw (s : State) (n : Nat) (f : UpSide → UpSide) : (s.onUps n f).pw = s.pw := rfl
@[simp] theorem State.onUps_mon (s : State) (n : Nat) (f : UpSide → UpSide) : (s.onUps n f).mon = s.mon := rfl
@[simp] theorem State.onUps_rs (s : State) (n : Nat) (f : UpSide → UpSide) : (s.onUps n f).rs = s.rs := rfl
@[simp] theorem State.onUps_emits (s : State) (n : Nat) (f : UpSide → UpSide) : (s.onUps n f).emits = s.emits := rfl
@[simp] theorem State.onUps_draws (s : State) (n : Nat) (f : UpSide → UpSide) : (s.onUps n f).draws = s.draws := rfl
@[simp] theorem State.onUps_pending (s : State) (n : Nat) (f : UpSide → UpSide) : (s.onUps n f).pending = s.pending := rfl

/-! ### onMons -/

@[simp] theorem State.onMons_ident (s : State) (n : Nat) (f : MonSide → MonSide) : (s.onMons n f).ident = s.ident := rfl
@[simp] theorem State.onMons_clock (s : State) (n : Nat) (f : MonSide → MonSide) : (s.onMons n f).clock = s.clock := rfl
@[simp] theorem State.onMons_seqr (s : State) (n : Nat) (f : MonSide → MonSide) : (s.onMons n f).seqr = s.seqr := rfl
@[simp] theorem State.onMons_host (s : State) (n : Nat) (f : MonSide → MonSide) : (s.onMons n f).host = s.host := rfl
@[simp] theorem State.onMons_mx (s : State) (n : Nat) (f : MonSide → MonSide) : (s.onMons n f).mx = s.mx := rfl
@[simp] theorem State.onMons_lanes (s : State) (n : Nat) (f : MonSide → MonSide) : (s.onMons n f).lanes = s.lanes := rfl
@[simp] theorem State.onMons_hs (s : State) (n : Nat) (f : MonSide → MonSide) : (s.onMons n f).hs = s.hs := rfl
@[simp] theorem State.onMons_pp (s : State) (n : Nat) (f : MonSide → MonSide) : (s.onMons n f).pp = s.pp := rfl
@[simp] theorem State.onMons_ps (s : State) (n : Nat) (f : MonSide → MonSide) : (s.onMons n f).ps = s.ps := rfl
@[simp] theorem State.onMons_ef (s : State) (n : Nat) (f : MonSide → MonSide) : (s.onMons n f).ef = s.ef := rfl
@[simp] theorem State.onMons_mt (s : State) (n : Nat) (f : MonSide → MonSide) : (s.onMons n f).mt = s.mt := rfl
@[simp] theorem State.onMons_en (s : State) (n : Nat) (f : MonSide → MonSide) : (s.onMons n f).en = s.en := rfl
@[simp] theorem State.onMons_sf (s : State) (n : Nat) (f : MonSide → MonSide) : (s.onMons n f).sf = s.sf := rfl
@[simp] theorem State.onMons_po (s : State) (n : Nat) (f : MonSide → MonSide) : (s.onMons n f).po = s.po := rfl
@[simp] theorem State.onMons_rd (s : State) (n : Nat) (f : MonSide → MonSide) : (s.onMons n f).rd = s.rd := rfl
@[simp] theorem State.onMons_bl (s : State) (n : Nat) (f : MonSide → MonSide) : (s.onMons n f).bl = s.bl := rfl
@[simp] theorem State.onMons_ac (s : State) (n : Nat) (f : MonSide → MonSide) : (s.onMons n f).ac = s.ac := rfl
@[simp] theorem State.onMons_cosem (s : State) (n : Nat) (f : MonSide → MonSide) : (s.onMons n f).cosem = s.cosem := rfl
@[simp] theorem State.onMons_kv (s : State) (n : Nat) (f : MonSide → MonSide) : (s.onMons n f).kv = s.kv := rfl
@[simp] theorem State.onMons_kz (s : State) (n : Nat) (f : MonSide → MonSide) : (s.onMons n f).kz = s.kz := rfl
@[simp] theorem State.onMons_tg (s : State) (n : Nat) (f : MonSide → MonSide) : (s.onMons n f).tg = s.tg := rfl
@[simp] theorem State.onMons_ds (s : State) (n : Nat) (f : MonSide → MonSide) : (s.onMons n f).ds = s.ds := rfl
@[simp] theorem State.onMons_mm (s : State) (n : Nat) (f : MonSide → MonSide) : (s.onMons n f).mm = s.mm := rfl
@[simp] theorem State.onMons_pw (s : State) (n : Nat) (f : MonSide → MonSide) : (s.onMons n f).pw = s.pw := rfl
@[simp] theorem State.onMons_up (s : State) (n : Nat) (f : MonSide → MonSide) : (s.onMons n f).up = s.up := rfl
@[simp] theorem State.onMons_rs (s : State) (n : Nat) (f : MonSide → MonSide) : (s.onMons n f).rs = s.rs := rfl
@[simp] theorem State.onMons_emits (s : State) (n : Nat) (f : MonSide → MonSide) : (s.onMons n f).emits = s.emits := rfl
@[simp] theorem State.onMons_draws (s : State) (n : Nat) (f : MonSide → MonSide) : (s.onMons n f).draws = s.draws := rfl
@[simp] theorem State.onMons_pending (s : State) (n : Nat) (f : MonSide → MonSide) : (s.onMons n f).pending = s.pending := rfl

/-! ### onGrv -/

@[simp] theorem State.onGrv_ident (s : State) (f : Graver → Graver) : (s.onGrv f).ident = s.ident := rfl
@[simp] theorem State.onGrv_clock (s : State) (f : Graver → Graver) : (s.onGrv f).clock = s.clock := rfl
@[simp] theorem State.onGrv_seqr (s : State) (f : Graver → Graver) : (s.onGrv f).seqr = s.seqr := rfl
@[simp] theorem State.onGrv_host (s : State) (f : Graver → Graver) : (s.onGrv f).host = s.host := rfl
@[simp] theorem State.onGrv_mx (s : State) (f : Graver → Graver) : (s.onGrv f).mx = s.mx := rfl
@[simp] theorem State.onGrv_lanes (s : State) (f : Graver → Graver) : (s.onGrv f).lanes = s.lanes := rfl
@[simp] theorem State.onGrv_hs (s : State) (f : Graver → Graver) : (s.onGrv f).hs = s.hs := rfl
@[simp] theorem State.onGrv_pp (s : State) (f : Graver → Graver) : (s.onGrv f).pp = s.pp := rfl
@[simp] theorem State.onGrv_ps (s : State) (f : Graver → Graver) : (s.onGrv f).ps = s.ps := rfl
@[simp] theorem State.onGrv_ef (s : State) (f : Graver → Graver) : (s.onGrv f).ef = s.ef := rfl
@[simp] theorem State.onGrv_mt (s : State) (f : Graver → Graver) : (s.onGrv f).mt = s.mt := rfl
@[simp] theorem State.onGrv_en (s : State) (f : Graver → Graver) : (s.onGrv f).en = s.en := rfl
@[simp] theorem State.onGrv_po (s : State) (f : Graver → Graver) : (s.onGrv f).po = s.po := rfl
@[simp] theorem State.onGrv_rd (s : State) (f : Graver → Graver) : (s.onGrv f).rd = s.rd := rfl
@[simp] theorem State.onGrv_bl (s : State) (f : Graver → Graver) : (s.onGrv f).bl = s.bl := rfl
@[simp] theorem State.onGrv_ac (s : State) (f : Graver → Graver) : (s.onGrv f).ac = s.ac := rfl
@[simp] theorem State.onGrv_cosem (s : State) (f : Graver → Graver) : (s.onGrv f).cosem = s.cosem := rfl
@[simp] theorem State.onGrv_kv (s : State) (f : Graver → Graver) : (s.onGrv f).kv = s.kv := rfl
@[simp] theorem State.onGrv_kz (s : State) (f : Graver → Graver) : (s.onGrv f).kz = s.kz := rfl
@[simp] theorem State.onGrv_tg (s : State) (f : Graver → Graver) : (s.onGrv f).tg = s.tg := rfl
@[simp] theorem State.onGrv_ds (s : State) (f : Graver → Graver) : (s.onGrv f).ds = s.ds := rfl
@[simp] theorem State.onGrv_mm (s : State) (f : Graver → Graver) : (s.onGrv f).mm = s.mm := rfl
@[simp] theorem State.onGrv_pw (s : State) (f : Graver → Graver) : (s.onGrv f).pw = s.pw := rfl
@[simp] theorem State.onGrv_up (s : State) (f : Graver → Graver) : (s.onGrv f).up = s.up := rfl
@[simp] theorem State.onGrv_mon (s : State) (f : Graver → Graver) : (s.onGrv f).mon = s.mon := rfl
@[simp] theorem State.onGrv_rs (s : State) (f : Graver → Graver) : (s.onGrv f).rs = s.rs := rfl
@[simp] theorem State.onGrv_emits (s : State) (f : Graver → Graver) : (s.onGrv f).emits = s.emits := rfl
@[simp] theorem State.onGrv_draws (s : State) (f : Graver → Graver) : (s.onGrv f).draws = s.draws := rfl
@[simp] theorem State.onGrv_pending (s : State) (f : Graver → Graver) : (s.onGrv f).pending = s.pending := rfl

/-! ### raise -/

@[simp] theorem State.raise_ident (s : State) (e : Ev) : (s.raise e).ident = s.ident := rfl
@[simp] theorem State.raise_clock (s : State) (e : Ev) : (s.raise e).clock = s.clock := rfl
@[simp] theorem State.raise_seqr (s : State) (e : Ev) : (s.raise e).seqr = s.seqr := rfl
@[simp] theorem State.raise_host (s : State) (e : Ev) : (s.raise e).host = s.host := rfl
@[simp] theorem State.raise_mx (s : State) (e : Ev) : (s.raise e).mx = s.mx := rfl
@[simp] theorem State.raise_lanes (s : State) (e : Ev) : (s.raise e).lanes = s.lanes := rfl
@[simp] theorem State.raise_hs (s : State) (e : Ev) : (s.raise e).hs = s.hs := rfl
@[simp] theorem State.raise_pp (s : State) (e : Ev) : (s.raise e).pp = s.pp := rfl
@[simp] theorem State.raise_ps (s : State) (e : Ev) : (s.raise e).ps = s.ps := rfl
@[simp] theorem State.raise_ef (s : State) (e : Ev) : (s.raise e).ef = s.ef := rfl
@[simp] theorem State.raise_mt (s : State) (e : Ev) : (s.raise e).mt = s.mt := rfl
@[simp] theorem State.raise_en (s : State) (e : Ev) : (s.raise e).en = s.en := rfl
@[simp] theorem State.raise_sf (s : State) (e : Ev) : (s.raise e).sf = s.sf := rfl
@[simp] theorem State.raise_po (s : State) (e : Ev) : (s.raise e).po = s.po := rfl
@[simp] theorem State.raise_rd (s : State) (e : Ev) : (s.raise e).rd = s.rd := rfl
@[simp] theorem State.raise_bl (s : State) (e : Ev) : (s.raise e).bl = s.bl := rfl
@[simp] theorem State.raise_ac (s : State) (e : Ev) : (s.raise e).ac = s.ac := rfl
@[simp] theorem State.raise_cosem (s : State) (e : Ev) : (s.raise e).cosem = s.cosem := rfl
@[simp] theorem State.raise_kv (s : State) (e : Ev) : (s.raise e).kv = s.kv := rfl
@[simp] theorem State.raise_kz (s : State) (e : Ev) : (s.raise e).kz = s.kz := rfl
@[simp] theorem State.raise_tg (s : State) (e : Ev) : (s.raise e).tg = s.tg := rfl
@[simp] theorem State.raise_ds (s : State) (e : Ev) : (s.raise e).ds = s.ds := rfl
@[simp] theorem State.raise_mm (s : State) (e : Ev) : (s.raise e).mm = s.mm := rfl
@[simp] theorem State.raise_pw (s : State) (e : Ev) : (s.raise e).pw = s.pw := rfl
@[simp] theorem State.raise_up (s : State) (e : Ev) : (s.raise e).up = s.up := rfl
@[simp] theorem State.raise_mon (s : State) (e : Ev) : (s.raise e).mon = s.mon := rfl
@[simp] theorem State.raise_rs (s : State) (e : Ev) : (s.raise e).rs = s.rs := rfl
@[simp] theorem State.raise_draws (s : State) (e : Ev) : (s.raise e).draws = s.draws := rfl
@[simp] theorem State.raise_pending (s : State) (e : Ev) : (s.raise e).pending = s.pending := rfl

/-! ### direct -/

@[simp] theorem State.direct_ident (s : State) (e : Ev) : (s.direct e).ident = s.ident := rfl
@[simp] theorem State.direct_clock (s : State) (e : Ev) : (s.direct e).clock = s.clock := rfl
@[simp] theorem State.direct_seqr (s : State) (e : Ev) : (s.direct e).seqr = s.seqr := rfl
@[simp] theorem State.direct_host (s : State) (e : Ev) : (s.direct e).host = s.host := rfl
@[simp] theorem State.direct_mx (s : State) (e : Ev) : (s.direct e).mx = s.mx := rfl
@[simp] theorem State.direct_lanes (s : State) (e : Ev) : (s.direct e).lanes = s.lanes := rfl
@[simp] theorem State.direct_hs (s : State) (e : Ev) : (s.direct e).hs = s.hs := rfl
@[simp] theorem State.direct_pp (s : State) (e : Ev) : (s.direct e).pp = s.pp := rfl
@[simp] theorem State.direct_ps (s : State) (e : Ev) : (s.direct e).ps = s.ps := rfl
@[simp] theorem State.direct_ef (s : State) (e : Ev) : (s.direct e).ef = s.ef := rfl
@[simp] theorem State.direct_mt (s : State) (e : Ev) : (s.direct e).mt = s.mt := rfl
@[simp] theorem State.direct_en (s : State) (e : Ev) : (s.direct e).en = s.en := rfl
@[simp] theorem State.direct_sf (s : State) (e : Ev) : (s.direct e).sf = s.sf := rfl
@[simp] theorem State.direct_po (s : State) (e : Ev) : (s.direct e).po = s.po := rfl
@[simp] theorem State.direct_rd (s : State) (e : Ev) : (s.direct e).rd = s.rd := rfl
@[simp] theorem State.direct_bl (s : State) (e : Ev) : (s.direct e).bl = s.bl := rfl
@[simp] theorem State.direct_ac (s : State) (e : Ev) : (s.direct e).ac = s.ac := rfl
@[simp] theorem State.direct_cosem (s : State) (e : Ev) : (s.direct e).cosem = s.cosem := rfl
@[simp] theorem State.direct_kv (s : State) (e : Ev) : (s.direct e).kv = s.kv := rfl
@[simp] theorem State.direct_kz (s : State) (e : Ev) : (s.direct e).kz = s.kz := rfl
@[simp] theorem State.direct_tg (s : State) (e : Ev) : (s.direct e).tg = s.tg := rfl
@[simp] theorem State.direct_ds (s : State) (e : Ev) : (s.direct e).ds = s.ds := rfl
@[simp] theorem State.direct_mm (s : State) (e : Ev) : (s.direct e).mm = s.mm := rfl
@[simp] theorem State.direct_pw (s : State) (e : Ev) : (s.direct e).pw = s.pw := rfl
@[simp] theorem State.direct_up (s : State) (e : Ev) : (s.direct e).up = s.up := rfl
@[simp] theorem State.direct_mon (s : State) (e : Ev) : (s.direct e).mon = s.mon := rfl
@[simp] theorem State.direct_rs (s : State) (e : Ev) : (s.direct e).rs = s.rs := rfl
@[simp] theorem State.direct_draws (s : State) (e : Ev) : (s.direct e).draws = s.draws := rfl
@[simp] theorem State.direct_pending (s : State) (e : Ev) : (s.direct e).pending = s.pending := rfl

/-! ### ask -/

@[simp] theorem State.ask_ident (s : State) (e : Emit) : (s.ask e).ident = s.ident := rfl
@[simp] theorem State.ask_clock (s : State) (e : Emit) : (s.ask e).clock = s.clock := rfl
@[simp] theorem State.ask_seqr (s : State) (e : Emit) : (s.ask e).seqr = s.seqr := rfl
@[simp] theorem State.ask_host (s : State) (e : Emit) : (s.ask e).host = s.host := rfl
@[simp] theorem State.ask_mx (s : State) (e : Emit) : (s.ask e).mx = s.mx := rfl
@[simp] theorem State.ask_lanes (s : State) (e : Emit) : (s.ask e).lanes = s.lanes := rfl
@[simp] theorem State.ask_hs (s : State) (e : Emit) : (s.ask e).hs = s.hs := rfl
@[simp] theorem State.ask_pp (s : State) (e : Emit) : (s.ask e).pp = s.pp := rfl
@[simp] theorem State.ask_ps (s : State) (e : Emit) : (s.ask e).ps = s.ps := rfl
@[simp] theorem State.ask_ef (s : State) (e : Emit) : (s.ask e).ef = s.ef := rfl
@[simp] theorem State.ask_mt (s : State) (e : Emit) : (s.ask e).mt = s.mt := rfl
@[simp] theorem State.ask_en (s : State) (e : Emit) : (s.ask e).en = s.en := rfl
@[simp] theorem State.ask_sf (s : State) (e : Emit) : (s.ask e).sf = s.sf := rfl
@[simp] theorem State.ask_po (s : State) (e : Emit) : (s.ask e).po = s.po := rfl
@[simp] theorem State.ask_rd (s : State) (e : Emit) : (s.ask e).rd = s.rd := rfl
@[simp] theorem State.ask_bl (s : State) (e : Emit) : (s.ask e).bl = s.bl := rfl
@[simp] theorem State.ask_ac (s : State) (e : Emit) : (s.ask e).ac = s.ac := rfl
@[simp] theorem State.ask_cosem (s : State) (e : Emit) : (s.ask e).cosem = s.cosem := rfl
@[simp] theorem State.ask_kv (s : State) (e : Emit) : (s.ask e).kv = s.kv := rfl
@[simp] theorem State.ask_kz (s : State) (e : Emit) : (s.ask e).kz = s.kz := rfl
@[simp] theorem State.ask_tg (s : State) (e : Emit) : (s.ask e).tg = s.tg := rfl
@[simp] theorem State.ask_ds (s : State) (e : Emit) : (s.ask e).ds = s.ds := rfl
@[simp] theorem State.ask_mm (s : State) (e : Emit) : (s.ask e).mm = s.mm := rfl
@[simp] theorem State.ask_pw (s : State) (e : Emit) : (s.ask e).pw = s.pw := rfl
@[simp] theorem State.ask_up (s : State) (e : Emit) : (s.ask e).up = s.up := rfl
@[simp] theorem State.ask_mon (s : State) (e : Emit) : (s.ask e).mon = s.mon := rfl
@[simp] theorem State.ask_rs (s : State) (e : Emit) : (s.ask e).rs = s.rs := rfl
@[simp] theorem State.ask_draws (s : State) (e : Emit) : (s.ask e).draws = s.draws := rfl
@[simp] theorem State.ask_pending (s : State) (e : Emit) : (s.ask e).pending = s.pending := rfl

/-! ### drawn -/

@[simp] theorem State.drawn_ident (s : State) : (s.drawn).ident = s.ident := rfl
@[simp] theorem State.drawn_clock (s : State) : (s.drawn).clock = s.clock := rfl
@[simp] theorem State.drawn_seqr (s : State) : (s.drawn).seqr = s.seqr := rfl
@[simp] theorem State.drawn_host (s : State) : (s.drawn).host = s.host := rfl
@[simp] theorem State.drawn_mx (s : State) : (s.drawn).mx = s.mx := rfl
@[simp] theorem State.drawn_lanes (s : State) : (s.drawn).lanes = s.lanes := rfl
@[simp] theorem State.drawn_hs (s : State) : (s.drawn).hs = s.hs := rfl
@[simp] theorem State.drawn_pp (s : State) : (s.drawn).pp = s.pp := rfl
@[simp] theorem State.drawn_ps (s : State) : (s.drawn).ps = s.ps := rfl
@[simp] theorem State.drawn_ef (s : State) : (s.drawn).ef = s.ef := rfl
@[simp] theorem State.drawn_mt (s : State) : (s.drawn).mt = s.mt := rfl
@[simp] theorem State.drawn_en (s : State) : (s.drawn).en = s.en := rfl
@[simp] theorem State.drawn_sf (s : State) : (s.drawn).sf = s.sf := rfl
@[simp] theorem State.drawn_po (s : State) : (s.drawn).po = s.po := rfl
@[simp] theorem State.drawn_rd (s : State) : (s.drawn).rd = s.rd := rfl
@[simp] theorem State.drawn_bl (s : State) : (s.drawn).bl = s.bl := rfl
@[simp] theorem State.drawn_ac (s : State) : (s.drawn).ac = s.ac := rfl
@[simp] theorem State.drawn_cosem (s : State) : (s.drawn).cosem = s.cosem := rfl
@[simp] theorem State.drawn_kv (s : State) : (s.drawn).kv = s.kv := rfl
@[simp] theorem State.drawn_kz (s : State) : (s.drawn).kz = s.kz := rfl
@[simp] theorem State.drawn_tg (s : State) : (s.drawn).tg = s.tg := rfl
@[simp] theorem State.drawn_ds (s : State) : (s.drawn).ds = s.ds := rfl
@[simp] theorem State.drawn_mm (s : State) : (s.drawn).mm = s.mm := rfl
@[simp] theorem State.drawn_pw (s : State) : (s.drawn).pw = s.pw := rfl
@[simp] theorem State.drawn_up (s : State) : (s.drawn).up = s.up := rfl
@[simp] theorem State.drawn_mon (s : State) : (s.drawn).mon = s.mon := rfl
@[simp] theorem State.drawn_rs (s : State) : (s.drawn).rs = s.rs := rfl
@[simp] theorem State.drawn_emits (s : State) : (s.drawn).emits = s.emits := rfl
@[simp] theorem State.drawn_pending (s : State) : (s.drawn).pending = s.pending := rfl

/-! ### evLane -/

@[simp] theorem State.evLane_ident (s : State) (c : EvClass) (n k : Nat) (d : Bytes) (g : Nat) : (s.evLane c n k d g).ident = s.ident := rfl
@[simp] theorem State.evLane_clock (s : State) (c : EvClass) (n k : Nat) (d : Bytes) (g : Nat) : (s.evLane c n k d g).clock = s.clock := rfl
@[simp] theorem State.evLane_seqr (s : State) (c : EvClass) (n k : Nat) (d : Bytes) (g : Nat) : (s.evLane c n k d g).seqr = s.seqr := rfl
@[simp] theorem State.evLane_host (s : State) (c : EvClass) (n k : Nat) (d : Bytes) (g : Nat) : (s.evLane c n k d g).host = s.host := rfl
@[simp] theorem State.evLane_mx (s : State) (c : EvClass) (n k : Nat) (d : Bytes) (g : Nat) : (s.evLane c n k d g).mx = s.mx := rfl
@[simp] theorem State.evLane_lanes (s : State) (c : EvClass) (n k : Nat) (d : Bytes) (g : Nat) : (s.evLane c n k d g).lanes = s.lanes := rfl
@[simp] theorem State.evLane_hs (s : State) (c : EvClass) (n k : Nat) (d : Bytes) (g : Nat) : (s.evLane c n k d g).hs = s.hs := rfl
@[simp] theorem State.evLane_pp (s : State) (c : EvClass) (n k : Nat) (d : Bytes) (g : Nat) : (s.evLane c n k d g).pp = s.pp := rfl
@[simp] theorem State.evLane_ps (s : State) (c : EvClass) (n k : Nat) (d : Bytes) (g : Nat) : (s.evLane c n k d g).ps = s.ps := rfl
@[simp] theorem State.evLane_ef (s : State) (c : EvClass) (n k : Nat) (d : Bytes) (g : Nat) : (s.evLane c n k d g).ef = s.ef := rfl
@[simp] theorem State.evLane_mt (s : State) (c : EvClass) (n k : Nat) (d : Bytes) (g : Nat) : (s.evLane c n k d g).mt = s.mt := rfl
@[simp] theorem State.evLane_en (s : State) (c : EvClass) (n k : Nat) (d : Bytes) (g : Nat) : (s.evLane c n k d g).en = s.en := rfl
@[simp] theorem State.evLane_sf (s : State) (c : EvClass) (n k : Nat) (d : Bytes) (g : Nat) : (s.evLane c n k d g).sf = s.sf := rfl
@[simp] theorem State.evLane_po (s : State) (c : EvClass) (n k : Nat) (d : Bytes) (g : Nat) : (s.evLane c n k d g).po = s.po := rfl
@[simp] theorem State.evLane_rd (s : State) (c : EvClass) (n k : Nat) (d : Bytes) (g : Nat) : (s.evLane c n k d g).rd = s.rd := rfl
@[simp] theorem State.evLane_bl (s : State) (c : EvClass) (n k : Nat) (d : Bytes) (g : Nat) : (s.evLane c n k d g).bl = s.bl := rfl
@[simp] theorem State.evLane_ac (s : State) (c : EvClass) (n k : Nat) (d : Bytes) (g : Nat) : (s.evLane c n k d g).ac = s.ac := rfl
@[simp] theorem State.evLane_cosem (s : State) (c : EvClass) (n k : Nat) (d : Bytes) (g : Nat) : (s.evLane c n k d g).cosem = s.cosem := rfl
@[simp] theorem State.evLane_kv (s : State) (c : EvClass) (n k : Nat) (d : Bytes) (g : Nat) : (s.evLane c n k d g).kv = s.kv := rfl
@[simp] theorem State.evLane_kz (s : State) (c : EvClass) (n k : Nat) (d : Bytes) (g : Nat) : (s.evLane c n k d g).kz = s.kz := rfl
@[simp] theorem State.evLane_tg (s : State) (c : EvClass) (n k : Nat) (d : Bytes) (g : Nat) : (s.evLane c n k d g).tg = s.tg := rfl
@[simp] theorem State.evLane_ds (s : State) (c : EvClass) (n k : Nat) (d : Bytes) (g : Nat) : (s.evLane c n k d g).ds = s.ds := rfl
@[simp] theorem State.evLane_mm (s : State) (c : EvClass) (n k : Nat) (d : Bytes) (g : Nat) : (s.evLane c n k d g).mm = s.mm := rfl
@[simp] theorem State.evLane_pw (s : State) (c : EvClass) (n k : Nat) (d : Bytes) (g : Nat) : (s.evLane c n k d g).pw = s.pw := rfl
@[simp] theorem State.evLane_up (s : State) (c : EvClass) (n k : Nat) (d : Bytes) (g : Nat) : (s.evLane c n k d g).up = s.up := rfl
@[simp] theorem State.evLane_mon (s : State) (c : EvClass) (n k : Nat) (d : Bytes) (g : Nat) : (s.evLane c n k d g).mon = s.mon := rfl
@[simp] theorem State.evLane_rs (s : State) (c : EvClass) (n k : Nat) (d : Bytes) (g : Nat) : (s.evLane c n k d g).rs = s.rs := rfl
@[simp] theorem State.evLane_draws (s : State) (c : EvClass) (n k : Nat) (d : Bytes) (g : Nat) : (s.evLane c n k d g).draws = s.draws := rfl
@[simp] theorem State.evLane_pending (s : State) (c : EvClass) (n k : Nat) (d : Bytes) (g : Nat) : (s.evLane c n k d g).pending = s.pending := rfl

/-! ### evMod -/

@[simp] theorem State.evMod_ident (s : State) (c : EvClass) (x u k : Nat) (d : Bytes) (g : Nat) : (s.evMod c x u k d g).ident = s.ident := rfl
@[simp] theorem State.evMod_clock (s : State) (c : EvClass) (x u k : Nat) (d : Bytes) (g : Nat) : (s.evMod c x u k d g).clock = s.clock := rfl
@[simp] theorem State.evMod_seqr (s : State) (c : EvClass) (x u k : Nat) (d : Bytes) (g : Nat) : (s.evMod c x u k d g).seqr = s.seqr := rfl
@[simp] theorem State.evMod_host (s : State) (c : EvClass) (x u k : Nat) (d : Bytes) (g : Nat) : (s.evMod c x u k d g).host = s.host := rfl
@[simp] theorem State.evMod_mx (s : State) (c : EvClass) (x u k : Nat) (d : Bytes) (g : Nat) : (s.evMod c x u k d g).mx = s.mx := rfl
@[simp] theorem State.evMod_lanes (s : State) (c : EvClass) (x u k : Nat) (d : Bytes) (g : Nat) : (s.evMod c x u k d g).lanes = s.lanes := rfl
@[simp] theorem State.evMod_hs (s : State) (c : EvClass) (x u k : Nat) (d : Bytes) (g : Nat) : (s.evMod c x u k d g).hs = s.hs := rfl
@[simp] theorem State.evMod_pp (s : State) (c : EvClass) (x u k : Nat) (d : Bytes) (g : Nat) : (s.evMod c x u k d g).pp = s.pp := rfl
@[simp] theorem State.evMod_ps (s : State) (c : EvClass) (x u k : Nat) (d : Bytes) (g : Nat) : (s.evMod c x u k d g).ps = s.ps := rfl
@[simp] theorem State.evMod_ef (s : State) (c : EvClass) (x u k : Nat) (d : Bytes) (g : Nat) : (s.evMod c x u k d g).ef = s.ef := rfl
@[simp] theorem State.evMod_mt (s : State) (c : EvClass) (x u k : Nat) (d : Bytes) (g : Nat) : (s.evMod c x u k d g).mt = s.mt := rfl
@[simp] theorem State.evMod_en (s : State) (c : EvClass) (x u k : Nat) (d : Bytes) (g : Nat) : (s.evMod c x u k d g).en = s.en := rfl
@[simp] theorem State.evMod_sf (s : State) (c : EvClass) (x u k : Nat) (d : Bytes) (g : Nat) : (s.evMod c x u k d g).sf = s.sf := rfl
@[simp] theorem State.evMod_po (s : State) (c : EvClass) (x u k : Nat) (d : Bytes) (g : Nat) : (s.evMod c x u k d g).po = s.po := rfl
@[simp] theorem State.evMod_rd (s : State) (c : EvClass) (x u k : Nat) (d : Bytes) (g : Nat) : (s.evMod c x u k d g).rd = s.rd := rfl
@[simp] theorem State.evMod_bl (s : State) (c : EvClass) (x u k : Nat) (d : Bytes) (g : Nat) : (s.evMod c x u k d g).bl = s.bl := rfl
@[simp] theorem State.evMod_ac (s : State) (c : EvClass) (x u k : Nat) (d : Bytes) (g : Nat) : (s.evMod c x u k d g).ac = s.ac := rfl
@[simp] theorem State.evMod_cosem (s : State) (c : EvClass) (x u k : Nat) (d : Bytes) (g : Nat) : (s.evMod c x u k d g).cosem = s.cosem := rfl
@[simp] theorem State.evMod_kv (s : State) (c : EvClass) (x u k : Nat) (d : Bytes) (g : Nat) : (s.evMod c x u k d g).kv = s.kv := rfl
@[simp] theorem State.evMod_kz (s : State) (c : EvClass) (x u k : Nat) (d : Bytes) (g : Nat) : (s.evMod c x u k d g).kz = s.kz := rfl
@[simp] theorem State.evMod_tg (s : State) (c : EvClass) (x u k : Nat) (d : Bytes) (g : Nat) : (s.evMod c x u k d g).tg = s.tg := rfl
@[simp] theorem State.evMod_ds (s : State) (c : EvClass) (x u k : Nat) (d : Bytes) (g : Nat) : (s.evMod c x u k d g).ds = s.ds := rfl
@[simp] theorem State.evMod_mm (s : State) (c : EvClass) (x u k : Nat) (d : Bytes) (g : Nat) : (s.evMod c x u k d g).mm = s.mm := rfl
@[simp] theorem State.evMod_pw (s : State) (c : EvClass) (x u k : Nat) (d : Bytes) (g : Nat) : (s.evMod c x u k d g).pw = s.pw := rfl
@[simp] theorem State.evMod_up (s : State) (c : EvClass) (x u k : Nat) (d : Bytes) (g : Nat) : (s.evMod c x u k d g).up = s.up := rfl
@[simp] theorem State.evMod_mon (s : State) (c : EvClass) (x u k : Nat) (d : Bytes) (g : Nat) : (s.evMod c x u k d g).mon = s.mon := rfl
@[simp] theorem State.evMod_rs (s : State) (c : EvClass) (x u k : Nat) (d : Bytes) (g : Nat) : (s.evMod c x u k d g).rs = s.rs := rfl
@[simp] theorem State.evMod_draws (s : State) (c : EvClass) (x u k : Nat) (d : Bytes) (g : Nat) : (s.evMod c x u k d g).draws = s.draws := rfl
@[simp] theorem State.evMod_pending (s : State) (c : EvClass) (x u k : Nat) (d : Bytes) (g : Nat) : (s.evMod c x u k d g).pending = s.pending := rfl

/-! ### startTimer -/

@[simp] theorem State.startTimer_ident (s : State) (n k d : Nat) : (s.startTimer n k d).ident = s.ident := rfl
@[simp] theorem State.startTimer_clock (s : State) (n k d : Nat) : (s.startTimer n k d).clock = s.clock := rfl
@[simp] theorem State.startTimer_seqr (s : State) (n k d : Nat) : (s.startTimer n k d).seqr = s.seqr := rfl
@[simp] theorem State.startTimer_host (s : State) (n k d : Nat) : (s.startTimer n k d).host = s.host := rfl
@[simp] theorem State.startTimer_mx (s : State) (n k d : Nat) : (s.startTimer n k d).mx = s.mx := rfl
@[simp] theorem State.startTimer_hs (s : State) (n k d : Nat) : (s.startTimer n k d).hs = s.hs := rfl
@[simp] theorem State.startTimer_pp (s : State) (n k d : Nat) : (s.startTimer n k d).pp = s.pp := rfl
@[simp] theorem State.startTimer_ps (s : State) (n k d : Nat) : (s.startTimer n k d).ps = s.ps := rfl
@[simp] theorem State.startTimer_ef (s : State) (n k d : Nat) : (s.startTimer n k d).ef = s.ef := rfl
@[simp] theorem State.startTimer_mt (s : State) (n k d : Nat) : (s.startTimer n k d).mt = s.mt := rfl
@[simp] theorem State.startTimer_en (s : State) (n k d : Nat) : (s.startTimer n k d).en = s.en := rfl
@[simp] theorem State.startTimer_sf (s : State) (n k d : Nat) : (s.startTimer n k d).sf = s.sf := rfl
@[simp] theorem State.startTimer_po (s : State) (n k d : Nat) : (s.startTimer n k d).po = s.po := rfl
@[simp] theorem State.startTimer_rd (s : State) (n k d : Nat) : (s.startTimer n k d).rd = s.rd := rfl
@[simp] theorem State.startTimer_bl (s : State) (n k d : Nat) : (s.startTimer n k d).bl = s.bl := rfl
@[simp] theorem State.startTimer_ac (s : State) (n k d : Nat) : (s.startTimer n k d).ac = s.ac := rfl
@[simp] theorem State.startTimer_cosem (s : State) (n k d : Nat) : (s.startTimer n k d).cosem = s.cosem := rfl
@[simp] theorem State.startTimer_kv (s : State) (n k d : Nat) : (s.startTimer n k d).kv = s.kv := rfl
@[simp] theorem State.startTimer_kz (s : State) (n k d : Nat) : (s.startTimer n k d).kz = s.kz := rfl
@[simp] theorem State.startTimer_tg (s : State) (n k d : Nat) : (s.startTimer n k d).tg = s.tg := rfl
@[simp] theorem State.startTimer_ds (s : State) (n k d : Nat) : (s.startTimer n k d).ds = s.ds := rfl
@[simp] theorem State.startTimer_mm (s : State) (n k d : Nat) : (s.startTimer n k d).mm = s.mm := rfl
@[simp] theorem State.startTimer_pw (s : State) (n k d : Nat) : (s.startTimer n k d).pw = s.pw := rfl
@[simp] theorem State.startTimer_up (s : State) (n k d : Nat) : (s.startTimer n k d).up = s.up := rfl
@[simp] theorem State.startTimer_mon (s : State) (n k d : Nat) : (s.startTimer n k d).mon = s.mon := rfl
@[simp] theorem State.startTimer_rs (s : State) (n k d : Nat) : (s.startTimer n k d).rs = s.rs := rfl
@[simp] theorem State.startTimer_emits (s : State) (n k d : Nat) : (s.startTimer n k d).emits = s.emits := rfl
@[simp] theorem State.startTimer_draws (s : State) (n k d : Nat) : (s.startTimer n k d).draws = s.draws := rfl
@[simp] theorem State.startTimer_pending (s : State) (n k d : Nat) : (s.startTimer n k d).pending = s.pending := rfl

/-! ### stopTimer -/

@[simp] theorem State.stopTimer_ident (s : State) (n k : Nat) : (s.stopTimer n k).ident = s.ident := rfl
@[simp] theorem State.stopTimer_clock (s : State) (n k : Nat) : (s.stopTimer n k).clock = s.clock := rfl
@[simp] theorem State.stopTimer_seqr (s : State) (n k : Nat) : (s.stopTimer n k).seqr = s.seqr := rfl
@[simp] theorem State.stopTimer_host (s : State) (n k : Nat) : (s.stopTimer n k).host = s.host := rfl
@[simp] theorem State.stopTimer_mx (s : State) (n k : Nat) : (s.stopTimer n k).mx = s.mx := rfl
@[simp] theorem State.stopTimer_hs (s : State) (n k : Nat) : (s.stopTimer n k).hs = s.hs := rfl
@[simp] theorem State.stopTimer_pp (s : State) (n k : Nat) : (s.stopTimer n k).pp = s.pp := rfl
@[simp] theorem State.stopTimer_ps (s : State) (n k : Nat) : (s.stopTimer n k).ps = s.ps := rfl
@[simp] theorem State.stopTimer_ef (s : State) (n k : Nat) : (s.stopTimer n k).ef = s.ef := rfl
@[simp] theorem State.stopTimer_mt (s : State) (n k : Nat) : (s.stopTimer n k).mt = s.mt := rfl
@[simp] theorem State.stopTimer_en (s : State) (n k : Nat) : (s.stopTimer n k).en = s.en := rfl
@[simp] theorem State.stopTimer_sf (s : State) (n k : Nat) : (s.stopTimer n k).sf = s.sf := rfl
@[simp] theorem State.stopTimer_po (s : State) (n k : Nat) : (s.stopTimer n k).po = s.po := rfl
@[simp] theorem State.stopTimer_rd (s : State) (n k : Nat) : (s.stopTimer n k).rd = s.rd := rfl
@[simp] theorem State.stopTimer_bl (s : State) (n k : Nat) : (s.stopTimer n k).bl = s.bl := rfl
@[simp] theorem State.stopTimer_ac (s : State) (n k : Nat) : (s.stopTimer n k).ac = s.ac := rfl
@[simp] theorem State.stopTimer_cosem (s : State) (n k : Nat) : (s.stopTimer n k).cosem = s.cosem := rfl
@[simp] theorem State.stopTimer_kv (s : State) (n k : Nat) : (s.stopTimer n k).kv = s.kv := rfl
@[simp] theorem State.stopTimer_kz (s : State) (n k : Nat) : (s.stopTimer n k).kz = s.kz := rfl
@[simp] theorem State.stopTimer_tg (s : State) (n k : Nat) : (s.stopTimer n k).tg = s.tg := rfl
@[simp] theorem State.stopTimer_ds (s : State) (n k : Nat) : (s.stopTimer n k).ds = s.ds := rfl
@[simp] theorem State.stopTimer_mm (s : State) (n k : Nat) : (s.stopTimer n k).mm = s.mm := rfl
@[simp] theorem State.stopTimer_pw (s : State) (n k : Nat) : (s.stopTimer n k).pw = s.pw := rfl
@[simp] theorem State.stopTimer_up (s : State) (n k : Nat) : (s.stopTimer n k).up = s.up := rfl
@[simp] theorem State.stopTimer_mon (s : State) (n k : Nat) : (s.stopTimer n k).mon = s.mon := rfl
@[simp] theorem State.stopTimer_rs (s : State) (n k : Nat) : (s.stopTimer n k).rs = s.rs := rfl
@[simp] theorem State.stopTimer_emits (s : State) (n k : Nat) : (s.stopTimer n k).emits = s.emits := rfl
@[simp] theorem State.stopTimer_draws (s : State) (n k : Nat) : (s.stopTimer n k).draws = s.draws := rfl
@[simp] theorem State.stopTimer_pending (s : State) (n k : Nat) : (s.stopTimer n k).pending = s.pending := rfl

/-! ### laneState -/

@[simp] theorem State.laneState_ident (s : State) (c : EvClass) (n : Nat) (x : Cause) : (s.laneState c n x).ident = s.ident := rfl
@[simp] theorem State.laneState_clock (s : State) (c : EvClass) (n : Nat) (x : Cause) : (s.laneState c n x).clock = s.clock := rfl
@[simp] theorem State.laneState_seqr (s : State) (c : EvClass) (n : Nat) (x : Cause) : (s.laneState c n x).seqr = s.seqr := rfl
@[simp] theorem State.laneState_host (s : State) (c : EvClass) (n : Nat) (x : Cause) : (s.laneState c n x).host = s.host := rfl
@[simp] theorem State.laneState_mx (s : State) (c : EvClass) (n : Nat) (x : Cause) : (s.laneState c n x).mx = s.mx := rfl
@[simp] theorem State.laneState_lanes (s : State) (c : EvClass) (n : Nat) (x : Cause) : (s.laneState c n x).lanes = s.lanes := rfl
@[simp] theorem State.laneState_hs (s : State) (c : EvClass) (n : Nat) (x : Cause) : (s.laneState c n x).hs = s.hs := rfl
@[simp] theorem State.laneState_pp (s : State) (c : EvClass) (n : Nat) (x : Cause) : (s.laneState c n x).pp = s.pp := rfl
@[simp] theorem State.laneState_ps (s : State) (c : EvClass) (n : Nat) (x : Cause) : (s.laneState c n x).ps = s.ps := rfl
@[simp] theorem State.laneState_ef (s : State) (c : EvClass) (n : Nat) (x : Cause) : (s.laneState c n x).ef = s.ef := rfl
@[simp] theorem State.laneState_mt (s : State) (c : EvClass) (n : Nat) (x : Cause) : (s.laneState c n x).mt = s.mt := rfl
@[simp] theorem State.laneState_en (s : State) (c : EvClass) (n : Nat) (x : Cause) : (s.laneState c n x).en = s.en := rfl
@[simp] theorem State.laneState_sf (s : State) (c : EvClass) (n : Nat) (x : Cause) : (s.laneState c n x).sf = s.sf := rfl
@[simp] theorem State.laneState_po (s : State) (c : EvClass) (n : Nat) (x : Cause) : (s.laneState c n x).po = s.po := rfl
@[simp] theorem State.laneState_rd (s : State) (c : EvClass) (n : Nat) (x : Cause) : (s.laneState c n x).rd = s.rd := rfl
@[simp] theorem State.laneState_bl (s : State) (c : EvClass) (n : Nat) (x : Cause) : (s.laneState c n x).bl = s.bl := rfl
@[simp] theorem State.laneState_ac (s : State) (c : EvClass) (n : Nat) (x : Cause) : (s.laneState c n x).ac = s.ac := rfl
@[simp] theorem State.laneState_cosem (s : State) (c : EvClass) (n : Nat) (x : Cause) : (s.laneState c n x).cosem = s.cosem := rfl
@[simp] theorem State.laneState_kv (s : State) (c : EvClass) (n : Nat) (x : Cause) : (s.laneState c n x).kv = s.kv := rfl
@[simp] theorem State.laneState_kz (s : State) (c : EvClass) (n : Nat) (x : Cause) : (s.laneState c n x).kz = s.kz := rfl
@[simp] theorem State.laneState_tg (s : State) (c : EvClass) (n : Nat) (x : Cause) : (s.laneState c n x).tg = s.tg := rfl
@[simp] theorem State.laneState_ds (s : State) (c : EvClass) (n : Nat) (x : Cause) : (s.laneState c n x).ds = s.ds := rfl
@[simp] theorem State.laneState_mm (s : State) (c : EvClass) (n : Nat) (x : Cause) : (s.laneState c n x).mm = s.mm := rfl
@[simp] theorem State.laneState_pw (s : State) (c : EvClass) (n : Nat) (x : Cause) : (s.laneState c n x).pw = s.pw := rfl
@[simp] theorem State.laneState_up (s : State) (c : EvClass) (n : Nat) (x : Cause) : (s.laneState c n x).up = s.up := rfl
@[simp] theorem State.laneState_mon (s : State) (c : EvClass) (n : Nat) (x : Cause) : (s.laneState c n x).mon = s.mon := rfl
@[simp] theorem State.laneState_rs (s : State) (c : EvClass) (n : Nat) (x : Cause) : (s.laneState c n x).rs = s.rs := rfl
@[simp] theorem State.laneState_draws (s : State) (c : EvClass) (n : Nat) (x : Cause) : (s.laneState c n x).draws = s.draws := rfl
@[simp] theorem State.laneState_pending (s : State) (c : EvClass) (n : Nat) (x : Cause) : (s.laneState c n x).pending = s.pending := rfl

/-! ### evContactor -/

@[simp] theorem State.evContactor_ident (s : State) (n f c r m : Nat) : (s.evContactor n f c r m).ident = s.ident := rfl
@[simp] theorem State.evContactor_clock (s : State) (n f c r m : Nat) : (s.evContactor n f c r m).clock = s.clock := rfl
@[simp] theorem State.evContactor_seqr (s : State) (n f c r m : Nat) : (s.evContactor n f c r m).seqr = s.seqr := rfl
@[simp] theorem State.evContactor_host (s : State) (n f c r m : Nat) : (s.evContactor n f c r m).host = s.host := rfl
@[simp] theorem State.evContactor_mx (s : State) (n f c r m : Nat) : (s.evContactor n f c r m).mx = s.mx := rfl
@[simp] theorem State.evContactor_lanes (s : State) (n f c r m : Nat) : (s.evContactor n f c r m).lanes = s.lanes := rfl
@[simp] theorem State.evContactor_hs (s : State) (n f c r m : Nat) : (s.evContactor n f c r m).hs = s.hs := rfl
@[simp] theorem State.evContactor_pp (s : State) (n f c r m : Nat) : (s.evContactor n f c r m).pp = s.pp := rfl
@[simp] theorem State.evContactor_ps (s : State) (n f c r m : Nat) : (s.evContactor n f c r m).ps = s.ps := rfl
@[simp] theorem State.evContactor_ef (s : State) (n f c r m : Nat) : (s.evContactor n f c r m).ef = s.ef := rfl
@[simp] theorem State.evContactor_mt (s : State) (n f c r m : Nat) : (s.evContactor n f c r m).mt = s.mt := rfl
@[simp] theorem State.evContactor_en (s : State) (n f c r m : Nat) : (s.evContactor n f c r m).en = s.en := rfl
@[simp] theorem State.evContactor_sf (s : State) (n f c r m : Nat) : (s.evContactor n f c r m).sf = s.sf := rfl
@[simp] theorem State.evContactor_po (s : State) (n f c r m : Nat) : (s.evContactor n f c r m).po = s.po := rfl
@[simp] theorem State.evContactor_rd (s : State) (n f c r m : Nat) : (s.evContactor n f c r m).rd = s.rd := rfl
@[simp] theorem State.evContactor_bl (s : State) (n f c r m : Nat) : (s.evContactor n f c r m).bl = s.bl := rfl
@[simp] theorem State.evContactor_ac (s : State) (n f c r m : Nat) : (s.evContactor n f c r m).ac = s.ac := rfl
@[simp] theorem State.evContactor_cosem (s : State) (n f c r m : Nat) : (s.evContactor n f c r m).cosem = s.cosem := rfl
@[simp] theorem State.evContactor_kv (s : State) (n f c r m : Nat) : (s.evContactor n f c r m).kv = s.kv := rfl
@[simp] theorem State.evContactor_kz (s : State) (n f c r m : Nat) : (s.evContactor n f c r m).kz = s.kz := rfl
@[simp] theorem State.evContactor_tg (s : State) (n f c r m : Nat) : (s.evContactor n f c r m).tg = s.tg := rfl
@[simp] theorem State.evContactor_ds (s : State) (n f c r m : Nat) : (s.evContactor n f c r m).ds = s.ds := rfl
@[simp] theorem State.evContactor_mm (s : State) (n f c r m : Nat) : (s.evContactor n f c r m).mm = s.mm := rfl
@[simp] theorem State.evContactor_pw (s : State) (n f c r m : Nat) : (s.evContactor n f c r m).pw = s.pw := rfl
@[simp] theorem State.evContactor_up (s : State) (n f c r m : Nat) : (s.evContactor n f c r m).up = s.up := rfl
@[simp] theorem State.evContactor_mon (s : State) (n f c r m : Nat) : (s.evContactor n f c r m).mon = s.mon := rfl
@[simp] theorem State.evContactor_rs (s : State) (n f c r m : Nat) : (s.evContactor n f c r m).rs = s.rs := rfl
@[simp] theorem State.evContactor_draws (s : State) (n f c r m : Nat) : (s.evContactor n f c r m).draws = s.draws := rfl
@[simp] theorem State.evContactor_pending (s : State) (n f c r m : Nat) : (s.evContactor n f c r m).pending = s.pending := rfl

/-! ### evLock -/

@[simp] theorem State.evLock_ident (s : State) (n a r m : Nat) : (s.evLock n a r m).ident = s.ident := rfl
@[simp] theorem State.evLock_clock (s : State) (n a r m : Nat) : (s.evLock n a r m).clock = s.clock := rfl
@[simp] theorem State.evLock_seqr (s : State) (n a r m : Nat) : (s.evLock n a r m).seqr = s.seqr := rfl
@[simp] theorem State.evLock_host (s : State) (n a r m : Nat) : (s.evLock n a r m).host = s.host := rfl
@[simp] theorem State.evLock_mx (s : State) (n a r m : Nat) : (s.evLock n a r m).mx = s.mx := rfl
@[simp] theorem State.evLock_lanes (s : State) (n a r m : Nat) : (s.evLock n a r m).lanes = s.lanes := rfl
@[simp] theorem State.evLock_hs (s : State) (n a r m : Nat) : (s.evLock n a r m).hs = s.hs := rfl
@[simp] theorem State.evLock_pp (s : State) (n a r m : Nat) : (s.evLock n a r m).pp = s.pp := rfl
@[simp] theorem State.evLock_ps (s : State) (n a r m : Nat) : (s.evLock n a r m).ps = s.ps := rfl
@[simp] theorem State.evLock_ef (s : State) (n a r m : Nat) : (s.evLock n a r m).ef = s.ef := rfl
@[simp] theorem State.evLock_mt (s : State) (n a r m : Nat) : (s.evLock n a r m).mt = s.mt := rfl
@[simp] theorem State.evLock_en (s : State) (n a r m : Nat) : (s.evLock n a r m).en = s.en := rfl
@[simp] theorem State.evLock_sf (s : State) (n a r m : Nat) : (s.evLock n a r m).sf = s.sf := rfl
@[simp] theorem State.evLock_po (s : State) (n a r m : Nat) : (s.evLock n a r m).po = s.po := rfl
@[simp] theorem State.evLock_rd (s : State) (n a r m : Nat) : (s.evLock n a r m).rd = s.rd := rfl
@[simp] theorem State.evLock_bl (s : State) (n a r m : Nat) : (s.evLock n a r m).bl = s.bl := rfl
@[simp] theorem State.evLock_ac (s : State) (n a r m : Nat) : (s.evLock n a r m).ac = s.ac := rfl
@[simp] theorem State.evLock_cosem (s : State) (n a r m : Nat) : (s.evLock n a r m).cosem = s.cosem := rfl
@[simp] theorem State.evLock_kv (s : State) (n a r m : Nat) : (s.evLock n a r m).kv = s.kv := rfl
@[simp] theorem State.evLock_kz (s : State) (n a r m : Nat) : (s.evLock n a r m).kz = s.kz := rfl
@[simp] theorem State.evLock_tg (s : State) (n a r m : Nat) : (s.evLock n a r m).tg = s.tg := rfl
@[simp] theorem State.evLock_ds (s : State) (n a r m : Nat) : (s.evLock n a r m).ds = s.ds := rfl
@[simp] theorem State.evLock_mm (s : State) (n a r m : Nat) : (s.evLock n a r m).mm = s.mm := rfl
@[simp] theorem State.evLock_pw (s : State) (n a r m : Nat) : (s.evLock n a r m).pw = s.pw := rfl
@[simp] theorem State.evLock_up (s : State) (n a r m : Nat) : (s.evLock n a r m).up = s.up := rfl
@[simp] theorem State.evLock_mon (s : State) (n a r m : Nat) : (s.evLock n a r m).mon = s.mon := rfl
@[simp] theorem State.evLock_rs (s : State) (n a r m : Nat) : (s.evLock n a r m).rs = s.rs := rfl
@[simp] theorem State.evLock_draws (s : State) (n a r m : Nat) : (s.evLock n a r m).draws = s.draws := rfl
@[simp] theorem State.evLock_pending (s : State) (n a r m : Nat) : (s.evLock n a r m).pending = s.pending := rfl

/-! ### evChan -/

@[simp] theorem State.evChan_ident (s : State) (k c : Nat) (d : Bytes) : (s.evChan k c d).ident = s.ident := rfl
@[simp] theorem State.evChan_clock (s : State) (k c : Nat) (d : Bytes) : (s.evChan k c d).clock = s.clock := rfl
@[simp] theorem State.evChan_seqr (s : State) (k c : Nat) (d : Bytes) : (s.evChan k c d).seqr = s.seqr := rfl
@[simp] theorem State.evChan_host (s : State) (k c : Nat) (d : Bytes) : (s.evChan k c d).host = s.host := rfl
@[simp] theorem State.evChan_mx (s : State) (k c : Nat) (d : Bytes) : (s.evChan k c d).mx = s.mx := rfl
@[simp] theorem State.evChan_lanes (s : State) (k c : Nat) (d : Bytes) : (s.evChan k c d).lanes = s.lanes := rfl
@[simp] theorem State.evChan_hs (s : State) (k c : Nat) (d : Bytes) : (s.evChan k c d).hs = s.hs := rfl
@[simp] theorem State.evChan_pp (s : State) (k c : Nat) (d : Bytes) : (s.evChan k c d).pp = s.pp := rfl
@[simp] theorem State.evChan_ps (s : State) (k c : Nat) (d : Bytes) : (s.evChan k c d).ps = s.ps := rfl
@[simp] theorem State.evChan_ef (s : State) (k c : Nat) (d : Bytes) : (s.evChan k c d).ef = s.ef := rfl
@[simp] theorem State.evChan_mt (s : State) (k c : Nat) (d : Bytes) : (s.evChan k c d).mt = s.mt := rfl
@[simp] theorem State.evChan_en (s : State) (k c : Nat) (d : Bytes) : (s.evChan k c d).en = s.en := rfl
@[simp] theorem State.evChan_sf (s : State) (k c : Nat) (d : Bytes) : (s.evChan k c d).sf = s.sf := rfl
@[simp] theorem State.evChan_po (s : State) (k c : Nat) (d : Bytes) : (s.evChan k c d).po = s.po := rfl
@[simp] theorem State.evChan_rd (s : State) (k c : Nat) (d : Bytes) : (s.evChan k c d).rd = s.rd := rfl
@[simp] theorem State.evChan_bl (s : State) (k c : Nat) (d : Bytes) : (s.evChan k c d).bl = s.bl := rfl
@[simp] theorem State.evChan_ac (s : State) (k c : Nat) (d : Bytes) : (s.evChan k c d).ac = s.ac := rfl
@[simp] theorem State.evChan_cosem (s : State) (k c : Nat) (d : Bytes) : (s.evChan k c d).cosem = s.cosem := rfl
@[simp] theorem State.evChan_kv (s : State) (k c : Nat) (d : Bytes) : (s.evChan k c d).kv = s.kv := rfl
@[simp] theorem State.evChan_kz (s : State) (k c : Nat) (d : Bytes) : (s.evChan k c d).kz = s.kz := rfl
@[simp] theorem State.evChan_tg (s : State) (k c : Nat) (d : Bytes) : (s.evChan k c d).tg = s.tg := rfl
@[simp] theorem State.evChan_ds (s : State) (k c : Nat) (d : Bytes) : (s.evChan k c d).ds = s.ds := rfl
@[simp] theorem State.evChan_mm (s : State) (k c : Nat) (d : Bytes) : (s.evChan k c d).mm = s.mm := rfl
@[simp] theorem State.evChan_pw (s : State) (k c : Nat) (d : Bytes) : (s.evChan k c d).pw = s.pw := rfl
@[simp] theorem State.evChan_up (s : State) (k c : Nat) (d : Bytes) : (s.evChan k c d).up = s.up := rfl
@[simp] theorem State.evChan_mon (s : State) (k c : Nat) (d : Bytes) : (s.evChan k c d).mon = s.mon := rfl
@[simp] theorem State.evChan_rs (s : State) (k c : Nat) (d : Bytes) : (s.evChan k c d).rs = s.rs := rfl
@[simp] theorem State.evChan_draws (s : State) (k c : Nat) (d : Bytes) : (s.evChan k c d).draws = s.draws := rfl
@[simp] theorem State.evChan_pending (s : State) (k c : Nat) (d : Bytes) : (s.evChan k c d).pending = s.pending := rfl

/-! ### onEn -/

@[simp] theorem State.onEn_ident (s : State) (c : Bool) (n : Nat) (f : EnSet → EnSet) : (s.onEn c n f).ident = s.ident := by
  cases c <;> rfl
@[simp] theorem State.onEn_clock (s : State) (c : Bool) (n : Nat) (f : EnSet → EnSet) : (s.onEn c n f).clock = s.clock := by
  cases c <;> rfl
@[simp] theorem State.onEn_seqr (s : State) (c : Bool) (n : Nat) (f : EnSet → EnSet) : (s.onEn c n f).seqr = s.seqr := by
  cases c <;> rfl
@[simp] theorem State.onEn_host (s : State) (c : Bool) (n : Nat) (f : EnSet → EnSet) : (s.onEn c n f).host = s.host := by
  cases c <;> rfl
@[simp] theorem State.onEn_mx (s : State) (c : Bool) (n : Nat) (f : EnSet → EnSet) : (s.onEn c n f).mx = s.mx := by
  cases c <;> rfl
@[simp] theorem State.onEn_lanes (s : State) (c : Bool) (n : Nat) (f : EnSet → EnSet) : (s.onEn c n f).lanes = s.lanes := by
  cases c <;> rfl
@[simp] theorem State.onEn_hs (s : State) (c : Bool) (n : Nat) (f : EnSet → EnSet) : (s.onEn c n f).hs = s.hs := by
  cases c <;> rfl
@[simp] theorem State.onEn_pp (s : State) (c : Bool) (n : Nat) (f : EnSet → EnSet) : (s.onEn c n f).pp = s.pp := by
  cases c <;> rfl
@[simp] theorem State.onEn_ps (s : State) (c : Bool) (n : Nat) (f : EnSet → EnSet) : (s.onEn c n f).ps = s.ps := by
  cases c <;> rfl
@[simp] theorem State.onEn_ef (s : State) (c : Bool) (n : Nat) (f : EnSet → EnSet) : (s.onEn c n f).ef = s.ef := by
  cases c <;> rfl
@[simp] theorem State.onEn_mt (s : State) (c : Bool) (n : Nat) (f : EnSet → EnSet) : (s.onEn c n f).mt = s.mt := by
  cases c <;> rfl
@[simp] theorem State.onEn_sf (s : State) (c : Bool) (n : Nat) (f : EnSet → EnSet) : (s.onEn c n f).sf = s.sf := by
  cases c <;> rfl
@[simp] theorem State.onEn_po (s : State) (c : Bool) (n : Nat) (f : EnSet → EnSet) : (s.onEn c n f).po = s.po := by
  cases c <;> rfl
@[simp] theorem State.onEn_rd (s : State) (c : Bool) (n : Nat) (f : EnSet → EnSet) : (s.onEn c n f).rd = s.rd := by
  cases c <;> rfl
@[simp] theorem State.onEn_bl (s : State) (c : Bool) (n : Nat) (f : EnSet → EnSet) : (s.onEn c n f).bl = s.bl := by
  cases c <;> rfl
@[simp] theorem State.onEn_ac (s : State) (c : Bool) (n : Nat) (f : EnSet → EnSet) : (s.onEn c n f).ac = s.ac := by
  cases c <;> rfl
@[simp] theorem State.onEn_cosem (s : State) (c : Bool) (n : Nat) (f : EnSet → EnSet) : (s.onEn c n f).cosem = s.cosem := by
  cases c <;> rfl
@[simp] theorem State.onEn_kv (s : State) (c : Bool) (n : Nat) (f : EnSet → EnSet) : (s.onEn c n f).kv = s.kv := by
  cases c <;> rfl
@[simp] theorem State.onEn_kz (s : State) (c : Bool) (n : Nat) (f : EnSet → EnSet) : (s.onEn c n f).kz = s.kz := by
  cases c <;> rfl
@[simp] theorem State.onEn_tg (s : State) (c : Bool) (n : Nat) (f : EnSet → EnSet) : (s.onEn c n f).tg = s.tg := by
  cases c <;> rfl
@[simp] theorem State.onEn_ds (s : State) (c : Bool) (n : Nat) (f : EnSet → EnSet) : (s.onEn c n f).ds = s.ds := by
  cases c <;> rfl
@[simp] theorem State.onEn_mm (s : State) (c : Bool) (n : Nat) (f : EnSet → EnSet) : (s.onEn c n f).mm = s.mm := by
  cases c <;> rfl
@[simp] theorem State.onEn_pw (s : State) (c : Bool) (n : Nat) (f : EnSet → EnSet) : (s.onEn c n f).pw = s.pw := by
  cases c <;> rfl
@[simp] theorem State.onEn_up (s : State) (c : Bool) (n : Nat) (f : EnSet → EnSet) : (s.onEn c n f).up = s.up := by
  cases c <;> rfl
@[simp] theorem State.onEn_mon (s : State) (c : Bool) (n : Nat) (f : EnSet → EnSet) : (s.onEn c n f).mon = s.mon := by
  cases c <;> rfl
@[simp] theorem State.onEn_rs (s : State) (c : Bool) (n : Nat) (f : EnSet → EnSet) : (s.onEn c n f).rs = s.rs := by
  cases c <;> rfl
@[simp] theorem State.onEn_emits (s : State) (c : Bool) (n : Nat) (f : EnSet → EnSet) : (s.onEn c n f).emits = s.emits := by
  cases c <;> rfl
@[simp] theorem State.onEn_draws (s : State) (c : Bool) (n : Nat) (f : EnSet → EnSet) : (s.onEn c n f).draws = s.draws := by
  cases c <;> rfl
@[simp] theorem State.onEn_pending (s : State) (c : Bool) (n : Nat) (f : EnSet → EnSet) : (s.onEn c n f).pending = s.pending := by
  cases c <;> rfl

/-! ### What the end of a command keeps -/

@[simp] theorem State.after_ident (s t : State) : (s.after t).ident = t.ident := rfl
@[simp] theorem State.after_clock (s t : State) : (s.after t).clock = t.clock := rfl
@[simp] theorem State.after_host (s t : State) : (s.after t).host = t.host := rfl
@[simp] theorem State.after_mx (s t : State) : (s.after t).mx = t.mx := rfl
@[simp] theorem State.after_lanes (s t : State) : (s.after t).lanes = t.lanes := rfl
@[simp] theorem State.after_hs (s t : State) : (s.after t).hs = t.hs := rfl
@[simp] theorem State.after_pp (s t : State) : (s.after t).pp = t.pp := rfl
@[simp] theorem State.after_ps (s t : State) : (s.after t).ps = t.ps := rfl
@[simp] theorem State.after_ef (s t : State) : (s.after t).ef = t.ef := rfl
@[simp] theorem State.after_mt (s t : State) : (s.after t).mt = t.mt := rfl
@[simp] theorem State.after_en (s t : State) : (s.after t).en = t.en := rfl
@[simp] theorem State.after_sf (s t : State) : (s.after t).sf = t.sf := rfl
@[simp] theorem State.after_po (s t : State) : (s.after t).po = t.po := rfl
@[simp] theorem State.after_rd (s t : State) : (s.after t).rd = t.rd := rfl
@[simp] theorem State.after_bl (s t : State) : (s.after t).bl = t.bl := rfl
@[simp] theorem State.after_ac (s t : State) : (s.after t).ac = t.ac := rfl
@[simp] theorem State.after_cosem (s t : State) : (s.after t).cosem = t.cosem := rfl
@[simp] theorem State.after_kv (s t : State) : (s.after t).kv = t.kv := rfl
@[simp] theorem State.after_kz (s t : State) : (s.after t).kz = t.kz := rfl
@[simp] theorem State.after_tg (s t : State) : (s.after t).tg = t.tg := rfl
@[simp] theorem State.after_ds (s t : State) : (s.after t).ds = t.ds := rfl
@[simp] theorem State.after_mm (s t : State) : (s.after t).mm = t.mm := rfl
@[simp] theorem State.after_pw (s t : State) : (s.after t).pw = t.pw := rfl
@[simp] theorem State.after_up (s t : State) : (s.after t).up = t.up := rfl
@[simp] theorem State.after_rs (s t : State) : (s.after t).rs = t.rs := rfl
@[simp] theorem State.after_draws (s t : State) : (s.after t).draws = t.draws := rfl
@[simp] theorem State.after_pending (s t : State) : (s.after t).pending = s.pending := rfl
@[simp] theorem State.after_emits (s t : State) : (s.after t).emits = [] := rfl
@[simp] theorem State.after_seqr (s t : State) : (s.after t).seqr = s.seqr.absorb t.rd.active t.now t.emits := rfl

/-! ### What an update gives its place -/

theorem getD_modify_self {α : Type} (l : List α) (d : α) (f : α → α) {n : Nat} (h : n < l.length) :
    (l.modify n f).getD n d = f (l.getD n d) := by
  simp [List.getD, List.getElem?_eq_getElem h]

theorem getD_modify_ne {α : Type} (l : List α) (d : α) (f : α → α) {n m : Nat} (h : n ≠ m) :
    (l.modify n f).getD m d = l.getD m d := by
  simp [List.getD, h]

@[simp] theorem State.lane_onLane (s : State) {n : Nat} (f : Lane → Lane) (h : n < s.lanes.length) : (s.onLane n f).lane n = f (s.lane n) :=
  getD_modify_self _ _ _ h
theorem State.lane_onLane_ne (s : State) {n m : Nat} (f : Lane → Lane) (h : n ≠ m) : (s.onLane n f).lane m = s.lane m :=
  getD_modify_ne _ _ _ h
@[simp] theorem State.onLane_length (s : State) (n : Nat) (f : Lane → Lane) : (s.onLane n f).lanes.length = s.lanes.length := by
  simp [State.onLane]
@[simp] theorem State.hsl_onHs (s : State) {n : Nat} (f : HsLane → HsLane) (h : n < s.hs.lanes.length) : (s.onHs n f).hsl n = f (s.hsl n) :=
  getD_modify_self _ _ _ h
theorem State.hsl_onHs_ne (s : State) {n m : Nat} (f : HsLane → HsLane) (h : n ≠ m) : (s.onHs n f).hsl m = s.hsl m :=
  getD_modify_ne _ _ _ h
@[simp] theorem State.onHs_length (s : State) (n : Nat) (f : HsLane → HsLane) : (s.onHs n f).hs.lanes.length = s.hs.lanes.length := by
  simp [State.onHs]
@[simp] theorem State.ppl_onPp (s : State) {n : Nat} (f : PpLane → PpLane) (h : n < s.pp.lanes.length) : (s.onPp n f).ppl n = f (s.ppl n) :=
  getD_modify_self _ _ _ h
theorem State.ppl_onPp_ne (s : State) {n m : Nat} (f : PpLane → PpLane) (h : n ≠ m) : (s.onPp n f).ppl m = s.ppl m :=
  getD_modify_ne _ _ _ h
@[simp] theorem State.onPp_length (s : State) (n : Nat) (f : PpLane → PpLane) : (s.onPp n f).pp.lanes.length = s.pp.lanes.length := by
  simp [State.onPp]
@[simp] theorem State.can_onCan (s : State) {n : Nat} (f : PpCan → PpCan) (h : n < s.pp.cans.length) : (s.onCan n f).can n = f (s.can n) :=
  getD_modify_self _ _ _ h
theorem State.can_onCan_ne (s : State) {n m : Nat} (f : PpCan → PpCan) (h : n ≠ m) : (s.onCan n f).can m = s.can m :=
  getD_modify_ne _ _ _ h
@[simp] theorem State.onCan_length (s : State) (n : Nat) (f : PpCan → PpCan) : (s.onCan n f).pp.cans.length = s.pp.cans.length := by
  simp [State.onCan]
@[simp] theorem State.psl_onPs (s : State) {n : Nat} (f : PsLane → PsLane) (h : n < s.ps.lanes.length) : (s.onPs n f).psl n = f (s.psl n) :=
  getD_modify_self _ _ _ h
theorem State.psl_onPs_ne (s : State) {n m : Nat} (f : PsLane → PsLane) (h : n ≠ m) : (s.onPs n f).psl m = s.psl m :=
  getD_modify_ne _ _ _ h
@[simp] theorem State.onPs_length (s : State) (n : Nat) (f : PsLane → PsLane) : (s.onPs n f).ps.lanes.length = s.ps.lanes.length := by
  simp [State.onPs]
@[simp] theorem State.efg_onEfg (s : State) {n : Nat} (f : EfGroup → EfGroup) (h : n < s.ef.groups.length) : (s.onEfg n f).efg n = f (s.efg n) :=
  getD_modify_self _ _ _ h
theorem State.efg_onEfg_ne (s : State) {n m : Nat} (f : EfGroup → EfGroup) (h : n ≠ m) : (s.onEfg n f).efg m = s.efg m :=
  getD_modify_ne _ _ _ h
@[simp] theorem State.onEfg_length (s : State) (n : Nat) (f : EfGroup → EfGroup) : (s.onEfg n f).ef.groups.length = s.ef.groups.length := by
  simp [State.onEfg]
@[simp] theorem State.efl_onEfl (s : State) {n : Nat} (f : EfLane → EfLane) (h : n < s.ef.lanes.length) : (s.onEfl n f).efl n = f (s.efl n) :=
  getD_modify_self _ _ _ h
theorem State.efl_onEfl_ne (s : State) {n m : Nat} (f : EfLane → EfLane) (h : n ≠ m) : (s.onEfl n f).efl m = s.efl m :=
  getD_modify_ne _ _ _ h
@[simp] theorem State.onEfl_length (s : State) (n : Nat) (f : EfLane → EfLane) : (s.onEfl n f).ef.lanes.length = s.ef.lanes.length := by
  simp [State.onEfl]
@[simp] theorem State.chan_onChan (s : State) {n : Nat} (f : MtChan → MtChan) (h : n < s.mt.chans.length) : (s.onChan n f).chan n = f (s.chan n) :=
  getD_modify_self _ _ _ h
theorem State.chan_onChan_ne (s : State) {n m : Nat} (f : MtChan → MtChan) (h : n ≠ m) : (s.onChan n f).chan m = s.chan m :=
  getD_modify_ne _ _ _ h
@[simp] theorem State.onChan_length (s : State) (n : Nat) (f : MtChan → MtChan) : (s.onChan n f).mt.chans.length = s.mt.chans.length := by
  simp [State.onChan]
@[simp] theorem State.mtl_onMtl (s : State) {n : Nat} (f : MtLane → MtLane) (h : n < s.mt.lanes.length) : (s.onMtl n f).mtl n = f (s.mtl n) :=
  getD_modify_self _ _ _ h
theorem State.mtl_onMtl_ne (s : State) {n m : Nat} (f : MtLane → MtLane) (h : n ≠ m) : (s.onMtl n f).mtl m = s.mtl m :=
  getD_modify_ne _ _ _ h
@[simp] theorem State.onMtl_length (s : State) (n : Nat) (f : MtLane → MtLane) : (s.onMtl n f).mt.lanes.length = s.mt.lanes.length := by
  simp [State.onMtl]
@[simp] theorem State.pls_onPls (s : State) {n : Nat} (f : MtPulse → MtPulse) (h : n < s.mt.pulses.length) : (s.onPls n f).pls n = f (s.pls n) :=
  getD_modify_self _ _ _ h
theorem State.pls_onPls_ne (s : State) {n m : Nat} (f : MtPulse → MtPulse) (h : n ≠ m) : (s.onPls n f).pls m = s.pls m :=
  getD_modify_ne _ _ _ h
@[simp] theorem State.onPls_length (s : State) (n : Nat) (f : MtPulse → MtPulse) : (s.onPls n f).mt.pulses.length = s.mt.pulses.length := by
  simp [State.onPls]
@[simp] theorem State.sfl_onSfl (s : State) {n : Nat} (f : SfLane → SfLane) (h : n < s.sf.lanes.length) : (s.onSfl n f).sfl n = f (s.sfl n) :=
  getD_modify_self _ _ _ h
theorem State.sfl_onSfl_ne (s : State) {n m : Nat} (f : SfLane → SfLane) (h : n ≠ m) : (s.onSfl n f).sfl m = s.sfl m :=
  getD_modify_ne _ _ _ h
@[simp] theorem State.onSfl_length (s : State) (n : Nat) (f : SfLane → SfLane) : (s.onSfl n f).sf.lanes.length = s.sf.lanes.length := by
  simp [State.onSfl]
@[simp] theorem State.wat_onWatch (s : State) {n : Nat} (f : Watch → Watch) (h : n < s.sf.watch.length) : (s.onWatch n f).wat n = f (s.wat n) :=
  getD_modify_self _ _ _ h
theorem State.wat_onWatch_ne (s : State) {n m : Nat} (f : Watch → Watch) (h : n ≠ m) : (s.onWatch n f).wat m = s.wat m :=
  getD_modify_ne _ _ _ h
@[simp] theorem State.onWatch_length (s : State) (n : Nat) (f : Watch → Watch) : (s.onWatch n f).sf.watch.length = s.sf.watch.length := by
  simp [State.onWatch]
@[simp] theorem State.och_onCh (s : State) {n : Nat} (f : PoCh → PoCh) (h : n < s.po.chans.length) : (s.onCh n f).och n = f (s.och n) :=
  getD_modify_self _ _ _ h
theorem State.och_onCh_ne (s : State) {n m : Nat} (f : PoCh → PoCh) (h : n ≠ m) : (s.onCh n f).och m = s.och m :=
  getD_modify_ne _ _ _ h
@[simp] theorem State.onCh_length (s : State) (n : Nat) (f : PoCh → PoCh) : (s.onCh n f).po.chans.length = s.po.chans.length := by
  simp [State.onCh]
@[simp] theorem State.swd_onDie (s : State) {n : Nat} (f : PoDie → PoDie) (h : n < s.po.dies.length) : (s.onDie n f).swd n = f (s.swd n) :=
  getD_modify_self _ _ _ h
theorem State.swd_onDie_ne (s : State) {n m : Nat} (f : PoDie → PoDie) (h : n ≠ m) : (s.onDie n f).swd m = s.swd m :=
  getD_modify_ne _ _ _ h
@[simp] theorem State.onDie_length (s : State) (n : Nat) (f : PoDie → PoDie) : (s.onDie n f).po.dies.length = s.po.dies.length := by
  simp [State.onDie]
@[simp] theorem State.port_onPort (s : State) {n : Nat} (f : Port → Port) (h : n < s.host.ports.length) : (s.onPort n f).port n = f (s.port n) :=
  getD_modify_self _ _ _ h
theorem State.port_onPort_ne (s : State) {n m : Nat} (f : Port → Port) (h : n ≠ m) : (s.onPort n f).port m = s.port m :=
  getD_modify_ne _ _ _ h
@[simp] theorem State.onPort_length (s : State) (n : Nat) (f : Port → Port) : (s.onPort n f).host.ports.length = s.host.ports.length := by
  simp [State.onPort]
@[simp] theorem State.tgp_onTgp (s : State) {n : Nat} (f : TgPort → TgPort) (h : n < s.tg.ports.length) : (s.onTgp n f).tgp n = f (s.tgp n) :=
  getD_modify_self _ _ _ h
theorem State.tgp_onTgp_ne (s : State) {n m : Nat} (f : TgPort → TgPort) (h : n ≠ m) : (s.onTgp n f).tgp m = s.tgp m :=
  getD_modify_ne _ _ _ h
@[simp] theorem State.onTgp_length (s : State) (n : Nat) (f : TgPort → TgPort) : (s.onTgp n f).tg.ports.length = s.tg.ports.length := by
  simp [State.onTgp]
@[simp] theorem State.panel_onPanel (s : State) {n : Nat} (f : Panel → Panel) (h : n < s.ds.panels.length) : (s.onPanel n f).panel n = f (s.panel n) :=
  getD_modify_self _ _ _ h
theorem State.panel_onPanel_ne (s : State) {n m : Nat} (f : Panel → Panel) (h : n ≠ m) : (s.onPanel n f).panel m = s.panel m :=
  getD_modify_ne _ _ _ h
@[simp] theorem State.onPanel_length (s : State) (n : Nat) (f : Panel → Panel) : (s.onPanel n f).ds.panels.length = s.ds.panels.length := by
  simp [State.onPanel]
@[simp] theorem State.mms_onMms (s : State) {n : Nat} (f : MmSide → MmSide) (h : n < s.mm.sides.length) : (s.onMms n f).mms n = f (s.mms n) :=
  getD_modify_self _ _ _ h
theorem State.mms_onMms_ne (s : State) {n m : Nat} (f : MmSide → MmSide) (h : n ≠ m) : (s.onMms n f).mms m = s.mms m :=
  getD_modify_ne _ _ _ h
@[simp] theorem State.onMms_length (s : State) (n : Nat) (f : MmSide → MmSide) : (s.onMms n f).mm.sides.length = s.mm.sides.length := by
  simp [State.onMms]
@[simp] theorem State.ups_onUps (s : State) {n : Nat} (f : UpSide → UpSide) (h : n < s.up.sides.length) : (s.onUps n f).ups n = f (s.ups n) :=
  getD_modify_self _ _ _ h
theorem State.ups_onUps_ne (s : State) {n m : Nat} (f : UpSide → UpSide) (h : n ≠ m) : (s.onUps n f).ups m = s.ups m :=
  getD_modify_ne _ _ _ h
@[simp] theorem State.onUps_length (s : State) (n : Nat) (f : UpSide → UpSide) : (s.onUps n f).up.sides.length = s.up.sides.length := by
  simp [State.onUps]
@[simp] theorem State.mons_onMons (s : State) {n : Nat} (f : MonSide → MonSide) (h : n < s.mon.sides.length) : (s.onMons n f).mons n = f (s.mons n) :=
  getD_modify_self _ _ _ h
theorem State.mons_onMons_ne (s : State) {n m : Nat} (f : MonSide → MonSide) (h : n ≠ m) : (s.onMons n f).mons m = s.mons m :=
  getD_modify_ne _ _ _ h
@[simp] theorem State.onMons_length (s : State) (n : Nat) (f : MonSide → MonSide) : (s.onMons n f).mon.sides.length = s.mon.sides.length := by
  simp [State.onMons]

/-! ### What an update leaves alone elsewhere -/

@[simp] theorem State.lane_of_onHs (s : State) (n : Nat) (f : HsLane → HsLane) (j : Nat) : (s.onHs n f).lane j = s.lane j := rfl
@[simp] theorem State.lane_of_onPilot (s : State) (n : Nat) (f : PilotHs → PilotHs) (j : Nat) : (s.onPilot n f).lane j = s.lane j := rfl
@[simp] theorem State.lane_of_onLink (s : State) (n : Nat) (f : LinkHs → LinkHs) (j : Nat) : (s.onLink n f).lane j = s.lane j := rfl
@[simp] theorem State.lane_of_onCnt (s : State) (n : Nat) (f : CntHs → CntHs) (j : Nat) : (s.onCnt n f).lane j = s.lane j := rfl
@[simp] theorem State.lane_of_onPp (s : State) (n : Nat) (f : PpLane → PpLane) (j : Nat) : (s.onPp n f).lane j = s.lane j := rfl
@[simp] theorem State.lane_of_onCan (s : State) (n : Nat) (f : PpCan → PpCan) (j : Nat) : (s.onCan n f).lane j = s.lane j := rfl
@[simp] theorem State.lane_of_onPs (s : State) (n : Nat) (f : PsLane → PsLane) (j : Nat) : (s.onPs n f).lane j = s.lane j := rfl
@[simp] theorem State.lane_of_onEfg (s : State) (n : Nat) (f : EfGroup → EfGroup) (j : Nat) : (s.onEfg n f).lane j = s.lane j := rfl
@[simp] theorem State.lane_of_onEfl (s : State) (n : Nat) (f : EfLane → EfLane) (j : Nat) : (s.onEfl n f).lane j = s.lane j := rfl
@[simp] theorem State.lane_of_onChan (s : State) (n : Nat) (f : MtChan → MtChan) (j : Nat) : (s.onChan n f).lane j = s.lane j := rfl
@[simp] theorem State.lane_of_onMtl (s : State) (n : Nat) (f : MtLane → MtLane) (j : Nat) : (s.onMtl n f).lane j = s.lane j := rfl
@[simp] theorem State.lane_of_onPls (s : State) (n : Nat) (f : MtPulse → MtPulse) (j : Nat) : (s.onPls n f).lane j = s.lane j := rfl
@[simp] theorem State.lane_of_onSfl (s : State) (n : Nat) (f : SfLane → SfLane) (j : Nat) : (s.onSfl n f).lane j = s.lane j := rfl
@[simp] theorem State.lane_of_onWatch (s : State) (n : Nat) (f : Watch → Watch) (j : Nat) : (s.onWatch n f).lane j = s.lane j := rfl
@[simp] theorem State.lane_of_onCh (s : State) (n : Nat) (f : PoCh → PoCh) (j : Nat) : (s.onCh n f).lane j = s.lane j := rfl
@[simp] theorem State.lane_of_onDie (s : State) (n : Nat) (f : PoDie → PoDie) (j : Nat) : (s.onDie n f).lane j = s.lane j := rfl
@[simp] theorem State.lane_of_onPort (s : State) (n : Nat) (f : Port → Port) (j : Nat) : (s.onPort n f).lane j = s.lane j := rfl
@[simp] theorem State.lane_of_onTgp (s : State) (n : Nat) (f : TgPort → TgPort) (j : Nat) : (s.onTgp n f).lane j = s.lane j := rfl
@[simp] theorem State.lane_of_onPanel (s : State) (n : Nat) (f : Panel → Panel) (j : Nat) : (s.onPanel n f).lane j = s.lane j := rfl
@[simp] theorem State.lane_of_onMms (s : State) (n : Nat) (f : MmSide → MmSide) (j : Nat) : (s.onMms n f).lane j = s.lane j := rfl
@[simp] theorem State.lane_of_onUps (s : State) (n : Nat) (f : UpSide → UpSide) (j : Nat) : (s.onUps n f).lane j = s.lane j := rfl
@[simp] theorem State.lane_of_onMons (s : State) (n : Nat) (f : MonSide → MonSide) (j : Nat) : (s.onMons n f).lane j = s.lane j := rfl
@[simp] theorem State.lane_of_onGrv (s : State) (f : Graver → Graver) (j : Nat) : (s.onGrv f).lane j = s.lane j := rfl
@[simp] theorem State.lane_of_raise (s : State) (e : Ev) (j : Nat) : (s.raise e).lane j = s.lane j := rfl
@[simp] theorem State.lane_of_direct (s : State) (e : Ev) (j : Nat) : (s.direct e).lane j = s.lane j := rfl
@[simp] theorem State.lane_of_ask (s : State) (e : Emit) (j : Nat) : (s.ask e).lane j = s.lane j := rfl
@[simp] theorem State.lane_of_drawn (s : State) (j : Nat) : (s.drawn).lane j = s.lane j := rfl
@[simp] theorem State.lane_of_evLane (s : State) (c : EvClass) (n k : Nat) (d : Bytes) (g : Nat) (j : Nat) : (s.evLane c n k d g).lane j = s.lane j := rfl
@[simp] theorem State.lane_of_evMod (s : State) (c : EvClass) (x u k : Nat) (d : Bytes) (g : Nat) (j : Nat) : (s.evMod c x u k d g).lane j = s.lane j := rfl
@[simp] theorem State.lane_of_laneState (s : State) (c : EvClass) (n : Nat) (x : Cause) (j : Nat) : (s.laneState c n x).lane j = s.lane j := rfl
@[simp] theorem State.lane_of_evContactor (s : State) (n f c r m : Nat) (j : Nat) : (s.evContactor n f c r m).lane j = s.lane j := rfl
@[simp] theorem State.lane_of_evLock (s : State) (n a r m : Nat) (j : Nat) : (s.evLock n a r m).lane j = s.lane j := rfl
@[simp] theorem State.lane_of_evChan (s : State) (k c : Nat) (d : Bytes) (j : Nat) : (s.evChan k c d).lane j = s.lane j := rfl
@[simp] theorem State.lane_of_onEn (s : State) (c : Bool) (n : Nat) (f : EnSet → EnSet) (j : Nat) : (s.onEn c n f).lane j = s.lane j := by
  cases c <;> rfl
@[simp] theorem State.hsl_of_onLane (s : State) (n : Nat) (f : Lane → Lane) (j : Nat) : (s.onLane n f).hsl j = s.hsl j := rfl
@[simp] theorem State.hsl_of_onPp (s : State) (n : Nat) (f : PpLane → PpLane) (j : Nat) : (s.onPp n f).hsl j = s.hsl j := rfl
@[simp] theorem State.hsl_of_onCan (s : State) (n : Nat) (f : PpCan → PpCan) (j : Nat) : (s.onCan n f).hsl j = s.hsl j := rfl
@[simp] theorem State.hsl_of_onPs (s : State) (n : Nat) (f : PsLane → PsLane) (j : Nat) : (s.onPs n f).hsl j = s.hsl j := rfl
@[simp] theorem State.hsl_of_onEfg (s : State) (n : Nat) (f : EfGroup → EfGroup) (j : Nat) : (s.onEfg n f).hsl j = s.hsl j := rfl
@[simp] theorem State.hsl_of_onEfl (s : State) (n : Nat) (f : EfLane → EfLane) (j : Nat) : (s.onEfl n f).hsl j = s.hsl j := rfl
@[simp] theorem State.hsl_of_onChan (s : State) (n : Nat) (f : MtChan → MtChan) (j : Nat) : (s.onChan n f).hsl j = s.hsl j := rfl
@[simp] theorem State.hsl_of_onMtl (s : State) (n : Nat) (f : MtLane → MtLane) (j : Nat) : (s.onMtl n f).hsl j = s.hsl j := rfl
@[simp] theorem State.hsl_of_onPls (s : State) (n : Nat) (f : MtPulse → MtPulse) (j : Nat) : (s.onPls n f).hsl j = s.hsl j := rfl
@[simp] theorem State.hsl_of_onSfl (s : State) (n : Nat) (f : SfLane → SfLane) (j : Nat) : (s.onSfl n f).hsl j = s.hsl j := rfl
@[simp] theorem State.hsl_of_onWatch (s : State) (n : Nat) (f : Watch → Watch) (j : Nat) : (s.onWatch n f).hsl j = s.hsl j := rfl
@[simp] theorem State.hsl_of_onCh (s : State) (n : Nat) (f : PoCh → PoCh) (j : Nat) : (s.onCh n f).hsl j = s.hsl j := rfl
@[simp] theorem State.hsl_of_onDie (s : State) (n : Nat) (f : PoDie → PoDie) (j : Nat) : (s.onDie n f).hsl j = s.hsl j := rfl
@[simp] theorem State.hsl_of_onPort (s : State) (n : Nat) (f : Port → Port) (j : Nat) : (s.onPort n f).hsl j = s.hsl j := rfl
@[simp] theorem State.hsl_of_onTgp (s : State) (n : Nat) (f : TgPort → TgPort) (j : Nat) : (s.onTgp n f).hsl j = s.hsl j := rfl
@[simp] theorem State.hsl_of_onPanel (s : State) (n : Nat) (f : Panel → Panel) (j : Nat) : (s.onPanel n f).hsl j = s.hsl j := rfl
@[simp] theorem State.hsl_of_onMms (s : State) (n : Nat) (f : MmSide → MmSide) (j : Nat) : (s.onMms n f).hsl j = s.hsl j := rfl
@[simp] theorem State.hsl_of_onUps (s : State) (n : Nat) (f : UpSide → UpSide) (j : Nat) : (s.onUps n f).hsl j = s.hsl j := rfl
@[simp] theorem State.hsl_of_onMons (s : State) (n : Nat) (f : MonSide → MonSide) (j : Nat) : (s.onMons n f).hsl j = s.hsl j := rfl
@[simp] theorem State.hsl_of_onGrv (s : State) (f : Graver → Graver) (j : Nat) : (s.onGrv f).hsl j = s.hsl j := rfl
@[simp] theorem State.hsl_of_raise (s : State) (e : Ev) (j : Nat) : (s.raise e).hsl j = s.hsl j := rfl
@[simp] theorem State.hsl_of_direct (s : State) (e : Ev) (j : Nat) : (s.direct e).hsl j = s.hsl j := rfl
@[simp] theorem State.hsl_of_ask (s : State) (e : Emit) (j : Nat) : (s.ask e).hsl j = s.hsl j := rfl
@[simp] theorem State.hsl_of_drawn (s : State) (j : Nat) : (s.drawn).hsl j = s.hsl j := rfl
@[simp] theorem State.hsl_of_evLane (s : State) (c : EvClass) (n k : Nat) (d : Bytes) (g : Nat) (j : Nat) : (s.evLane c n k d g).hsl j = s.hsl j := rfl
@[simp] theorem State.hsl_of_evMod (s : State) (c : EvClass) (x u k : Nat) (d : Bytes) (g : Nat) (j : Nat) : (s.evMod c x u k d g).hsl j = s.hsl j := rfl
@[simp] theorem State.hsl_of_startTimer (s : State) (n k d : Nat) (j : Nat) : (s.startTimer n k d).hsl j = s.hsl j := rfl
@[simp] theorem State.hsl_of_stopTimer (s : State) (n k : Nat) (j : Nat) : (s.stopTimer n k).hsl j = s.hsl j := rfl
@[simp] theorem State.hsl_of_laneState (s : State) (c : EvClass) (n : Nat) (x : Cause) (j : Nat) : (s.laneState c n x).hsl j = s.hsl j := rfl
@[simp] theorem State.hsl_of_evContactor (s : State) (n f c r m : Nat) (j : Nat) : (s.evContactor n f c r m).hsl j = s.hsl j := rfl
@[simp] theorem State.hsl_of_evLock (s : State) (n a r m : Nat) (j : Nat) : (s.evLock n a r m).hsl j = s.hsl j := rfl
@[simp] theorem State.hsl_of_evChan (s : State) (k c : Nat) (d : Bytes) (j : Nat) : (s.evChan k c d).hsl j = s.hsl j := rfl
@[simp] theorem State.hsl_of_onEn (s : State) (c : Bool) (n : Nat) (f : EnSet → EnSet) (j : Nat) : (s.onEn c n f).hsl j = s.hsl j := by
  cases c <;> rfl
@[simp] theorem State.ppl_of_onLane (s : State) (n : Nat) (f : Lane → Lane) (j : Nat) : (s.onLane n f).ppl j = s.ppl j := rfl
@[simp] theorem State.ppl_of_onHs (s : State) (n : Nat) (f : HsLane → HsLane) (j : Nat) : (s.onHs n f).ppl j = s.ppl j := rfl
@[simp] theorem State.ppl_of_onPilot (s : State) (n : Nat) (f : PilotHs → PilotHs) (j : Nat) : (s.onPilot n f).ppl j = s.ppl j := rfl
@[simp] theorem State.ppl_of_onLink (s : State) (n : Nat) (f : LinkHs → LinkHs) (j : Nat) : (s.onLink n f).ppl j = s.ppl j := rfl
@[simp] theorem State.ppl_of_onCnt (s : State) (n : Nat) (f : CntHs → CntHs) (j : Nat) : (s.onCnt n f).ppl j = s.ppl j := rfl
@[simp] theorem State.ppl_of_onPs (s : State) (n : Nat) (f : PsLane → PsLane) (j : Nat) : (s.onPs n f).ppl j = s.ppl j := rfl
@[simp] theorem State.ppl_of_onEfg (s : State) (n : Nat) (f : EfGroup → EfGroup) (j : Nat) : (s.onEfg n f).ppl j = s.ppl j := rfl
@[simp] theorem State.ppl_of_onEfl (s : State) (n : Nat) (f : EfLane → EfLane) (j : Nat) : (s.onEfl n f).ppl j = s.ppl j := rfl
@[simp] theorem State.ppl_of_onChan (s : State) (n : Nat) (f : MtChan → MtChan) (j : Nat) : (s.onChan n f).ppl j = s.ppl j := rfl
@[simp] theorem State.ppl_of_onMtl (s : State) (n : Nat) (f : MtLane → MtLane) (j : Nat) : (s.onMtl n f).ppl j = s.ppl j := rfl
@[simp] theorem State.ppl_of_onPls (s : State) (n : Nat) (f : MtPulse → MtPulse) (j : Nat) : (s.onPls n f).ppl j = s.ppl j := rfl
@[simp] theorem State.ppl_of_onSfl (s : State) (n : Nat) (f : SfLane → SfLane) (j : Nat) : (s.onSfl n f).ppl j = s.ppl j := rfl
@[simp] theorem State.ppl_of_onWatch (s : State) (n : Nat) (f : Watch → Watch) (j : Nat) : (s.onWatch n f).ppl j = s.ppl j := rfl
@[simp] theorem State.ppl_of_onCh (s : State) (n : Nat) (f : PoCh → PoCh) (j : Nat) : (s.onCh n f).ppl j = s.ppl j := rfl
@[simp] theorem State.ppl_of_onDie (s : State) (n : Nat) (f : PoDie → PoDie) (j : Nat) : (s.onDie n f).ppl j = s.ppl j := rfl
@[simp] theorem State.ppl_of_onPort (s : State) (n : Nat) (f : Port → Port) (j : Nat) : (s.onPort n f).ppl j = s.ppl j := rfl
@[simp] theorem State.ppl_of_onTgp (s : State) (n : Nat) (f : TgPort → TgPort) (j : Nat) : (s.onTgp n f).ppl j = s.ppl j := rfl
@[simp] theorem State.ppl_of_onPanel (s : State) (n : Nat) (f : Panel → Panel) (j : Nat) : (s.onPanel n f).ppl j = s.ppl j := rfl
@[simp] theorem State.ppl_of_onMms (s : State) (n : Nat) (f : MmSide → MmSide) (j : Nat) : (s.onMms n f).ppl j = s.ppl j := rfl
@[simp] theorem State.ppl_of_onUps (s : State) (n : Nat) (f : UpSide → UpSide) (j : Nat) : (s.onUps n f).ppl j = s.ppl j := rfl
@[simp] theorem State.ppl_of_onMons (s : State) (n : Nat) (f : MonSide → MonSide) (j : Nat) : (s.onMons n f).ppl j = s.ppl j := rfl
@[simp] theorem State.ppl_of_onGrv (s : State) (f : Graver → Graver) (j : Nat) : (s.onGrv f).ppl j = s.ppl j := rfl
@[simp] theorem State.ppl_of_raise (s : State) (e : Ev) (j : Nat) : (s.raise e).ppl j = s.ppl j := rfl
@[simp] theorem State.ppl_of_direct (s : State) (e : Ev) (j : Nat) : (s.direct e).ppl j = s.ppl j := rfl
@[simp] theorem State.ppl_of_ask (s : State) (e : Emit) (j : Nat) : (s.ask e).ppl j = s.ppl j := rfl
@[simp] theorem State.ppl_of_drawn (s : State) (j : Nat) : (s.drawn).ppl j = s.ppl j := rfl
@[simp] theorem State.ppl_of_evLane (s : State) (c : EvClass) (n k : Nat) (d : Bytes) (g : Nat) (j : Nat) : (s.evLane c n k d g).ppl j = s.ppl j := rfl
@[simp] theorem State.ppl_of_evMod (s : State) (c : EvClass) (x u k : Nat) (d : Bytes) (g : Nat) (j : Nat) : (s.evMod c x u k d g).ppl j = s.ppl j := rfl
@[simp] theorem State.ppl_of_startTimer (s : State) (n k d : Nat) (j : Nat) : (s.startTimer n k d).ppl j = s.ppl j := rfl
@[simp] theorem State.ppl_of_stopTimer (s : State) (n k : Nat) (j : Nat) : (s.stopTimer n k).ppl j = s.ppl j := rfl
@[simp] theorem State.ppl_of_laneState (s : State) (c : EvClass) (n : Nat) (x : Cause) (j : Nat) : (s.laneState c n x).ppl j = s.ppl j := rfl
@[simp] theorem State.ppl_of_evContactor (s : State) (n f c r m : Nat) (j : Nat) : (s.evContactor n f c r m).ppl j = s.ppl j := rfl
@[simp] theorem State.ppl_of_evLock (s : State) (n a r m : Nat) (j : Nat) : (s.evLock n a r m).ppl j = s.ppl j := rfl
@[simp] theorem State.ppl_of_evChan (s : State) (k c : Nat) (d : Bytes) (j : Nat) : (s.evChan k c d).ppl j = s.ppl j := rfl
@[simp] theorem State.ppl_of_onEn (s : State) (c : Bool) (n : Nat) (f : EnSet → EnSet) (j : Nat) : (s.onEn c n f).ppl j = s.ppl j := by
  cases c <;> rfl
@[simp] theorem State.can_of_onLane (s : State) (n : Nat) (f : Lane → Lane) (j : Nat) : (s.onLane n f).can j = s.can j := rfl
@[simp] theorem State.can_of_onHs (s : State) (n : Nat) (f : HsLane → HsLane) (j : Nat) : (s.onHs n f).can j = s.can j := rfl
@[simp] theorem State.can_of_onPilot (s : State) (n : Nat) (f : PilotHs → PilotHs) (j : Nat) : (s.onPilot n f).can j = s.can j := rfl
@[simp] theorem State.can_of_onLink (s : State) (n : Nat) (f : LinkHs → LinkHs) (j : Nat) : (s.onLink n f).can j = s.can j := rfl
@[simp] theorem State.can_of_onCnt (s : State) (n : Nat) (f : CntHs → CntHs) (j : Nat) : (s.onCnt n f).can j = s.can j := rfl
@[simp] theorem State.can_of_onPs (s : State) (n : Nat) (f : PsLane → PsLane) (j : Nat) : (s.onPs n f).can j = s.can j := rfl
@[simp] theorem State.can_of_onEfg (s : State) (n : Nat) (f : EfGroup → EfGroup) (j : Nat) : (s.onEfg n f).can j = s.can j := rfl
@[simp] theorem State.can_of_onEfl (s : State) (n : Nat) (f : EfLane → EfLane) (j : Nat) : (s.onEfl n f).can j = s.can j := rfl
@[simp] theorem State.can_of_onChan (s : State) (n : Nat) (f : MtChan → MtChan) (j : Nat) : (s.onChan n f).can j = s.can j := rfl
@[simp] theorem State.can_of_onMtl (s : State) (n : Nat) (f : MtLane → MtLane) (j : Nat) : (s.onMtl n f).can j = s.can j := rfl
@[simp] theorem State.can_of_onPls (s : State) (n : Nat) (f : MtPulse → MtPulse) (j : Nat) : (s.onPls n f).can j = s.can j := rfl
@[simp] theorem State.can_of_onSfl (s : State) (n : Nat) (f : SfLane → SfLane) (j : Nat) : (s.onSfl n f).can j = s.can j := rfl
@[simp] theorem State.can_of_onWatch (s : State) (n : Nat) (f : Watch → Watch) (j : Nat) : (s.onWatch n f).can j = s.can j := rfl
@[simp] theorem State.can_of_onCh (s : State) (n : Nat) (f : PoCh → PoCh) (j : Nat) : (s.onCh n f).can j = s.can j := rfl
@[simp] theorem State.can_of_onDie (s : State) (n : Nat) (f : PoDie → PoDie) (j : Nat) : (s.onDie n f).can j = s.can j := rfl
@[simp] theorem State.can_of_onPort (s : State) (n : Nat) (f : Port → Port) (j : Nat) : (s.onPort n f).can j = s.can j := rfl
@[simp] theorem State.can_of_onTgp (s : State) (n : Nat) (f : TgPort → TgPort) (j : Nat) : (s.onTgp n f).can j = s.can j := rfl
@[simp] theorem State.can_of_onPanel (s : State) (n : Nat) (f : Panel → Panel) (j : Nat) : (s.onPanel n f).can j = s.can j := rfl
@[simp] theorem State.can_of_onMms (s : State) (n : Nat) (f : MmSide → MmSide) (j : Nat) : (s.onMms n f).can j = s.can j := rfl
@[simp] theorem State.can_of_onUps (s : State) (n : Nat) (f : UpSide → UpSide) (j : Nat) : (s.onUps n f).can j = s.can j := rfl
@[simp] theorem State.can_of_onMons (s : State) (n : Nat) (f : MonSide → MonSide) (j : Nat) : (s.onMons n f).can j = s.can j := rfl
@[simp] theorem State.can_of_onGrv (s : State) (f : Graver → Graver) (j : Nat) : (s.onGrv f).can j = s.can j := rfl
@[simp] theorem State.can_of_raise (s : State) (e : Ev) (j : Nat) : (s.raise e).can j = s.can j := rfl
@[simp] theorem State.can_of_direct (s : State) (e : Ev) (j : Nat) : (s.direct e).can j = s.can j := rfl
@[simp] theorem State.can_of_ask (s : State) (e : Emit) (j : Nat) : (s.ask e).can j = s.can j := rfl
@[simp] theorem State.can_of_drawn (s : State) (j : Nat) : (s.drawn).can j = s.can j := rfl
@[simp] theorem State.can_of_evLane (s : State) (c : EvClass) (n k : Nat) (d : Bytes) (g : Nat) (j : Nat) : (s.evLane c n k d g).can j = s.can j := rfl
@[simp] theorem State.can_of_evMod (s : State) (c : EvClass) (x u k : Nat) (d : Bytes) (g : Nat) (j : Nat) : (s.evMod c x u k d g).can j = s.can j := rfl
@[simp] theorem State.can_of_startTimer (s : State) (n k d : Nat) (j : Nat) : (s.startTimer n k d).can j = s.can j := rfl
@[simp] theorem State.can_of_stopTimer (s : State) (n k : Nat) (j : Nat) : (s.stopTimer n k).can j = s.can j := rfl
@[simp] theorem State.can_of_laneState (s : State) (c : EvClass) (n : Nat) (x : Cause) (j : Nat) : (s.laneState c n x).can j = s.can j := rfl
@[simp] theorem State.can_of_evContactor (s : State) (n f c r m : Nat) (j : Nat) : (s.evContactor n f c r m).can j = s.can j := rfl
@[simp] theorem State.can_of_evLock (s : State) (n a r m : Nat) (j : Nat) : (s.evLock n a r m).can j = s.can j := rfl
@[simp] theorem State.can_of_evChan (s : State) (k c : Nat) (d : Bytes) (j : Nat) : (s.evChan k c d).can j = s.can j := rfl
@[simp] theorem State.can_of_onEn (s : State) (c : Bool) (n : Nat) (f : EnSet → EnSet) (j : Nat) : (s.onEn c n f).can j = s.can j := by
  cases c <;> rfl
@[simp] theorem State.psl_of_onLane (s : State) (n : Nat) (f : Lane → Lane) (j : Nat) : (s.onLane n f).psl j = s.psl j := rfl
@[simp] theorem State.psl_of_onHs (s : State) (n : Nat) (f : HsLane → HsLane) (j : Nat) : (s.onHs n f).psl j = s.psl j := rfl
@[simp] theorem State.psl_of_onPilot (s : State) (n : Nat) (f : PilotHs → PilotHs) (j : Nat) : (s.onPilot n f).psl j = s.psl j := rfl
@[simp] theorem State.psl_of_onLink (s : State) (n : Nat) (f : LinkHs → LinkHs) (j : Nat) : (s.onLink n f).psl j = s.psl j := rfl
@[simp] theorem State.psl_of_onCnt (s : State) (n : Nat) (f : CntHs → CntHs) (j : Nat) : (s.onCnt n f).psl j = s.psl j := rfl
@[simp] theorem State.psl_of_onPp (s : State) (n : Nat) (f : PpLane → PpLane) (j : Nat) : (s.onPp n f).psl j = s.psl j := rfl
@[simp] theorem State.psl_of_onCan (s : State) (n : Nat) (f : PpCan → PpCan) (j : Nat) : (s.onCan n f).psl j = s.psl j := rfl
@[simp] theorem State.psl_of_onEfg (s : State) (n : Nat) (f : EfGroup → EfGroup) (j : Nat) : (s.onEfg n f).psl j = s.psl j := rfl
@[simp] theorem State.psl_of_onEfl (s : State) (n : Nat) (f : EfLane → EfLane) (j : Nat) : (s.onEfl n f).psl j = s.psl j := rfl
@[simp] theorem State.psl_of_onChan (s : State) (n : Nat) (f : MtChan → MtChan) (j : Nat) : (s.onChan n f).psl j = s.psl j := rfl
@[simp] theorem State.psl_of_onMtl (s : State) (n : Nat) (f : MtLane → MtLane) (j : Nat) : (s.onMtl n f).psl j = s.psl j := rfl
@[simp] theorem State.psl_of_onPls (s : State) (n : Nat) (f : MtPulse → MtPulse) (j : Nat) : (s.onPls n f).psl j = s.psl j := rfl
@[simp] theorem State.psl_of_onSfl (s : State) (n : Nat) (f : SfLane → SfLane) (j : Nat) : (s.onSfl n f).psl j = s.psl j := rfl
@[simp] theorem State.psl_of_onWatch (s : State) (n : Nat) (f : Watch → Watch) (j : Nat) : (s.onWatch n f).psl j = s.psl j := rfl
@[simp] theorem State.psl_of_onCh (s : State) (n : Nat) (f : PoCh → PoCh) (j : Nat) : (s.onCh n f).psl j = s.psl j := rfl
@[simp] theorem State.psl_of_onDie (s : State) (n : Nat) (f : PoDie → PoDie) (j : Nat) : (s.onDie n f).psl j = s.psl j := rfl
@[simp] theorem State.psl_of_onPort (s : State) (n : Nat) (f : Port → Port) (j : Nat) : (s.onPort n f).psl j = s.psl j := rfl
@[simp] theorem State.psl_of_onTgp (s : State) (n : Nat) (f : TgPort → TgPort) (j : Nat) : (s.onTgp n f).psl j = s.psl j := rfl
@[simp] theorem State.psl_of_onPanel (s : State) (n : Nat) (f : Panel → Panel) (j : Nat) : (s.onPanel n f).psl j = s.psl j := rfl
@[simp] theorem State.psl_of_onMms (s : State) (n : Nat) (f : MmSide → MmSide) (j : Nat) : (s.onMms n f).psl j = s.psl j := rfl
@[simp] theorem State.psl_of_onUps (s : State) (n : Nat) (f : UpSide → UpSide) (j : Nat) : (s.onUps n f).psl j = s.psl j := rfl
@[simp] theorem State.psl_of_onMons (s : State) (n : Nat) (f : MonSide → MonSide) (j : Nat) : (s.onMons n f).psl j = s.psl j := rfl
@[simp] theorem State.psl_of_onGrv (s : State) (f : Graver → Graver) (j : Nat) : (s.onGrv f).psl j = s.psl j := rfl
@[simp] theorem State.psl_of_raise (s : State) (e : Ev) (j : Nat) : (s.raise e).psl j = s.psl j := rfl
@[simp] theorem State.psl_of_direct (s : State) (e : Ev) (j : Nat) : (s.direct e).psl j = s.psl j := rfl
@[simp] theorem State.psl_of_ask (s : State) (e : Emit) (j : Nat) : (s.ask e).psl j = s.psl j := rfl
@[simp] theorem State.psl_of_drawn (s : State) (j : Nat) : (s.drawn).psl j = s.psl j := rfl
@[simp] theorem State.psl_of_evLane (s : State) (c : EvClass) (n k : Nat) (d : Bytes) (g : Nat) (j : Nat) : (s.evLane c n k d g).psl j = s.psl j := rfl
@[simp] theorem State.psl_of_evMod (s : State) (c : EvClass) (x u k : Nat) (d : Bytes) (g : Nat) (j : Nat) : (s.evMod c x u k d g).psl j = s.psl j := rfl
@[simp] theorem State.psl_of_startTimer (s : State) (n k d : Nat) (j : Nat) : (s.startTimer n k d).psl j = s.psl j := rfl
@[simp] theorem State.psl_of_stopTimer (s : State) (n k : Nat) (j : Nat) : (s.stopTimer n k).psl j = s.psl j := rfl
@[simp] theorem State.psl_of_laneState (s : State) (c : EvClass) (n : Nat) (x : Cause) (j : Nat) : (s.laneState c n x).psl j = s.psl j := rfl
@[simp] theorem State.psl_of_evContactor (s : State) (n f c r m : Nat) (j : Nat) : (s.evContactor n f c r m).psl j = s.psl j := rfl
@[simp] theorem State.psl_of_evLock (s : State) (n a r m : Nat) (j : Nat) : (s.evLock n a r m).psl j = s.psl j := rfl
@[simp] theorem State.psl_of_evChan (s : State) (k c : Nat) (d : Bytes) (j : Nat) : (s.evChan k c d).psl j = s.psl j := rfl
@[simp] theorem State.psl_of_onEn (s : State) (c : Bool) (n : Nat) (f : EnSet → EnSet) (j : Nat) : (s.onEn c n f).psl j = s.psl j := by
  cases c <;> rfl
@[simp] theorem State.efg_of_onLane (s : State) (n : Nat) (f : Lane → Lane) (j : Nat) : (s.onLane n f).efg j = s.efg j := rfl
@[simp] theorem State.efg_of_onHs (s : State) (n : Nat) (f : HsLane → HsLane) (j : Nat) : (s.onHs n f).efg j = s.efg j := rfl
@[simp] theorem State.efg_of_onPilot (s : State) (n : Nat) (f : PilotHs → PilotHs) (j : Nat) : (s.onPilot n f).efg j = s.efg j := rfl
@[simp] theorem State.efg_of_onLink (s : State) (n : Nat) (f : LinkHs → LinkHs) (j : Nat) : (s.onLink n f).efg j = s.efg j := rfl
@[simp] theorem State.efg_of_onCnt (s : State) (n : Nat) (f : CntHs → CntHs) (j : Nat) : (s.onCnt n f).efg j = s.efg j := rfl
@[simp] theorem State.efg_of_onPp (s : State) (n : Nat) (f : PpLane → PpLane) (j : Nat) : (s.onPp n f).efg j = s.efg j := rfl
@[simp] theorem State.efg_of_onCan (s : State) (n : Nat) (f : PpCan → PpCan) (j : Nat) : (s.onCan n f).efg j = s.efg j := rfl
@[simp] theorem State.efg_of_onPs (s : State) (n : Nat) (f : PsLane → PsLane) (j : Nat) : (s.onPs n f).efg j = s.efg j := rfl
@[simp] theorem State.efg_of_onChan (s : State) (n : Nat) (f : MtChan → MtChan) (j : Nat) : (s.onChan n f).efg j = s.efg j := rfl
@[simp] theorem State.efg_of_onMtl (s : State) (n : Nat) (f : MtLane → MtLane) (j : Nat) : (s.onMtl n f).efg j = s.efg j := rfl
@[simp] theorem State.efg_of_onPls (s : State) (n : Nat) (f : MtPulse → MtPulse) (j : Nat) : (s.onPls n f).efg j = s.efg j := rfl
@[simp] theorem State.efg_of_onSfl (s : State) (n : Nat) (f : SfLane → SfLane) (j : Nat) : (s.onSfl n f).efg j = s.efg j := rfl
@[simp] theorem State.efg_of_onWatch (s : State) (n : Nat) (f : Watch → Watch) (j : Nat) : (s.onWatch n f).efg j = s.efg j := rfl
@[simp] theorem State.efg_of_onCh (s : State) (n : Nat) (f : PoCh → PoCh) (j : Nat) : (s.onCh n f).efg j = s.efg j := rfl
@[simp] theorem State.efg_of_onDie (s : State) (n : Nat) (f : PoDie → PoDie) (j : Nat) : (s.onDie n f).efg j = s.efg j := rfl
@[simp] theorem State.efg_of_onPort (s : State) (n : Nat) (f : Port → Port) (j : Nat) : (s.onPort n f).efg j = s.efg j := rfl
@[simp] theorem State.efg_of_onTgp (s : State) (n : Nat) (f : TgPort → TgPort) (j : Nat) : (s.onTgp n f).efg j = s.efg j := rfl
@[simp] theorem State.efg_of_onPanel (s : State) (n : Nat) (f : Panel → Panel) (j : Nat) : (s.onPanel n f).efg j = s.efg j := rfl
@[simp] theorem State.efg_of_onMms (s : State) (n : Nat) (f : MmSide → MmSide) (j : Nat) : (s.onMms n f).efg j = s.efg j := rfl
@[simp] theorem State.efg_of_onUps (s : State) (n : Nat) (f : UpSide → UpSide) (j : Nat) : (s.onUps n f).efg j = s.efg j := rfl
@[simp] theorem State.efg_of_onMons (s : State) (n : Nat) (f : MonSide → MonSide) (j : Nat) : (s.onMons n f).efg j = s.efg j := rfl
@[simp] theorem State.efg_of_onGrv (s : State) (f : Graver → Graver) (j : Nat) : (s.onGrv f).efg j = s.efg j := rfl
@[simp] theorem State.efg_of_raise (s : State) (e : Ev) (j : Nat) : (s.raise e).efg j = s.efg j := rfl
@[simp] theorem State.efg_of_direct (s : State) (e : Ev) (j : Nat) : (s.direct e).efg j = s.efg j := rfl
@[simp] theorem State.efg_of_ask (s : State) (e : Emit) (j : Nat) : (s.ask e).efg j = s.efg j := rfl
@[simp] theorem State.efg_of_drawn (s : State) (j : Nat) : (s.drawn).efg j = s.efg j := rfl
@[simp] theorem State.efg_of_evLane (s : State) (c : EvClass) (n k : Nat) (d : Bytes) (g : Nat) (j : Nat) : (s.evLane c n k d g).efg j = s.efg j := rfl
@[simp] theorem State.efg_of_evMod (s : State) (c : EvClass) (x u k : Nat) (d : Bytes) (g : Nat) (j : Nat) : (s.evMod c x u k d g).efg j = s.efg j := rfl
@[simp] theorem State.efg_of_startTimer (s : State) (n k d : Nat) (j : Nat) : (s.startTimer n k d).efg j = s.efg j := rfl
@[simp] theorem State.efg_of_stopTimer (s : State) (n k : Nat) (j : Nat) : (s.stopTimer n k).efg j = s.efg j := rfl
@[simp] theorem State.efg_of_laneState (s : State) (c : EvClass) (n : Nat) (x : Cause) (j : Nat) : (s.laneState c n x).efg j = s.efg j := rfl
@[simp] theorem State.efg_of_evContactor (s : State) (n f c r m : Nat) (j : Nat) : (s.evContactor n f c r m).efg j = s.efg j := rfl
@[simp] theorem State.efg_of_evLock (s : State) (n a r m : Nat) (j : Nat) : (s.evLock n a r m).efg j = s.efg j := rfl
@[simp] theorem State.efg_of_evChan (s : State) (k c : Nat) (d : Bytes) (j : Nat) : (s.evChan k c d).efg j = s.efg j := rfl
@[simp] theorem State.efg_of_onEn (s : State) (c : Bool) (n : Nat) (f : EnSet → EnSet) (j : Nat) : (s.onEn c n f).efg j = s.efg j := by
  cases c <;> rfl
@[simp] theorem State.efl_of_onLane (s : State) (n : Nat) (f : Lane → Lane) (j : Nat) : (s.onLane n f).efl j = s.efl j := rfl
@[simp] theorem State.efl_of_onHs (s : State) (n : Nat) (f : HsLane → HsLane) (j : Nat) : (s.onHs n f).efl j = s.efl j := rfl
@[simp] theorem State.efl_of_onPilot (s : State) (n : Nat) (f : PilotHs → PilotHs) (j : Nat) : (s.onPilot n f).efl j = s.efl j := rfl
@[simp] theorem State.efl_of_onLink (s : State) (n : Nat) (f : LinkHs → LinkHs) (j : Nat) : (s.onLink n f).efl j = s.efl j := rfl
@[simp] theorem State.efl_of_onCnt (s : State) (n : Nat) (f : CntHs → CntHs) (j : Nat) : (s.onCnt n f).efl j = s.efl j := rfl
@[simp] theorem State.efl_of_onPp (s : State) (n : Nat) (f : PpLane → PpLane) (j : Nat) : (s.onPp n f).efl j = s.efl j := rfl
@[simp] theorem State.efl_of_onCan (s : State) (n : Nat) (f : PpCan → PpCan) (j : Nat) : (s.onCan n f).efl j = s.efl j := rfl
@[simp] theorem State.efl_of_onPs (s : State) (n : Nat) (f : PsLane → PsLane) (j : Nat) : (s.onPs n f).efl j = s.efl j := rfl
@[simp] theorem State.efl_of_onChan (s : State) (n : Nat) (f : MtChan → MtChan) (j : Nat) : (s.onChan n f).efl j = s.efl j := rfl
@[simp] theorem State.efl_of_onMtl (s : State) (n : Nat) (f : MtLane → MtLane) (j : Nat) : (s.onMtl n f).efl j = s.efl j := rfl
@[simp] theorem State.efl_of_onPls (s : State) (n : Nat) (f : MtPulse → MtPulse) (j : Nat) : (s.onPls n f).efl j = s.efl j := rfl
@[simp] theorem State.efl_of_onSfl (s : State) (n : Nat) (f : SfLane → SfLane) (j : Nat) : (s.onSfl n f).efl j = s.efl j := rfl
@[simp] theorem State.efl_of_onWatch (s : State) (n : Nat) (f : Watch → Watch) (j : Nat) : (s.onWatch n f).efl j = s.efl j := rfl
@[simp] theorem State.efl_of_onCh (s : State) (n : Nat) (f : PoCh → PoCh) (j : Nat) : (s.onCh n f).efl j = s.efl j := rfl
@[simp] theorem State.efl_of_onDie (s : State) (n : Nat) (f : PoDie → PoDie) (j : Nat) : (s.onDie n f).efl j = s.efl j := rfl
@[simp] theorem State.efl_of_onPort (s : State) (n : Nat) (f : Port → Port) (j : Nat) : (s.onPort n f).efl j = s.efl j := rfl
@[simp] theorem State.efl_of_onTgp (s : State) (n : Nat) (f : TgPort → TgPort) (j : Nat) : (s.onTgp n f).efl j = s.efl j := rfl
@[simp] theorem State.efl_of_onPanel (s : State) (n : Nat) (f : Panel → Panel) (j : Nat) : (s.onPanel n f).efl j = s.efl j := rfl
@[simp] theorem State.efl_of_onMms (s : State) (n : Nat) (f : MmSide → MmSide) (j : Nat) : (s.onMms n f).efl j = s.efl j := rfl
@[simp] theorem State.efl_of_onUps (s : State) (n : Nat) (f : UpSide → UpSide) (j : Nat) : (s.onUps n f).efl j = s.efl j := rfl
@[simp] theorem State.efl_of_onMons (s : State) (n : Nat) (f : MonSide → MonSide) (j : Nat) : (s.onMons n f).efl j = s.efl j := rfl
@[simp] theorem State.efl_of_onGrv (s : State) (f : Graver → Graver) (j : Nat) : (s.onGrv f).efl j = s.efl j := rfl
@[simp] theorem State.efl_of_raise (s : State) (e : Ev) (j : Nat) : (s.raise e).efl j = s.efl j := rfl
@[simp] theorem State.efl_of_direct (s : State) (e : Ev) (j : Nat) : (s.direct e).efl j = s.efl j := rfl
@[simp] theorem State.efl_of_ask (s : State) (e : Emit) (j : Nat) : (s.ask e).efl j = s.efl j := rfl
@[simp] theorem State.efl_of_drawn (s : State) (j : Nat) : (s.drawn).efl j = s.efl j := rfl
@[simp] theorem State.efl_of_evLane (s : State) (c : EvClass) (n k : Nat) (d : Bytes) (g : Nat) (j : Nat) : (s.evLane c n k d g).efl j = s.efl j := rfl
@[simp] theorem State.efl_of_evMod (s : State) (c : EvClass) (x u k : Nat) (d : Bytes) (g : Nat) (j : Nat) : (s.evMod c x u k d g).efl j = s.efl j := rfl
@[simp] theorem State.efl_of_startTimer (s : State) (n k d : Nat) (j : Nat) : (s.startTimer n k d).efl j = s.efl j := rfl
@[simp] theorem State.efl_of_stopTimer (s : State) (n k : Nat) (j : Nat) : (s.stopTimer n k).efl j = s.efl j := rfl
@[simp] theorem State.efl_of_laneState (s : State) (c : EvClass) (n : Nat) (x : Cause) (j : Nat) : (s.laneState c n x).efl j = s.efl j := rfl
@[simp] theorem State.efl_of_evContactor (s : State) (n f c r m : Nat) (j : Nat) : (s.evContactor n f c r m).efl j = s.efl j := rfl
@[simp] theorem State.efl_of_evLock (s : State) (n a r m : Nat) (j : Nat) : (s.evLock n a r m).efl j = s.efl j := rfl
@[simp] theorem State.efl_of_evChan (s : State) (k c : Nat) (d : Bytes) (j : Nat) : (s.evChan k c d).efl j = s.efl j := rfl
@[simp] theorem State.efl_of_onEn (s : State) (c : Bool) (n : Nat) (f : EnSet → EnSet) (j : Nat) : (s.onEn c n f).efl j = s.efl j := by
  cases c <;> rfl
@[simp] theorem State.chan_of_onLane (s : State) (n : Nat) (f : Lane → Lane) (j : Nat) : (s.onLane n f).chan j = s.chan j := rfl
@[simp] theorem State.chan_of_onHs (s : State) (n : Nat) (f : HsLane → HsLane) (j : Nat) : (s.onHs n f).chan j = s.chan j := rfl
@[simp] theorem State.chan_of_onPilot (s : State) (n : Nat) (f : PilotHs → PilotHs) (j : Nat) : (s.onPilot n f).chan j = s.chan j := rfl
@[simp] theorem State.chan_of_onLink (s : State) (n : Nat) (f : LinkHs → LinkHs) (j : Nat) : (s.onLink n f).chan j = s.chan j := rfl
@[simp] theorem State.chan_of_onCnt (s : State) (n : Nat) (f : CntHs → CntHs) (j : Nat) : (s.onCnt n f).chan j = s.chan j := rfl
@[simp] theorem State.chan_of_onPp (s : State) (n : Nat) (f : PpLane → PpLane) (j : Nat) : (s.onPp n f).chan j = s.chan j := rfl
@[simp] theorem State.chan_of_onCan (s : State) (n : Nat) (f : PpCan → PpCan) (j : Nat) : (s.onCan n f).chan j = s.chan j := rfl
@[simp] theorem State.chan_of_onPs (s : State) (n : Nat) (f : PsLane → PsLane) (j : Nat) : (s.onPs n f).chan j = s.chan j := rfl
@[simp] theorem State.chan_of_onEfg (s : State) (n : Nat) (f : EfGroup → EfGroup) (j : Nat) : (s.onEfg n f).chan j = s.chan j := rfl
@[simp] theorem State.chan_of_onEfl (s : State) (n : Nat) (f : EfLane → EfLane) (j : Nat) : (s.onEfl n f).chan j = s.chan j := rfl
@[simp] theorem State.chan_of_onSfl (s : State) (n : Nat) (f : SfLane → SfLane) (j : Nat) : (s.onSfl n f).chan j = s.chan j := rfl
@[simp] theorem State.chan_of_onWatch (s : State) (n : Nat) (f : Watch → Watch) (j : Nat) : (s.onWatch n f).chan j = s.chan j := rfl
@[simp] theorem State.chan_of_onCh (s : State) (n : Nat) (f : PoCh → PoCh) (j : Nat) : (s.onCh n f).chan j = s.chan j := rfl
@[simp] theorem State.chan_of_onDie (s : State) (n : Nat) (f : PoDie → PoDie) (j : Nat) : (s.onDie n f).chan j = s.chan j := rfl
@[simp] theorem State.chan_of_onPort (s : State) (n : Nat) (f : Port → Port) (j : Nat) : (s.onPort n f).chan j = s.chan j := rfl
@[simp] theorem State.chan_of_onTgp (s : State) (n : Nat) (f : TgPort → TgPort) (j : Nat) : (s.onTgp n f).chan j = s.chan j := rfl
@[simp] theorem State.chan_of_onPanel (s : State) (n : Nat) (f : Panel → Panel) (j : Nat) : (s.onPanel n f).chan j = s.chan j := rfl
@[simp] theorem State.chan_of_onMms (s : State) (n : Nat) (f : MmSide → MmSide) (j : Nat) : (s.onMms n f).chan j = s.chan j := rfl
@[simp] theorem State.chan_of_onUps (s : State) (n : Nat) (f : UpSide → UpSide) (j : Nat) : (s.onUps n f).chan j = s.chan j := rfl
@[simp] theorem State.chan_of_onMons (s : State) (n : Nat) (f : MonSide → MonSide) (j : Nat) : (s.onMons n f).chan j = s.chan j := rfl
@[simp] theorem State.chan_of_onGrv (s : State) (f : Graver → Graver) (j : Nat) : (s.onGrv f).chan j = s.chan j := rfl
@[simp] theorem State.chan_of_raise (s : State) (e : Ev) (j : Nat) : (s.raise e).chan j = s.chan j := rfl
@[simp] theorem State.chan_of_direct (s : State) (e : Ev) (j : Nat) : (s.direct e).chan j = s.chan j := rfl
@[simp] theorem State.chan_of_ask (s : State) (e : Emit) (j : Nat) : (s.ask e).chan j = s.chan j := rfl
@[simp] theorem State.chan_of_drawn (s : State) (j : Nat) : (s.drawn).chan j = s.chan j := rfl
@[simp] theorem State.chan_of_evLane (s : State) (c : EvClass) (n k : Nat) (d : Bytes) (g : Nat) (j : Nat) : (s.evLane c n k d g).chan j = s.chan j := rfl
@[simp] theorem State.chan_of_evMod (s : State) (c : EvClass) (x u k : Nat) (d : Bytes) (g : Nat) (j : Nat) : (s.evMod c x u k d g).chan j = s.chan j := rfl
@[simp] theorem State.chan_of_startTimer (s : State) (n k d : Nat) (j : Nat) : (s.startTimer n k d).chan j = s.chan j := rfl
@[simp] theorem State.chan_of_stopTimer (s : State) (n k : Nat) (j : Nat) : (s.stopTimer n k).chan j = s.chan j := rfl
@[simp] theorem State.chan_of_laneState (s : State) (c : EvClass) (n : Nat) (x : Cause) (j : Nat) : (s.laneState c n x).chan j = s.chan j := rfl
@[simp] theorem State.chan_of_evContactor (s : State) (n f c r m : Nat) (j : Nat) : (s.evContactor n f c r m).chan j = s.chan j := rfl
@[simp] theorem State.chan_of_evLock (s : State) (n a r m : Nat) (j : Nat) : (s.evLock n a r m).chan j = s.chan j := rfl
@[simp] theorem State.chan_of_evChan (s : State) (k c : Nat) (d : Bytes) (j : Nat) : (s.evChan k c d).chan j = s.chan j := rfl
@[simp] theorem State.chan_of_onEn (s : State) (c : Bool) (n : Nat) (f : EnSet → EnSet) (j : Nat) : (s.onEn c n f).chan j = s.chan j := by
  cases c <;> rfl
@[simp] theorem State.mtl_of_onLane (s : State) (n : Nat) (f : Lane → Lane) (j : Nat) : (s.onLane n f).mtl j = s.mtl j := rfl
@[simp] theorem State.mtl_of_onHs (s : State) (n : Nat) (f : HsLane → HsLane) (j : Nat) : (s.onHs n f).mtl j = s.mtl j := rfl
@[simp] theorem State.mtl_of_onPilot (s : State) (n : Nat) (f : PilotHs → PilotHs) (j : Nat) : (s.onPilot n f).mtl j = s.mtl j := rfl
@[simp] theorem State.mtl_of_onLink (s : State) (n : Nat) (f : LinkHs → LinkHs) (j : Nat) : (s.onLink n f).mtl j = s.mtl j := rfl
@[simp] theorem State.mtl_of_onCnt (s : State) (n : Nat) (f : CntHs → CntHs) (j : Nat) : (s.onCnt n f).mtl j = s.mtl j := rfl
@[simp] theorem State.mtl_of_onPp (s : State) (n : Nat) (f : PpLane → PpLane) (j : Nat) : (s.onPp n f).mtl j = s.mtl j := rfl
@[simp] theorem State.mtl_of_onCan (s : State) (n : Nat) (f : PpCan → PpCan) (j : Nat) : (s.onCan n f).mtl j = s.mtl j := rfl
@[simp] theorem State.mtl_of_onPs (s : State) (n : Nat) (f : PsLane → PsLane) (j : Nat) : (s.onPs n f).mtl j = s.mtl j := rfl
@[simp] theorem State.mtl_of_onEfg (s : State) (n : Nat) (f : EfGroup → EfGroup) (j : Nat) : (s.onEfg n f).mtl j = s.mtl j := rfl
@[simp] theorem State.mtl_of_onEfl (s : State) (n : Nat) (f : EfLane → EfLane) (j : Nat) : (s.onEfl n f).mtl j = s.mtl j := rfl
@[simp] theorem State.mtl_of_onSfl (s : State) (n : Nat) (f : SfLane → SfLane) (j : Nat) : (s.onSfl n f).mtl j = s.mtl j := rfl
@[simp] theorem State.mtl_of_onWatch (s : State) (n : Nat) (f : Watch → Watch) (j : Nat) : (s.onWatch n f).mtl j = s.mtl j := rfl
@[simp] theorem State.mtl_of_onCh (s : State) (n : Nat) (f : PoCh → PoCh) (j : Nat) : (s.onCh n f).mtl j = s.mtl j := rfl
@[simp] theorem State.mtl_of_onDie (s : State) (n : Nat) (f : PoDie → PoDie) (j : Nat) : (s.onDie n f).mtl j = s.mtl j := rfl
@[simp] theorem State.mtl_of_onPort (s : State) (n : Nat) (f : Port → Port) (j : Nat) : (s.onPort n f).mtl j = s.mtl j := rfl
@[simp] theorem State.mtl_of_onTgp (s : State) (n : Nat) (f : TgPort → TgPort) (j : Nat) : (s.onTgp n f).mtl j = s.mtl j := rfl
@[simp] theorem State.mtl_of_onPanel (s : State) (n : Nat) (f : Panel → Panel) (j : Nat) : (s.onPanel n f).mtl j = s.mtl j := rfl
@[simp] theorem State.mtl_of_onMms (s : State) (n : Nat) (f : MmSide → MmSide) (j : Nat) : (s.onMms n f).mtl j = s.mtl j := rfl
@[simp] theorem State.mtl_of_onUps (s : State) (n : Nat) (f : UpSide → UpSide) (j : Nat) : (s.onUps n f).mtl j = s.mtl j := rfl
@[simp] theorem State.mtl_of_onMons (s : State) (n : Nat) (f : MonSide → MonSide) (j : Nat) : (s.onMons n f).mtl j = s.mtl j := rfl
@[simp] theorem State.mtl_of_onGrv (s : State) (f : Graver → Graver) (j : Nat) : (s.onGrv f).mtl j = s.mtl j := rfl
@[simp] theorem State.mtl_of_raise (s : State) (e : Ev) (j : Nat) : (s.raise e).mtl j = s.mtl j := rfl
@[simp] theorem State.mtl_of_direct (s : State) (e : Ev) (j : Nat) : (s.direct e).mtl j = s.mtl j := rfl
@[simp] theorem State.mtl_of_ask (s : State) (e : Emit) (j : Nat) : (s.ask e).mtl j = s.mtl j := rfl
@[simp] theorem State.mtl_of_drawn (s : State) (j : Nat) : (s.drawn).mtl j = s.mtl j := rfl
@[simp] theorem State.mtl_of_evLane (s : State) (c : EvClass) (n k : Nat) (d : Bytes) (g : Nat) (j : Nat) : (s.evLane c n k d g).mtl j = s.mtl j := rfl
@[simp] theorem State.mtl_of_evMod (s : State) (c : EvClass) (x u k : Nat) (d : Bytes) (g : Nat) (j : Nat) : (s.evMod c x u k d g).mtl j = s.mtl j := rfl
@[simp] theorem State.mtl_of_startTimer (s : State) (n k d : Nat) (j : Nat) : (s.startTimer n k d).mtl j = s.mtl j := rfl
@[simp] theorem State.mtl_of_stopTimer (s : State) (n k : Nat) (j : Nat) : (s.stopTimer n k).mtl j = s.mtl j := rfl
@[simp] theorem State.mtl_of_laneState (s : State) (c : EvClass) (n : Nat) (x : Cause) (j : Nat) : (s.laneState c n x).mtl j = s.mtl j := rfl
@[simp] theorem State.mtl_of_evContactor (s : State) (n f c r m : Nat) (j : Nat) : (s.evContactor n f c r m).mtl j = s.mtl j := rfl
@[simp] theorem State.mtl_of_evLock (s : State) (n a r m : Nat) (j : Nat) : (s.evLock n a r m).mtl j = s.mtl j := rfl
@[simp] theorem State.mtl_of_evChan (s : State) (k c : Nat) (d : Bytes) (j : Nat) : (s.evChan k c d).mtl j = s.mtl j := rfl
@[simp] theorem State.mtl_of_onEn (s : State) (c : Bool) (n : Nat) (f : EnSet → EnSet) (j : Nat) : (s.onEn c n f).mtl j = s.mtl j := by
  cases c <;> rfl
@[simp] theorem State.pls_of_onLane (s : State) (n : Nat) (f : Lane → Lane) (j : Nat) : (s.onLane n f).pls j = s.pls j := rfl
@[simp] theorem State.pls_of_onHs (s : State) (n : Nat) (f : HsLane → HsLane) (j : Nat) : (s.onHs n f).pls j = s.pls j := rfl
@[simp] theorem State.pls_of_onPilot (s : State) (n : Nat) (f : PilotHs → PilotHs) (j : Nat) : (s.onPilot n f).pls j = s.pls j := rfl
@[simp] theorem State.pls_of_onLink (s : State) (n : Nat) (f : LinkHs → LinkHs) (j : Nat) : (s.onLink n f).pls j = s.pls j := rfl
@[simp] theorem State.pls_of_onCnt (s : State) (n : Nat) (f : CntHs → CntHs) (j : Nat) : (s.onCnt n f).pls j = s.pls j := rfl
@[simp] theorem State.pls_of_onPp (s : State) (n : Nat) (f : PpLane → PpLane) (j : Nat) : (s.onPp n f).pls j = s.pls j := rfl
@[simp] theorem State.pls_of_onCan (s : State) (n : Nat) (f : PpCan → PpCan) (j : Nat) : (s.onCan n f).pls j = s.pls j := rfl
@[simp] theorem State.pls_of_onPs (s : State) (n : Nat) (f : PsLane → PsLane) (j : Nat) : (s.onPs n f).pls j = s.pls j := rfl
@[simp] theorem State.pls_of_onEfg (s : State) (n : Nat) (f : EfGroup → EfGroup) (j : Nat) : (s.onEfg n f).pls j = s.pls j := rfl
@[simp] theorem State.pls_of_onEfl (s : State) (n : Nat) (f : EfLane → EfLane) (j : Nat) : (s.onEfl n f).pls j = s.pls j := rfl
@[simp] theorem State.pls_of_onSfl (s : State) (n : Nat) (f : SfLane → SfLane) (j : Nat) : (s.onSfl n f).pls j = s.pls j := rfl
@[simp] theorem State.pls_of_onWatch (s : State) (n : Nat) (f : Watch → Watch) (j : Nat) : (s.onWatch n f).pls j = s.pls j := rfl
@[simp] theorem State.pls_of_onCh (s : State) (n : Nat) (f : PoCh → PoCh) (j : Nat) : (s.onCh n f).pls j = s.pls j := rfl
@[simp] theorem State.pls_of_onDie (s : State) (n : Nat) (f : PoDie → PoDie) (j : Nat) : (s.onDie n f).pls j = s.pls j := rfl
@[simp] theorem State.pls_of_onPort (s : State) (n : Nat) (f : Port → Port) (j : Nat) : (s.onPort n f).pls j = s.pls j := rfl
@[simp] theorem State.pls_of_onTgp (s : State) (n : Nat) (f : TgPort → TgPort) (j : Nat) : (s.onTgp n f).pls j = s.pls j := rfl
@[simp] theorem State.pls_of_onPanel (s : State) (n : Nat) (f : Panel → Panel) (j : Nat) : (s.onPanel n f).pls j = s.pls j := rfl
@[simp] theorem State.pls_of_onMms (s : State) (n : Nat) (f : MmSide → MmSide) (j : Nat) : (s.onMms n f).pls j = s.pls j := rfl
@[simp] theorem State.pls_of_onUps (s : State) (n : Nat) (f : UpSide → UpSide) (j : Nat) : (s.onUps n f).pls j = s.pls j := rfl
@[simp] theorem State.pls_of_onMons (s : State) (n : Nat) (f : MonSide → MonSide) (j : Nat) : (s.onMons n f).pls j = s.pls j := rfl
@[simp] theorem State.pls_of_onGrv (s : State) (f : Graver → Graver) (j : Nat) : (s.onGrv f).pls j = s.pls j := rfl
@[simp] theorem State.pls_of_raise (s : State) (e : Ev) (j : Nat) : (s.raise e).pls j = s.pls j := rfl
@[simp] theorem State.pls_of_direct (s : State) (e : Ev) (j : Nat) : (s.direct e).pls j = s.pls j := rfl
@[simp] theorem State.pls_of_ask (s : State) (e : Emit) (j : Nat) : (s.ask e).pls j = s.pls j := rfl
@[simp] theorem State.pls_of_drawn (s : State) (j : Nat) : (s.drawn).pls j = s.pls j := rfl
@[simp] theorem State.pls_of_evLane (s : State) (c : EvClass) (n k : Nat) (d : Bytes) (g : Nat) (j : Nat) : (s.evLane c n k d g).pls j = s.pls j := rfl
@[simp] theorem State.pls_of_evMod (s : State) (c : EvClass) (x u k : Nat) (d : Bytes) (g : Nat) (j : Nat) : (s.evMod c x u k d g).pls j = s.pls j := rfl
@[simp] theorem State.pls_of_startTimer (s : State) (n k d : Nat) (j : Nat) : (s.startTimer n k d).pls j = s.pls j := rfl
@[simp] theorem State.pls_of_stopTimer (s : State) (n k : Nat) (j : Nat) : (s.stopTimer n k).pls j = s.pls j := rfl
@[simp] theorem State.pls_of_laneState (s : State) (c : EvClass) (n : Nat) (x : Cause) (j : Nat) : (s.laneState c n x).pls j = s.pls j := rfl
@[simp] theorem State.pls_of_evContactor (s : State) (n f c r m : Nat) (j : Nat) : (s.evContactor n f c r m).pls j = s.pls j := rfl
@[simp] theorem State.pls_of_evLock (s : State) (n a r m : Nat) (j : Nat) : (s.evLock n a r m).pls j = s.pls j := rfl
@[simp] theorem State.pls_of_evChan (s : State) (k c : Nat) (d : Bytes) (j : Nat) : (s.evChan k c d).pls j = s.pls j := rfl
@[simp] theorem State.pls_of_onEn (s : State) (c : Bool) (n : Nat) (f : EnSet → EnSet) (j : Nat) : (s.onEn c n f).pls j = s.pls j := by
  cases c <;> rfl
@[simp] theorem State.sfl_of_onLane (s : State) (n : Nat) (f : Lane → Lane) (j : Nat) : (s.onLane n f).sfl j = s.sfl j := rfl
@[simp] theorem State.sfl_of_onHs (s : State) (n : Nat) (f : HsLane → HsLane) (j : Nat) : (s.onHs n f).sfl j = s.sfl j := rfl
@[simp] theorem State.sfl_of_onPilot (s : State) (n : Nat) (f : PilotHs → PilotHs) (j : Nat) : (s.onPilot n f).sfl j = s.sfl j := rfl
@[simp] theorem State.sfl_of_onLink (s : State) (n : Nat) (f : LinkHs → LinkHs) (j : Nat) : (s.onLink n f).sfl j = s.sfl j := rfl
@[simp] theorem State.sfl_of_onCnt (s : State) (n : Nat) (f : CntHs → CntHs) (j : Nat) : (s.onCnt n f).sfl j = s.sfl j := rfl
@[simp] theorem State.sfl_of_onPp (s : State) (n : Nat) (f : PpLane → PpLane) (j : Nat) : (s.onPp n f).sfl j = s.sfl j := rfl
@[simp] theorem State.sfl_of_onCan (s : State) (n : Nat) (f : PpCan → PpCan) (j : Nat) : (s.onCan n f).sfl j = s.sfl j := rfl
@[simp] theorem State.sfl_of_onPs (s : State) (n : Nat) (f : PsLane → PsLane) (j : Nat) : (s.onPs n f).sfl j = s.sfl j := rfl
@[simp] theorem State.sfl_of_onEfg (s : State) (n : Nat) (f : EfGroup → EfGroup) (j : Nat) : (s.onEfg n f).sfl j = s.sfl j := rfl
@[simp] theorem State.sfl_of_onEfl (s : State) (n : Nat) (f : EfLane → EfLane) (j : Nat) : (s.onEfl n f).sfl j = s.sfl j := rfl
@[simp] theorem State.sfl_of_onChan (s : State) (n : Nat) (f : MtChan → MtChan) (j : Nat) : (s.onChan n f).sfl j = s.sfl j := rfl
@[simp] theorem State.sfl_of_onMtl (s : State) (n : Nat) (f : MtLane → MtLane) (j : Nat) : (s.onMtl n f).sfl j = s.sfl j := rfl
@[simp] theorem State.sfl_of_onPls (s : State) (n : Nat) (f : MtPulse → MtPulse) (j : Nat) : (s.onPls n f).sfl j = s.sfl j := rfl
@[simp] theorem State.sfl_of_onCh (s : State) (n : Nat) (f : PoCh → PoCh) (j : Nat) : (s.onCh n f).sfl j = s.sfl j := rfl
@[simp] theorem State.sfl_of_onDie (s : State) (n : Nat) (f : PoDie → PoDie) (j : Nat) : (s.onDie n f).sfl j = s.sfl j := rfl
@[simp] theorem State.sfl_of_onPort (s : State) (n : Nat) (f : Port → Port) (j : Nat) : (s.onPort n f).sfl j = s.sfl j := rfl
@[simp] theorem State.sfl_of_onTgp (s : State) (n : Nat) (f : TgPort → TgPort) (j : Nat) : (s.onTgp n f).sfl j = s.sfl j := rfl
@[simp] theorem State.sfl_of_onPanel (s : State) (n : Nat) (f : Panel → Panel) (j : Nat) : (s.onPanel n f).sfl j = s.sfl j := rfl
@[simp] theorem State.sfl_of_onMms (s : State) (n : Nat) (f : MmSide → MmSide) (j : Nat) : (s.onMms n f).sfl j = s.sfl j := rfl
@[simp] theorem State.sfl_of_onUps (s : State) (n : Nat) (f : UpSide → UpSide) (j : Nat) : (s.onUps n f).sfl j = s.sfl j := rfl
@[simp] theorem State.sfl_of_onMons (s : State) (n : Nat) (f : MonSide → MonSide) (j : Nat) : (s.onMons n f).sfl j = s.sfl j := rfl
@[simp] theorem State.sfl_of_raise (s : State) (e : Ev) (j : Nat) : (s.raise e).sfl j = s.sfl j := rfl
@[simp] theorem State.sfl_of_direct (s : State) (e : Ev) (j : Nat) : (s.direct e).sfl j = s.sfl j := rfl
@[simp] theorem State.sfl_of_ask (s : State) (e : Emit) (j : Nat) : (s.ask e).sfl j = s.sfl j := rfl
@[simp] theorem State.sfl_of_drawn (s : State) (j : Nat) : (s.drawn).sfl j = s.sfl j := rfl
@[simp] theorem State.sfl_of_evLane (s : State) (c : EvClass) (n k : Nat) (d : Bytes) (g : Nat) (j : Nat) : (s.evLane c n k d g).sfl j = s.sfl j := rfl
@[simp] theorem State.sfl_of_evMod (s : State) (c : EvClass) (x u k : Nat) (d : Bytes) (g : Nat) (j : Nat) : (s.evMod c x u k d g).sfl j = s.sfl j := rfl
@[simp] theorem State.sfl_of_startTimer (s : State) (n k d : Nat) (j : Nat) : (s.startTimer n k d).sfl j = s.sfl j := rfl
@[simp] theorem State.sfl_of_stopTimer (s : State) (n k : Nat) (j : Nat) : (s.stopTimer n k).sfl j = s.sfl j := rfl
@[simp] theorem State.sfl_of_laneState (s : State) (c : EvClass) (n : Nat) (x : Cause) (j : Nat) : (s.laneState c n x).sfl j = s.sfl j := rfl
@[simp] theorem State.sfl_of_evContactor (s : State) (n f c r m : Nat) (j : Nat) : (s.evContactor n f c r m).sfl j = s.sfl j := rfl
@[simp] theorem State.sfl_of_evLock (s : State) (n a r m : Nat) (j : Nat) : (s.evLock n a r m).sfl j = s.sfl j := rfl
@[simp] theorem State.sfl_of_evChan (s : State) (k c : Nat) (d : Bytes) (j : Nat) : (s.evChan k c d).sfl j = s.sfl j := rfl
@[simp] theorem State.sfl_of_onEn (s : State) (c : Bool) (n : Nat) (f : EnSet → EnSet) (j : Nat) : (s.onEn c n f).sfl j = s.sfl j := by
  cases c <;> rfl
@[simp] theorem State.wat_of_onLane (s : State) (n : Nat) (f : Lane → Lane) (j : Nat) : (s.onLane n f).wat j = s.wat j := rfl
@[simp] theorem State.wat_of_onHs (s : State) (n : Nat) (f : HsLane → HsLane) (j : Nat) : (s.onHs n f).wat j = s.wat j := rfl
@[simp] theorem State.wat_of_onPilot (s : State) (n : Nat) (f : PilotHs → PilotHs) (j : Nat) : (s.onPilot n f).wat j = s.wat j := rfl
@[simp] theorem State.wat_of_onLink (s : State) (n : Nat) (f : LinkHs → LinkHs) (j : Nat) : (s.onLink n f).wat j = s.wat j := rfl
@[simp] theorem State.wat_of_onCnt (s : State) (n : Nat) (f : CntHs → CntHs) (j : Nat) : (s.onCnt n f).wat j = s.wat j := rfl
@[simp] theorem State.wat_of_onPp (s : State) (n : Nat) (f : PpLane → PpLane) (j : Nat) : (s.onPp n f).wat j = s.wat j := rfl
@[simp] theorem State.wat_of_onCan (s : State) (n : Nat) (f : PpCan → PpCan) (j : Nat) : (s.onCan n f).wat j = s.wat j := rfl
@[simp] theorem State.wat_of_onPs (s : State) (n : Nat) (f : PsLane → PsLane) (j : Nat) : (s.onPs n f).wat j = s.wat j := rfl
@[simp] theorem State.wat_of_onEfg (s : State) (n : Nat) (f : EfGroup → EfGroup) (j : Nat) : (s.onEfg n f).wat j = s.wat j := rfl
@[simp] theorem State.wat_of_onEfl (s : State) (n : Nat) (f : EfLane → EfLane) (j : Nat) : (s.onEfl n f).wat j = s.wat j := rfl
@[simp] theorem State.wat_of_onChan (s : State) (n : Nat) (f : MtChan → MtChan) (j : Nat) : (s.onChan n f).wat j = s.wat j := rfl
@[simp] theorem State.wat_of_onMtl (s : State) (n : Nat) (f : MtLane → MtLane) (j : Nat) : (s.onMtl n f).wat j = s.wat j := rfl
@[simp] theorem State.wat_of_onPls (s : State) (n : Nat) (f : MtPulse → MtPulse) (j : Nat) : (s.onPls n f).wat j = s.wat j := rfl
@[simp] theorem State.wat_of_onCh (s : State) (n : Nat) (f : PoCh → PoCh) (j : Nat) : (s.onCh n f).wat j = s.wat j := rfl
@[simp] theorem State.wat_of_onDie (s : State) (n : Nat) (f : PoDie → PoDie) (j : Nat) : (s.onDie n f).wat j = s.wat j := rfl
@[simp] theorem State.wat_of_onPort (s : State) (n : Nat) (f : Port → Port) (j : Nat) : (s.onPort n f).wat j = s.wat j := rfl
@[simp] theorem State.wat_of_onTgp (s : State) (n : Nat) (f : TgPort → TgPort) (j : Nat) : (s.onTgp n f).wat j = s.wat j := rfl
@[simp] theorem State.wat_of_onPanel (s : State) (n : Nat) (f : Panel → Panel) (j : Nat) : (s.onPanel n f).wat j = s.wat j := rfl
@[simp] theorem State.wat_of_onMms (s : State) (n : Nat) (f : MmSide → MmSide) (j : Nat) : (s.onMms n f).wat j = s.wat j := rfl
@[simp] theorem State.wat_of_onUps (s : State) (n : Nat) (f : UpSide → UpSide) (j : Nat) : (s.onUps n f).wat j = s.wat j := rfl
@[simp] theorem State.wat_of_onMons (s : State) (n : Nat) (f : MonSide → MonSide) (j : Nat) : (s.onMons n f).wat j = s.wat j := rfl
@[simp] theorem State.wat_of_raise (s : State) (e : Ev) (j : Nat) : (s.raise e).wat j = s.wat j := rfl
@[simp] theorem State.wat_of_direct (s : State) (e : Ev) (j : Nat) : (s.direct e).wat j = s.wat j := rfl
@[simp] theorem State.wat_of_ask (s : State) (e : Emit) (j : Nat) : (s.ask e).wat j = s.wat j := rfl
@[simp] theorem State.wat_of_drawn (s : State) (j : Nat) : (s.drawn).wat j = s.wat j := rfl
@[simp] theorem State.wat_of_evLane (s : State) (c : EvClass) (n k : Nat) (d : Bytes) (g : Nat) (j : Nat) : (s.evLane c n k d g).wat j = s.wat j := rfl
@[simp] theorem State.wat_of_evMod (s : State) (c : EvClass) (x u k : Nat) (d : Bytes) (g : Nat) (j : Nat) : (s.evMod c x u k d g).wat j = s.wat j := rfl
@[simp] theorem State.wat_of_startTimer (s : State) (n k d : Nat) (j : Nat) : (s.startTimer n k d).wat j = s.wat j := rfl
@[simp] theorem State.wat_of_stopTimer (s : State) (n k : Nat) (j : Nat) : (s.stopTimer n k).wat j = s.wat j := rfl
@[simp] theorem State.wat_of_laneState (s : State) (c : EvClass) (n : Nat) (x : Cause) (j : Nat) : (s.laneState c n x).wat j = s.wat j := rfl
@[simp] theorem State.wat_of_evContactor (s : State) (n f c r m : Nat) (j : Nat) : (s.evContactor n f c r m).wat j = s.wat j := rfl
@[simp] theorem State.wat_of_evLock (s : State) (n a r m : Nat) (j : Nat) : (s.evLock n a r m).wat j = s.wat j := rfl
@[simp] theorem State.wat_of_evChan (s : State) (k c : Nat) (d : Bytes) (j : Nat) : (s.evChan k c d).wat j = s.wat j := rfl
@[simp] theorem State.wat_of_onEn (s : State) (c : Bool) (n : Nat) (f : EnSet → EnSet) (j : Nat) : (s.onEn c n f).wat j = s.wat j := by
  cases c <;> rfl
@[simp] theorem State.och_of_onLane (s : State) (n : Nat) (f : Lane → Lane) (j : Nat) : (s.onLane n f).och j = s.och j := rfl
@[simp] theorem State.och_of_onHs (s : State) (n : Nat) (f : HsLane → HsLane) (j : Nat) : (s.onHs n f).och j = s.och j := rfl
@[simp] theorem State.och_of_onPilot (s : State) (n : Nat) (f : PilotHs → PilotHs) (j : Nat) : (s.onPilot n f).och j = s.och j := rfl
@[simp] theorem State.och_of_onLink (s : State) (n : Nat) (f : LinkHs → LinkHs) (j : Nat) : (s.onLink n f).och j = s.och j := rfl
@[simp] theorem State.och_of_onCnt (s : State) (n : Nat) (f : CntHs → CntHs) (j : Nat) : (s.onCnt n f).och j = s.och j := rfl
@[simp] theorem State.och_of_onPp (s : State) (n : Nat) (f : PpLane → PpLane) (j : Nat) : (s.onPp n f).och j = s.och j := rfl
@[simp] theorem State.och_of_onCan (s : State) (n : Nat) (f : PpCan → PpCan) (j : Nat) : (s.onCan n f).och j = s.och j := rfl
@[simp] theorem State.och_of_onPs (s : State) (n : Nat) (f : PsLane → PsLane) (j : Nat) : (s.onPs n f).och j = s.och j := rfl
@[simp] theorem State.och_of_onEfg (s : State) (n : Nat) (f : EfGroup → EfGroup) (j : Nat) : (s.onEfg n f).och j = s.och j := rfl
@[simp] theorem State.och_of_onEfl (s : State) (n : Nat) (f : EfLane → EfLane) (j : Nat) : (s.onEfl n f).och j = s.och j := rfl
@[simp] theorem State.och_of_onChan (s : State) (n : Nat) (f : MtChan → MtChan) (j : Nat) : (s.onChan n f).och j = s.och j := rfl
@[simp] theorem State.och_of_onMtl (s : State) (n : Nat) (f : MtLane → MtLane) (j : Nat) : (s.onMtl n f).och j = s.och j := rfl
@[simp] theorem State.och_of_onPls (s : State) (n : Nat) (f : MtPulse → MtPulse) (j : Nat) : (s.onPls n f).och j = s.och j := rfl
@[simp] theorem State.och_of_onSfl (s : State) (n : Nat) (f : SfLane → SfLane) (j : Nat) : (s.onSfl n f).och j = s.och j := rfl
@[simp] theorem State.och_of_onWatch (s : State) (n : Nat) (f : Watch → Watch) (j : Nat) : (s.onWatch n f).och j = s.och j := rfl
@[simp] theorem State.och_of_onPort (s : State) (n : Nat) (f : Port → Port) (j : Nat) : (s.onPort n f).och j = s.och j := rfl
@[simp] theorem State.och_of_onTgp (s : State) (n : Nat) (f : TgPort → TgPort) (j : Nat) : (s.onTgp n f).och j = s.och j := rfl
@[simp] theorem State.och_of_onPanel (s : State) (n : Nat) (f : Panel → Panel) (j : Nat) : (s.onPanel n f).och j = s.och j := rfl
@[simp] theorem State.och_of_onMms (s : State) (n : Nat) (f : MmSide → MmSide) (j : Nat) : (s.onMms n f).och j = s.och j := rfl
@[simp] theorem State.och_of_onUps (s : State) (n : Nat) (f : UpSide → UpSide) (j : Nat) : (s.onUps n f).och j = s.och j := rfl
@[simp] theorem State.och_of_onMons (s : State) (n : Nat) (f : MonSide → MonSide) (j : Nat) : (s.onMons n f).och j = s.och j := rfl
@[simp] theorem State.och_of_onGrv (s : State) (f : Graver → Graver) (j : Nat) : (s.onGrv f).och j = s.och j := rfl
@[simp] theorem State.och_of_raise (s : State) (e : Ev) (j : Nat) : (s.raise e).och j = s.och j := rfl
@[simp] theorem State.och_of_direct (s : State) (e : Ev) (j : Nat) : (s.direct e).och j = s.och j := rfl
@[simp] theorem State.och_of_ask (s : State) (e : Emit) (j : Nat) : (s.ask e).och j = s.och j := rfl
@[simp] theorem State.och_of_drawn (s : State) (j : Nat) : (s.drawn).och j = s.och j := rfl
@[simp] theorem State.och_of_evLane (s : State) (c : EvClass) (n k : Nat) (d : Bytes) (g : Nat) (j : Nat) : (s.evLane c n k d g).och j = s.och j := rfl
@[simp] theorem State.och_of_evMod (s : State) (c : EvClass) (x u k : Nat) (d : Bytes) (g : Nat) (j : Nat) : (s.evMod c x u k d g).och j = s.och j := rfl
@[simp] theorem State.och_of_startTimer (s : State) (n k d : Nat) (j : Nat) : (s.startTimer n k d).och j = s.och j := rfl
@[simp] theorem State.och_of_stopTimer (s : State) (n k : Nat) (j : Nat) : (s.stopTimer n k).och j = s.och j := rfl
@[simp] theorem State.och_of_laneState (s : State) (c : EvClass) (n : Nat) (x : Cause) (j : Nat) : (s.laneState c n x).och j = s.och j := rfl
@[simp] theorem State.och_of_evContactor (s : State) (n f c r m : Nat) (j : Nat) : (s.evContactor n f c r m).och j = s.och j := rfl
@[simp] theorem State.och_of_evLock (s : State) (n a r m : Nat) (j : Nat) : (s.evLock n a r m).och j = s.och j := rfl
@[simp] theorem State.och_of_evChan (s : State) (k c : Nat) (d : Bytes) (j : Nat) : (s.evChan k c d).och j = s.och j := rfl
@[simp] theorem State.och_of_onEn (s : State) (c : Bool) (n : Nat) (f : EnSet → EnSet) (j : Nat) : (s.onEn c n f).och j = s.och j := by
  cases c <;> rfl
@[simp] theorem State.swd_of_onLane (s : State) (n : Nat) (f : Lane → Lane) (j : Nat) : (s.onLane n f).swd j = s.swd j := rfl
@[simp] theorem State.swd_of_onHs (s : State) (n : Nat) (f : HsLane → HsLane) (j : Nat) : (s.onHs n f).swd j = s.swd j := rfl
@[simp] theorem State.swd_of_onPilot (s : State) (n : Nat) (f : PilotHs → PilotHs) (j : Nat) : (s.onPilot n f).swd j = s.swd j := rfl
@[simp] theorem State.swd_of_onLink (s : State) (n : Nat) (f : LinkHs → LinkHs) (j : Nat) : (s.onLink n f).swd j = s.swd j := rfl
@[simp] theorem State.swd_of_onCnt (s : State) (n : Nat) (f : CntHs → CntHs) (j : Nat) : (s.onCnt n f).swd j = s.swd j := rfl
@[simp] theorem State.swd_of_onPp (s : State) (n : Nat) (f : PpLane → PpLane) (j : Nat) : (s.onPp n f).swd j = s.swd j := rfl
@[simp] theorem State.swd_of_onCan (s : State) (n : Nat) (f : PpCan → PpCan) (j : Nat) : (s.onCan n f).swd j = s.swd j := rfl
@[simp] theorem State.swd_of_onPs (s : State) (n : Nat) (f : PsLane → PsLane) (j : Nat) : (s.onPs n f).swd j = s.swd j := rfl
@[simp] theorem State.swd_of_onEfg (s : State) (n : Nat) (f : EfGroup → EfGroup) (j : Nat) : (s.onEfg n f).swd j = s.swd j := rfl
@[simp] theorem State.swd_of_onEfl (s : State) (n : Nat) (f : EfLane → EfLane) (j : Nat) : (s.onEfl n f).swd j = s.swd j := rfl
@[simp] theorem State.swd_of_onChan (s : State) (n : Nat) (f : MtChan → MtChan) (j : Nat) : (s.onChan n f).swd j = s.swd j := rfl
@[simp] theorem State.swd_of_onMtl (s : State) (n : Nat) (f : MtLane → MtLane) (j : Nat) : (s.onMtl n f).swd j = s.swd j := rfl
@[simp] theorem State.swd_of_onPls (s : State) (n : Nat) (f : MtPulse → MtPulse) (j : Nat) : (s.onPls n f).swd j = s.swd j := rfl
@[simp] theorem State.swd_of_onSfl (s : State) (n : Nat) (f : SfLane → SfLane) (j : Nat) : (s.onSfl n f).swd j = s.swd j := rfl
@[simp] theorem State.swd_of_onWatch (s : State) (n : Nat) (f : Watch → Watch) (j : Nat) : (s.onWatch n f).swd j = s.swd j := rfl
@[simp] theorem State.swd_of_onPort (s : State) (n : Nat) (f : Port → Port) (j : Nat) : (s.onPort n f).swd j = s.swd j := rfl
@[simp] theorem State.swd_of_onTgp (s : State) (n : Nat) (f : TgPort → TgPort) (j : Nat) : (s.onTgp n f).swd j = s.swd j := rfl
@[simp] theorem State.swd_of_onPanel (s : State) (n : Nat) (f : Panel → Panel) (j : Nat) : (s.onPanel n f).swd j = s.swd j := rfl
@[simp] theorem State.swd_of_onMms (s : State) (n : Nat) (f : MmSide → MmSide) (j : Nat) : (s.onMms n f).swd j = s.swd j := rfl
@[simp] theorem State.swd_of_onUps (s : State) (n : Nat) (f : UpSide → UpSide) (j : Nat) : (s.onUps n f).swd j = s.swd j := rfl
@[simp] theorem State.swd_of_onMons (s : State) (n : Nat) (f : MonSide → MonSide) (j : Nat) : (s.onMons n f).swd j = s.swd j := rfl
@[simp] theorem State.swd_of_onGrv (s : State) (f : Graver → Graver) (j : Nat) : (s.onGrv f).swd j = s.swd j := rfl
@[simp] theorem State.swd_of_raise (s : State) (e : Ev) (j : Nat) : (s.raise e).swd j = s.swd j := rfl
@[simp] theorem State.swd_of_direct (s : State) (e : Ev) (j : Nat) : (s.direct e).swd j = s.swd j := rfl
@[simp] theorem State.swd_of_ask (s : State) (e : Emit) (j : Nat) : (s.ask e).swd j = s.swd j := rfl
@[simp] theorem State.swd_of_drawn (s : State) (j : Nat) : (s.drawn).swd j = s.swd j := rfl
@[simp] theorem State.swd_of_evLane (s : State) (c : EvClass) (n k : Nat) (d : Bytes) (g : Nat) (j : Nat) : (s.evLane c n k d g).swd j = s.swd j := rfl
@[simp] theorem State.swd_of_evMod (s : State) (c : EvClass) (x u k : Nat) (d : Bytes) (g : Nat) (j : Nat) : (s.evMod c x u k d g).swd j = s.swd j := rfl
@[simp] theorem State.swd_of_startTimer (s : State) (n k d : Nat) (j : Nat) : (s.startTimer n k d).swd j = s.swd j := rfl
@[simp] theorem State.swd_of_stopTimer (s : State) (n k : Nat) (j : Nat) : (s.stopTimer n k).swd j = s.swd j := rfl
@[simp] theorem State.swd_of_laneState (s : State) (c : EvClass) (n : Nat) (x : Cause) (j : Nat) : (s.laneState c n x).swd j = s.swd j := rfl
@[simp] theorem State.swd_of_evContactor (s : State) (n f c r m : Nat) (j : Nat) : (s.evContactor n f c r m).swd j = s.swd j := rfl
@[simp] theorem State.swd_of_evLock (s : State) (n a r m : Nat) (j : Nat) : (s.evLock n a r m).swd j = s.swd j := rfl
@[simp] theorem State.swd_of_evChan (s : State) (k c : Nat) (d : Bytes) (j : Nat) : (s.evChan k c d).swd j = s.swd j := rfl
@[simp] theorem State.swd_of_onEn (s : State) (c : Bool) (n : Nat) (f : EnSet → EnSet) (j : Nat) : (s.onEn c n f).swd j = s.swd j := by
  cases c <;> rfl
@[simp] theorem State.port_of_onLane (s : State) (n : Nat) (f : Lane → Lane) (j : Nat) : (s.onLane n f).port j = s.port j := rfl
@[simp] theorem State.port_of_onHs (s : State) (n : Nat) (f : HsLane → HsLane) (j : Nat) : (s.onHs n f).port j = s.port j := rfl
@[simp] theorem State.port_of_onPilot (s : State) (n : Nat) (f : PilotHs → PilotHs) (j : Nat) : (s.onPilot n f).port j = s.port j := rfl
@[simp] theorem State.port_of_onLink (s : State) (n : Nat) (f : LinkHs → LinkHs) (j : Nat) : (s.onLink n f).port j = s.port j := rfl
@[simp] theorem State.port_of_onCnt (s : State) (n : Nat) (f : CntHs → CntHs) (j : Nat) : (s.onCnt n f).port j = s.port j := rfl
@[simp] theorem State.port_of_onPp (s : State) (n : Nat) (f : PpLane → PpLane) (j : Nat) : (s.onPp n f).port j = s.port j := rfl
@[simp] theorem State.port_of_onCan (s : State) (n : Nat) (f : PpCan → PpCan) (j : Nat) : (s.onCan n f).port j = s.port j := rfl
@[simp] theorem State.port_of_onPs (s : State) (n : Nat) (f : PsLane → PsLane) (j : Nat) : (s.onPs n f).port j = s.port j := rfl
@[simp] theorem State.port_of_onEfg (s : State) (n : Nat) (f : EfGroup → EfGroup) (j : Nat) : (s.onEfg n f).port j = s.port j := rfl
@[simp] theorem State.port_of_onEfl (s : State) (n : Nat) (f : EfLane → EfLane) (j : Nat) : (s.onEfl n f).port j = s.port j := rfl
@[simp] theorem State.port_of_onChan (s : State) (n : Nat) (f : MtChan → MtChan) (j : Nat) : (s.onChan n f).port j = s.port j := rfl
@[simp] theorem State.port_of_onMtl (s : State) (n : Nat) (f : MtLane → MtLane) (j : Nat) : (s.onMtl n f).port j = s.port j := rfl
@[simp] theorem State.port_of_onPls (s : State) (n : Nat) (f : MtPulse → MtPulse) (j : Nat) : (s.onPls n f).port j = s.port j := rfl
@[simp] theorem State.port_of_onSfl (s : State) (n : Nat) (f : SfLane → SfLane) (j : Nat) : (s.onSfl n f).port j = s.port j := rfl
@[simp] theorem State.port_of_onWatch (s : State) (n : Nat) (f : Watch → Watch) (j : Nat) : (s.onWatch n f).port j = s.port j := rfl
@[simp] theorem State.port_of_onCh (s : State) (n : Nat) (f : PoCh → PoCh) (j : Nat) : (s.onCh n f).port j = s.port j := rfl
@[simp] theorem State.port_of_onDie (s : State) (n : Nat) (f : PoDie → PoDie) (j : Nat) : (s.onDie n f).port j = s.port j := rfl
@[simp] theorem State.port_of_onTgp (s : State) (n : Nat) (f : TgPort → TgPort) (j : Nat) : (s.onTgp n f).port j = s.port j := rfl
@[simp] theorem State.port_of_onPanel (s : State) (n : Nat) (f : Panel → Panel) (j : Nat) : (s.onPanel n f).port j = s.port j := rfl
@[simp] theorem State.port_of_onMms (s : State) (n : Nat) (f : MmSide → MmSide) (j : Nat) : (s.onMms n f).port j = s.port j := rfl
@[simp] theorem State.port_of_onUps (s : State) (n : Nat) (f : UpSide → UpSide) (j : Nat) : (s.onUps n f).port j = s.port j := rfl
@[simp] theorem State.port_of_onMons (s : State) (n : Nat) (f : MonSide → MonSide) (j : Nat) : (s.onMons n f).port j = s.port j := rfl
@[simp] theorem State.port_of_onGrv (s : State) (f : Graver → Graver) (j : Nat) : (s.onGrv f).port j = s.port j := rfl
@[simp] theorem State.port_of_raise (s : State) (e : Ev) (j : Nat) : (s.raise e).port j = s.port j := rfl
@[simp] theorem State.port_of_direct (s : State) (e : Ev) (j : Nat) : (s.direct e).port j = s.port j := rfl
@[simp] theorem State.port_of_ask (s : State) (e : Emit) (j : Nat) : (s.ask e).port j = s.port j := rfl
@[simp] theorem State.port_of_drawn (s : State) (j : Nat) : (s.drawn).port j = s.port j := rfl
@[simp] theorem State.port_of_evLane (s : State) (c : EvClass) (n k : Nat) (d : Bytes) (g : Nat) (j : Nat) : (s.evLane c n k d g).port j = s.port j := rfl
@[simp] theorem State.port_of_evMod (s : State) (c : EvClass) (x u k : Nat) (d : Bytes) (g : Nat) (j : Nat) : (s.evMod c x u k d g).port j = s.port j := rfl
@[simp] theorem State.port_of_startTimer (s : State) (n k d : Nat) (j : Nat) : (s.startTimer n k d).port j = s.port j := rfl
@[simp] theorem State.port_of_stopTimer (s : State) (n k : Nat) (j : Nat) : (s.stopTimer n k).port j = s.port j := rfl
@[simp] theorem State.port_of_laneState (s : State) (c : EvClass) (n : Nat) (x : Cause) (j : Nat) : (s.laneState c n x).port j = s.port j := rfl
@[simp] theorem State.port_of_evContactor (s : State) (n f c r m : Nat) (j : Nat) : (s.evContactor n f c r m).port j = s.port j := rfl
@[simp] theorem State.port_of_evLock (s : State) (n a r m : Nat) (j : Nat) : (s.evLock n a r m).port j = s.port j := rfl
@[simp] theorem State.port_of_evChan (s : State) (k c : Nat) (d : Bytes) (j : Nat) : (s.evChan k c d).port j = s.port j := rfl
@[simp] theorem State.port_of_onEn (s : State) (c : Bool) (n : Nat) (f : EnSet → EnSet) (j : Nat) : (s.onEn c n f).port j = s.port j := by
  cases c <;> rfl
@[simp] theorem State.tgp_of_onLane (s : State) (n : Nat) (f : Lane → Lane) (j : Nat) : (s.onLane n f).tgp j = s.tgp j := rfl
@[simp] theorem State.tgp_of_onHs (s : State) (n : Nat) (f : HsLane → HsLane) (j : Nat) : (s.onHs n f).tgp j = s.tgp j := rfl
@[simp] theorem State.tgp_of_onPilot (s : State) (n : Nat) (f : PilotHs → PilotHs) (j : Nat) : (s.onPilot n f).tgp j = s.tgp j := rfl
@[simp] theorem State.tgp_of_onLink (s : State) (n : Nat) (f : LinkHs → LinkHs) (j : Nat) : (s.onLink n f).tgp j = s.tgp j := rfl
@[simp] theorem State.tgp_of_onCnt (s : State) (n : Nat) (f : CntHs → CntHs) (j : Nat) : (s.onCnt n f).tgp j = s.tgp j := rfl
@[simp] theorem State.tgp_of_onPp (s : State) (n : Nat) (f : PpLane → PpLane) (j : Nat) : (s.onPp n f).tgp j = s.tgp j := rfl
@[simp] theorem State.tgp_of_onCan (s : State) (n : Nat) (f : PpCan → PpCan) (j : Nat) : (s.onCan n f).tgp j = s.tgp j := rfl
@[simp] theorem State.tgp_of_onPs (s : State) (n : Nat) (f : PsLane → PsLane) (j : Nat) : (s.onPs n f).tgp j = s.tgp j := rfl
@[simp] theorem State.tgp_of_onEfg (s : State) (n : Nat) (f : EfGroup → EfGroup) (j : Nat) : (s.onEfg n f).tgp j = s.tgp j := rfl
@[simp] theorem State.tgp_of_onEfl (s : State) (n : Nat) (f : EfLane → EfLane) (j : Nat) : (s.onEfl n f).tgp j = s.tgp j := rfl
@[simp] theorem State.tgp_of_onChan (s : State) (n : Nat) (f : MtChan → MtChan) (j : Nat) : (s.onChan n f).tgp j = s.tgp j := rfl
@[simp] theorem State.tgp_of_onMtl (s : State) (n : Nat) (f : MtLane → MtLane) (j : Nat) : (s.onMtl n f).tgp j = s.tgp j := rfl
@[simp] theorem State.tgp_of_onPls (s : State) (n : Nat) (f : MtPulse → MtPulse) (j : Nat) : (s.onPls n f).tgp j = s.tgp j := rfl
@[simp] theorem State.tgp_of_onSfl (s : State) (n : Nat) (f : SfLane → SfLane) (j : Nat) : (s.onSfl n f).tgp j = s.tgp j := rfl
@[simp] theorem State.tgp_of_onWatch (s : State) (n : Nat) (f : Watch → Watch) (j : Nat) : (s.onWatch n f).tgp j = s.tgp j := rfl
@[simp] theorem State.tgp_of_onCh (s : State) (n : Nat) (f : PoCh → PoCh) (j : Nat) : (s.onCh n f).tgp j = s.tgp j := rfl
@[simp] theorem State.tgp_of_onDie (s : State) (n : Nat) (f : PoDie → PoDie) (j : Nat) : (s.onDie n f).tgp j = s.tgp j := rfl
@[simp] theorem State.tgp_of_onPort (s : State) (n : Nat) (f : Port → Port) (j : Nat) : (s.onPort n f).tgp j = s.tgp j := rfl
@[simp] theorem State.tgp_of_onPanel (s : State) (n : Nat) (f : Panel → Panel) (j : Nat) : (s.onPanel n f).tgp j = s.tgp j := rfl
@[simp] theorem State.tgp_of_onMms (s : State) (n : Nat) (f : MmSide → MmSide) (j : Nat) : (s.onMms n f).tgp j = s.tgp j := rfl
@[simp] theorem State.tgp_of_onUps (s : State) (n : Nat) (f : UpSide → UpSide) (j : Nat) : (s.onUps n f).tgp j = s.tgp j := rfl
@[simp] theorem State.tgp_of_onMons (s : State) (n : Nat) (f : MonSide → MonSide) (j : Nat) : (s.onMons n f).tgp j = s.tgp j := rfl
@[simp] theorem State.tgp_of_onGrv (s : State) (f : Graver → Graver) (j : Nat) : (s.onGrv f).tgp j = s.tgp j := rfl
@[simp] theorem State.tgp_of_raise (s : State) (e : Ev) (j : Nat) : (s.raise e).tgp j = s.tgp j := rfl
@[simp] theorem State.tgp_of_direct (s : State) (e : Ev) (j : Nat) : (s.direct e).tgp j = s.tgp j := rfl
@[simp] theorem State.tgp_of_ask (s : State) (e : Emit) (j : Nat) : (s.ask e).tgp j = s.tgp j := rfl
@[simp] theorem State.tgp_of_drawn (s : State) (j : Nat) : (s.drawn).tgp j = s.tgp j := rfl
@[simp] theorem State.tgp_of_evLane (s : State) (c : EvClass) (n k : Nat) (d : Bytes) (g : Nat) (j : Nat) : (s.evLane c n k d g).tgp j = s.tgp j := rfl
@[simp] theorem State.tgp_of_evMod (s : State) (c : EvClass) (x u k : Nat) (d : Bytes) (g : Nat) (j : Nat) : (s.evMod c x u k d g).tgp j = s.tgp j := rfl
@[simp] theorem State.tgp_of_startTimer (s : State) (n k d : Nat) (j : Nat) : (s.startTimer n k d).tgp j = s.tgp j := rfl
@[simp] theorem State.tgp_of_stopTimer (s : State) (n k : Nat) (j : Nat) : (s.stopTimer n k).tgp j = s.tgp j := rfl
@[simp] theorem State.tgp_of_laneState (s : State) (c : EvClass) (n : Nat) (x : Cause) (j : Nat) : (s.laneState c n x).tgp j = s.tgp j := rfl
@[simp] theorem State.tgp_of_evContactor (s : State) (n f c r m : Nat) (j : Nat) : (s.evContactor n f c r m).tgp j = s.tgp j := rfl
@[simp] theorem State.tgp_of_evLock (s : State) (n a r m : Nat) (j : Nat) : (s.evLock n a r m).tgp j = s.tgp j := rfl
@[simp] theorem State.tgp_of_evChan (s : State) (k c : Nat) (d : Bytes) (j : Nat) : (s.evChan k c d).tgp j = s.tgp j := rfl
@[simp] theorem State.tgp_of_onEn (s : State) (c : Bool) (n : Nat) (f : EnSet → EnSet) (j : Nat) : (s.onEn c n f).tgp j = s.tgp j := by
  cases c <;> rfl
@[simp] theorem State.panel_of_onLane (s : State) (n : Nat) (f : Lane → Lane) (j : Nat) : (s.onLane n f).panel j = s.panel j := rfl
@[simp] theorem State.panel_of_onHs (s : State) (n : Nat) (f : HsLane → HsLane) (j : Nat) : (s.onHs n f).panel j = s.panel j := rfl
@[simp] theorem State.panel_of_onPilot (s : State) (n : Nat) (f : PilotHs → PilotHs) (j : Nat) : (s.onPilot n f).panel j = s.panel j := rfl
@[simp] theorem State.panel_of_onLink (s : State) (n : Nat) (f : LinkHs → LinkHs) (j : Nat) : (s.onLink n f).panel j = s.panel j := rfl
@[simp] theorem State.panel_of_onCnt (s : State) (n : Nat) (f : CntHs → CntHs) (j : Nat) : (s.onCnt n f).panel j = s.panel j := rfl
@[simp] theorem State.panel_of_onPp (s : State) (n : Nat) (f : PpLane → PpLane) (j : Nat) : (s.onPp n f).panel j = s.panel j := rfl
@[simp] theorem State.panel_of_onCan (s : State) (n : Nat) (f : PpCan → PpCan) (j : Nat) : (s.onCan n f).panel j = s.panel j := rfl
@[simp] theorem State.panel_of_onPs (s : State) (n : Nat) (f : PsLane → PsLane) (j : Nat) : (s.onPs n f).panel j = s.panel j := rfl
@[simp] theorem State.panel_of_onEfg (s : State) (n : Nat) (f : EfGroup → EfGroup) (j : Nat) : (s.onEfg n f).panel j = s.panel j := rfl
@[simp] theorem State.panel_of_onEfl (s : State) (n : Nat) (f : EfLane → EfLane) (j : Nat) : (s.onEfl n f).panel j = s.panel j := rfl
@[simp] theorem State.panel_of_onChan (s : State) (n : Nat) (f : MtChan → MtChan) (j : Nat) : (s.onChan n f).panel j = s.panel j := rfl
@[simp] theorem State.panel_of_onMtl (s : State) (n : Nat) (f : MtLane → MtLane) (j : Nat) : (s.onMtl n f).panel j = s.panel j := rfl
@[simp] theorem State.panel_of_onPls (s : State) (n : Nat) (f : MtPulse → MtPulse) (j : Nat) : (s.onPls n f).panel j = s.panel j := rfl
@[simp] theorem State.panel_of_onSfl (s : State) (n : Nat) (f : SfLane → SfLane) (j : Nat) : (s.onSfl n f).panel j = s.panel j := rfl
@[simp] theorem State.panel_of_onWatch (s : State) (n : Nat) (f : Watch → Watch) (j : Nat) : (s.onWatch n f).panel j = s.panel j := rfl
@[simp] theorem State.panel_of_onCh (s : State) (n : Nat) (f : PoCh → PoCh) (j : Nat) : (s.onCh n f).panel j = s.panel j := rfl
@[simp] theorem State.panel_of_onDie (s : State) (n : Nat) (f : PoDie → PoDie) (j : Nat) : (s.onDie n f).panel j = s.panel j := rfl
@[simp] theorem State.panel_of_onPort (s : State) (n : Nat) (f : Port → Port) (j : Nat) : (s.onPort n f).panel j = s.panel j := rfl
@[simp] theorem State.panel_of_onTgp (s : State) (n : Nat) (f : TgPort → TgPort) (j : Nat) : (s.onTgp n f).panel j = s.panel j := rfl
@[simp] theorem State.panel_of_onMms (s : State) (n : Nat) (f : MmSide → MmSide) (j : Nat) : (s.onMms n f).panel j = s.panel j := rfl
@[simp] theorem State.panel_of_onUps (s : State) (n : Nat) (f : UpSide → UpSide) (j : Nat) : (s.onUps n f).panel j = s.panel j := rfl
@[simp] theorem State.panel_of_onMons (s : State) (n : Nat) (f : MonSide → MonSide) (j : Nat) : (s.onMons n f).panel j = s.panel j := rfl
@[simp] theorem State.panel_of_onGrv (s : State) (f : Graver → Graver) (j : Nat) : (s.onGrv f).panel j = s.panel j := rfl
@[simp] theorem State.panel_of_raise (s : State) (e : Ev) (j : Nat) : (s.raise e).panel j = s.panel j := rfl
@[simp] theorem State.panel_of_direct (s : State) (e : Ev) (j : Nat) : (s.direct e).panel j = s.panel j := rfl
@[simp] theorem State.panel_of_ask (s : State) (e : Emit) (j : Nat) : (s.ask e).panel j = s.panel j := rfl
@[simp] theorem State.panel_of_drawn (s : State) (j : Nat) : (s.drawn).panel j = s.panel j := rfl
@[simp] theorem State.panel_of_evLane (s : State) (c : EvClass) (n k : Nat) (d : Bytes) (g : Nat) (j : Nat) : (s.evLane c n k d g).panel j = s.panel j := rfl
@[simp] theorem State.panel_of_evMod (s : State) (c : EvClass) (x u k : Nat) (d : Bytes) (g : Nat) (j : Nat) : (s.evMod c x u k d g).panel j = s.panel j := rfl
@[simp] theorem State.panel_of_startTimer (s : State) (n k d : Nat) (j : Nat) : (s.startTimer n k d).panel j = s.panel j := rfl
@[simp] theorem State.panel_of_stopTimer (s : State) (n k : Nat) (j : Nat) : (s.stopTimer n k).panel j = s.panel j := rfl
@[simp] theorem State.panel_of_laneState (s : State) (c : EvClass) (n : Nat) (x : Cause) (j : Nat) : (s.laneState c n x).panel j = s.panel j := rfl
@[simp] theorem State.panel_of_evContactor (s : State) (n f c r m : Nat) (j : Nat) : (s.evContactor n f c r m).panel j = s.panel j := rfl
@[simp] theorem State.panel_of_evLock (s : State) (n a r m : Nat) (j : Nat) : (s.evLock n a r m).panel j = s.panel j := rfl
@[simp] theorem State.panel_of_evChan (s : State) (k c : Nat) (d : Bytes) (j : Nat) : (s.evChan k c d).panel j = s.panel j := rfl
@[simp] theorem State.panel_of_onEn (s : State) (c : Bool) (n : Nat) (f : EnSet → EnSet) (j : Nat) : (s.onEn c n f).panel j = s.panel j := by
  cases c <;> rfl
@[simp] theorem State.mms_of_onLane (s : State) (n : Nat) (f : Lane → Lane) (j : Nat) : (s.onLane n f).mms j = s.mms j := rfl
@[simp] theorem State.mms_of_onHs (s : State) (n : Nat) (f : HsLane → HsLane) (j : Nat) : (s.onHs n f).mms j = s.mms j := rfl
@[simp] theorem State.mms_of_onPilot (s : State) (n : Nat) (f : PilotHs → PilotHs) (j : Nat) : (s.onPilot n f).mms j = s.mms j := rfl
@[simp] theorem State.mms_of_onLink (s : State) (n : Nat) (f : LinkHs → LinkHs) (j : Nat) : (s.onLink n f).mms j = s.mms j := rfl
@[simp] theorem State.mms_of_onCnt (s : State) (n : Nat) (f : CntHs → CntHs) (j : Nat) : (s.onCnt n f).mms j = s.mms j := rfl
@[simp] theorem State.mms_of_onPp (s : State) (n : Nat) (f : PpLane → PpLane) (j : Nat) : (s.onPp n f).mms j = s.mms j := rfl
@[simp] theorem State.mms_of_onCan (s : State) (n : Nat) (f : PpCan → PpCan) (j : Nat) : (s.onCan n f).mms j = s.mms j := rfl
@[simp] theorem State.mms_of_onPs (s : State) (n : Nat) (f : PsLane → PsLane) (j : Nat) : (s.onPs n f).mms j = s.mms j := rfl
@[simp] theorem State.mms_of_onEfg (s : State) (n : Nat) (f : EfGroup → EfGroup) (j : Nat) : (s.onEfg n f).mms j = s.mms j := rfl
@[simp] theorem State.mms_of_onEfl (s : State) (n : Nat) (f : EfLane → EfLane) (j : Nat) : (s.onEfl n f).mms j = s.mms j := rfl
@[simp] theorem State.mms_of_onChan (s : State) (n : Nat) (f : MtChan → MtChan) (j : Nat) : (s.onChan n f).mms j = s.mms j := rfl
@[simp] theorem State.mms_of_onMtl (s : State) (n : Nat) (f : MtLane → MtLane) (j : Nat) : (s.onMtl n f).mms j = s.mms j := rfl
@[simp] theorem State.mms_of_onPls (s : State) (n : Nat) (f : MtPulse → MtPulse) (j : Nat) : (s.onPls n f).mms j = s.mms j := rfl
@[simp] theorem State.mms_of_onSfl (s : State) (n : Nat) (f : SfLane → SfLane) (j : Nat) : (s.onSfl n f).mms j = s.mms j := rfl
@[simp] theorem State.mms_of_onWatch (s : State) (n : Nat) (f : Watch → Watch) (j : Nat) : (s.onWatch n f).mms j = s.mms j := rfl
@[simp] theorem State.mms_of_onCh (s : State) (n : Nat) (f : PoCh → PoCh) (j : Nat) : (s.onCh n f).mms j = s.mms j := rfl
@[simp] theorem State.mms_of_onDie (s : State) (n : Nat) (f : PoDie → PoDie) (j : Nat) : (s.onDie n f).mms j = s.mms j := rfl
@[simp] theorem State.mms_of_onPort (s : State) (n : Nat) (f : Port → Port) (j : Nat) : (s.onPort n f).mms j = s.mms j := rfl
@[simp] theorem State.mms_of_onTgp (s : State) (n : Nat) (f : TgPort → TgPort) (j : Nat) : (s.onTgp n f).mms j = s.mms j := rfl
@[simp] theorem State.mms_of_onPanel (s : State) (n : Nat) (f : Panel → Panel) (j : Nat) : (s.onPanel n f).mms j = s.mms j := rfl
@[simp] theorem State.mms_of_onUps (s : State) (n : Nat) (f : UpSide → UpSide) (j : Nat) : (s.onUps n f).mms j = s.mms j := rfl
@[simp] theorem State.mms_of_onMons (s : State) (n : Nat) (f : MonSide → MonSide) (j : Nat) : (s.onMons n f).mms j = s.mms j := rfl
@[simp] theorem State.mms_of_onGrv (s : State) (f : Graver → Graver) (j : Nat) : (s.onGrv f).mms j = s.mms j := rfl
@[simp] theorem State.mms_of_raise (s : State) (e : Ev) (j : Nat) : (s.raise e).mms j = s.mms j := rfl
@[simp] theorem State.mms_of_direct (s : State) (e : Ev) (j : Nat) : (s.direct e).mms j = s.mms j := rfl
@[simp] theorem State.mms_of_ask (s : State) (e : Emit) (j : Nat) : (s.ask e).mms j = s.mms j := rfl
@[simp] theorem State.mms_of_drawn (s : State) (j : Nat) : (s.drawn).mms j = s.mms j := rfl
@[simp] theorem State.mms_of_evLane (s : State) (c : EvClass) (n k : Nat) (d : Bytes) (g : Nat) (j : Nat) : (s.evLane c n k d g).mms j = s.mms j := rfl
@[simp] theorem State.mms_of_evMod (s : State) (c : EvClass) (x u k : Nat) (d : Bytes) (g : Nat) (j : Nat) : (s.evMod c x u k d g).mms j = s.mms j := rfl
@[simp] theorem State.mms_of_startTimer (s : State) (n k d : Nat) (j : Nat) : (s.startTimer n k d).mms j = s.mms j := rfl
@[simp] theorem State.mms_of_stopTimer (s : State) (n k : Nat) (j : Nat) : (s.stopTimer n k).mms j = s.mms j := rfl
@[simp] theorem State.mms_of_laneState (s : State) (c : EvClass) (n : Nat) (x : Cause) (j : Nat) : (s.laneState c n x).mms j = s.mms j := rfl
@[simp] theorem State.mms_of_evContactor (s : State) (n f c r m : Nat) (j : Nat) : (s.evContactor n f c r m).mms j = s.mms j := rfl
@[simp] theorem State.mms_of_evLock (s : State) (n a r m : Nat) (j : Nat) : (s.evLock n a r m).mms j = s.mms j := rfl
@[simp] theorem State.mms_of_evChan (s : State) (k c : Nat) (d : Bytes) (j : Nat) : (s.evChan k c d).mms j = s.mms j := rfl
@[simp] theorem State.mms_of_onEn (s : State) (c : Bool) (n : Nat) (f : EnSet → EnSet) (j : Nat) : (s.onEn c n f).mms j = s.mms j := by
  cases c <;> rfl
@[simp] theorem State.ups_of_onLane (s : State) (n : Nat) (f : Lane → Lane) (j : Nat) : (s.onLane n f).ups j = s.ups j := rfl
@[simp] theorem State.ups_of_onHs (s : State) (n : Nat) (f : HsLane → HsLane) (j : Nat) : (s.onHs n f).ups j = s.ups j := rfl
@[simp] theorem State.ups_of_onPilot (s : State) (n : Nat) (f : PilotHs → PilotHs) (j : Nat) : (s.onPilot n f).ups j = s.ups j := rfl
@[simp] theorem State.ups_of_onLink (s : State) (n : Nat) (f : LinkHs → LinkHs) (j : Nat) : (s.onLink n f).ups j = s.ups j := rfl
@[simp] theorem State.ups_of_onCnt (s : State) (n : Nat) (f : CntHs → CntHs) (j : Nat) : (s.onCnt n f).ups j = s.ups j := rfl
@[simp] theorem State.ups_of_onPp (s : State) (n : Nat) (f : PpLane → PpLane) (j : Nat) : (s.onPp n f).ups j = s.ups j := rfl
@[simp] theorem State.ups_of_onCan (s : State) (n : Nat) (f : PpCan → PpCan) (j : Nat) : (s.onCan n f).ups j = s.ups j := rfl
@[simp] theorem State.ups_of_onPs (s : State) (n : Nat) (f : PsLane → PsLane) (j : Nat) : (s.onPs n f).ups j = s.ups j := rfl
@[simp] theorem State.ups_of_onEfg (s : State) (n : Nat) (f : EfGroup → EfGroup) (j : Nat) : (s.onEfg n f).ups j = s.ups j := rfl
@[simp] theorem State.ups_of_onEfl (s : State) (n : Nat) (f : EfLane → EfLane) (j : Nat) : (s.onEfl n f).ups j = s.ups j := rfl
@[simp] theorem State.ups_of_onChan (s : State) (n : Nat) (f : MtChan → MtChan) (j : Nat) : (s.onChan n f).ups j = s.ups j := rfl
@[simp] theorem State.ups_of_onMtl (s : State) (n : Nat) (f : MtLane → MtLane) (j : Nat) : (s.onMtl n f).ups j = s.ups j := rfl
@[simp] theorem State.ups_of_onPls (s : State) (n : Nat) (f : MtPulse → MtPulse) (j : Nat) : (s.onPls n f).ups j = s.ups j := rfl
@[simp] theorem State.ups_of_onSfl (s : State) (n : Nat) (f : SfLane → SfLane) (j : Nat) : (s.onSfl n f).ups j = s.ups j := rfl
@[simp] theorem State.ups_of_onWatch (s : State) (n : Nat) (f : Watch → Watch) (j : Nat) : (s.onWatch n f).ups j = s.ups j := rfl
@[simp] theorem State.ups_of_onCh (s : State) (n : Nat) (f : PoCh → PoCh) (j : Nat) : (s.onCh n f).ups j = s.ups j := rfl
@[simp] theorem State.ups_of_onDie (s : State) (n : Nat) (f : PoDie → PoDie) (j : Nat) : (s.onDie n f).ups j = s.ups j := rfl
@[simp] theorem State.ups_of_onPort (s : State) (n : Nat) (f : Port → Port) (j : Nat) : (s.onPort n f).ups j = s.ups j := rfl
@[simp] theorem State.ups_of_onTgp (s : State) (n : Nat) (f : TgPort → TgPort) (j : Nat) : (s.onTgp n f).ups j = s.ups j := rfl
@[simp] theorem State.ups_of_onPanel (s : State) (n : Nat) (f : Panel → Panel) (j : Nat) : (s.onPanel n f).ups j = s.ups j := rfl
@[simp] theorem State.ups_of_onMms (s : State) (n : Nat) (f : MmSide → MmSide) (j : Nat) : (s.onMms n f).ups j = s.ups j := rfl
@[simp] theorem State.ups_of_onMons (s : State) (n : Nat) (f : MonSide → MonSide) (j : Nat) : (s.onMons n f).ups j = s.ups j := rfl
@[simp] theorem State.ups_of_onGrv (s : State) (f : Graver → Graver) (j : Nat) : (s.onGrv f).ups j = s.ups j := rfl
@[simp] theorem State.ups_of_raise (s : State) (e : Ev) (j : Nat) : (s.raise e).ups j = s.ups j := rfl
@[simp] theorem State.ups_of_direct (s : State) (e : Ev) (j : Nat) : (s.direct e).ups j = s.ups j := rfl
@[simp] theorem State.ups_of_ask (s : State) (e : Emit) (j : Nat) : (s.ask e).ups j = s.ups j := rfl
@[simp] theorem State.ups_of_drawn (s : State) (j : Nat) : (s.drawn).ups j = s.ups j := rfl
@[simp] theorem State.ups_of_evLane (s : State) (c : EvClass) (n k : Nat) (d : Bytes) (g : Nat) (j : Nat) : (s.evLane c n k d g).ups j = s.ups j := rfl
@[simp] theorem State.ups_of_evMod (s : State) (c : EvClass) (x u k : Nat) (d : Bytes) (g : Nat) (j : Nat) : (s.evMod c x u k d g).ups j = s.ups j := rfl
@[simp] theorem State.ups_of_startTimer (s : State) (n k d : Nat) (j : Nat) : (s.startTimer n k d).ups j = s.ups j := rfl
@[simp] theorem State.ups_of_stopTimer (s : State) (n k : Nat) (j : Nat) : (s.stopTimer n k).ups j = s.ups j := rfl
@[simp] theorem State.ups_of_laneState (s : State) (c : EvClass) (n : Nat) (x : Cause) (j : Nat) : (s.laneState c n x).ups j = s.ups j := rfl
@[simp] theorem State.ups_of_evContactor (s : State) (n f c r m : Nat) (j : Nat) : (s.evContactor n f c r m).ups j = s.ups j := rfl
@[simp] theorem State.ups_of_evLock (s : State) (n a r m : Nat) (j : Nat) : (s.evLock n a r m).ups j = s.ups j := rfl
@[simp] theorem State.ups_of_evChan (s : State) (k c : Nat) (d : Bytes) (j : Nat) : (s.evChan k c d).ups j = s.ups j := rfl
@[simp] theorem State.ups_of_onEn (s : State) (c : Bool) (n : Nat) (f : EnSet → EnSet) (j : Nat) : (s.onEn c n f).ups j = s.ups j := by
  cases c <;> rfl
@[simp] theorem State.mons_of_onLane (s : State) (n : Nat) (f : Lane → Lane) (j : Nat) : (s.onLane n f).mons j = s.mons j := rfl
@[simp] theorem State.mons_of_onHs (s : State) (n : Nat) (f : HsLane → HsLane) (j : Nat) : (s.onHs n f).mons j = s.mons j := rfl
@[simp] theorem State.mons_of_onPilot (s : State) (n : Nat) (f : PilotHs → PilotHs) (j : Nat) : (s.onPilot n f).mons j = s.mons j := rfl
@[simp] theorem State.mons_of_onLink (s : State) (n : Nat) (f : LinkHs → LinkHs) (j : Nat) : (s.onLink n f).mons j = s.mons j := rfl
@[simp] theorem State.mons_of_onCnt (s : State) (n : Nat) (f : CntHs → CntHs) (j : Nat) : (s.onCnt n f).mons j = s.mons j := rfl
@[simp] theorem State.mons_of_onPp (s : State) (n : Nat) (f : PpLane → PpLane) (j : Nat) : (s.onPp n f).mons j = s.mons j := rfl
@[simp] theorem State.mons_of_onCan (s : State) (n : Nat) (f : PpCan → PpCan) (j : Nat) : (s.onCan n f).mons j = s.mons j := rfl
@[simp] theorem State.mons_of_onPs (s : State) (n : Nat) (f : PsLane → PsLane) (j : Nat) : (s.onPs n f).mons j = s.mons j := rfl
@[simp] theorem State.mons_of_onEfg (s : State) (n : Nat) (f : EfGroup → EfGroup) (j : Nat) : (s.onEfg n f).mons j = s.mons j := rfl
@[simp] theorem State.mons_of_onEfl (s : State) (n : Nat) (f : EfLane → EfLane) (j : Nat) : (s.onEfl n f).mons j = s.mons j := rfl
@[simp] theorem State.mons_of_onChan (s : State) (n : Nat) (f : MtChan → MtChan) (j : Nat) : (s.onChan n f).mons j = s.mons j := rfl
@[simp] theorem State.mons_of_onMtl (s : State) (n : Nat) (f : MtLane → MtLane) (j : Nat) : (s.onMtl n f).mons j = s.mons j := rfl
@[simp] theorem State.mons_of_onPls (s : State) (n : Nat) (f : MtPulse → MtPulse) (j : Nat) : (s.onPls n f).mons j = s.mons j := rfl
@[simp] theorem State.mons_of_onSfl (s : State) (n : Nat) (f : SfLane → SfLane) (j : Nat) : (s.onSfl n f).mons j = s.mons j := rfl
@[simp] theorem State.mons_of_onWatch (s : State) (n : Nat) (f : Watch → Watch) (j : Nat) : (s.onWatch n f).mons j = s.mons j := rfl
@[simp] theorem State.mons_of_onCh (s : State) (n : Nat) (f : PoCh → PoCh) (j : Nat) : (s.onCh n f).mons j = s.mons j := rfl
@[simp] theorem State.mons_of_onDie (s : State) (n : Nat) (f : PoDie → PoDie) (j : Nat) : (s.onDie n f).mons j = s.mons j := rfl
@[simp] theorem State.mons_of_onPort (s : State) (n : Nat) (f : Port → Port) (j : Nat) : (s.onPort n f).mons j = s.mons j := rfl
@[simp] theorem State.mons_of_onTgp (s : State) (n : Nat) (f : TgPort → TgPort) (j : Nat) : (s.onTgp n f).mons j = s.mons j := rfl
@[simp] theorem State.mons_of_onPanel (s : State) (n : Nat) (f : Panel → Panel) (j : Nat) : (s.onPanel n f).mons j = s.mons j := rfl
@[simp] theorem State.mons_of_onMms (s : State) (n : Nat) (f : MmSide → MmSide) (j : Nat) : (s.onMms n f).mons j = s.mons j := rfl
@[simp] theorem State.mons_of_onUps (s : State) (n : Nat) (f : UpSide → UpSide) (j : Nat) : (s.onUps n f).mons j = s.mons j := rfl
@[simp] theorem State.mons_of_onGrv (s : State) (f : Graver → Graver) (j : Nat) : (s.onGrv f).mons j = s.mons j := rfl
@[simp] theorem State.mons_of_raise (s : State) (e : Ev) (j : Nat) : (s.raise e).mons j = s.mons j := rfl
@[simp] theorem State.mons_of_direct (s : State) (e : Ev) (j : Nat) : (s.direct e).mons j = s.mons j := rfl
@[simp] theorem State.mons_of_ask (s : State) (e : Emit) (j : Nat) : (s.ask e).mons j = s.mons j := rfl
@[simp] theorem State.mons_of_drawn (s : State) (j : Nat) : (s.drawn).mons j = s.mons j := rfl
@[simp] theorem State.mons_of_evLane (s : State) (c : EvClass) (n k : Nat) (d : Bytes) (g : Nat) (j : Nat) : (s.evLane c n k d g).mons j = s.mons j := rfl
@[simp] theorem State.mons_of_evMod (s : State) (c : EvClass) (x u k : Nat) (d : Bytes) (g : Nat) (j : Nat) : (s.evMod c x u k d g).mons j = s.mons j := rfl
@[simp] theorem State.mons_of_startTimer (s : State) (n k d : Nat) (j : Nat) : (s.startTimer n k d).mons j = s.mons j := rfl
@[simp] theorem State.mons_of_stopTimer (s : State) (n k : Nat) (j : Nat) : (s.stopTimer n k).mons j = s.mons j := rfl
@[simp] theorem State.mons_of_laneState (s : State) (c : EvClass) (n : Nat) (x : Cause) (j : Nat) : (s.laneState c n x).mons j = s.mons j := rfl
@[simp] theorem State.mons_of_evContactor (s : State) (n f c r m : Nat) (j : Nat) : (s.evContactor n f c r m).mons j = s.mons j := rfl
@[simp] theorem State.mons_of_evLock (s : State) (n a r m : Nat) (j : Nat) : (s.evLock n a r m).mons j = s.mons j := rfl
@[simp] theorem State.mons_of_evChan (s : State) (k c : Nat) (d : Bytes) (j : Nat) : (s.evChan k c d).mons j = s.mons j := rfl
@[simp] theorem State.mons_of_onEn (s : State) (c : Bool) (n : Nat) (f : EnSet → EnSet) (j : Nat) : (s.onEn c n f).mons j = s.mons j := by
  cases c <;> rfl
@[simp] theorem State.now_of_onLane (s : State) (n : Nat) (f : Lane → Lane) : (s.onLane n f).now = s.now := rfl
@[simp] theorem State.now_of_onHs (s : State) (n : Nat) (f : HsLane → HsLane) : (s.onHs n f).now = s.now := rfl
@[simp] theorem State.now_of_onPilot (s : State) (n : Nat) (f : PilotHs → PilotHs) : (s.onPilot n f).now = s.now := rfl
@[simp] theorem State.now_of_onLink (s : State) (n : Nat) (f : LinkHs → LinkHs) : (s.onLink n f).now = s.now := rfl
@[simp] theorem State.now_of_onCnt (s : State) (n : Nat) (f : CntHs → CntHs) : (s.onCnt n f).now = s.now := rfl
@[simp] theorem State.now_of_onPp (s : State) (n : Nat) (f : PpLane → PpLane) : (s.onPp n f).now = s.now := rfl
@[simp] theorem State.now_of_onCan (s : State) (n : Nat) (f : PpCan → PpCan) : (s.onCan n f).now = s.now := rfl
@[simp] theorem State.now_of_onPs (s : State) (n : Nat) (f : PsLane → PsLane) : (s.onPs n f).now = s.now := rfl
@[simp] theorem State.now_of_onEfg (s : State) (n : Nat) (f : EfGroup → EfGroup) : (s.onEfg n f).now = s.now := rfl
@[simp] theorem State.now_of_onEfl (s : State) (n : Nat) (f : EfLane → EfLane) : (s.onEfl n f).now = s.now := rfl
@[simp] theorem State.now_of_onChan (s : State) (n : Nat) (f : MtChan → MtChan) : (s.onChan n f).now = s.now := rfl
@[simp] theorem State.now_of_onMtl (s : State) (n : Nat) (f : MtLane → MtLane) : (s.onMtl n f).now = s.now := rfl
@[simp] theorem State.now_of_onPls (s : State) (n : Nat) (f : MtPulse → MtPulse) : (s.onPls n f).now = s.now := rfl
@[simp] theorem State.now_of_onSfl (s : State) (n : Nat) (f : SfLane → SfLane) : (s.onSfl n f).now = s.now := rfl
@[simp] theorem State.now_of_onWatch (s : State) (n : Nat) (f : Watch → Watch) : (s.onWatch n f).now = s.now := rfl
@[simp] theorem State.now_of_onCh (s : State) (n : Nat) (f : PoCh → PoCh) : (s.onCh n f).now = s.now := rfl
@[simp] theorem State.now_of_onDie (s : State) (n : Nat) (f : PoDie → PoDie) : (s.onDie n f).now = s.now := rfl
@[simp] theorem State.now_of_onPort (s : State) (n : Nat) (f : Port → Port) : (s.onPort n f).now = s.now := rfl
@[simp] theorem State.now_of_onTgp (s : State) (n : Nat) (f : TgPort → TgPort) : (s.onTgp n f).now = s.now := rfl
@[simp] theorem State.now_of_onPanel (s : State) (n : Nat) (f : Panel → Panel) : (s.onPanel n f).now = s.now := rfl
@[simp] theorem State.now_of_onMms (s : State) (n : Nat) (f : MmSide → MmSide) : (s.onMms n f).now = s.now := rfl
@[simp] theorem State.now_of_onUps (s : State) (n : Nat) (f : UpSide → UpSide) : (s.onUps n f).now = s.now := rfl
@[simp] theorem State.now_of_onMons (s : State) (n : Nat) (f : MonSide → MonSide) : (s.onMons n f).now = s.now := rfl
@[simp] theorem State.now_of_onGrv (s : State) (f : Graver → Graver) : (s.onGrv f).now = s.now := rfl
@[simp] theorem State.now_of_raise (s : State) (e : Ev) : (s.raise e).now = s.now := rfl
@[simp] theorem State.now_of_direct (s : State) (e : Ev) : (s.direct e).now = s.now := rfl
@[simp] theorem State.now_of_ask (s : State) (e : Emit) : (s.ask e).now = s.now := rfl
@[simp] theorem State.now_of_drawn (s : State) : (s.drawn).now = s.now := rfl
@[simp] theorem State.now_of_evLane (s : State) (c : EvClass) (n k : Nat) (d : Bytes) (g : Nat) : (s.evLane c n k d g).now = s.now := rfl
@[simp] theorem State.now_of_evMod (s : State) (c : EvClass) (x u k : Nat) (d : Bytes) (g : Nat) : (s.evMod c x u k d g).now = s.now := rfl
@[simp] theorem State.now_of_startTimer (s : State) (n k d : Nat) : (s.startTimer n k d).now = s.now := rfl
@[simp] theorem State.now_of_stopTimer (s : State) (n k : Nat) : (s.stopTimer n k).now = s.now := rfl
@[simp] theorem State.now_of_laneState (s : State) (c : EvClass) (n : Nat) (x : Cause) : (s.laneState c n x).now = s.now := rfl
@[simp] theorem State.now_of_evContactor (s : State) (n f c r m : Nat) : (s.evContactor n f c r m).now = s.now := rfl
@[simp] theorem State.now_of_evLock (s : State) (n a r m : Nat) : (s.evLock n a r m).now = s.now := rfl
@[simp] theorem State.now_of_evChan (s : State) (k c : Nat) (d : Bytes) : (s.evChan k c d).now = s.now := rfl
@[simp] theorem State.now_of_onEn (s : State) (c : Bool) (n : Nat) (f : EnSet → EnSet) : (s.onEn c n f).now = s.now := by
  cases c <;> rfl
@[simp] theorem State.cfg_of_onLane (s : State) (n : Nat) (f : Lane → Lane) : (s.onLane n f).cfg = s.cfg := rfl
@[simp] theorem State.cfg_of_onHs (s : State) (n : Nat) (f : HsLane → HsLane) : (s.onHs n f).cfg = s.cfg := rfl
@[simp] theorem State.cfg_of_onPilot (s : State) (n : Nat) (f : PilotHs → PilotHs) : (s.onPilot n f).cfg = s.cfg := rfl
@[simp] theorem State.cfg_of_onLink (s : State) (n : Nat) (f : LinkHs → LinkHs) : (s.onLink n f).cfg = s.cfg := rfl
@[simp] theorem State.cfg_of_onCnt (s : State) (n : Nat) (f : CntHs → CntHs) : (s.onCnt n f).cfg = s.cfg := rfl
@[simp] theorem State.cfg_of_onPp (s : State) (n : Nat) (f : PpLane → PpLane) : (s.onPp n f).cfg = s.cfg := rfl
@[simp] theorem State.cfg_of_onCan (s : State) (n : Nat) (f : PpCan → PpCan) : (s.onCan n f).cfg = s.cfg := rfl
@[simp] theorem State.cfg_of_onPs (s : State) (n : Nat) (f : PsLane → PsLane) : (s.onPs n f).cfg = s.cfg := rfl
@[simp] theorem State.cfg_of_onEfg (s : State) (n : Nat) (f : EfGroup → EfGroup) : (s.onEfg n f).cfg = s.cfg := rfl
@[simp] theorem State.cfg_of_onEfl (s : State) (n : Nat) (f : EfLane → EfLane) : (s.onEfl n f).cfg = s.cfg := rfl
@[simp] theorem State.cfg_of_onChan (s : State) (n : Nat) (f : MtChan → MtChan) : (s.onChan n f).cfg = s.cfg := rfl
@[simp] theorem State.cfg_of_onMtl (s : State) (n : Nat) (f : MtLane → MtLane) : (s.onMtl n f).cfg = s.cfg := rfl
@[simp] theorem State.cfg_of_onPls (s : State) (n : Nat) (f : MtPulse → MtPulse) : (s.onPls n f).cfg = s.cfg := rfl
@[simp] theorem State.cfg_of_onSfl (s : State) (n : Nat) (f : SfLane → SfLane) : (s.onSfl n f).cfg = s.cfg := rfl
@[simp] theorem State.cfg_of_onWatch (s : State) (n : Nat) (f : Watch → Watch) : (s.onWatch n f).cfg = s.cfg := rfl
@[simp] theorem State.cfg_of_onCh (s : State) (n : Nat) (f : PoCh → PoCh) : (s.onCh n f).cfg = s.cfg := rfl
@[simp] theorem State.cfg_of_onDie (s : State) (n : Nat) (f : PoDie → PoDie) : (s.onDie n f).cfg = s.cfg := rfl
@[simp] theorem State.cfg_of_onPort (s : State) (n : Nat) (f : Port → Port) : (s.onPort n f).cfg = s.cfg := rfl
@[simp] theorem State.cfg_of_onTgp (s : State) (n : Nat) (f : TgPort → TgPort) : (s.onTgp n f).cfg = s.cfg := rfl
@[simp] theorem State.cfg_of_onPanel (s : State) (n : Nat) (f : Panel → Panel) : (s.onPanel n f).cfg = s.cfg := rfl
@[simp] theorem State.cfg_of_onMms (s : State) (n : Nat) (f : MmSide → MmSide) : (s.onMms n f).cfg = s.cfg := rfl
@[simp] theorem State.cfg_of_onUps (s : State) (n : Nat) (f : UpSide → UpSide) : (s.onUps n f).cfg = s.cfg := rfl
@[simp] theorem State.cfg_of_onMons (s : State) (n : Nat) (f : MonSide → MonSide) : (s.onMons n f).cfg = s.cfg := rfl
@[simp] theorem State.cfg_of_onGrv (s : State) (f : Graver → Graver) : (s.onGrv f).cfg = s.cfg := rfl
@[simp] theorem State.cfg_of_raise (s : State) (e : Ev) : (s.raise e).cfg = s.cfg := rfl
@[simp] theorem State.cfg_of_direct (s : State) (e : Ev) : (s.direct e).cfg = s.cfg := rfl
@[simp] theorem State.cfg_of_ask (s : State) (e : Emit) : (s.ask e).cfg = s.cfg := rfl
@[simp] theorem State.cfg_of_drawn (s : State) : (s.drawn).cfg = s.cfg := rfl
@[simp] theorem State.cfg_of_evLane (s : State) (c : EvClass) (n k : Nat) (d : Bytes) (g : Nat) : (s.evLane c n k d g).cfg = s.cfg := rfl
@[simp] theorem State.cfg_of_evMod (s : State) (c : EvClass) (x u k : Nat) (d : Bytes) (g : Nat) : (s.evMod c x u k d g).cfg = s.cfg := rfl
@[simp] theorem State.cfg_of_startTimer (s : State) (n k d : Nat) : (s.startTimer n k d).cfg = s.cfg := rfl
@[simp] theorem State.cfg_of_stopTimer (s : State) (n k : Nat) : (s.stopTimer n k).cfg = s.cfg := rfl
@[simp] theorem State.cfg_of_laneState (s : State) (c : EvClass) (n : Nat) (x : Cause) : (s.laneState c n x).cfg = s.cfg := rfl
@[simp] theorem State.cfg_of_evContactor (s : State) (n f c r m : Nat) : (s.evContactor n f c r m).cfg = s.cfg := rfl
@[simp] theorem State.cfg_of_evLock (s : State) (n a r m : Nat) : (s.evLock n a r m).cfg = s.cfg := rfl
@[simp] theorem State.cfg_of_evChan (s : State) (k c : Nat) (d : Bytes) : (s.evChan k c d).cfg = s.cfg := rfl
@[simp] theorem State.cfg_of_onEn (s : State) (c : Bool) (n : Nat) (f : EnSet → EnSet) : (s.onEn c n f).cfg = s.cfg := by
  cases c <;> rfl
@[simp] theorem State.typ_of_onLane (s : State) (n : Nat) (f : Lane → Lane) (j : Nat) : (s.onLane n f).typ j = s.typ j := rfl
@[simp] theorem State.typ_of_onHs (s : State) (n : Nat) (f : HsLane → HsLane) (j : Nat) : (s.onHs n f).typ j = s.typ j := rfl
@[simp] theorem State.typ_of_onPilot (s : State) (n : Nat) (f : PilotHs → PilotHs) (j : Nat) : (s.onPilot n f).typ j = s.typ j := rfl
@[simp] theorem State.typ_of_onLink (s : State) (n : Nat) (f : LinkHs → LinkHs) (j : Nat) : (s.onLink n f).typ j = s.typ j := rfl
@[simp] theorem State.typ_of_onCnt (s : State) (n : Nat) (f : CntHs → CntHs) (j : Nat) : (s.onCnt n f).typ j = s.typ j := rfl
@[simp] theorem State.typ_of_onPp (s : State) (n : Nat) (f : PpLane → PpLane) (j : Nat) : (s.onPp n f).typ j = s.typ j := rfl
@[simp] theorem State.typ_of_onCan (s : State) (n : Nat) (f : PpCan → PpCan) (j : Nat) : (s.onCan n f).typ j = s.typ j := rfl
@[simp] theorem State.typ_of_onPs (s : State) (n : Nat) (f : PsLane → PsLane) (j : Nat) : (s.onPs n f).typ j = s.typ j := rfl
@[simp] theorem State.typ_of_onEfg (s : State) (n : Nat) (f : EfGroup → EfGroup) (j : Nat) : (s.onEfg n f).typ j = s.typ j := rfl
@[simp] theorem State.typ_of_onEfl (s : State) (n : Nat) (f : EfLane → EfLane) (j : Nat) : (s.onEfl n f).typ j = s.typ j := rfl
@[simp] theorem State.typ_of_onChan (s : State) (n : Nat) (f : MtChan → MtChan) (j : Nat) : (s.onChan n f).typ j = s.typ j := rfl
@[simp] theorem State.typ_of_onMtl (s : State) (n : Nat) (f : MtLane → MtLane) (j : Nat) : (s.onMtl n f).typ j = s.typ j := rfl
@[simp] theorem State.typ_of_onPls (s : State) (n : Nat) (f : MtPulse → MtPulse) (j : Nat) : (s.onPls n f).typ j = s.typ j := rfl
@[simp] theorem State.typ_of_onSfl (s : State) (n : Nat) (f : SfLane → SfLane) (j : Nat) : (s.onSfl n f).typ j = s.typ j := rfl
@[simp] theorem State.typ_of_onWatch (s : State) (n : Nat) (f : Watch → Watch) (j : Nat) : (s.onWatch n f).typ j = s.typ j := rfl
@[simp] theorem State.typ_of_onCh (s : State) (n : Nat) (f : PoCh → PoCh) (j : Nat) : (s.onCh n f).typ j = s.typ j := rfl
@[simp] theorem State.typ_of_onDie (s : State) (n : Nat) (f : PoDie → PoDie) (j : Nat) : (s.onDie n f).typ j = s.typ j := rfl
@[simp] theorem State.typ_of_onPort (s : State) (n : Nat) (f : Port → Port) (j : Nat) : (s.onPort n f).typ j = s.typ j := rfl
@[simp] theorem State.typ_of_onTgp (s : State) (n : Nat) (f : TgPort → TgPort) (j : Nat) : (s.onTgp n f).typ j = s.typ j := rfl
@[simp] theorem State.typ_of_onPanel (s : State) (n : Nat) (f : Panel → Panel) (j : Nat) : (s.onPanel n f).typ j = s.typ j := rfl
@[simp] theorem State.typ_of_onMms (s : State) (n : Nat) (f : MmSide → MmSide) (j : Nat) : (s.onMms n f).typ j = s.typ j := rfl
@[simp] theorem State.typ_of_onUps (s : State) (n : Nat) (f : UpSide → UpSide) (j : Nat) : (s.onUps n f).typ j = s.typ j := rfl
@[simp] theorem State.typ_of_onMons (s : State) (n : Nat) (f : MonSide → MonSide) (j : Nat) : (s.onMons n f).typ j = s.typ j := rfl
@[simp] theorem State.typ_of_onGrv (s : State) (f : Graver → Graver) (j : Nat) : (s.onGrv f).typ j = s.typ j := rfl
@[simp] theorem State.typ_of_raise (s : State) (e : Ev) (j : Nat) : (s.raise e).typ j = s.typ j := rfl
@[simp] theorem State.typ_of_direct (s : State) (e : Ev) (j : Nat) : (s.direct e).typ j = s.typ j := rfl
@[simp] theorem State.typ_of_ask (s : State) (e : Emit) (j : Nat) : (s.ask e).typ j = s.typ j := rfl
@[simp] theorem State.typ_of_drawn (s : State) (j : Nat) : (s.drawn).typ j = s.typ j := rfl
@[simp] theorem State.typ_of_evLane (s : State) (c : EvClass) (n k : Nat) (d : Bytes) (g : Nat) (j : Nat) : (s.evLane c n k d g).typ j = s.typ j := rfl
@[simp] theorem State.typ_of_evMod (s : State) (c : EvClass) (x u k : Nat) (d : Bytes) (g : Nat) (j : Nat) : (s.evMod c x u k d g).typ j = s.typ j := rfl
@[simp] theorem State.typ_of_startTimer (s : State) (n k d : Nat) (j : Nat) : (s.startTimer n k d).typ j = s.typ j := rfl
@[simp] theorem State.typ_of_stopTimer (s : State) (n k : Nat) (j : Nat) : (s.stopTimer n k).typ j = s.typ j := rfl
@[simp] theorem State.typ_of_laneState (s : State) (c : EvClass) (n : Nat) (x : Cause) (j : Nat) : (s.laneState c n x).typ j = s.typ j := rfl
@[simp] theorem State.typ_of_evContactor (s : State) (n f c r m : Nat) (j : Nat) : (s.evContactor n f c r m).typ j = s.typ j := rfl
@[simp] theorem State.typ_of_evLock (s : State) (n a r m : Nat) (j : Nat) : (s.evLock n a r m).typ j = s.typ j := rfl
@[simp] theorem State.typ_of_evChan (s : State) (k c : Nat) (d : Bytes) (j : Nat) : (s.evChan k c d).typ j = s.typ j := rfl
@[simp] theorem State.typ_of_onEn (s : State) (c : Bool) (n : Nat) (f : EnSet → EnSet) (j : Nat) : (s.onEn c n f).typ j = s.typ j := by
  cases c <;> rfl
@[simp] theorem State.slot_of_onLane (s : State) (n : Nat) (f : Lane → Lane) (j : Nat) : (s.onLane n f).slot j = s.slot j := rfl
@[simp] theorem State.slot_of_onHs (s : State) (n : Nat) (f : HsLane → HsLane) (j : Nat) : (s.onHs n f).slot j = s.slot j := rfl
@[simp] theorem State.slot_of_onPilot (s : State) (n : Nat) (f : PilotHs → PilotHs) (j : Nat) : (s.onPilot n f).slot j = s.slot j := rfl
@[simp] theorem State.slot_of_onLink (s : State) (n : Nat) (f : LinkHs → LinkHs) (j : Nat) : (s.onLink n f).slot j = s.slot j := rfl
@[simp] theorem State.slot_of_onCnt (s : State) (n : Nat) (f : CntHs → CntHs) (j : Nat) : (s.onCnt n f).slot j = s.slot j := rfl
@[simp] theorem State.slot_of_onPp (s : State) (n : Nat) (f : PpLane → PpLane) (j : Nat) : (s.onPp n f).slot j = s.slot j := rfl
@[simp] theorem State.slot_of_onCan (s : State) (n : Nat) (f : PpCan → PpCan) (j : Nat) : (s.onCan n f).slot j = s.slot j := rfl
@[simp] theorem State.slot_of_onPs (s : State) (n : Nat) (f : PsLane → PsLane) (j : Nat) : (s.onPs n f).slot j = s.slot j := rfl
@[simp] theorem State.slot_of_onEfg (s : State) (n : Nat) (f : EfGroup → EfGroup) (j : Nat) : (s.onEfg n f).slot j = s.slot j := rfl
@[simp] theorem State.slot_of_onEfl (s : State) (n : Nat) (f : EfLane → EfLane) (j : Nat) : (s.onEfl n f).slot j = s.slot j := rfl
@[simp] theorem State.slot_of_onChan (s : State) (n : Nat) (f : MtChan → MtChan) (j : Nat) : (s.onChan n f).slot j = s.slot j := rfl
@[simp] theorem State.slot_of_onMtl (s : State) (n : Nat) (f : MtLane → MtLane) (j : Nat) : (s.onMtl n f).slot j = s.slot j := rfl
@[simp] theorem State.slot_of_onPls (s : State) (n : Nat) (f : MtPulse → MtPulse) (j : Nat) : (s.onPls n f).slot j = s.slot j := rfl
@[simp] theorem State.slot_of_onSfl (s : State) (n : Nat) (f : SfLane → SfLane) (j : Nat) : (s.onSfl n f).slot j = s.slot j := rfl
@[simp] theorem State.slot_of_onWatch (s : State) (n : Nat) (f : Watch → Watch) (j : Nat) : (s.onWatch n f).slot j = s.slot j := rfl
@[simp] theorem State.slot_of_onCh (s : State) (n : Nat) (f : PoCh → PoCh) (j : Nat) : (s.onCh n f).slot j = s.slot j := rfl
@[simp] theorem State.slot_of_onDie (s : State) (n : Nat) (f : PoDie → PoDie) (j : Nat) : (s.onDie n f).slot j = s.slot j := rfl
@[simp] theorem State.slot_of_onPort (s : State) (n : Nat) (f : Port → Port) (j : Nat) : (s.onPort n f).slot j = s.slot j := rfl
@[simp] theorem State.slot_of_onTgp (s : State) (n : Nat) (f : TgPort → TgPort) (j : Nat) : (s.onTgp n f).slot j = s.slot j := rfl
@[simp] theorem State.slot_of_onPanel (s : State) (n : Nat) (f : Panel → Panel) (j : Nat) : (s.onPanel n f).slot j = s.slot j := rfl
@[simp] theorem State.slot_of_onMms (s : State) (n : Nat) (f : MmSide → MmSide) (j : Nat) : (s.onMms n f).slot j = s.slot j := rfl
@[simp] theorem State.slot_of_onUps (s : State) (n : Nat) (f : UpSide → UpSide) (j : Nat) : (s.onUps n f).slot j = s.slot j := rfl
@[simp] theorem State.slot_of_onMons (s : State) (n : Nat) (f : MonSide → MonSide) (j : Nat) : (s.onMons n f).slot j = s.slot j := rfl
@[simp] theorem State.slot_of_onGrv (s : State) (f : Graver → Graver) (j : Nat) : (s.onGrv f).slot j = s.slot j := rfl
@[simp] theorem State.slot_of_raise (s : State) (e : Ev) (j : Nat) : (s.raise e).slot j = s.slot j := rfl
@[simp] theorem State.slot_of_direct (s : State) (e : Ev) (j : Nat) : (s.direct e).slot j = s.slot j := rfl
@[simp] theorem State.slot_of_ask (s : State) (e : Emit) (j : Nat) : (s.ask e).slot j = s.slot j := rfl
@[simp] theorem State.slot_of_drawn (s : State) (j : Nat) : (s.drawn).slot j = s.slot j := rfl
@[simp] theorem State.slot_of_evLane (s : State) (c : EvClass) (n k : Nat) (d : Bytes) (g : Nat) (j : Nat) : (s.evLane c n k d g).slot j = s.slot j := rfl
@[simp] theorem State.slot_of_evMod (s : State) (c : EvClass) (x u k : Nat) (d : Bytes) (g : Nat) (j : Nat) : (s.evMod c x u k d g).slot j = s.slot j := rfl
@[simp] theorem State.slot_of_startTimer (s : State) (n k d : Nat) (j : Nat) : (s.startTimer n k d).slot j = s.slot j := rfl
@[simp] theorem State.slot_of_stopTimer (s : State) (n k : Nat) (j : Nat) : (s.stopTimer n k).slot j = s.slot j := rfl
@[simp] theorem State.slot_of_laneState (s : State) (c : EvClass) (n : Nat) (x : Cause) (j : Nat) : (s.laneState c n x).slot j = s.slot j := rfl
@[simp] theorem State.slot_of_evContactor (s : State) (n f c r m : Nat) (j : Nat) : (s.evContactor n f c r m).slot j = s.slot j := rfl
@[simp] theorem State.slot_of_evLock (s : State) (n a r m : Nat) (j : Nat) : (s.evLock n a r m).slot j = s.slot j := rfl
@[simp] theorem State.slot_of_evChan (s : State) (k c : Nat) (d : Bytes) (j : Nat) : (s.evChan k c d).slot j = s.slot j := rfl
@[simp] theorem State.slot_of_onEn (s : State) (c : Bool) (n : Nat) (f : EnSet → EnSet) (j : Nat) : (s.onEn c n f).slot j = s.slot j := by
  cases c <;> rfl
@[simp] theorem State.groupOf_of_onLane (s : State) (n : Nat) (f : Lane → Lane) (j : Nat) : (s.onLane n f).groupOf j = s.groupOf j := rfl
@[simp] theorem State.groupOf_of_onHs (s : State) (n : Nat) (f : HsLane → HsLane) (j : Nat) : (s.onHs n f).groupOf j = s.groupOf j := rfl
@[simp] theorem State.groupOf_of_onPilot (s : State) (n : Nat) (f : PilotHs → PilotHs) (j : Nat) : (s.onPilot n f).groupOf j = s.groupOf j := rfl
@[simp] theorem State.groupOf_of_onLink (s : State) (n : Nat) (f : LinkHs → LinkHs) (j : Nat) : (s.onLink n f).groupOf j = s.groupOf j := rfl
@[simp] theorem State.groupOf_of_onCnt (s : State) (n : Nat) (f : CntHs → CntHs) (j : Nat) : (s.onCnt n f).groupOf j = s.groupOf j := rfl
@[simp] theorem State.groupOf_of_onPp (s : State) (n : Nat) (f : PpLane → PpLane) (j : Nat) : (s.onPp n f).groupOf j = s.groupOf j := rfl
@[simp] theorem State.groupOf_of_onCan (s : State) (n : Nat) (f : PpCan → PpCan) (j : Nat) : (s.onCan n f).groupOf j = s.groupOf j := rfl
@[simp] theorem State.groupOf_of_onPs (s : State) (n : Nat) (f : PsLane → PsLane) (j : Nat) : (s.onPs n f).groupOf j = s.groupOf j := rfl
@[simp] theorem State.groupOf_of_onEfg (s : State) (n : Nat) (f : EfGroup → EfGroup) (j : Nat) : (s.onEfg n f).groupOf j = s.groupOf j := rfl
@[simp] theorem State.groupOf_of_onEfl (s : State) (n : Nat) (f : EfLane → EfLane) (j : Nat) : (s.onEfl n f).groupOf j = s.groupOf j := rfl
@[simp] theorem State.groupOf_of_onChan (s : State) (n : Nat) (f : MtChan → MtChan) (j : Nat) : (s.onChan n f).groupOf j = s.groupOf j := rfl
@[simp] theorem State.groupOf_of_onMtl (s : State) (n : Nat) (f : MtLane → MtLane) (j : Nat) : (s.onMtl n f).groupOf j = s.groupOf j := rfl
@[simp] theorem State.groupOf_of_onPls (s : State) (n : Nat) (f : MtPulse → MtPulse) (j : Nat) : (s.onPls n f).groupOf j = s.groupOf j := rfl
@[simp] theorem State.groupOf_of_onSfl (s : State) (n : Nat) (f : SfLane → SfLane) (j : Nat) : (s.onSfl n f).groupOf j = s.groupOf j := rfl
@[simp] theorem State.groupOf_of_onWatch (s : State) (n : Nat) (f : Watch → Watch) (j : Nat) : (s.onWatch n f).groupOf j = s.groupOf j := rfl
@[simp] theorem State.groupOf_of_onCh (s : State) (n : Nat) (f : PoCh → PoCh) (j : Nat) : (s.onCh n f).groupOf j = s.groupOf j := rfl
@[simp] theorem State.groupOf_of_onDie (s : State) (n : Nat) (f : PoDie → PoDie) (j : Nat) : (s.onDie n f).groupOf j = s.groupOf j := rfl
@[simp] theorem State.groupOf_of_onPort (s : State) (n : Nat) (f : Port → Port) (j : Nat) : (s.onPort n f).groupOf j = s.groupOf j := rfl
@[simp] theorem State.groupOf_of_onTgp (s : State) (n : Nat) (f : TgPort → TgPort) (j : Nat) : (s.onTgp n f).groupOf j = s.groupOf j := rfl
@[simp] theorem State.groupOf_of_onPanel (s : State) (n : Nat) (f : Panel → Panel) (j : Nat) : (s.onPanel n f).groupOf j = s.groupOf j := rfl
@[simp] theorem State.groupOf_of_onMms (s : State) (n : Nat) (f : MmSide → MmSide) (j : Nat) : (s.onMms n f).groupOf j = s.groupOf j := rfl
@[simp] theorem State.groupOf_of_onUps (s : State) (n : Nat) (f : UpSide → UpSide) (j : Nat) : (s.onUps n f).groupOf j = s.groupOf j := rfl
@[simp] theorem State.groupOf_of_onMons (s : State) (n : Nat) (f : MonSide → MonSide) (j : Nat) : (s.onMons n f).groupOf j = s.groupOf j := rfl
@[simp] theorem State.groupOf_of_onGrv (s : State) (f : Graver → Graver) (j : Nat) : (s.onGrv f).groupOf j = s.groupOf j := rfl
@[simp] theorem State.groupOf_of_raise (s : State) (e : Ev) (j : Nat) : (s.raise e).groupOf j = s.groupOf j := rfl
@[simp] theorem State.groupOf_of_direct (s : State) (e : Ev) (j : Nat) : (s.direct e).groupOf j = s.groupOf j := rfl
@[simp] theorem State.groupOf_of_ask (s : State) (e : Emit) (j : Nat) : (s.ask e).groupOf j = s.groupOf j := rfl
@[simp] theorem State.groupOf_of_drawn (s : State) (j : Nat) : (s.drawn).groupOf j = s.groupOf j := rfl
@[simp] theorem State.groupOf_of_evLane (s : State) (c : EvClass) (n k : Nat) (d : Bytes) (g : Nat) (j : Nat) : (s.evLane c n k d g).groupOf j = s.groupOf j := rfl
@[simp] theorem State.groupOf_of_evMod (s : State) (c : EvClass) (x u k : Nat) (d : Bytes) (g : Nat) (j : Nat) : (s.evMod c x u k d g).groupOf j = s.groupOf j := rfl
@[simp] theorem State.groupOf_of_startTimer (s : State) (n k d : Nat) (j : Nat) : (s.startTimer n k d).groupOf j = s.groupOf j := rfl
@[simp] theorem State.groupOf_of_stopTimer (s : State) (n k : Nat) (j : Nat) : (s.stopTimer n k).groupOf j = s.groupOf j := rfl
@[simp] theorem State.groupOf_of_laneState (s : State) (c : EvClass) (n : Nat) (x : Cause) (j : Nat) : (s.laneState c n x).groupOf j = s.groupOf j := rfl
@[simp] theorem State.groupOf_of_evContactor (s : State) (n f c r m : Nat) (j : Nat) : (s.evContactor n f c r m).groupOf j = s.groupOf j := rfl
@[simp] theorem State.groupOf_of_evLock (s : State) (n a r m : Nat) (j : Nat) : (s.evLock n a r m).groupOf j = s.groupOf j := rfl
@[simp] theorem State.groupOf_of_evChan (s : State) (k c : Nat) (d : Bytes) (j : Nat) : (s.evChan k c d).groupOf j = s.groupOf j := rfl
@[simp] theorem State.groupOf_of_onEn (s : State) (c : Bool) (n : Nat) (f : EnSet → EnSet) (j : Nat) : (s.onEn c n f).groupOf j = s.groupOf j := by
  cases c <;> rfl
@[simp] theorem State.isPending_of_onLane (s : State) (n : Nat) (f : Lane → Lane) (j : Nat) : (s.onLane n f).isPending j = s.isPending j := rfl
@[simp] theorem State.isPending_of_onHs (s : State) (n : Nat) (f : HsLane → HsLane) (j : Nat) : (s.onHs n f).isPending j = s.isPending j := rfl
@[simp] theorem State.isPending_of_onPilot (s : State) (n : Nat) (f : PilotHs → PilotHs) (j : Nat) : (s.onPilot n f).isPending j = s.isPending j := rfl
@[simp] theorem State.isPending_of_onLink (s : State) (n : Nat) (f : LinkHs → LinkHs) (j : Nat) : (s.onLink n f).isPending j = s.isPending j := rfl
@[simp] theorem State.isPending_of_onCnt (s : State) (n : Nat) (f : CntHs → CntHs) (j : Nat) : (s.onCnt n f).isPending j = s.isPending j := rfl
@[simp] theorem State.isPending_of_onPp (s : State) (n : Nat) (f : PpLane → PpLane) (j : Nat) : (s.onPp n f).isPending j = s.isPending j := rfl
@[simp] theorem State.isPending_of_onCan (s : State) (n : Nat) (f : PpCan → PpCan) (j : Nat) : (s.onCan n f).isPending j = s.isPending j := rfl
@[simp] theorem State.isPending_of_onPs (s : State) (n : Nat) (f : PsLane → PsLane) (j : Nat) : (s.onPs n f).isPending j = s.isPending j := rfl
@[simp] theorem State.isPending_of_onEfg (s : State) (n : Nat) (f : EfGroup → EfGroup) (j : Nat) : (s.onEfg n f).isPending j = s.isPending j := rfl
@[simp] theorem State.isPending_of_onEfl (s : State) (n : Nat) (f : EfLane → EfLane) (j : Nat) : (s.onEfl n f).isPending j = s.isPending j := rfl
@[simp] theorem State.isPending_of_onChan (s : State) (n : Nat) (f : MtChan → MtChan) (j : Nat) : (s.onChan n f).isPending j = s.isPending j := rfl
@[simp] theorem State.isPending_of_onMtl (s : State) (n : Nat) (f : MtLane → MtLane) (j : Nat) : (s.onMtl n f).isPending j = s.isPending j := rfl
@[simp] theorem State.isPending_of_onPls (s : State) (n : Nat) (f : MtPulse → MtPulse) (j : Nat) : (s.onPls n f).isPending j = s.isPending j := rfl
@[simp] theorem State.isPending_of_onSfl (s : State) (n : Nat) (f : SfLane → SfLane) (j : Nat) : (s.onSfl n f).isPending j = s.isPending j := rfl
@[simp] theorem State.isPending_of_onWatch (s : State) (n : Nat) (f : Watch → Watch) (j : Nat) : (s.onWatch n f).isPending j = s.isPending j := rfl
@[simp] theorem State.isPending_of_onCh (s : State) (n : Nat) (f : PoCh → PoCh) (j : Nat) : (s.onCh n f).isPending j = s.isPending j := rfl
@[simp] theorem State.isPending_of_onDie (s : State) (n : Nat) (f : PoDie → PoDie) (j : Nat) : (s.onDie n f).isPending j = s.isPending j := rfl
@[simp] theorem State.isPending_of_onPort (s : State) (n : Nat) (f : Port → Port) (j : Nat) : (s.onPort n f).isPending j = s.isPending j := rfl
@[simp] theorem State.isPending_of_onTgp (s : State) (n : Nat) (f : TgPort → TgPort) (j : Nat) : (s.onTgp n f).isPending j = s.isPending j := rfl
@[simp] theorem State.isPending_of_onPanel (s : State) (n : Nat) (f : Panel → Panel) (j : Nat) : (s.onPanel n f).isPending j = s.isPending j := rfl
@[simp] theorem State.isPending_of_onMms (s : State) (n : Nat) (f : MmSide → MmSide) (j : Nat) : (s.onMms n f).isPending j = s.isPending j := rfl
@[simp] theorem State.isPending_of_onUps (s : State) (n : Nat) (f : UpSide → UpSide) (j : Nat) : (s.onUps n f).isPending j = s.isPending j := rfl
@[simp] theorem State.isPending_of_onMons (s : State) (n : Nat) (f : MonSide → MonSide) (j : Nat) : (s.onMons n f).isPending j = s.isPending j := rfl
@[simp] theorem State.isPending_of_onGrv (s : State) (f : Graver → Graver) (j : Nat) : (s.onGrv f).isPending j = s.isPending j := rfl
@[simp] theorem State.isPending_of_raise (s : State) (e : Ev) (j : Nat) : (s.raise e).isPending j = s.isPending j := rfl
@[simp] theorem State.isPending_of_direct (s : State) (e : Ev) (j : Nat) : (s.direct e).isPending j = s.isPending j := rfl
@[simp] theorem State.isPending_of_ask (s : State) (e : Emit) (j : Nat) : (s.ask e).isPending j = s.isPending j := rfl
@[simp] theorem State.isPending_of_drawn (s : State) (j : Nat) : (s.drawn).isPending j = s.isPending j := rfl
@[simp] theorem State.isPending_of_evLane (s : State) (c : EvClass) (n k : Nat) (d : Bytes) (g : Nat) (j : Nat) : (s.evLane c n k d g).isPending j = s.isPending j := rfl
@[simp] theorem State.isPending_of_evMod (s : State) (c : EvClass) (x u k : Nat) (d : Bytes) (g : Nat) (j : Nat) : (s.evMod c x u k d g).isPending j = s.isPending j := rfl
@[simp] theorem State.isPending_of_startTimer (s : State) (n k d : Nat) (j : Nat) : (s.startTimer n k d).isPending j = s.isPending j := rfl
@[simp] theorem State.isPending_of_stopTimer (s : State) (n k : Nat) (j : Nat) : (s.stopTimer n k).isPending j = s.isPending j := rfl
@[simp] theorem State.isPending_of_laneState (s : State) (c : EvClass) (n : Nat) (x : Cause) (j : Nat) : (s.laneState c n x).isPending j = s.isPending j := rfl
@[simp] theorem State.isPending_of_evContactor (s : State) (n f c r m : Nat) (j : Nat) : (s.evContactor n f c r m).isPending j = s.isPending j := rfl
@[simp] theorem State.isPending_of_evLock (s : State) (n a r m : Nat) (j : Nat) : (s.evLock n a r m).isPending j = s.isPending j := rfl
@[simp] theorem State.isPending_of_evChan (s : State) (k c : Nat) (d : Bytes) (j : Nat) : (s.evChan k c d).isPending j = s.isPending j := rfl
@[simp] theorem State.isPending_of_onEn (s : State) (c : Bool) (n : Nat) (f : EnSet → EnSet) (j : Nat) : (s.onEn c n f).isPending j = s.isPending j := by
  cases c <;> rfl
@[simp] theorem State.nLanes_of_onLane (s : State) (n : Nat) (f : Lane → Lane) : (s.onLane n f).nLanes = s.nLanes := rfl
@[simp] theorem State.nLanes_of_onHs (s : State) (n : Nat) (f : HsLane → HsLane) : (s.onHs n f).nLanes = s.nLanes := rfl
@[simp] theorem State.nLanes_of_onPilot (s : State) (n : Nat) (f : PilotHs → PilotHs) : (s.onPilot n f).nLanes = s.nLanes := rfl
@[simp] theorem State.nLanes_of_onLink (s : State) (n : Nat) (f : LinkHs → LinkHs) : (s.onLink n f).nLanes = s.nLanes := rfl
@[simp] theorem State.nLanes_of_onCnt (s : State) (n : Nat) (f : CntHs → CntHs) : (s.onCnt n f).nLanes = s.nLanes := rfl
@[simp] theorem State.nLanes_of_onPp (s : State) (n : Nat) (f : PpLane → PpLane) : (s.onPp n f).nLanes = s.nLanes := rfl
@[simp] theorem State.nLanes_of_onCan (s : State) (n : Nat) (f : PpCan → PpCan) : (s.onCan n f).nLanes = s.nLanes := rfl
@[simp] theorem State.nLanes_of_onPs (s : State) (n : Nat) (f : PsLane → PsLane) : (s.onPs n f).nLanes = s.nLanes := rfl
@[simp] theorem State.nLanes_of_onEfg (s : State) (n : Nat) (f : EfGroup → EfGroup) : (s.onEfg n f).nLanes = s.nLanes := rfl
@[simp] theorem State.nLanes_of_onEfl (s : State) (n : Nat) (f : EfLane → EfLane) : (s.onEfl n f).nLanes = s.nLanes := rfl
@[simp] theorem State.nLanes_of_onChan (s : State) (n : Nat) (f : MtChan → MtChan) : (s.onChan n f).nLanes = s.nLanes := rfl
@[simp] theorem State.nLanes_of_onMtl (s : State) (n : Nat) (f : MtLane → MtLane) : (s.onMtl n f).nLanes = s.nLanes := rfl
@[simp] theorem State.nLanes_of_onPls (s : State) (n : Nat) (f : MtPulse → MtPulse) : (s.onPls n f).nLanes = s.nLanes := rfl
@[simp] theorem State.nLanes_of_onSfl (s : State) (n : Nat) (f : SfLane → SfLane) : (s.onSfl n f).nLanes = s.nLanes := rfl
@[simp] theorem State.nLanes_of_onWatch (s : State) (n : Nat) (f : Watch → Watch) : (s.onWatch n f).nLanes = s.nLanes := rfl
@[simp] theorem State.nLanes_of_onCh (s : State) (n : Nat) (f : PoCh → PoCh) : (s.onCh n f).nLanes = s.nLanes := rfl
@[simp] theorem State.nLanes_of_onDie (s : State) (n : Nat) (f : PoDie → PoDie) : (s.onDie n f).nLanes = s.nLanes := rfl
@[simp] theorem State.nLanes_of_onPort (s : State) (n : Nat) (f : Port → Port) : (s.onPort n f).nLanes = s.nLanes := rfl
@[simp] theorem State.nLanes_of_onTgp (s : State) (n : Nat) (f : TgPort → TgPort) : (s.onTgp n f).nLanes = s.nLanes := rfl
@[simp] theorem State.nLanes_of_onPanel (s : State) (n : Nat) (f : Panel → Panel) : (s.onPanel n f).nLanes = s.nLanes := rfl
@[simp] theorem State.nLanes_of_onMms (s : State) (n : Nat) (f : MmSide → MmSide) : (s.onMms n f).nLanes = s.nLanes := rfl
@[simp] theorem State.nLanes_of_onUps (s : State) (n : Nat) (f : UpSide → UpSide) : (s.onUps n f).nLanes = s.nLanes := rfl
@[simp] theorem State.nLanes_of_onMons (s : State) (n : Nat) (f : MonSide → MonSide) : (s.onMons n f).nLanes = s.nLanes := rfl
@[simp] theorem State.nLanes_of_onGrv (s : State) (f : Graver → Graver) : (s.onGrv f).nLanes = s.nLanes := rfl
@[simp] theorem State.nLanes_of_raise (s : State) (e : Ev) : (s.raise e).nLanes = s.nLanes := rfl
@[simp] theorem State.nLanes_of_direct (s : State) (e : Ev) : (s.direct e).nLanes = s.nLanes := rfl
@[simp] theorem State.nLanes_of_ask (s : State) (e : Emit) : (s.ask e).nLanes = s.nLanes := rfl
@[simp] theorem State.nLanes_of_drawn (s : State) : (s.drawn).nLanes = s.nLanes := rfl
@[simp] theorem State.nLanes_of_evLane (s : State) (c : EvClass) (n k : Nat) (d : Bytes) (g : Nat) : (s.evLane c n k d g).nLanes = s.nLanes := rfl
@[simp] theorem State.nLanes_of_evMod (s : State) (c : EvClass) (x u k : Nat) (d : Bytes) (g : Nat) : (s.evMod c x u k d g).nLanes = s.nLanes := rfl
@[simp] theorem State.nLanes_of_startTimer (s : State) (n k d : Nat) : (s.startTimer n k d).nLanes = s.nLanes := rfl
@[simp] theorem State.nLanes_of_stopTimer (s : State) (n k : Nat) : (s.stopTimer n k).nLanes = s.nLanes := rfl
@[simp] theorem State.nLanes_of_laneState (s : State) (c : EvClass) (n : Nat) (x : Cause) : (s.laneState c n x).nLanes = s.nLanes := rfl
@[simp] theorem State.nLanes_of_evContactor (s : State) (n f c r m : Nat) : (s.evContactor n f c r m).nLanes = s.nLanes := rfl
@[simp] theorem State.nLanes_of_evLock (s : State) (n a r m : Nat) : (s.evLock n a r m).nLanes = s.nLanes := rfl
@[simp] theorem State.nLanes_of_evChan (s : State) (k c : Nat) (d : Bytes) : (s.evChan k c d).nLanes = s.nLanes := rfl
@[simp] theorem State.nLanes_of_onEn (s : State) (c : Bool) (n : Nat) (f : EnSet → EnSet) : (s.onEn c n f).nLanes = s.nLanes := by
  cases c <;> rfl
@[simp] theorem State.twin_of_onLane (s : State) (n : Nat) (f : Lane → Lane) : (s.onLane n f).twin = s.twin := rfl
@[simp] theorem State.twin_of_onHs (s : State) (n : Nat) (f : HsLane → HsLane) : (s.onHs n f).twin = s.twin := rfl
@[simp] theorem State.twin_of_onPilot (s : State) (n : Nat) (f : PilotHs → PilotHs) : (s.onPilot n f).twin = s.twin := rfl
@[simp] theorem State.twin_of_onLink (s : State) (n : Nat) (f : LinkHs → LinkHs) : (s.onLink n f).twin = s.twin := rfl
@[simp] theorem State.twin_of_onCnt (s : State) (n : Nat) (f : CntHs → CntHs) : (s.onCnt n f).twin = s.twin := rfl
@[simp] theorem State.twin_of_onPp (s : State) (n : Nat) (f : PpLane → PpLane) : (s.onPp n f).twin = s.twin := rfl
@[simp] theorem State.twin_of_onCan (s : State) (n : Nat) (f : PpCan → PpCan) : (s.onCan n f).twin = s.twin := rfl
@[simp] theorem State.twin_of_onPs (s : State) (n : Nat) (f : PsLane → PsLane) : (s.onPs n f).twin = s.twin := rfl
@[simp] theorem State.twin_of_onEfg (s : State) (n : Nat) (f : EfGroup → EfGroup) : (s.onEfg n f).twin = s.twin := rfl
@[simp] theorem State.twin_of_onEfl (s : State) (n : Nat) (f : EfLane → EfLane) : (s.onEfl n f).twin = s.twin := rfl
@[simp] theorem State.twin_of_onChan (s : State) (n : Nat) (f : MtChan → MtChan) : (s.onChan n f).twin = s.twin := rfl
@[simp] theorem State.twin_of_onMtl (s : State) (n : Nat) (f : MtLane → MtLane) : (s.onMtl n f).twin = s.twin := rfl
@[simp] theorem State.twin_of_onPls (s : State) (n : Nat) (f : MtPulse → MtPulse) : (s.onPls n f).twin = s.twin := rfl
@[simp] theorem State.twin_of_onSfl (s : State) (n : Nat) (f : SfLane → SfLane) : (s.onSfl n f).twin = s.twin := rfl
@[simp] theorem State.twin_of_onWatch (s : State) (n : Nat) (f : Watch → Watch) : (s.onWatch n f).twin = s.twin := rfl
@[simp] theorem State.twin_of_onCh (s : State) (n : Nat) (f : PoCh → PoCh) : (s.onCh n f).twin = s.twin := rfl
@[simp] theorem State.twin_of_onDie (s : State) (n : Nat) (f : PoDie → PoDie) : (s.onDie n f).twin = s.twin := rfl
@[simp] theorem State.twin_of_onPort (s : State) (n : Nat) (f : Port → Port) : (s.onPort n f).twin = s.twin := rfl
@[simp] theorem State.twin_of_onTgp (s : State) (n : Nat) (f : TgPort → TgPort) : (s.onTgp n f).twin = s.twin := rfl
@[simp] theorem State.twin_of_onPanel (s : State) (n : Nat) (f : Panel → Panel) : (s.onPanel n f).twin = s.twin := rfl
@[simp] theorem State.twin_of_onMms (s : State) (n : Nat) (f : MmSide → MmSide) : (s.onMms n f).twin = s.twin := rfl
@[simp] theorem State.twin_of_onUps (s : State) (n : Nat) (f : UpSide → UpSide) : (s.onUps n f).twin = s.twin := rfl
@[simp] theorem State.twin_of_onMons (s : State) (n : Nat) (f : MonSide → MonSide) : (s.onMons n f).twin = s.twin := rfl
@[simp] theorem State.twin_of_onGrv (s : State) (f : Graver → Graver) : (s.onGrv f).twin = s.twin := rfl
@[simp] theorem State.twin_of_raise (s : State) (e : Ev) : (s.raise e).twin = s.twin := rfl
@[simp] theorem State.twin_of_direct (s : State) (e : Ev) : (s.direct e).twin = s.twin := rfl
@[simp] theorem State.twin_of_ask (s : State) (e : Emit) : (s.ask e).twin = s.twin := rfl
@[simp] theorem State.twin_of_drawn (s : State) : (s.drawn).twin = s.twin := rfl
@[simp] theorem State.twin_of_evLane (s : State) (c : EvClass) (n k : Nat) (d : Bytes) (g : Nat) : (s.evLane c n k d g).twin = s.twin := rfl
@[simp] theorem State.twin_of_evMod (s : State) (c : EvClass) (x u k : Nat) (d : Bytes) (g : Nat) : (s.evMod c x u k d g).twin = s.twin := rfl
@[simp] theorem State.twin_of_startTimer (s : State) (n k d : Nat) : (s.startTimer n k d).twin = s.twin := rfl
@[simp] theorem State.twin_of_stopTimer (s : State) (n k : Nat) : (s.stopTimer n k).twin = s.twin := rfl
@[simp] theorem State.twin_of_laneState (s : State) (c : EvClass) (n : Nat) (x : Cause) : (s.laneState c n x).twin = s.twin := rfl
@[simp] theorem State.twin_of_evContactor (s : State) (n f c r m : Nat) : (s.evContactor n f c r m).twin = s.twin := rfl
@[simp] theorem State.twin_of_evLock (s : State) (n a r m : Nat) : (s.evLock n a r m).twin = s.twin := rfl
@[simp] theorem State.twin_of_evChan (s : State) (k c : Nat) (d : Bytes) : (s.evChan k c d).twin = s.twin := rfl
@[simp] theorem State.twin_of_onEn (s : State) (c : Bool) (n : Nat) (f : EnSet → EnSet) : (s.onEn c n f).twin = s.twin := by
  cases c <;> rfl
@[simp] theorem State.dieBad_of_onLane (s : State) (n : Nat) (f : Lane → Lane) (j : Nat) : (s.onLane n f).dieBad j = s.dieBad j := rfl
@[simp] theorem State.dieBad_of_onHs (s : State) (n : Nat) (f : HsLane → HsLane) (j : Nat) : (s.onHs n f).dieBad j = s.dieBad j := rfl
@[simp] theorem State.dieBad_of_onPilot (s : State) (n : Nat) (f : PilotHs → PilotHs) (j : Nat) : (s.onPilot n f).dieBad j = s.dieBad j := rfl
@[simp] theorem State.dieBad_of_onLink (s : State) (n : Nat) (f : LinkHs → LinkHs) (j : Nat) : (s.onLink n f).dieBad j = s.dieBad j := rfl
@[simp] theorem State.dieBad_of_onCnt (s : State) (n : Nat) (f : CntHs → CntHs) (j : Nat) : (s.onCnt n f).dieBad j = s.dieBad j := rfl
@[simp] theorem State.dieBad_of_onPp (s : State) (n : Nat) (f : PpLane → PpLane) (j : Nat) : (s.onPp n f).dieBad j = s.dieBad j := rfl
@[simp] theorem State.dieBad_of_onCan (s : State) (n : Nat) (f : PpCan → PpCan) (j : Nat) : (s.onCan n f).dieBad j = s.dieBad j := rfl
@[simp] theorem State.dieBad_of_onPs (s : State) (n : Nat) (f : PsLane → PsLane) (j : Nat) : (s.onPs n f).dieBad j = s.dieBad j := rfl
@[simp] theorem State.dieBad_of_onEfg (s : State) (n : Nat) (f : EfGroup → EfGroup) (j : Nat) : (s.onEfg n f).dieBad j = s.dieBad j := rfl
@[simp] theorem State.dieBad_of_onEfl (s : State) (n : Nat) (f : EfLane → EfLane) (j : Nat) : (s.onEfl n f).dieBad j = s.dieBad j := rfl
@[simp] theorem State.dieBad_of_onChan (s : State) (n : Nat) (f : MtChan → MtChan) (j : Nat) : (s.onChan n f).dieBad j = s.dieBad j := rfl
@[simp] theorem State.dieBad_of_onMtl (s : State) (n : Nat) (f : MtLane → MtLane) (j : Nat) : (s.onMtl n f).dieBad j = s.dieBad j := rfl
@[simp] theorem State.dieBad_of_onPls (s : State) (n : Nat) (f : MtPulse → MtPulse) (j : Nat) : (s.onPls n f).dieBad j = s.dieBad j := rfl
@[simp] theorem State.dieBad_of_onSfl (s : State) (n : Nat) (f : SfLane → SfLane) (j : Nat) : (s.onSfl n f).dieBad j = s.dieBad j := rfl
@[simp] theorem State.dieBad_of_onWatch (s : State) (n : Nat) (f : Watch → Watch) (j : Nat) : (s.onWatch n f).dieBad j = s.dieBad j := rfl
@[simp] theorem State.dieBad_of_onCh (s : State) (n : Nat) (f : PoCh → PoCh) (j : Nat) : (s.onCh n f).dieBad j = s.dieBad j := rfl
@[simp] theorem State.dieBad_of_onDie (s : State) (n : Nat) (f : PoDie → PoDie) (j : Nat) : (s.onDie n f).dieBad j = s.dieBad j := rfl
@[simp] theorem State.dieBad_of_onPort (s : State) (n : Nat) (f : Port → Port) (j : Nat) : (s.onPort n f).dieBad j = s.dieBad j := rfl
@[simp] theorem State.dieBad_of_onTgp (s : State) (n : Nat) (f : TgPort → TgPort) (j : Nat) : (s.onTgp n f).dieBad j = s.dieBad j := rfl
@[simp] theorem State.dieBad_of_onPanel (s : State) (n : Nat) (f : Panel → Panel) (j : Nat) : (s.onPanel n f).dieBad j = s.dieBad j := rfl
@[simp] theorem State.dieBad_of_onMms (s : State) (n : Nat) (f : MmSide → MmSide) (j : Nat) : (s.onMms n f).dieBad j = s.dieBad j := rfl
@[simp] theorem State.dieBad_of_onUps (s : State) (n : Nat) (f : UpSide → UpSide) (j : Nat) : (s.onUps n f).dieBad j = s.dieBad j := rfl
@[simp] theorem State.dieBad_of_onMons (s : State) (n : Nat) (f : MonSide → MonSide) (j : Nat) : (s.onMons n f).dieBad j = s.dieBad j := rfl
@[simp] theorem State.dieBad_of_onGrv (s : State) (f : Graver → Graver) (j : Nat) : (s.onGrv f).dieBad j = s.dieBad j := rfl
@[simp] theorem State.dieBad_of_raise (s : State) (e : Ev) (j : Nat) : (s.raise e).dieBad j = s.dieBad j := rfl
@[simp] theorem State.dieBad_of_direct (s : State) (e : Ev) (j : Nat) : (s.direct e).dieBad j = s.dieBad j := rfl
@[simp] theorem State.dieBad_of_ask (s : State) (e : Emit) (j : Nat) : (s.ask e).dieBad j = s.dieBad j := rfl
@[simp] theorem State.dieBad_of_drawn (s : State) (j : Nat) : (s.drawn).dieBad j = s.dieBad j := rfl
@[simp] theorem State.dieBad_of_evLane (s : State) (c : EvClass) (n k : Nat) (d : Bytes) (g : Nat) (j : Nat) : (s.evLane c n k d g).dieBad j = s.dieBad j := rfl
@[simp] theorem State.dieBad_of_evMod (s : State) (c : EvClass) (x u k : Nat) (d : Bytes) (g : Nat) (j : Nat) : (s.evMod c x u k d g).dieBad j = s.dieBad j := rfl
@[simp] theorem State.dieBad_of_startTimer (s : State) (n k d : Nat) (j : Nat) : (s.startTimer n k d).dieBad j = s.dieBad j := rfl
@[simp] theorem State.dieBad_of_stopTimer (s : State) (n k : Nat) (j : Nat) : (s.stopTimer n k).dieBad j = s.dieBad j := rfl
@[simp] theorem State.dieBad_of_laneState (s : State) (c : EvClass) (n : Nat) (x : Cause) (j : Nat) : (s.laneState c n x).dieBad j = s.dieBad j := rfl
@[simp] theorem State.dieBad_of_evContactor (s : State) (n f c r m : Nat) (j : Nat) : (s.evContactor n f c r m).dieBad j = s.dieBad j := rfl
@[simp] theorem State.dieBad_of_evLock (s : State) (n a r m : Nat) (j : Nat) : (s.evLock n a r m).dieBad j = s.dieBad j := rfl
@[simp] theorem State.dieBad_of_evChan (s : State) (k c : Nat) (d : Bytes) (j : Nat) : (s.evChan k c d).dieBad j = s.dieBad j := rfl
@[simp] theorem State.dieBad_of_onEn (s : State) (c : Bool) (n : Nat) (f : EnSet → EnSet) (j : Nat) : (s.onEn c n f).dieBad j = s.dieBad j := by
  cases c <;> rfl
@[simp] theorem State.permit_of_onLane (s : State) (n : Nat) (f : Lane → Lane) (j : Nat) : (s.onLane n f).permit j = s.permit j := rfl
@[simp] theorem State.permit_of_onHs (s : State) (n : Nat) (f : HsLane → HsLane) (j : Nat) : (s.onHs n f).permit j = s.permit j := rfl
@[simp] theorem State.permit_of_onPilot (s : State) (n : Nat) (f : PilotHs → PilotHs) (j : Nat) : (s.onPilot n f).permit j = s.permit j := rfl
@[simp] theorem State.permit_of_onLink (s : State) (n : Nat) (f : LinkHs → LinkHs) (j : Nat) : (s.onLink n f).permit j = s.permit j := rfl
@[simp] theorem State.permit_of_onCnt (s : State) (n : Nat) (f : CntHs → CntHs) (j : Nat) : (s.onCnt n f).permit j = s.permit j := rfl
@[simp] theorem State.permit_of_onPp (s : State) (n : Nat) (f : PpLane → PpLane) (j : Nat) : (s.onPp n f).permit j = s.permit j := rfl
@[simp] theorem State.permit_of_onCan (s : State) (n : Nat) (f : PpCan → PpCan) (j : Nat) : (s.onCan n f).permit j = s.permit j := rfl
@[simp] theorem State.permit_of_onPs (s : State) (n : Nat) (f : PsLane → PsLane) (j : Nat) : (s.onPs n f).permit j = s.permit j := rfl
@[simp] theorem State.permit_of_onEfg (s : State) (n : Nat) (f : EfGroup → EfGroup) (j : Nat) : (s.onEfg n f).permit j = s.permit j := rfl
@[simp] theorem State.permit_of_onEfl (s : State) (n : Nat) (f : EfLane → EfLane) (j : Nat) : (s.onEfl n f).permit j = s.permit j := rfl
@[simp] theorem State.permit_of_onChan (s : State) (n : Nat) (f : MtChan → MtChan) (j : Nat) : (s.onChan n f).permit j = s.permit j := rfl
@[simp] theorem State.permit_of_onMtl (s : State) (n : Nat) (f : MtLane → MtLane) (j : Nat) : (s.onMtl n f).permit j = s.permit j := rfl
@[simp] theorem State.permit_of_onPls (s : State) (n : Nat) (f : MtPulse → MtPulse) (j : Nat) : (s.onPls n f).permit j = s.permit j := rfl
@[simp] theorem State.permit_of_onCh (s : State) (n : Nat) (f : PoCh → PoCh) (j : Nat) : (s.onCh n f).permit j = s.permit j := rfl
@[simp] theorem State.permit_of_onDie (s : State) (n : Nat) (f : PoDie → PoDie) (j : Nat) : (s.onDie n f).permit j = s.permit j := rfl
@[simp] theorem State.permit_of_onPort (s : State) (n : Nat) (f : Port → Port) (j : Nat) : (s.onPort n f).permit j = s.permit j := rfl
@[simp] theorem State.permit_of_onTgp (s : State) (n : Nat) (f : TgPort → TgPort) (j : Nat) : (s.onTgp n f).permit j = s.permit j := rfl
@[simp] theorem State.permit_of_onPanel (s : State) (n : Nat) (f : Panel → Panel) (j : Nat) : (s.onPanel n f).permit j = s.permit j := rfl
@[simp] theorem State.permit_of_onMms (s : State) (n : Nat) (f : MmSide → MmSide) (j : Nat) : (s.onMms n f).permit j = s.permit j := rfl
@[simp] theorem State.permit_of_onUps (s : State) (n : Nat) (f : UpSide → UpSide) (j : Nat) : (s.onUps n f).permit j = s.permit j := rfl
@[simp] theorem State.permit_of_onMons (s : State) (n : Nat) (f : MonSide → MonSide) (j : Nat) : (s.onMons n f).permit j = s.permit j := rfl
@[simp] theorem State.permit_of_raise (s : State) (e : Ev) (j : Nat) : (s.raise e).permit j = s.permit j := rfl
@[simp] theorem State.permit_of_direct (s : State) (e : Ev) (j : Nat) : (s.direct e).permit j = s.permit j := rfl
@[simp] theorem State.permit_of_ask (s : State) (e : Emit) (j : Nat) : (s.ask e).permit j = s.permit j := rfl
@[simp] theorem State.permit_of_drawn (s : State) (j : Nat) : (s.drawn).permit j = s.permit j := rfl
@[simp] theorem State.permit_of_evLane (s : State) (c : EvClass) (n k : Nat) (d : Bytes) (g : Nat) (j : Nat) : (s.evLane c n k d g).permit j = s.permit j := rfl
@[simp] theorem State.permit_of_evMod (s : State) (c : EvClass) (x u k : Nat) (d : Bytes) (g : Nat) (j : Nat) : (s.evMod c x u k d g).permit j = s.permit j := rfl
@[simp] theorem State.permit_of_startTimer (s : State) (n k d : Nat) (j : Nat) : (s.startTimer n k d).permit j = s.permit j := rfl
@[simp] theorem State.permit_of_stopTimer (s : State) (n k : Nat) (j : Nat) : (s.stopTimer n k).permit j = s.permit j := rfl
@[simp] theorem State.permit_of_laneState (s : State) (c : EvClass) (n : Nat) (x : Cause) (j : Nat) : (s.laneState c n x).permit j = s.permit j := rfl
@[simp] theorem State.permit_of_evContactor (s : State) (n f c r m : Nat) (j : Nat) : (s.evContactor n f c r m).permit j = s.permit j := rfl
@[simp] theorem State.permit_of_evLock (s : State) (n a r m : Nat) (j : Nat) : (s.evLock n a r m).permit j = s.permit j := rfl
@[simp] theorem State.permit_of_evChan (s : State) (k c : Nat) (d : Bytes) (j : Nat) : (s.evChan k c d).permit j = s.permit j := rfl
@[simp] theorem State.permit_of_onEn (s : State) (c : Bool) (n : Nat) (f : EnSet → EnSet) (j : Nat) : (s.onEn c n f).permit j = s.permit j := by
  cases c <;> rfl

/-! ### Events -/

@[simp] theorem State.raise_emits (s : State) (e : Ev) : (s.raise e).emits = s.emits ++ e.records.map .raise := rfl
@[simp] theorem State.direct_emits (s : State) (e : Ev) : (s.direct e).emits = s.emits ++ e.records.map .direct := rfl
@[simp] theorem State.ask_emits (s : State) (e : Emit) : (s.ask e).emits = s.emits ++ [e] := rfl
@[simp] theorem State.drawn_draws (s : State) : s.drawn.draws = s.draws + 1 := rfl

end Sys2Proof.Machine
end

