-- ==== Sys2Proof/Laws/Lane.lean ====
section
/-! SUPPORT. Laws/Lane.lean: what entering a lane state does to the place of every lane in the state machine: the entry actions move no lane. -/
namespace Sys2Proof.Machine

/-- Where a lane stands in the state machine: its state, the one before, the last cause recorded and the TIME of its entry. -/
def Lane.place (l : Lane) : LState × LState × Cause × Nat × Nat := (l.st, l.prev, l.cause, l.entryAt, l.entryMs)

/-- An update of a lane that keeps its place keeps the place of every lane. -/
theorem State.onLane_place (s : State) (n m : Nat) (f : Lane → Lane) (h : ∀ l, (f l).place = l.place) :
    ((s.onLane n f).lane m).place = (s.lane m).place := by
  by_cases e : n = m
  · subst e
    by_cases k : n < s.lanes.length
    · rw [State.lane_onLane s f k, h]
    · have a : s.lanes[n]? = none := List.getElem?_eq_none (Nat.le_of_not_lt k)
      have b : (s.lanes.modify n f)[n]? = none := List.getElem?_eq_none (by simpa using k)
      simp [State.lane, State.onLane, List.getD, a, b]
  · rw [State.lane_onLane_ne s f e]

/-- An update of a lane that keeps its place. -/
def KeepsPlace (f : Lane → Lane) : Prop := ∀ l, (f l).place = l.place
theorem State.onLane_keeps (s : State) (n m : Nat) (f : Lane → Lane) (h : KeepsPlace f) :
    ((s.onLane n f).lane m).place = (s.lane m).place := s.onLane_place n m f h

/-- Lanes that are the same stand in the same place. -/
theorem State.place_of_lanes {s t : State} (m : Nat) (h : t.lanes = s.lanes) : (t.lane m).place = (s.lane m).place := by
  simp [State.lane, h]

/-! ### Operations that change no lane -/

@[simp] theorem State.evAt_lanes (s : State) (c : EvClass) (n k : Nat) (d : Bytes) (g : Nat) : (s.evAt c n k d g).lanes = s.lanes := by
  unfold State.evAt; split <;> rfl
@[simp] theorem State.drive_lanes (s : State) (k : Nat) : (s.drive k).lanes = s.lanes := by
  simp only [State.drive]; split
  · rfl
  · split <;> rfl
@[simp] theorem State.proofCycle_lanes (s : State) (k : Nat) (a b : Bool) : (s.proofCycle k a b).lanes = s.lanes := by
  simp [State.proofCycle]
@[simp] theorem State.deferredProof_lanes (s : State) (k : Nat) : (s.deferredProof k).lanes = s.lanes := by
  simp only [State.deferredProof]; split <;> simp
@[simp] theorem State.command_lanes (s : State) (k : Nat) (b : Bool) : (s.command k b).lanes = s.lanes := by
  simp only [State.command]
  split
  · split <;> simp
  · simp
@[simp] theorem State.disturb_lanes (s : State) (n : Nat) : (s.disturb n).lanes = s.lanes := rfl
@[simp] theorem State.noteOpen_lanes (s : State) (n : Nat) : (s.noteOpen n).lanes = s.lanes := by
  simp only [State.noteOpen]; split <;> rfl
@[simp] theorem State.zeroFluxgate_lanes (s : State) (n : Nat) : (s.zeroFluxgate n).lanes = s.lanes := by
  simp only [State.zeroFluxgate]; split <;> rfl
@[simp] theorem State.contact_lanes (s : State) (n f : Nat) (c : Bool) : (s.contact n f c).lanes = s.lanes := by
  simp only [State.contact]
  split
  · rfl
  · simp only [State.noteOpen_lanes, State.disturb_lanes]
    repeat' split
    all_goals simp
theorem foldl_lanes {α : Type} (f : State → α → State) (h : ∀ s a, (f s a).lanes = s.lanes) (l : List α) (s : State) :
    (l.foldl f s).lanes = s.lanes := by
  induction l generalizing s with
  | nil => rfl
  | cons a l ih => simp [ih, h]
@[simp] theorem State.ownedOff_lanes (s : State) (n : Nat) (b : Bool) : (s.ownedOff n b).lanes = s.lanes := by
  unfold State.ownedOff
  refine foldl_lanes _ (fun s o => ?_) _ s
  repeat' split
  all_goals simp
@[simp] theorem State.putCell_lanes (s : State) (c : Nat) (v : Cell) : (s.putCell c v).lanes = s.lanes := rfl
@[simp] theorem State.writeCell_lanes (s : State) (c : Nat) (v : Cell) (n : Nat) : (s.writeCell c v n).lanes = s.lanes := by
  simp only [State.writeCell]; split <;> simp
@[simp] theorem State.debit_lanes (s : State) (n : Nat) (c : Charge) (d : Int) (f : Cell → Cell) : (s.debit n c d f).1.lanes = s.lanes := by
  simp [State.debit]
@[simp] theorem State.startReadings_lanes (s : State) (n : Nat) : (s.startReadings n).lanes = s.lanes := by
  simp only [State.startReadings]
  split <;> simp
@[simp] theorem State.closeRecord_lanes (s : State) (n : Nat) (a b : Bool) (c l t : Nat) : (s.closeRecord n a b c l t).lanes = s.lanes := by
  simp only [State.closeRecord]
  split
  · rfl
  · simp only [State.onEn_lanes]
    split
    · rfl
    · simp

/-! ### Operations that keep the place of every lane -/

@[simp] theorem State.startTimer_place (s : State) (n k d m : Nat) : ((s.startTimer n k d).lane m).place = (s.lane m).place := by
  exact s.onLane_place _ _ _ fun _ => rfl
@[simp] theorem State.stopTimer_place (s : State) (n k m : Nat) : ((s.stopTimer n k).lane m).place = (s.lane m).place := by
  exact s.onLane_place _ _ _ fun _ => rfl
@[simp] theorem State.setCp_place (s : State) (n : Nat) (c : CpMode) (d m : Nat) : ((s.setCp n c d).lane m).place = (s.lane m).place := by
  refine s.onLane_place _ _ _ fun l => ?_
  repeat' split
  all_goals rfl
@[simp] theorem State.cpS12_place (s : State) (n m : Nat) : ((s.cpS12 n).lane m).place = (s.lane m).place := by
  exact s.setCp_place ..
@[simp] theorem State.cpS5_place (s : State) (n m : Nat) : ((s.cpS5 n).lane m).place = (s.lane m).place := by
  exact s.setCp_place ..
@[simp] theorem State.cpF_place (s : State) (n m : Nat) : ((s.cpF n).lane m).place = (s.lane m).place := by
  exact s.setCp_place ..
@[simp] theorem State.cpV0_place (s : State) (n m : Nat) : ((s.cpV0 n).lane m).place = (s.lane m).place := by
  exact s.setCp_place ..
@[simp] theorem State.cpPwm_place (s : State) (n m : Nat) : ((s.cpPwm n).lane m).place = (s.lane m).place := by
  simp only [State.cpPwm]
  all_goals simp (disch := (unfold KeepsPlace Lane.place; intros; first | rfl | (unfold Lane.stop; rfl) | (unfold Lane.start; rfl))) [State.onLane_keeps]
@[simp] theorem State.cpHold_place (s : State) (n m : Nat) : ((s.cpHold n).lane m).place = (s.lane m).place := by
  simp only [State.cpHold]
  repeat' split
  all_goals simp
@[simp] theorem State.cpOffer_place (s : State) (n m : Nat) (g : Bool) : ((s.cpOffer n g).lane m).place = (s.lane m).place := by
  simp only [State.cpOffer]
  repeat' split
  all_goals simp
@[simp] theorem State.command_place (s : State) (k m : Nat) (b : Bool) : ((s.command k b).lane m).place = (s.lane m).place := by
  exact State.place_of_lanes m (by simp)
@[simp] theorem State.contact_place (s : State) (n f m : Nat) (c : Bool) : ((s.contact n f c).lane m).place = (s.lane m).place := by
  exact State.place_of_lanes m (by simp)
@[simp] theorem State.ownedOff_place (s : State) (n m : Nat) (c : Bool) : ((s.ownedOff n c).lane m).place = (s.lane m).place := by
  exact State.place_of_lanes m (by simp)
@[simp] theorem State.startReadings_place (s : State) (n m : Nat) : ((s.startReadings n).lane m).place = (s.lane m).place := by
  exact State.place_of_lanes m (by simp)
@[simp] theorem State.closeRecord_place (s : State) (n m : Nat) (a b : Bool) (c l t : Nat) : ((s.closeRecord n a b c l t).lane m).place = (s.lane m).place := by
  exact State.place_of_lanes m (by simp)
@[simp] theorem State.lockPulse_place (s : State) (n a k m : Nat) : ((s.lockPulse n a k).lane m).place = (s.lane m).place := by
  simp only [State.lockPulse]
  repeat' split
  all_goals simp (disch := (unfold KeepsPlace Lane.place; intros; first | rfl | (unfold Lane.stop; rfl) | (unfold Lane.start; rfl))) [State.onLane_keeps]
@[simp] theorem State.unlockDue_place (s : State) (n m : Nat) : ((s.unlockDue n).lane m).place = (s.lane m).place := by
  simp only [State.unlockDue]
  repeat' split
  all_goals simp (disch := (unfold KeepsPlace Lane.place; intros; first | rfl | (unfold Lane.stop; rfl) | (unfold Lane.start; rfl))) [State.onLane_keeps]
@[simp] theorem State.tryUnlock_place (s : State) (n m : Nat) : ((s.tryUnlock n).lane m).place = (s.lane m).place := by
  simp only [State.tryUnlock]
  repeat' split
  all_goals simp (disch := (unfold KeepsPlace Lane.place; intros; first | rfl | (unfold Lane.stop; rfl) | (unfold Lane.start; rfl))) [State.onLane_keeps]
@[simp] theorem State.lockForPlug_place (s : State) (n m : Nat) : ((s.lockForPlug n).lane m).place = (s.lane m).place := by
  simp only [State.lockForPlug]
  repeat' split
  all_goals simp
@[simp] theorem State.holdGuard_place (s : State) (n m : Nat) : ((s.holdGuard n).lane m).place = (s.lane m).place := by
  simp only [State.holdGuard]
  repeat' split
  all_goals simp (disch := (unfold KeepsPlace Lane.place; intros; first | rfl | (unfold Lane.stop; rfl) | (unfold Lane.start; rfl))) [State.onLane_keeps]
@[simp] theorem State.startRamp_place (s : State) (n m : Nat) : ((s.startRamp n).lane m).place = (s.lane m).place := by
  simp only [State.startRamp]
  all_goals simp (disch := (unfold KeepsPlace Lane.place; intros; first | rfl | (unfold Lane.stop; rfl) | (unfold Lane.start; rfl))) [State.onLane_keeps]
theorem foldl_place {α : Type} (m : Nat) (f : State → α → State) (h : ∀ s a, ((f s a).lane m).place = (s.lane m).place) (l : List α) (s : State) :
    ((l.foldl f s).lane m).place = (s.lane m).place := by
  induction l generalizing s with
  | nil => rfl
  | cons a l ih => simp [ih, h]
@[simp] theorem State.charges_place (s : State) (l : List (Option Charge)) (m : Nat) :
    (({ s with ac := { s.ac with charges := l } } : State).lane m).place = (s.lane m).place := rfl
@[simp] theorem State.finals_place (s : State) (l : List DsFinal) (m : Nat) :
    (({ s with ds := { s.ds with finals := l } } : State).lane m).place = (s.lane m).place := rfl
@[simp] theorem State.openSession_place (s : State) (n m : Nat) : ((s.openSession n).lane m).place = (s.lane m).place := by
  simp only [State.openSession]
  repeat' split
  all_goals simp (disch := (unfold KeepsPlace Lane.place; intros; first | rfl | (unfold Lane.stop; rfl) | (unfold Lane.start; rfl))) [State.onLane_keeps]
@[simp] theorem State.endSession_place (s : State) (n m : Nat) : ((s.endSession n).lane m).place = (s.lane m).place := by
  simp only [State.endSession]
  rw [State.onLane_keeps]
  · exact State.place_of_lanes m (by simp)
  · intro; rfl

/-! ### Entry actions -/

@[simp] theorem State.enterOffline_place (s : State) (n m : Nat) : ((s.enterOffline n).lane m).place = (s.lane m).place := by
  simp only [State.enterOffline]
  repeat' split
  all_goals simp (disch := (unfold KeepsPlace Lane.place; intros; first | rfl | (unfold Lane.stop; rfl) | (unfold Lane.start; rfl))) [State.onLane_keeps]
@[simp] theorem State.enterPlugged_place (s : State) (n m : Nat) : ((s.enterPlugged n).lane m).place = (s.lane m).place := by
  simp only [State.enterPlugged]
  split
  · simp (disch := (unfold KeepsPlace Lane.place; intros; first | rfl | (unfold Lane.stop; rfl) | (unfold Lane.start; rfl))) only [State.cpHold_place, State.lockForPlug_place, State.lane_of_onPp, State.finals_place, State.startTimer_place]
    rw [foldl_place m _ (fun s a => ?_)]
    · simp (disch := (unfold KeepsPlace Lane.place; intros; first | rfl | (unfold Lane.stop; rfl) | (unfold Lane.start; rfl))) [State.onLane_keeps]
    · split
      · simp (disch := (unfold KeepsPlace Lane.place; intros; first | rfl | (unfold Lane.stop; rfl) | (unfold Lane.start; rfl))) [State.onLane_keeps]
      · rfl
  · simp (disch := (unfold KeepsPlace Lane.place; intros; first | rfl | (unfold Lane.stop; rfl) | (unfold Lane.start; rfl))) only [State.cpHold_place, State.lockForPlug_place, State.lane_of_onPp, State.finals_place, State.startTimer_place]
    simp (disch := (unfold KeepsPlace Lane.place; intros; first | rfl | (unfold Lane.stop; rfl) | (unfold Lane.start; rfl))) [State.onLane_keeps]
@[simp] theorem State.enterIdle_place (s : State) (n m : Nat) : ((s.enterIdle n).lane m).place = (s.lane m).place := by
  simp only [State.enterIdle]
  repeat' split
  all_goals simp (disch := (unfold KeepsPlace Lane.place; intros; first | rfl | (unfold Lane.stop; rfl) | (unfold Lane.start; rfl))) [State.onLane_keeps]
@[simp] theorem State.enterNegotiate_place (s : State) (n m : Nat) : ((s.enterNegotiate n).lane m).place = (s.lane m).place := by
  simp only [State.enterNegotiate]
  repeat' split
  all_goals simp
@[simp] theorem State.enterIsolation_place (s : State) (n m : Nat) : ((s.enterIsolation n).lane m).place = (s.lane m).place := by
  simp only [State.enterIsolation]
  all_goals simp (disch := (unfold KeepsPlace Lane.place; intros; first | rfl | (unfold Lane.stop; rfl) | (unfold Lane.start; rfl))) [State.onLane_keeps]
@[simp] theorem State.enterPrecharge_place (s : State) (n m : Nat) : ((s.enterPrecharge n).lane m).place = (s.lane m).place := by
  simp only [State.enterPrecharge]
  all_goals simp (disch := (unfold KeepsPlace Lane.place; intros; first | rfl | (unfold Lane.stop; rfl) | (unfold Lane.start; rfl))) [State.onLane_keeps]
@[simp] theorem State.enterEnergy_place (s : State) (n m : Nat) : ((s.enterEnergy n).lane m).place = (s.lane m).place := by
  simp only [State.enterEnergy]
  repeat' split
  all_goals simp (disch := (unfold KeepsPlace Lane.place; intros; first | rfl | (unfold Lane.stop; rfl) | (unfold Lane.start; rfl))) [State.onLane_keeps]
@[simp] theorem State.enterRampDown_place (s : State) (n m : Nat) : ((s.enterRampDown n).lane m).place = (s.lane m).place := by
  simp only [State.enterRampDown]
  repeat' split
  all_goals simp
@[simp] theorem State.enterOpenCheck_place (s : State) (n m : Nat) : ((s.enterOpenCheck n).lane m).place = (s.lane m).place := by
  simp only [State.enterOpenCheck]
  repeat' split
  all_goals simp (disch := (unfold KeepsPlace Lane.place; intros; first | rfl | (unfold Lane.stop; rfl) | (unfold Lane.start; rfl))) [State.onLane_keeps]
@[simp] theorem State.enterUnlock_place (s : State) (n m : Nat) : ((s.enterUnlock n).lane m).place = (s.lane m).place := by
  simp only [State.enterUnlock]
  repeat' split
  all_goals simp
@[simp] theorem State.enterFault_place (s : State) (n m : Nat) : ((s.enterFault n).lane m).place = (s.lane m).place := by
  simp only [State.enterFault]
  repeat' split
  all_goals simp (disch := (unfold KeepsPlace Lane.place; intros; first | rfl | (unfold Lane.stop; rfl) | (unfold Lane.start; rfl))) [State.onLane_keeps]
@[simp] theorem State.enterDegraded_place (s : State) (n m : Nat) : ((s.enterDegraded n).lane m).place = (s.lane m).place := by
  simp only [State.enterDegraded]
  repeat' split
  all_goals simp (disch := (unfold KeepsPlace Lane.place; intros; first | rfl | (unfold Lane.stop; rfl) | (unfold Lane.start; rfl))) [State.onLane_keeps]
@[simp] theorem State.enterSuspended_place (s : State) (n m : Nat) : ((s.enterSuspended n).lane m).place = (s.lane m).place := by
  simp only [State.enterSuspended]
  repeat' split
  all_goals simp (disch := (unfold KeepsPlace Lane.place; intros; first | rfl | (unfold Lane.stop; rfl) | (unfold Lane.start; rfl))) [State.onLane_keeps]

/-- R83: the entry actions of a state keep the place of every lane. -/
@[simp] theorem State.entryActions_place (s : State) (n m : Nat) (st : LState) : ((s.entryActions n st).lane m).place = (s.lane m).place := by
  cases st <;> simp [State.entryActions]

/-- R83, R84: a lane that enters a state stands in it, came from the state it was in, and entered it now. -/
theorem State.enter_place (s : State) {n : Nat} (st : LState) (c : Cause) (cls : EvClass) (h : n < s.lanes.length) :
    ((s.enter n st c cls).lane n).place = (st, (s.lane n).st, if c == .none then (s.lane n).cause else c, s.now, s.nowMs) := by
  simp only [State.enter, State.entryActions_place, State.laneState, State.lane_of_evLane]
  have e : (((s.onLane n fun l => l.enters s.now s.nowMs st c)).lane n).place =
      (st, (s.lane n).st, if c == .none then (s.lane n).cause else c, s.now, s.nowMs) := by
    rw [State.lane_onLane s _ h]; rfl
  refine Eq.trans ?_ e
  repeat' split
  all_goals simp (disch := (unfold KeepsPlace Lane.place; intros; rfl)) [State.onLane_keeps]

/-- R84: the other lanes stand where they stood. -/
theorem State.enter_place_ne (s : State) {n m : Nat} (st : LState) (c : Cause) (cls : EvClass) (h : n ≠ m) :
    ((s.enter n st c cls).lane m).place = (s.lane m).place := by
  simp only [State.enter, State.entryActions_place, State.laneState, State.lane_of_evLane]
  have e : (((s.onLane n fun l => l.enters s.now s.nowMs st c)).lane m).place = (s.lane m).place := by
    rw [State.lane_onLane_ne s _ h]
  refine Eq.trans ?_ e
  repeat' split
  all_goals simp (disch := (unfold KeepsPlace Lane.place; intros; rfl)) [State.onLane_keeps]

/-- R84: a state that nothing follows at once is kept. -/
theorem State.advance_of_rest (s : State) (n : Nat) (cls : EvClass)
    (h : (s.lane n).st ∈ [LState.offline, .authorise, .precharge, .energy, .openCheck, .unlock, .fault]) : s.advance n cls = s := by
  have e : s.advance1 n cls = s := by
    simp only [State.advance1]
    generalize hk : (s.lane n).st = k at h
    cases k <;> first | rfl | simp at h
  simp [State.advance, State.advanceN, e]

/-- R84: a transition to a state that nothing follows at once ends there. -/
theorem State.go_rest (s : State) {n : Nat} (st : LState) (c : Cause) (cls : EvClass) (h : n < s.lanes.length)
    (k : st ∈ [LState.offline, .authorise, .precharge, .energy, .openCheck, .unlock, .fault]) :
    s.go n st c cls = s.enter n st c cls := by
  apply State.advance_of_rest
  have e := s.enter_place st c cls h
  simp only [Lane.place, Prod.mk.injEq] at e
  rw [e.1]; exact k

/-- R84: the state after a transition to a state that nothing follows at once. -/
theorem State.go_st (s : State) {n : Nat} (st : LState) (c : Cause) (cls : EvClass) (h : n < s.lanes.length)
    (k : st ∈ [LState.offline, .authorise, .precharge, .energy, .openCheck, .unlock, .fault]) : ((s.go n st c cls).lane n).st = st := by
  rw [s.go_rest st c cls h k]
  have e := s.enter_place st c cls h
  simp only [Lane.place, Prod.mk.injEq] at e
  exact e.1

/-! ### A lane in use stays in use -/

/-- A lane in use: neither OFFLINE nor IDLE. -/
def State.inUse (s : State) (n : Nat) : Prop := (s.lane n).st ≠ .idle ∧ (s.lane n).st ≠ .offline

theorem State.inUse_lt {s : State} {n : Nat} (h : s.inUse n) : n < s.lanes.length := by
  by_cases k : n < s.lanes.length
  · exact k
  · have a : s.lanes[n]? = none := List.getElem?_eq_none (Nat.le_of_not_lt k)
    simp [State.inUse, State.lane, List.getD, a] at h

theorem State.inUse_of_place {s t : State} {n : Nat} (e : (t.lane n).place = (s.lane n).place) (h : s.inUse n) : t.inUse n := by
  simp only [Lane.place, Prod.mk.injEq] at e
  simpa [State.inUse, e.1] using h

theorem State.enter_st (s : State) {n : Nat} (st : LState) (c : Cause) (cls : EvClass) (h : n < s.lanes.length) :
    ((s.enter n st c cls).lane n).st = st := by
  have e := s.enter_place st c cls h
  simp only [Lane.place, Prod.mk.injEq] at e
  exact e.1

theorem State.enter_inUse {s : State} {n : Nat} (st : LState) (c : Cause) (cls : EvClass) (h : s.inUse n) (a : st ≠ .idle) (b : st ≠ .offline) :
    (s.enter n st c cls).inUse n := by
  have e := s.enter_st st c cls (State.inUse_lt h)
  exact ⟨by rw [e]; exact a, by rw [e]; exact b⟩

theorem State.onLane_inUse {s : State} {n : Nat} (m : Nat) (f : Lane → Lane) (k : KeepsPlace f) (h : s.inUse n) : (s.onLane m f).inUse n :=
  State.inUse_of_place (s.onLane_keeps m n f k) h
theorem State.startTimer_inUse {s : State} {n : Nat} (m k d : Nat) (h : s.inUse n) : (s.startTimer m k d).inUse n :=
  State.inUse_of_place (s.startTimer_place m k d n) h
theorem State.stopTimer_inUse {s : State} {n : Nat} (m k : Nat) (h : s.inUse n) : (s.stopTimer m k).inUse n :=
  State.inUse_of_place (s.stopTimer_place m k n) h
theorem State.holdGuard_inUse {s : State} {n : Nat} (m : Nat) (h : s.inUse n) : (s.holdGuard m).inUse n :=
  State.inUse_of_place (s.holdGuard_place m n) h
theorem State.cpOffer_inUse {s : State} {n : Nat} (m : Nat) (g : Bool) (h : s.inUse n) : (s.cpOffer m g).inUse n :=
  State.inUse_of_place (s.cpOffer_place m n g) h
theorem State.evLane_inUse {s : State} {n : Nat} (c : EvClass) (m k : Nat) (d : Bytes) (g : Nat) (h : s.inUse n) : (s.evLane c m k d g).inUse n := h

theorem State.authRefuse_inUse {s : State} {n : Nat} (r b c : Nat) (cls : EvClass) (h : s.inUse n) : (s.authRefuse n r b c cls).inUse n := by
  simp only [State.authRefuse, State.evAuth]
  split
  all_goals
    refine State.enter_inUse _ _ _ (State.evLane_inUse _ _ _ _ _ (State.onLane_inUse _ _ (fun _ => rfl) (State.stopTimer_inUse _ _ h))) ?_ ?_ <;> decide

theorem State.authAccept_inUse {s : State} {n : Nat} (b c : Nat) (cls : EvClass) (h : s.inUse n) : (s.authAccept n b c cls).inUse n := by
  have g : ∀ t : State, t.inUse n →
      (if t.policyHolds n then t.onLane n fun l => { l with policyHold := true } else t.enter n .negotiate .none cls).inUse n := by
    intro t k
    split
    · exact State.onLane_inUse n (fun l => { l with policyHold := true }) (fun _ => rfl) k
    · exact State.enter_inUse _ _ _ k (by decide) (by decide)
  have k := State.onLane_inUse n
    (fun l => { l with awaiting := false, account := if c = 0xFFFFFFFF then none else some c, hostAccepted := b == 1 })
    (fun _ => rfl) (State.evLane_inUse (if b = 1 then .host else .external) n 0x1004
      (leBytes 1 0 ++ leBytes 1 b ++ leBytes 4 c ++ leBytes 1 ((s.stopTimer n Tm.hostAuth).lane n).refusals) 0 (State.stopTimer_inUse n Tm.hostAuth h))
  have g' : ∀ t : State, t.inUse n → (if c = 0xFFFFFFFF then t
      else { t with ac := { t.ac with charges := t.ac.charges.set n (some { cell := c }) } }).inUse n := by
    intro t k
    split <;> exact k
  exact g _ (g' _ k)

theorem ite_inUse {n : Nat} {p : Prop} [Decidable p] {a b : State} (h : a.inUse n) (k : b.inUse n) : (if p then a else b).inUse n := by
  split
  · exact h
  · exact k

theorem State.askHost_inUse {s : State} {n : Nat} (cls : EvClass) (h : s.inUse n) : (s.askHost n cls).inUse n := by
  unfold State.askHost
  refine ite_inUse (State.startTimer_inUse _ _ _ (State.onLane_inUse _ _ ?_ h)) (State.authRefuse_inUse _ _ _ _ h)
  intro
  rfl

theorem State.authDecide_inUse {s : State} {n : Nat} (cls : EvClass) (h : s.inUse n) : (s.authDecide n cls).inUse n := by
  simp only [State.authDecide]
  split
  · exact h
  · split
    · exact State.askHost_inUse _ h
    · split
      · exact State.authAccept_inUse _ _ _ h
      · split
        · exact State.authRefuse_inUse _ _ _ _ h
        · exact State.askHost_inUse _ h

theorem State.takeCred_inUse {s : State} {n : Nat} (c : Cred) (b : Bool) (cls : EvClass) (h : s.inUse n) : (s.takeCred n c b cls).inUse n := by
  simp only [State.takeCred]
  exact State.authDecide_inUse _ (State.enter_inUse _ _ _
    (State.evLane_inUse _ _ _ _ _ (State.onLane_inUse _ _ (fun _ => rfl) h)) (by decide) (by decide))

theorem State.resume_inUse {s : State} {n : Nat} (cls : EvClass) (h : s.inUse n) : (s.resume n cls).inUse n := by
  simp only [State.resume]
  repeat' split
  · exact State.enter_inUse _ _ _ (State.cpOffer_inUse _ _ h) (by decide) (by decide)
  · exact State.cpOffer_inUse _ _ h
  · exact State.enter_inUse _ _ _ h (by decide) (by decide)
  · exact State.holdGuard_inUse _ h

theorem State.advance1_inUse {s : State} {n : Nat} (cls : EvClass) (h : s.inUse n) : (s.advance1 n cls).inUse n := by
  have e := fun (t : State) (k : t.inUse n) (st : LState) (c : Cause) (v : EvClass) (a : st ≠ .idle) (b : st ≠ .offline) =>
    State.enter_inUse st c v k a b
  unfold State.advance1
  cases k : (s.lane n).st <;> simp only [k]
  case idle => exact absurd k h.1
  case offline => exact absurd k h.2
  case plugged => exact ite_inUse (e s h _ _ _ (by decide) (by decide)) h
  case identify =>
    refine ite_inUse (e _ (State.onLane_inUse _ _ ?_ h) _ _ _ (by decide) (by decide)) ?_
    · intro; rfl
    · split
      · exact State.takeCred_inUse _ _ _ h
      · exact h
  case negotiate => exact ite_inUse (e s h _ _ _ (by decide) (by decide)) h
  case rampDown =>
    exact ite_inUse (ite_inUse h (e s h _ _ _ (by decide) (by decide))) (ite_inUse (e s h _ _ _ (by decide) (by decide)) h)
  case degraded => exact ite_inUse (e s h _ _ _ (by decide) (by decide)) h
  case suspended => exact ite_inUse (State.resume_inUse _ h) h
  case isolationTest => exact ite_inUse (e s h _ _ _ (by decide) (by decide)) h
  all_goals exact h

theorem State.advanceN_inUse {s : State} {n : Nat} (cls : EvClass) (k : Nat) (h : s.inUse n) : (s.advanceN n cls k).inUse n := by
  induction k generalizing s with
  | zero => exact h
  | succ k ih =>
    simp only [State.advanceN]
    split
    · exact State.advance1_inUse _ h
    · exact ih (State.advance1_inUse _ h)

/-- R84: the transitions that follow at once leave a lane in use in use. -/
theorem State.advance_inUse {s : State} {n : Nat} (cls : EvClass) (h : s.inUse n) : (s.advance n cls).inUse n :=
  State.advanceN_inUse _ _ h

/-- R84: a lane that goes to a state other than OFFLINE and IDLE is in use. -/
theorem State.go_inUse {s : State} {n : Nat} (st : LState) (c : Cause) (cls : EvClass) (h : n < s.lanes.length) (a : st ≠ .idle) (b : st ≠ .offline) :
    (s.go n st c cls).inUse n := by
  have e := s.enter_st st c cls h
  exact State.advance_inUse _ ⟨by rw [e]; exact a, by rw [e]; exact b⟩

/-- R84: a lane that goes to IDLE stands in IDLE or, a trigger standing, in FAULT. -/
theorem State.go_idle (s : State) {n : Nat} (c : Cause) (cls : EvClass) (h : n < s.lanes.length) :
    ((s.go n .idle c cls).lane n).st = .idle ∨ ((s.go n .idle c cls).lane n).st = .fault := by
  have e := s.enter_st .idle c cls h
  unfold State.go
  generalize s.enter n .idle c cls = t at e
  have l : n < t.lanes.length := by
    by_cases z : n < t.lanes.length
    · exact z
    · have a : t.lanes[n]? = none := List.getElem?_eq_none (Nat.le_of_not_lt z)
      simp [State.lane, List.getD, a] at e
  cases k : t.standing n with
  | none =>
    have w : t.advance1 n cls = t := by simp only [State.advance1, e, k]
    simp [State.advance, State.advanceN, w, e]
  | some x =>
    have w : t.advance1 n cls = t.enter n .fault x .safety := by simp only [State.advance1, e, k]
    have f := t.enter_st .fault x .safety l
    have v : t.advance n cls = (t.enter n .fault x .safety).advanceN n cls 7 := by
      simp [State.advance, State.advanceN, w, e, f]
    have r : (t.enter n .fault x .safety).advance1 n cls = t.enter n .fault x .safety := by simp only [State.advance1, f]
    right
    rw [v]
    simp [State.advanceN, r, f]

/-- R84: a lane that goes to RAMP_DOWN stands there or, its current gone, in OPEN_CHECK. -/
theorem State.go_rampDown (s : State) {n : Nat} (c : Cause) (cls : EvClass) (h : n < s.lanes.length) :
    ((s.go n .rampDown c cls).lane n).st = .rampDown ∨ ((s.go n .rampDown c cls).lane n).st = .openCheck := by
  have e := s.enter_st .rampDown c cls h
  unfold State.go
  generalize s.enter n .rampDown c cls = t at e
  have l : n < t.lanes.length := State.inUse_lt ⟨by rw [e]; decide, by rw [e]; decide⟩
  have f := t.enter_st .openCheck .none cls l
  have w : t.advance1 n cls = t ∨ t.advance1 n cls = t.enter n .openCheck .none cls := by
    simp only [State.advance1, e]
    split <;> split <;> simp
  have r : (t.enter n .openCheck .none cls).advance1 n cls = t.enter n .openCheck .none cls := by simp only [State.advance1, f]
  rcases w with w | w
  · left; simp [State.advance, State.advanceN, w, e]
  · right; simp [State.advance, State.advanceN, w, e, f, r]

end Sys2Proof.Machine
end

