-- ==== Sys2Proof/Laws/Sequencer.lean ====
section
/-! SUPPORT. Laws/Sequencer.lean: what the operations of the sequencer do to SEQ_LAST and to the order of the journal (R20-R24). -/
namespace Sys2Proof.Machine

theorem fallsFrom_mono {a b : Nat} (h : a ≤ b) : ∀ {l : List EvRec}, fallsFrom a l → fallsFrom b l
  | [], _ => trivial
  | _ :: _, ⟨h1, h2, h3⟩ => ⟨by omega, h2, h3⟩

theorem fallsFrom_take : ∀ {a : Nat} {l : List EvRec} (k : Nat), fallsFrom a l → fallsFrom a (l.take k)
  | _, _, 0, _ => trivial
  | _, [], _ + 1, _ => trivial
  | _, _ :: _, k + 1, ⟨h1, h2, h3⟩ => ⟨h1, h2, fallsFrom_take k h3⟩

/-- A record leaves the journal: the rest still falls. -/
theorem fallsFrom_loseRec (n : Nat) : ∀ {a : Nat} {l : List EvRec}, fallsFrom a l → fallsFrom a (loseRec n l)
  | _, [], _ => trivial
  | _, [r], h => by
    simp only [loseRec]; split
    · trivial
    · exact h
  | a, r :: q :: l, ⟨h1, h2, h3, h4, h5⟩ => by
    simp only [loseRec]; split
    · exact ⟨by omega, h4, h5⟩
    · split
      · exact ⟨h1, h2, fallsFrom_mono (show q.seq - 1 ≤ r.seq - 1 by omega) h5⟩
      · exact ⟨h1, h2, fallsFrom_loseRec n ⟨h3, h4, h5⟩⟩

/-- Every record of `loseRec n l` carries a SEQ of `l`. -/
theorem mem_loseRec {n : Nat} : ∀ {l : List EvRec} {r : EvRec}, r ∈ loseRec n l → ∃ q ∈ l, q.seq = r.seq
  | [], _, h => by simp [loseRec] at h
  | [x], r, h => by
    simp only [loseRec] at h; split at h
    · simp at h
    · exact ⟨r, h, rfl⟩
  | x :: y :: l, r, h => by
    simp only [loseRec] at h; split at h
    · exact ⟨r, List.mem_cons_of_mem _ h, rfl⟩
    · split at h
      · rcases List.mem_cons.1 h with rfl | h
        · exact ⟨x, by simp, rfl⟩
        · exact ⟨r, by simp [h], rfl⟩
      · rcases List.mem_cons.1 h with rfl | h
        · exact ⟨r, by simp, rfl⟩
        · obtain ⟨q, hq, e⟩ := mem_loseRec h
          exact ⟨q, List.mem_cons_of_mem _ hq, e⟩

/-- What an operation of the sequencer does: SEQ_LAST does not fall, order is kept, and a record of the journal after it either carries a SEQ
of the journal before it or one above SEQ_LAST. -/
def Seqr.goesOn (q r : Seqr) : Prop :=
  q.seqLast ≤ r.seqLast ∧ (q.ordered → r.ordered) ∧
    ∀ x ∈ r.journal, (∃ y ∈ q.journal, y.seq = x.seq) ∨ q.seqLast < x.seq

theorem Seqr.goesOn_refl (q : Seqr) : q.goesOn q := ⟨Nat.le_refl _, id, fun x h => .inl ⟨x, h, rfl⟩⟩

theorem Seqr.goesOn_trans {p q r : Seqr} (h : p.goesOn q) (k : q.goesOn r) : p.goesOn r := by
  refine ⟨Nat.le_trans h.1 k.1, fun o => k.2.1 (h.2.1 o), fun x hx => ?_⟩
  rcases k.2.2 x hx with ⟨y, hy, e⟩ | hlt
  · rcases h.2.2 y hy with ⟨z, hz, e'⟩ | hlt
    · exact .inl ⟨z, hz, e'.trans e⟩
    · exact .inr (e ▸ hlt)
  · exact .inr (Nat.lt_of_le_of_lt h.1 hlt)

theorem Seqr.goesOn_same {q r : Seqr} (h1 : r.seqLast = q.seqLast) (h2 : r.mirrored = q.mirrored) (h3 : r.journal = q.journal) : q.goesOn r := by
  refine ⟨Nat.le_of_eq h1.symm, fun h => ?_, fun x h => .inl ⟨x, h3 ▸ h, rfl⟩⟩
  unfold Seqr.ordered at *; rw [h1, h2, h3]; exact h

theorem Seqr.number_seqLast (q : Seqr) (e : Ev) : (q.number e).seqLast = q.seqLast + 1 := rfl

theorem Seqr.number_goesOn (q : Seqr) (e : Ev) : q.goesOn (q.number e) := by
  refine ⟨Nat.le_succ _, fun h => ⟨fallsFrom_take _ ⟨Nat.le_refl _, by simp, h.1⟩, Nat.le_refl _⟩, fun x hx => ?_⟩
  rcases List.mem_cons.1 (List.mem_of_mem_take hx) with rfl | h
  · exact .inr (Nat.lt_succ_self _)
  · exact .inl ⟨x, h, rfl⟩

theorem Seqr.arrive_goesOn (q : Seqr) (e : Ev) : q.goesOn (q.arrive e) := by
  unfold Seqr.arrive; split <;> exact goesOn_same rfl rfl rfl

theorem Seqr.admit_goesOn (q : Seqr) (side time : Nat) : q.goesOn (q.admitNext side time) := by
  unfold Seqr.admitNext
  split
  · exact goesOn_trans (goesOn_same rfl rfl rfl) (number_goesOn _ _)
  · split <;> exact goesOn_trans (goesOn_same rfl rfl rfl) (number_goesOn _ _)
  · exact goesOn_trans (goesOn_same rfl rfl rfl) (number_goesOn _ _)
  · exact goesOn_refl q

theorem Seqr.skipAbove_goesOn (q : Seqr) (x : Nat) : q.goesOn (q.skipAbove x) :=
  ⟨Nat.le_max_left _ _, fun h => ⟨fallsFrom_mono (Nat.le_max_left _ _) h.1, Nat.le_refl _⟩, fun y h => .inl ⟨y, h, rfl⟩⟩

/-- R24: the event after a change of side carries the smallest multiple of 65,536 above `x`, where the sequencer is not yet past it. -/
theorem Seqr.skipAbove_next (q : Seqr) (x : Nat) (h : q.seqLast < (x / 65536 + 1) * 65536) :
    (q.skipAbove x).seqLast + 1 = (x / 65536 + 1) * 65536 := by simp only [Seqr.skipAbove]; omega

theorem Seqr.take_goesOn (q : Seqr) (side time : Nat) (e : Emit) : q.goesOn (q.take side time e) := by
  cases e with
  | raise e => exact arrive_goesOn q e
  | direct e => exact number_goesOn q e
  | admitNext => exact admit_goesOn q side time
  | skip j => exact skipAbove_goesOn q _
  | flush => exact goesOn_same rfl rfl rfl
  | clearOverflows => exact goesOn_same rfl rfl rfl
  | lose n =>
    exact ⟨Nat.le_refl _, fun h => ⟨fallsFrom_loseRec n h.1, h.2⟩, fun _ hx => .inl (mem_loseRec hx)⟩

/-- Whatever a command asks, the sequencer goes on. -/
theorem Seqr.absorb_goesOn (side time : Nat) : ∀ (l : List Emit) (q : Seqr), q.goesOn (q.absorb side time l)
  | [], q => goesOn_refl q
  | e :: l, q => goesOn_trans (take_goesOn q side time e) (absorb_goesOn side time l _)

@[simp] theorem Seqr.absorb_nil (q : Seqr) (side time : Nat) : q.absorb side time [] = q := rfl

theorem Seqr.absorb_append (q : Seqr) (side time : Nat) (l m : List Emit) :
    q.absorb side time (l ++ m) = (q.absorb side time l).absorb side time m := List.foldl_append

/-- A command that answers goes on from the sequencer it found. -/
theorem fin_goesOn {s t u : State} (h : fin s t = .next u) : s.seqr.goesOn u.seqr ∧ u.emits = [] ∧ u.pending = s.pending := by
  cases h; exact ⟨Seqr.absorb_goesOn _ _ _ _, rfl, rfl⟩

end Sys2Proof.Machine
end

