-- ==== Sys2Proof/WellFormed.lean ====
section
/-! DEFINITION. WellFormed.lean: which commands are well formed: every operand names something the module has (R1, R13, R57, R72, R146, R214, R254,
R278) and every field lies in its width. A meaning gives a command that is not well formed no effect of its own, or the refusal the
specification states. -/
namespace Sys2Proof
open Sys2Proof.Machine

/-- R58: SESSION has 32 bits and COUNTER 64; a frame carries at most 1,420 bytes. -/
def Machine.HostFrame.wf (f : HostFrame) : Bool :=
  decide (f.sid < 2 ^ 32) && decide (f.counter < 2 ^ 64) && decide (f.payload.length ≤ 1420)

/-- R396: the header's fields and the payload of a Kryuz frame. -/
def Machine.KzFrame.wf (f : KzFrame) : Bool :=
  decide (f.dest < 256) && decide (f.src < 256) && decide (f.eui < 2 ^ 64) && decide (f.counter < 2 ^ 64) && decide (f.body.length ≤ 512)

/-- R421, R426: a tag's handle and words have 16 bits, an error reply has three kinds. -/
def Machine.TagReply.wf : TagReply → Bool
  | .handle h => decide (h < 2 ^ 16)
  | .words l => l.all fun w => decide (w < 2 ^ 16)
  | .error k => decide (k < 3)
  | .epc e _ => decide (e.length ≤ 62)
  | .empty | .collision | .written => true

/-- R186: a fit is of one of the sixteen groups. -/
def Machine.ChipFit.wf (f : ChipFit) : Bool := decide (f.group < 16) && f.lanes.all fun x => decide (x.1 < 64)

/-- R195: there are 320 channels. -/
def Machine.ChanIn.wf (x : ChanIn) : Bool := decide (x.chan < 320)

/-- R445: there are six memories. -/
def Machine.MemErr.wf (x : MemErr) : Bool := decide (x.mem < 6) && decide (x.offset < 2 ^ 32) && decide (x.region < 4)

/-- R366: the bytes of a logical name, its class and attribute. -/
def Machine.CosemRef.wf (r : CosemRef) : Bool :=
  decide (r.cls < 2 ^ 16) && decide (r.a < 256) && decide (r.b < 256) && decide (r.c < 256) && decide (r.d < 256) && decide (r.e < 256)

/-- R372: the references of a GET. -/
def Machine.GetReq.wf : GetReq → Bool
  | .refs l _ => l.all CosemRef.wf
  | .next _ => true

/-- R521: what a phase finds names register copies, nodes and channels the module has. -/
def Machine.BootRes.wf (r : BootRes) : Bool :=
  r.badCopies.all (fun x => decide (x < 2)) && r.badChans.all (fun x => decide (x < 128)) && r.above.all fun x => decide (x < 128)

/-- A command is well formed. -/
def wellFormed : Instr → Bool
  | .registerWrite _ addr v => decide (addr < 2 ^ 16) && decide (v < 2 ^ 64)
  | .eventAdmit => true
  | .timeReplicaRealign => true
  | .legalAnchor _ => true
  | .timeoutHoldEnd n k _ => decide (n < 64) && decide (k < 8)
  | .hello p => decide (p < 3)
  | .bind p f => decide (p < 3) && f.wf
  | .proof p f => decide (p < 3) && f.wf
  | .proofLate p => decide (p < 3)
  | .bindLockoutEnd p => decide (p < 3)
  | .request p f => decide (p < 3) && f.wf
  | .requestPartsTimeout p tag => decide (p < 3) && decide (tag < 2 ^ 32)
  | .keepalive p f => decide (p < 3) && f.wf
  | .keepaliveSend p => decide (p < 3)
  | .hostLost p => decide (p < 3)
  | .close p f => decide (p < 3) && f.wf
  | .events p => decide (p < 3)
  | .eventResend p => decide (p < 3)
  | .ticketQuery tk => decide (tk < 2 ^ 32)
  | .eventReplay tk => decide (tk < 2 ^ 32)
  | .eventFilter tk => decide (tk < 2 ^ 32)
  | .regRead tk => decide (tk < 2 ^ 32)
  | .regWrite tk => decide (tk < 2 ^ 32)
  | .hp2RegisterRead addr clocked => decide (addr < 2 ^ 16) && decide (clocked < 2048)
  | .hp2RegisterWrite addr v _ => decide (addr < 2 ^ 16) && decide (v < 2 ^ 64)
  | .hp2Status => true
  | .hp2MessageWrite _ => true
  | .hp2MessageRead clocked => decide (clocked < 2048)
  | .matrixLoad tk => decide (tk < 2 ^ 32)
  | .matrixLaneLoad tk => decide (tk < 2 ^ 32)
  | .matrixCheck tk => decide (tk < 2 ^ 32)
  | .matrixInfo tk => decide (tk < 2 ^ 32)
  | .matrixRevert tk => decide (tk < 2 ^ 32)
  | .matrixCommit _ => true
  | .pilotStateChange n _ _ => decide (n < 64)
  | .pilotConfirm n => decide (n < 64)
  | .plugExpiry n => decide (n < 64)
  | .settleExpiry n => decide (n < 64)
  | .hostAuthExpiry n => decide (n < 64)
  | .guardWaitExpiry n => decide (n < 64)
  | .cableCheckExpiry n => decide (n < 64)
  | .prechargeExpiry n => decide (n < 64)
  | .rampExpiry n => decide (n < 64)
  | .weldExpiry n => decide (n < 64)
  | .degradedExpiry n => decide (n < 64)
  | .suspendExpiry n => decide (n < 64)
  | .preauthExpiry n => decide (n < 64)
  | .lockPulseExpiry n _ => decide (n < 64)
  | .suspendAcOpenTimer n => decide (n < 64)
  | .energyGuardTrue n => decide (n < 64)
  | .faultExit n => decide (n < 64)
  | .faultPilotRelease n => decide (n < 64)
  | .laneStart tk => decide (tk < 2 ^ 32)
  | .laneStop tk => decide (tk < 2 ^ 32)
  | .laneAuthorise tk => decide (tk < 2 ^ 32)
  | .laneSuspend tk => decide (tk < 2 ^ 32)
  | .laneResume tk => decide (tk < 2 ^ 32)
  | .laneClear tk => decide (tk < 2 ^ 32)
  | .laneDisable tk => decide (tk < 2 ^ 32)
  | .laneEnable tk => decide (tk < 2 ^ 32)
  | .laneInfo tk => decide (tk < 2 ^ 32)
  | .pilotFoldback n => decide (n < 64)
  | .foldbackTest n _ => decide (n < 64)
  | .dutyChange n => decide (n < 64)
  | .ppMeasurement n _ => decide (n < 64)
  | .ppCodeHold n => decide (n < 64)
  | .preambleDetected die _ => decide (die < 2)
  | .hpavFrameReceived e => decide (e < 16)
  | .cmSlacParmReq id mac _ => decide (id < 2 ^ 64) && decide (mac < 2 ^ 48)
  | .cmStartAttenCharInd id => decide (id < 2 ^ 64)
  | .cmMnbcSound id _ => decide (id < 2 ^ 64)
  | .soundingEnd id => decide (id < 2 ^ 64)
  | .cmValidate id n vehicle _ => decide (id < 2 ^ 64) && decide (n < 64) && decide (vehicle < 2 ^ 48)
  | .cmSlacMatchReq id n => decide (id < 2 ^ 64) && decide (n < 64)
  | .associationWindowEnd n => decide (n < 64)
  | .acFallbackEnd n => decide (n < 64)
  | .seccDiscovery n _ => decide (n < 64)
  | .supportedAppProtocol n _ => decide (n < 64)
  | .tlsHandshake n version node _ => decide (n < 64) && decide (version < 3) && decide (node < 64)
  | .v2gRequest n stamp _ => decide (n < 64) && decide (stamp < 2 ^ 64)
  | .certificateRequest n kind _ => decide (n < 64) && decide (kind < 2)
  | .certAnswerTimeout _ => true
  | .communicationSetupTimeout n => decide (n < 64)
  | .sequenceTimeout n => decide (n < 64)
  | .hsLaneRead tk => decide (tk < 2 ^ 32)
  | .hsCountClear tk => decide (tk < 2 ^ 32)
  | .hsCertFetch tk => decide (tk < 2 ^ 32)
  | .hsCertAnswer tk => decide (tk < 2 ^ 32)
  | .cableCheckPhaseEnd n => decide (n < 64)
  | .outletShort n => decide (n < 64)
  | .contactorConfirmed n => decide (n < 64)
  | .contactorConfirmTimeout n => decide (n < 64)
  | .prechargeOpenDelay n => decide (n < 64)
  | .powerDeliveryHoldExpiry n => decide (n < 64)
  | .dcnegOpenDelay n => decide (n < 64)
  | .weldCheckPass n => decide (n < 64)
  | .unlockGuardTrue n => decide (n < 64)
  | .lockConfirmWindow n => decide (n < 64)
  | .lockRetry n => decide (n < 64)
  | .unlockRetry n => decide (n < 64)
  | .lockFeedbackLost n => decide (n < 64)
  | .directionHoldEnd n => decide (n < 64)
  | .setpointSend n => decide (n < 64)
  | .feedbackReceived n _ => decide (n < 64)
  | .feedbackTimeout n => decide (n < 64)
  | .canBusOffRecovery k => decide (k < 4)
  | .ppCanApply k => decide (k < 4)
  | .ppLaneRead tk => decide (tk < 2 ^ 32)
  | .ppCountClear tk => decide (tk < 2 ^ 32)
  | .allocationRound => true
  | .glimChange k _ stamp => decide (k < 2) && decide (stamp < 2 ^ 64)
  | .releaseHoldEnd src scope => decide (src < 4) && decide (scope < 256)
  | .curtailExpiry scope => decide (scope < 256)
  | .dispatchExpiry => true
  | .phaseSectorMeasure n _ => decide (n < 64)
  | .hubRound => true
  | .grantLoss => true
  | .moduleReportLoss addr => decide (addr < 256)
  | .psCurtail tk => decide (tk < 2 ^ 32)
  | .psCurtailClear tk => decide (tk < 2 ^ 32)
  | .psDispatch tk => decide (tk < 2 ^ 32)
  | .psLaneCap tk => decide (tk < 2 ^ 32)
  | .psHubLimit tk => decide (tk < 2 ^ 32)
  | .psRead tk => decide (tk < 2 ^ 32)
  | .chipBoundary fits => fits.all ChipFit.wf
  | .isolationVerifyDeadline g => decide (g < 16)
  | .isolationCauseClear n => decide (n < 64)
  | .currentSenseTest g => decide (g < 16)
  | .currentSenseTestEnd g _ => decide (g < 16)
  | .residualEval n _ _ _ _ _ => decide (n < 64)
  | .fluxgateFault n => decide (n < 64)
  | .efRead tk => decide (tk < 2 ^ 32)
  | .efSelftest tk => decide (tk < 2 ^ 32)
  | .efGroupClear tk => decide (tk < 2 ^ 32)
  | .efCountClear tk => decide (tk < 2 ^ 32)
  | .tracerSample t xs _ => decide (t < 2 ^ 64) && xs.all ChanIn.wf
  | .activityCheckFail c => decide (c < 320)
  | .referenceCheck k _ => decide (k < 4)
  | .clipTimeout c => decide (c < 320)
  | .channelFaultClear c => decide (c < 320)
  | .coilSettled c => decide (c < 320)
  | .pt1000Reading n _ _ => decide (n < 64)
  | .creepGateEval n => decide (n < 64)
  | .testModeExpiry n => decide (n < 64)
  | .pulseLevelAccepted i _ stamp _ => decide (i < 32) && decide (stamp < 2 ^ 64)
  | .pulseCollect => true
  | .pulseRateCheck => true
  | .pulseInputFault i kind => decide (i < 32) && decide (kind < 4)
  | .pulseFaultClear i => decide (i < 32)
  | .pulseFoldback i => decide (i < 32)
  | .pulseFoldbackRestore i => decide (i < 32)
  | .mtCalWrite tk => decide (tk < 2 ^ 32)
  | .mtCalRead tk => decide (tk < 2 ^ 32)
  | .mtTest tk => decide (tk < 2 ^ 32)
  | .mtTestRead tk => decide (tk < 2 ^ 32)
  | .mtPulseRead tk => decide (tk < 2 ^ 32)
  | .mtCountClear tk => decide (tk < 2 ^ 32)
  | .accumulatorMirror => true
  | .registerCommit => true
  | .powerFailWarning _ => true
  | .saveSelfReset => true
  | .powerFailClearWait => true
  | .reverseFlow _ n => decide (n < 64)
  | .bypass n _ _ => decide (n < 64)
  | .missingNeutral n _ _ => decide (n < 64)
  | .coverOpen => true
  | .sessionRecord => true
  | .enRead tk => decide (tk < 2 ^ 32)
  | .enRecordRead tk => decide (tk < 2 ^ 32)
  | .enImpressionRead tk => decide (tk < 2 ^ 32)
  | .enCableWrite tk => decide (tk < 2 ^ 32)
  | .enTamperClear tk => decide (tk < 2 ^ 32)
  | .enImpress tk => decide (tk < 2 ^ 32)
  | .grantWord ctr _ => decide (ctr < 2 ^ 16)
  | .grantWatchdogExpiry => true
  | .vgrvRise => true
  | .graverSelfCheckFail => true
  | .graverBlockReload => true
  | .comparatorCrossing k edge _ => decide (k < 128) && decide (edge < 2)
  | .tripLatchClear k => decide (k < 128)
  | .safetyInputOpen i => decide (i < 8)
  | .safetyInputClose i => decide (i < 8)
  | .dualChannelFault p => decide (p < 2)
  | .pilotFaultLine n _ => decide (n < 64)
  | .watchComparison k _ _ _ => decide (k < 128)
  | .stipplePulse kind i _ => decide (kind < 2) && decide (i < 128)
  | .suspectClearHold kind i => decide (kind < 2) && decide (i < 128)
  | .guardTestHold => true
  | .sfRead tk => decide (tk < 2 ^ 32)
  | .spRead tk => decide (tk < 2 ^ 32)
  | .spWrite tk => decide (tk < 2 ^ 32)
  | .spPasswordSet tk => decide (tk < 2 ^ 32)
  | .spLogRead tk => decide (tk < 2 ^ 32)
  | .passwordLockEnd => true
  | .passwordReplaceWindowEnd => true
  | .blankingEnd k => decide (k < 128)
  | .overloadTrip k => decide (k < 128)
  | .shortTrip k _ => decide (k < 128)
  | .thermalShutdown k _ => decide (k < 128)
  | .retryDelayEnd k _ => decide (k < 128)
  | .thermalRestart k => decide (k < 128)
  | .usedReset k => decide (k < 128)
  | .dieLimiterTick d _ _ _ _ => decide (d < 4)
  | .loweredLimitTrip k => decide (k < 128)
  | .openLoadCheck k _ _ => decide (k < 128)
  | .offStateTest k _ => decide (k < 128)
  | .clampEvent k => decide (k < 128)
  | .vswUndervoltage d _ => decide (d < 4)
  | .vswRestored d _ => decide (d < 4)
  | .vswRise d _ => decide (d < 4)
  | .poSet tk => decide (tk < 2 ^ 32)
  | .poClear tk bad above => decide (tk < 2 ^ 32) && (bad.all fun x => decide (x < 128)) && (above.all fun x => decide (x < 128))
  | .poProof tk bad above => decide (tk < 2 ^ 32) && (bad.all fun x => decide (x < 128)) && (above.all fun x => decide (x < 128))
  | .poRead tk => decide (tk < 2 ^ 32)
  | .heartbeat _ _ => true
  | .heartbeatLoss => true
  | .sideFaultReport side kind mem offset => decide (side < 2) && decide (kind < 8) && decide (mem < 6) && decide (offset < 2 ^ 32)
  | .linkFault path => decide (path < 2)
  | .holderLatchLost _ => true
  | .failedSideRelease => true
  | .standbySynchronised => true
  | .counterproofDue => true
  | .swapPostpone => true
  | .revertDelayEnd => true
  | .swapConditionsMet => true
  | .protectedTicketWaitEnd => true
  | .drainEnd => true
  | .rdRead tk => decide (tk < 2 ^ 32)
  | .rdSwap tk => decide (tk < 2 ^ 32)
  | .rdSwapTimeout => true
  | .rdStandbyRestart tk => decide (tk < 2 ^ 32)
  | .rdRelease tk => decide (tk < 2 ^ 32)
  | .demandClose => true
  | .tariffSwitch => true
  | .billingPeriodClose => true
  | .calendarActivation => true
  | .slewEnd => true
  | .calLoad tk => decide (tk < 2 ^ 32)
  | .calCancel tk => decide (tk < 2 ^ 32)
  | .calRead tk => decide (tk < 2 ^ 32)
  | .tmSet tk => decide (tk < 2 ^ 32)
  | .tmRead tk => decide (tk < 2 ^ 32)
  | .blHistoryRead tk => decide (tk < 2 ^ 32)
  | .blRateRead tk => decide (tk < 2 ^ 32)
  | .creditCheck => true
  | .accountDebit => true
  | .friendlyStart => true
  | .friendlyEnd => true
  | .priceActivation => true
  | .bulkCommit => true
  | .bulkApplyEnd => true
  | .acBulkLoad tk => decide (tk < 2 ^ 32)
  | .acCellWrite tk => decide (tk < 2 ^ 32)
  | .acCellRead tk => decide (tk < 2 ^ 32)
  | .acCredit tk => decide (tk < 2 ^ 32)
  | .acCredWrite tk => decide (tk < 2 ^ 32)
  | .acCredFetch tk => decide (tk < 2 ^ 32)
  | .acClassWrite tk => decide (tk < 2 ^ 32)
  | .acPriceLoad tk => decide (tk < 2 ^ 32)
  | .acFriendlyWrite tk => decide (tk < 2 ^ 32)
  | .acStatus tk => decide (tk < 2 ^ 32)
  | .acCustodyBind tk => decide (tk < 2 ^ 32)
  | .hdlcSnrm _ => true
  | .hdlcLinkTimeout => true
  | .aarq transport client sap mech prot _ => decide (transport < 5) && decide (client < 65536) && decide (sap < 65536) && decide (mech < 8) && decide (prot < 4)
  | .get transport client _ _ req => decide (transport < 5) && decide (client < 65536) && req.wf
  | .set transport client _ _ _ r _ => decide (transport < 5) && decide (client < 65536) && r.wf
  | .action transport client _ _ _ r _ => decide (transport < 5) && decide (client < 65536) && r.wf
  | .releaseRequest transport client => decide (transport < 5) && decide (client < 65536)
  | .associationInactivity transport client => decide (transport < 5) && decide (client < 65536)
  | .cosemLockoutEnd => true
  | .kvNodeCreate tk => decide (tk < 2 ^ 32)
  | .kvNodeInvalidate tk => decide (tk < 2 ^ 32)
  | .kvNodeRenew tk => decide (tk < 2 ^ 32)
  | .kvNodeDelete tk => decide (tk < 2 ^ 32)
  | .kvNodeRead tk => decide (tk < 2 ^ 32)
  | .kvCsr tk => decide (tk < 2 ^ 32)
  | .kvCertStore tk => decide (tk < 2 ^ 32)
  | .kvCertRead tk => decide (tk < 2 ^ 32)
  | .kvAnchorSet tk => decide (tk < 2 ^ 32)
  | .kvRootRetire tk => decide (tk < 2 ^ 32)
  | .rootRetireWindowEnd => true
  | .kvSign tk => decide (tk < 2 ^ 32)
  | .kvObjectStore tk => decide (tk < 2 ^ 32)
  | .drbgReseed => true
  | .healthTest test _ => decide (test < 2)
  | .maskRotation _ => true
  | .beaconSend => true
  | .beacon f => f.wf
  | .beaconLoss => true
  | .masterListenEnd => true
  | .ack fsn => decide (fsn < 256)
  | .ackTimeout fsn => decide (fsn < 256)
  | .joinReq f => f.wf
  | .joinCnf f => f.wf
  | .joinRetryWaitEnd => true
  | .presence f => f.wf
  | .presenceSend => true
  | .nodeDeparture eui => decide (eui < 2 ^ 64)
  | .kryuzBind k => decide (k < 128)
  | .kryuzFeedback f => f.wf
  | .shareReportSend => true
  | .shareReport f => f.wf
  | .grant f => f.wf
  | .card f => f.wf
  | .wakePreamble ua => decide (ua < 2 ^ 32)
  | .kryuzLoadMeasure _ _ => true
  | .distAnnounce f => f.wf
  | .distSegment f => f.wf
  | .distPoll f => f.wf
  | .distStatus f => f.wf
  | .distPassEnd => true
  | .kzRead tk => decide (tk < 2 ^ 32)
  | .kzNodeRead tk => decide (tk < 2 ^ 32)
  | .kzPeerBind tk => decide (tk < 2 ^ 32)
  | .kzWake tk => decide (tk < 2 ^ 32)
  | .kzDistribute tk => decide (tk < 2 ^ 32)
  | .kzCountClear tk => decide (tk < 2 ^ 32)
  | .tagReply r _ _ _ => r.wf
  | .tagDwellEnd => true
  | .carrierOffEnd => true
  | .tagPortFault kind => decide (kind < 3)
  | .portFaultEnd p => decide (p < 8)
  | .writeReplyWindow => true
  | .tgInventory tk => decide (tk < 2 ^ 32)
  | .tgWrite tk => decide (tk < 2 ^ 32)
  | .tgRead tk => decide (tk < 2 ^ 32)
  | .tgCountClear tk => decide (tk < 2 ^ 32)
  | .displayFrame _ => true
  | .railOffDelay => true
  | .ntcRead p _ => decide (p < 4)
  | .legalFieldRedraw n => decide (n < 64)
  | .frameCrcCheck p _ => decide (p < 4)
  | .dsDraw tk => decide (tk < 2 ^ 32)
  | .dsWaveLoad tk => decide (tk < 2 ^ 32)
  | .dsProof tk _ => decide (tk < 2 ^ 32)
  | .dsRead tk => decide (tk < 2 ^ 32)
  | .burnishRegion side mem errs _ _ _ => decide (side < 2) && decide (mem < 3) && errs.all MemErr.wf
  | .credentialIndexRebuild => true
  | .mmRead tk => decide (tk < 2 ^ 32)
  | .mmCountClear tk => decide (tk < 2 ^ 32)
  | .pwRequest tk => decide (tk < 2 ^ 32)
  | .quietWindowEnd => true
  | .automaticPark => true
  | .wakeSource src lane ua => decide (src < 8) && decide (lane < 256) && decide (ua < 2 ^ 32)
  | .rtcAlarm ua => decide (ua < 2 ^ 32)
  | .padholdRelease mask => decide (mask < 128)
  | .pwRead tk => decide (tk < 2 ^ 32)
  | .pwAlarmSet tk => decide (tk < 2 ^ 32)
  | .pwCountClear tk => decide (tk < 2 ^ 32)
  | .upOpen tk => decide (tk < 2 ^ 32)
  | .upFragment tk => decide (tk < 2 ^ 32)
  | .fragmentBackgroundCopy side num _ => decide (side < 2) && decide (num < 2 ^ 32)
  | .transferExpiry num => decide (num < 2 ^ 32)
  | .upStatus tk => decide (tk < 2 ^ 32)
  | .upCancel tk => decide (tk < 2 ^ 32)
  | .upApply tk _ => decide (tk < 2 ^ 32)
  | .applyPhaseEnd side => decide (side < 2)
  | .upRestore tk => decide (tk < 2 ^ 32)
  | .upCommit tk => decide (tk < 2 ^ 32)
  | .help side len => decide (side < 2) && decide (len < 65536)
  | .status side len => decide (side < 2) && decide (len < 65536)
  | .login side len _ _ => decide (side < 2) && decide (len < 65536)
  | .logout side len => decide (side < 2) && decide (len < 65536)
  | .rd side len addr count => decide (side < 2) && decide (len < 65536) && decide (addr < 2 ^ 16) && decide (count < 65536)
  | .wr side len addr v => decide (side < 2) && decide (len < 65536) && decide (addr < 2 ^ 16) && decide (v < 2 ^ 64)
  | .ev side len count => decide (side < 2) && decide (len < 65536) && decide (count < 65536)
  | .lane side len n => decide (side < 2) && decide (len < 65536) && decide (n < 64)
  | .req side len op _ => decide (side < 2) && decide (len < 65536) && decide (op < 65536)
  | .mem side len addr count _ => decide (side < 2) && decide (len < 65536) && decide (addr < 2 ^ 64) && decide (count < 65536)
  | .traceStart side len fam lanes _ _ _ => decide (side < 2) && decide (len < 65536) && decide (fam < 2 ^ 16) && decide (lanes < 2 ^ 64)
  | .traceStop side len => decide (side < 2) && decide (len < 65536)
  | .traceDump side len => decide (side < 2) && decide (len < 65536)
  | .traceClear side len => decide (side < 2) && decide (len < 65536)
  | .monitorIdleTimeout side => decide (side < 2)
  | .loginLockoutEnd side => decide (side < 2)
  | .monLock tk => decide (tk < 2 ^ 32)
  | .monPasswordSet tk => decide (tk < 2 ^ 32)
  | .monRead tk => decide (tk < 2 ^ 32)
  | .vaonPowerOn => true
  | .supplyTrip rail _ _ => decide (rail < 15)
  | .borLp ua => decide (ua < 2 ^ 32)
  | .rstn _ => true
  | .resetRelease straps => decide (straps < 8)
  | .startupPhaseComplete side r => decide (side < 2) && r.wf
  | .holderLatchClaim => true
  | .heartbeatWatchdogReset => true
  | .xinLoss clk => decide (clk < 12)
  | .rtcOscillatorStop => true
  | .temperatureMeasurement _ => true
  | .rsReset tk => decide (tk < 2 ^ 32)
  | .rsRead tk => decide (tk < 2 ^ 32)
  | .coverClosed => true
  | .sgmiiLinkChange p _ => decide (p < 2)
  | .hlcLinkLoss n _ => decide (n < 64)
  | .sharedDieFault d => decide (d < 14)
  | .dramHot side _ => decide (side < 2)
  | .sideBootEnd => true
  | .receiveFramesReturn => true
  | .tagWriteTimeLimit => true
  | .inventoryDurationEnd tk => decide (tk < 2 ^ 32)
  | .peerBindTimeout => true
  | .standbyRestartTimeout => true
  | .canBusOff k => decide (k < 4)
  | .daylightSavingChange => true
  | .rtcOscillatorRestart => true
  | .zcEdge => true
  | .pilotFaultClear n => decide (n < 64)

end Sys2Proof
end

