-- ==== Sys2Proof/Tests/Slice0.lean ====
section
/-! SUPPORT. Tests/Slice0.lean: the model's own tests: ill-formed commands refused, worked examples of the specification, and for every
statement with hypotheses a state and operands that meet them all. -/

section Slice0Tests
set_option linter.all false
set_option Elab.async false
set_option synthInstance.maxSize 1000
open Sys2Proof Sys2Proof.Machine

namespace Sys2Proof.Tests

/-! ### What the surroundings of a block ask -/

/-- The opcode table gives no row any bits: no word spells a command. -/
theorem test_decode_none : decodeTableWord 32 5 = none := rfl

/-- The queue is left alone by a word that spells no command. -/
theorem test_withFetchWord : State.reset.withFetchWord 32 5 = State.reset := rfl

/-- Two commands wait: the first runs, the second stays. -/
theorem test_step_front (s : State) (h : s.pending = [.plugExpiry 3, .eventAdmit]) :
    step s = exec (.plugExpiry 3) { s with pending := [.eventAdmit] } := by simp [step, h]

/-! ### Worked examples and check values of the specification and of the standards it names -/

/-- R24's example: after 0x0042_A7F3 the next event carries 0x0043_0000. -/
theorem test_seq_after_change : (({} : Seqr).skipAbove 0x0042A7F3).seqLast + 1 = 0x00430000 := by decide

/-- Chapter 5's example: 32 A is 53.3 %; a 20 A cable 33.3 %; chapter 7's 31.8 A 53.0 %. -/
theorem test_duty : [dutyOf 320, dutyOf 200, dutyOf 318] = [533, 333, 530] := by decide

/-- Chapter 6's example: the setpoint bytes 0 to 13 of lane 3. -/
theorem test_setpoint_bytes :
    (Setpt.bytes { counter := 0x5A, mode := 2, u := 9200, i := 2320, p := 1500, permit := true } 3).take 14 =
      [0x5A, 0x02, 0xF0, 0x23, 0x10, 0x09, 0xDC, 0x05, 0x03, 0x01, 0, 0, 0, 0] := by decide +kernel

/-- A lane in a module's report. -/
def wHubLane (n floor cap : Nat) : HubLane := { lane := n, group := 0, priority := 4, active := true, floor := floor, cap := cap }

/-- The hub of chapter 7's example. -/
def wHub : List HubRep :=
  [{ addr := 1, eui := 1, budget := 0xFFFFFFFF, groups := [], lanes := (List.range 10).map fun n => wHubLane n 50 1500 },
   { addr := 2, eui := 2, budget := 0xFFFFFFFF, groups := [], lanes := (List.range 2).map fun n => wHubLane n 50 1500 },
   { addr := 3, eui := 3, budget := 0xFFFFFFFF, groups := [],
     lanes := ([24, 26, 28, 30].map fun n => wHubLane n 50 220) ++ [wHubLane 40 50 500] }]

/-- Chapter 7's example: 394.0 kW, 78.7 kW and 127.3 kW. -/
theorem test_hub_round : hubGrants 600000 wHub = [(1, 394000), (2, 78700), (3, 127300)] := by decide +kernel

/-- Chapter 18's example: symbols and time on air of a GRANT, a SHARE_REPORT and a BEACON. -/
theorem test_airtime :
    [(kzSymbols 0 43, kzAirtime 0 43), (kzSymbols 0 85, kzAirtime 0 85), (kzSymbols 2 41, kzAirtime 2 41)] =
      [(9, 18490000), (16, 23355000), (26, 30305000)] := by decide

/-- Chapters 10 and 14: 5,499,990,833 µWh and 45,000,000,000 µWh in 900 s are 21,999 W and 180,000 W. -/
theorem test_demand : [demandOf (5499990833 * 2 ^ 32) 900, demandOf (45000000000 * 2 ^ 32) 900] = [21999, 180000] := by decide

/-- Chapter 15's example: 14.722453 kWh at 3,900 after a start fee of 5,000 is 62,417 whole units. -/
theorem test_accrual :
    (Charge.accrue { acc := 5000 * 2 ^ 32 } { imp := [3900, 0, 0, 0, 0, 0, 0, 0] } false 1 (14722453000 * 2 ^ 32)).acc / 2 ^ 32 = 62417 := by
  decide

/-- Chapter 14's example: 28 February 2025, 9,190 days after 2000-01-01, is a Friday. -/
theorem test_calendar : civilOf 9190 = (2025, 2, 28) ∧ weekdayOf 9190 = 5 := by decide

/-- Chapter 25's examples: LS20_5 is 0x1D06; LS44_5 lies at row 17, column 36; PERMIT0 at row 20, column 23. -/
theorem test_balls : [slotBall 20 5, slotBall 44 5, permitBall 0] = [0x1D06, 17 * 256 + 36, 20 * 256 + 23] := by decide

/-- The check values of CRC-32 of IEEE 802.3 and of CRC-16/CCITT-FALSE, over the digits 1 to 9. -/
theorem test_crc :
    (crc32 [0x31, 0x32, 0x33, 0x34, 0x35, 0x36, 0x37, 0x38, 0x39], crc16 [0x31, 0x32, 0x33, 0x34, 0x35, 0x36, 0x37, 0x38, 0x39]) =
      (0xCBF43926, 0x29B1) := by decide +kernel

/-- SHA-256 of "abc", from FIPS 180-4's example. -/
theorem test_sha256 : beNat (sha256 [0x61, 0x62, 0x63]) =
    0xBA7816BF8F01CFEA414140DE5DAE2223B00361A396177A9CB410FF61F20015AD := by decide +kernel

/-- R80's example: a session whose last serial was 0x1A7 goes on at 0x1_0000. -/
theorem test_serial_after_change : (Session.changeSide { serial := 0x1A8 }).serial = 0x10000 := by decide

/-! ### WellFormed refuses each ill-formed command -/

/-- A Kryuz frame of good form. -/
def wKz : KzFrame := { dest := 0, src := 0, eui := 0, counter := 0, mode := 0, snr := 0, erased := 0, hdrOk := true, tagOk := true, body := [] }
/-- A COSEM reference of good form. -/
def wRefOk : CosemRef := { cls := 0, a := 0, b := 0, c := 0, d := 0, e := 0, attr := 0 }
/-- The fit of a group. -/
def wFit : ChipFit := { group := 0, gEst := 0, cNf := 0, driverOk := true, lanes := [], foreign := [] }
/-- A memory error. -/
def wErr : MemErr := { mem := 0, offset := 0, corrected := true, region := 0 }

/-- Each of these commands fails one check of `wellFormed`, which refuses it. -/
theorem test_illFormed_1 :
    ([.registerWrite .operator (2 ^ 16) 0,
      .registerWrite .operator 0 (2 ^ 64),
      .timeoutHoldEnd 64 0 false,
      .timeoutHoldEnd 0 8 false,
      .hello 3,
      .bind 3 {},
      .bind 0 { sid := 2 ^ 32 },
      .bind 0 { counter := 2 ^ 64 },
      .bind 0 { payload := List.replicate 1421 0 },
      .requestPartsTimeout 3 0] : List Instr).all (fun i => !wellFormed i) = true := by decide +kernel

/-- Each of these commands fails one check of `wellFormed`, which refuses it. -/
theorem test_illFormed_2 :
    ([.requestPartsTimeout 0 (2 ^ 32),
      .ticketQuery (2 ^ 32),
      .hp2RegisterRead (2 ^ 16) 0,
      .hp2RegisterRead 0 2048,
      .hp2MessageRead 2048,
      .pilotStateChange 64 none none,
      .preambleDetected 2 [],
      .hpavFrameReceived 16,
      .cmSlacParmReq (2 ^ 64) 0 [],
      .cmSlacParmReq 0 (2 ^ 48) []] : List Instr).all (fun i => !wellFormed i) = true := by decide +kernel

/-- Each of these commands fails one check of `wellFormed`, which refuses it. -/
theorem test_illFormed_3 :
    ([.cmStartAttenCharInd (2 ^ 64),
      .cmValidate (2 ^ 64) 0 0 0,
      .cmValidate 0 64 0 0,
      .cmValidate 0 0 (2 ^ 48) 0,
      .cmSlacMatchReq (2 ^ 64) 0,
      .cmSlacMatchReq 0 64,
      .tlsHandshake 64 0 0 none,
      .tlsHandshake 0 3 0 none,
      .tlsHandshake 0 0 64 none,
      .v2gRequest 64 0 .other] : List Instr).all (fun i => !wellFormed i) = true := by decide +kernel

/-- Each of these commands fails one check of `wellFormed`, which refuses it. -/
theorem test_illFormed_4 :
    ([.v2gRequest 0 (2 ^ 64) .other,
      .certificateRequest 64 0 [],
      .certificateRequest 0 2 [],
      .canBusOffRecovery 4,
      .glimChange 2 false 0,
      .glimChange 0 false (2 ^ 64),
      .releaseHoldEnd 4 0,
      .releaseHoldEnd 0 256,
      .curtailExpiry 256,
      .moduleReportLoss 256] : List Instr).all (fun i => !wellFormed i) = true := by decide +kernel

/-- Each of these commands fails one check of `wellFormed`, which refuses it. -/
theorem test_illFormed_5 :
    ([.chipBoundary [{ wFit with group := 16 }],
      .chipBoundary [{ wFit with lanes := [(64, 0)] }],
      .isolationVerifyDeadline 16,
      .tracerSample (2 ^ 64) [] [],
      .tracerSample 0 [{ chan := 320 }] [],
      .activityCheckFail 320,
      .pulseLevelAccepted 32 false 0 0,
      .pulseLevelAccepted 0 false (2 ^ 64) 0,
      .pulseInputFault 32 0,
      .pulseInputFault 0 4] : List Instr).all (fun i => !wellFormed i) = true := by decide +kernel

/-- Each of these commands fails one check of `wellFormed`, which refuses it. -/
theorem test_illFormed_6 :
    ([.pulseFaultClear 32,
      .grantWord (2 ^ 16) false,
      .comparatorCrossing 128 0 0,
      .comparatorCrossing 0 2 0,
      .tripLatchClear 128,
      .safetyInputOpen 8,
      .dualChannelFault 2,
      .stipplePulse 2 0 0,
      .stipplePulse 0 128 0,
      .dieLimiterTick 4 [] [] 0 0] : List Instr).all (fun i => !wellFormed i) = true := by decide +kernel

/-- Each of these commands fails one check of `wellFormed`, which refuses it. -/
theorem test_illFormed_7 :
    ([.poClear (2 ^ 32) [] [],
      .poClear 0 [128] [],
      .poClear 0 [] [128],
      .sideFaultReport 2 0 0 0,
      .sideFaultReport 0 8 0 0,
      .sideFaultReport 0 0 6 0,
      .sideFaultReport 0 0 0 (2 ^ 32),
      .linkFault 2,
      .aarq 5 0 0 0 0 false,
      .aarq 0 65536 0 0 0 false] : List Instr).all (fun i => !wellFormed i) = true := by decide +kernel

/-- Each of these commands fails one check of `wellFormed`, which refuses it. -/
theorem test_illFormed_8 :
    ([.aarq 0 0 65536 0 0 false,
      .aarq 0 0 0 8 0 false,
      .aarq 0 0 0 0 4 false,
      .get 5 0 0 false (.next 0),
      .get 0 65536 0 false (.next 0),
      .get 0 0 0 false (.refs [{ wRefOk with cls := 65536 }] 0),
      .set 5 0 0 false false wRefOk 0,
      .set 0 65536 0 false false wRefOk 0,
      .set 0 0 0 false false { wRefOk with cls := 65536 } 0,
      .set 0 0 0 false false { wRefOk with a := 256 } 0] : List Instr).all (fun i => !wellFormed i) = true := by decide +kernel

/-- Each of these commands fails one check of `wellFormed`, which refuses it. -/
theorem test_illFormed_9 :
    ([.set 0 0 0 false false { wRefOk with b := 256 } 0,
      .set 0 0 0 false false { wRefOk with c := 256 } 0,
      .set 0 0 0 false false { wRefOk with d := 256 } 0,
      .set 0 0 0 false false { wRefOk with e := 256 } 0,
      .releaseRequest 5 0,
      .releaseRequest 0 65536,
      .healthTest 2 false,
      .beacon { wKz with dest := 256 },
      .beacon { wKz with src := 256 },
      .beacon { wKz with eui := 2 ^ 64 }] : List Instr).all (fun i => !wellFormed i) = true := by decide +kernel

/-- Each of these commands fails one check of `wellFormed`, which refuses it. -/
theorem test_illFormed_10 :
    ([.beacon { wKz with counter := 2 ^ 64 },
      .beacon { wKz with body := List.replicate 513 0 },
      .ack 256,
      .nodeDeparture (2 ^ 64),
      .wakePreamble (2 ^ 32),
      .tagReply (.handle 65536) 0 0 0,
      .tagReply (.words [0, 65536]) 0 0 0,
      .tagReply (.error 3) 0 0 0,
      .tagReply (.epc (List.replicate 63 0) true) 0 0 0,
      .tagPortFault 3] : List Instr).all (fun i => !wellFormed i) = true := by decide +kernel

/-- Each of these commands fails one check of `wellFormed`, which refuses it. -/
theorem test_illFormed_11 :
    ([.portFaultEnd 8,
      .ntcRead 4 none,
      .burnishRegion 2 0 [] false none [],
      .burnishRegion 0 3 [] false none [],
      .burnishRegion 0 0 [{ wErr with mem := 6 }] false none [],
      .burnishRegion 0 0 [{ wErr with offset := 2 ^ 32 }] false none [],
      .burnishRegion 0 0 [{ wErr with region := 4 }] false none [],
      .wakeSource 8 0 0,
      .wakeSource 0 256 0,
      .wakeSource 0 0 (2 ^ 32)] : List Instr).all (fun i => !wellFormed i) = true := by decide +kernel

/-- Each of these commands fails one check of `wellFormed`, which refuses it. -/
theorem test_illFormed_12 :
    ([.padholdRelease 128,
      .fragmentBackgroundCopy 2 0 0,
      .fragmentBackgroundCopy 0 (2 ^ 32) 0,
      .transferExpiry (2 ^ 32),
      .applyPhaseEnd 2,
      .help 2 0,
      .help 0 65536,
      .rd 2 0 0 0,
      .rd 0 65536 0 0,
      .rd 0 0 (2 ^ 16) 0] : List Instr).all (fun i => !wellFormed i) = true := by decide +kernel

/-- Each of these commands fails one check of `wellFormed`, which refuses it. -/
theorem test_illFormed_13 :
    ([.rd 0 0 0 65536,
      .wr 2 0 0 0,
      .wr 0 65536 0 0,
      .wr 0 0 (2 ^ 16) 0,
      .wr 0 0 0 (2 ^ 64),
      .ev 2 0 0,
      .ev 0 65536 0,
      .ev 0 0 65536,
      .lane 2 0 0,
      .lane 0 65536 0] : List Instr).all (fun i => !wellFormed i) = true := by decide +kernel

/-- Each of these commands fails one check of `wellFormed`, which refuses it. -/
theorem test_illFormed_14 :
    ([.lane 0 0 64,
      .req 2 0 0 [],
      .req 0 65536 0 [],
      .req 0 0 65536 [],
      .mem 2 0 0 0 false,
      .mem 0 65536 0 0 false,
      .mem 0 0 (2 ^ 64) 0 false,
      .mem 0 0 0 65536 false,
      .traceStart 2 0 0 0 none none 0,
      .traceStart 0 65536 0 0 none none 0] : List Instr).all (fun i => !wellFormed i) = true := by decide +kernel

/-- Each of these commands fails one check of `wellFormed`, which refuses it. -/
theorem test_illFormed_15 :
    ([.traceStart 0 0 (2 ^ 16) 0 none none 0,
      .traceStart 0 0 0 (2 ^ 64) none none 0,
      .supplyTrip 15 false 0,
      .resetRelease 8,
      .startupPhaseComplete 2 {},
      .startupPhaseComplete 0 { badCopies := [2] },
      .startupPhaseComplete 0 { badChans := [128] },
      .startupPhaseComplete 0 { above := [128] },
      .xinLoss 12,
      .sharedDieFault 14] : List Instr).all (fun i => !wellFormed i) = true := by decide +kernel

/-- The same checks pass a command with every operand at the top of its range. -/
theorem test_wellFormed_1 :
    ([.registerWrite .operator (2 ^ 16 - 1) (2 ^ 64 - 1),
      .timeoutHoldEnd (64 - 1) (8 - 1) false,
      .hello (3 - 1),
      .bind (3 - 1) {},
      .requestPartsTimeout (3 - 1) (2 ^ 32 - 1),
      .ticketQuery (2 ^ 32 - 1),
      .hp2RegisterRead (2 ^ 16 - 1) (2048 - 1),
      .hp2MessageRead (2048 - 1),
      .pilotStateChange (64 - 1) none none,
      .preambleDetected (2 - 1) []] : List Instr).all wellFormed = true := by decide +kernel

/-- The same checks pass a command with every operand at the top of its range. -/
theorem test_wellFormed_2 :
    ([.hpavFrameReceived (16 - 1),
      .cmSlacParmReq (2 ^ 64 - 1) (2 ^ 48 - 1) [],
      .cmStartAttenCharInd (2 ^ 64 - 1),
      .cmValidate (2 ^ 64 - 1) (64 - 1) (2 ^ 48 - 1) 0,
      .cmSlacMatchReq (2 ^ 64 - 1) (64 - 1),
      .tlsHandshake (64 - 1) (3 - 1) (64 - 1) none,
      .v2gRequest (64 - 1) (2 ^ 64 - 1) .other,
      .certificateRequest (64 - 1) (2 - 1) [],
      .canBusOffRecovery (4 - 1),
      .glimChange (2 - 1) false (2 ^ 64 - 1)] : List Instr).all wellFormed = true := by decide +kernel

/-- The same checks pass a command with every operand at the top of its range. -/
theorem test_wellFormed_3 :
    ([.releaseHoldEnd (4 - 1) (256 - 1),
      .curtailExpiry (256 - 1),
      .moduleReportLoss (256 - 1),
      .chipBoundary [],
      .isolationVerifyDeadline (16 - 1),
      .tracerSample (2 ^ 64 - 1) [] [],
      .activityCheckFail (320 - 1),
      .pulseLevelAccepted (32 - 1) false (2 ^ 64 - 1) 0,
      .pulseInputFault (32 - 1) (4 - 1),
      .pulseFaultClear (32 - 1)] : List Instr).all wellFormed = true := by decide +kernel

/-- The same checks pass a command with every operand at the top of its range. -/
theorem test_wellFormed_4 :
    ([.grantWord (2 ^ 16 - 1) false,
      .comparatorCrossing (128 - 1) (2 - 1) 0,
      .tripLatchClear (128 - 1),
      .safetyInputOpen (8 - 1),
      .dualChannelFault (2 - 1),
      .stipplePulse (2 - 1) (128 - 1) 0,
      .dieLimiterTick (4 - 1) [] [] 0 0,
      .poClear (2 ^ 32 - 1) [] [],
      .sideFaultReport (2 - 1) (8 - 1) (6 - 1) (2 ^ 32 - 1),
      .linkFault (2 - 1)] : List Instr).all wellFormed = true := by decide +kernel

/-- The same checks pass a command with every operand at the top of its range. -/
theorem test_wellFormed_5 :
    ([.aarq (5 - 1) (65536 - 1) (65536 - 1) (8 - 1) (4 - 1) false,
      .get (5 - 1) (65536 - 1) 0 false (.next 0),
      .set (5 - 1) (65536 - 1) 0 false false wRefOk 0,
      .releaseRequest (5 - 1) (65536 - 1),
      .healthTest (2 - 1) false,
      .beacon wKz,
      .ack (256 - 1),
      .nodeDeparture (2 ^ 64 - 1),
      .wakePreamble (2 ^ 32 - 1),
      .tagReply .empty 0 0 0] : List Instr).all wellFormed = true := by decide +kernel

/-- The same checks pass a command with every operand at the top of its range. -/
theorem test_wellFormed_6 :
    ([.tagPortFault (3 - 1),
      .portFaultEnd (8 - 1),
      .ntcRead (4 - 1) none,
      .burnishRegion (2 - 1) (3 - 1) [] false none [],
      .wakeSource (8 - 1) (256 - 1) (2 ^ 32 - 1),
      .padholdRelease (128 - 1),
      .fragmentBackgroundCopy (2 - 1) (2 ^ 32 - 1) 0,
      .transferExpiry (2 ^ 32 - 1),
      .applyPhaseEnd (2 - 1),
      .help (2 - 1) (65536 - 1)] : List Instr).all wellFormed = true := by decide +kernel

/-- The same checks pass a command with every operand at the top of its range. -/
theorem test_wellFormed_7 :
    ([.rd (2 - 1) (65536 - 1) (2 ^ 16 - 1) (65536 - 1),
      .wr (2 - 1) (65536 - 1) (2 ^ 16 - 1) (2 ^ 64 - 1),
      .ev (2 - 1) (65536 - 1) (65536 - 1),
      .lane (2 - 1) (65536 - 1) (64 - 1),
      .req (2 - 1) (65536 - 1) (65536 - 1) [],
      .mem (2 - 1) (65536 - 1) (2 ^ 64 - 1) (65536 - 1) false,
      .traceStart (2 - 1) (65536 - 1) (2 ^ 16 - 1) (2 ^ 64 - 1) none none 0,
      .supplyTrip (15 - 1) false 0,
      .resetRelease (8 - 1),
      .startupPhaseComplete (2 - 1) {}] : List Instr).all wellFormed = true := by decide +kernel

/-- The same checks pass a command with every operand at the top of its range. -/
theorem test_wellFormed_8 :
    ([.xinLoss (12 - 1),
      .sharedDieFault (14 - 1)] : List Instr).all wellFormed = true := by decide +kernel

/-! ### States and operands that meet the hypotheses of the statements -/


/-- The module after reset with a matrix applied. -/
def wCfg (c : Machine.Config) : State := { State.reset with mx := { State.reset.mx with applied := some c } }

/-- The module after reset with one lane of a type in group 0. -/
def wTyp (n : Nat) (t : LaneType) : State := wCfg { slots := [{ slot := n, typ := t, group := 0 }] }

/-- A lane of a type in a lane state. -/
def wLane (n : Nat) (t : LaneType) (st : LState) : State := (wTyp n t).onLane n fun l => { l with st := st }

/-- TIME at a value. -/
def wAt (s : State) (t : Nat) : State := { s with clock := { s.clock with time := t } }

/-- A lane of a type in a lane state, a timer of which expired 200 ns ago or earlier. -/
def wTimer (n : Nat) (t : LaneType) (st : LState) (k : Nat) : State :=
  wAt ((wLane n t st).onLane n fun l => { l with timers := [(k, 5)] }) 205

/-- An operator session on port 0 with one ticket, 1, of an opcode. -/
def wReq (s : State) (op : Nat) (arg : Bytes := []) (role : Role := .operator) : State :=
  s.onPort 0 fun p => { p with session := some { sid := 7, role := role, outstanding := [{ id := 1, opcode := op, arg := arg, role := role }] } }

/-- The ticket of such a session. -/
def wTk (op : Nat) (arg : Bytes := []) (role : Role := .operator) : Ticket := { id := 1, opcode := op, arg := arg, role := role }

/-! Credentials and prices whose references and CRCs the kernel need not compute. -/
/-- A store of one credential. -/
def wCreds : State := { State.reset with ac := { State.reset.ac with creds := [{ kind := 4, ident := List.replicate 8 1, cell := 1048575 }] } }
/-- The bytes of its reference. -/
def wRef : Bytes := sub (hmac256 (wCreds.nodeKey 3) (byteOf 4 :: List.replicate 8 1)) 0 4

theorem wCreds_lanes (b : Bytes) : ((List.range 64).filterMap fun n => if ((wReq wCreds 0x0506 b .admin).lane n).awaiting then ((wReq wCreds 0x0506 b .admin).lane n).cred else none) = [] := by
    show ((List.range 64).filterMap fun n => if (wCreds.lane n).awaiting then (wCreds.lane n).cred else none) = []; decide +kernel
theorem wCreds_credRef (b : Bytes) (hr : wCreds.credRef 4 (List.replicate 8 1) = beNat b) : (wReq wCreds 0x0506 b .admin).credRef 4 (List.replicate 8 1) = beNat b := by
    have hk : ∀ (s : State) (f : Port → Port), (s.onPort 0 f).nodeKey 3 = s.nodeKey 3 := fun s f => rfl
    have ho : ∀ (s : State) (f : Port → Port), (s.onPort 0 f).isOrphan 3 = s.isOrphan 3 := fun s f => rfl
    have hf : ∀ (s : State) (f : Port → Port), (s.onPort 0 f).free 32 = s.free 32 := fun s f => rfl
    simp only [State.credRef, wReq, hk, ho, hf]; simp only [State.credRef] at hr; exact hr
theorem wCreds_creds (b : Bytes) : (wReq wCreds 0x0506 b .admin).ac.creds = [{ kind := 4, ident := List.replicate 8 1, cell := 1048575 }] := rfl
theorem wCreds_identOf (s : State) (b : Bytes) (h : sub b 0 4 = b) (hr : s.credRef 4 (List.replicate 8 1) = beNat b) (hc : s.ac.creds = [{ kind := 4, ident := List.replicate 8 1, cell := 1048575 }])
  (hb : ((List.range 64).filterMap fun n => if (s.lane n).awaiting then (s.lane n).cred else none) = []) :
    s.identOf (beNat (sub b 0 4)) true = some (4, List.replicate 8 1) := by
  simp only [State.identOf, hb, h, hc, List.find?_nil, if_true, List.find?_cons, hr, beq_self_eq_true, Option.map_some]

theorem wCreds_ref (b : Bytes) (h : sub b 0 4 = b) (hr : wCreds.credRef 4 (List.replicate 8 1) = beNat b) :
    (wReq wCreds 0x0506 b .admin).identOf (beNat (sub b 0 4)) true = some (4, List.replicate 8 1) := wCreds_identOf _ b h (wCreds_credRef b hr) (wCreds_creds b) (wCreds_lanes b)

/-- The 64 price groups, all zero. -/
def wPrices : Bytes := List.replicate 5120 0
theorem wPrices_length : wPrices.length = 5120 := List.length_replicate

/-! A certificate whose key is any 64 bytes, for a public key the kernel need not compute. -/
theorem publicOf_length (d : Nat) : (P256.publicOf d).length = 64 := by
  simp [P256.publicOf, beBytes_length]
theorem derNext_der (tag : Nat) (b r : Bytes) (ht : tag < 256) (hb : b.length < 128) : derNext (der tag b ++ r) = some (tag, b, r) := by
  simp [der, derLen, hb, derNext, byteOf_toNat, Nat.mod_eq_of_lt ht, Nat.mod_eq_of_lt (show b.length < 256 by omega)]
theorem derNext_one (tag : Nat) (b : Bytes) (ht : tag < 256) (hb : b.length < 128) : derNext (der tag b) = some (tag, b, []) := by
  simpa using derNext_der tag b [] ht hb
theorem der_length (tag : Nat) (b : Bytes) (hb : b.length < 128) : (der tag b).length = b.length + 2 := by simp [der, derLen, hb]
/-- The smallest certificate of a key the reader of R384 takes: five empty values, then the key. -/
def wLeaf (key : Bytes) : Bytes :=
  der 0x30 (der 0x30 (der 2 [] ++ (der 2 [] ++ (der 2 [] ++ (der 2 [] ++ (der 2 [] ++ spkiOf key))))))
theorem spki_length (key : Bytes) (h : key.length = 64) : (spkiOf key).length = 91 := by
  have a : (der 3 ([0x00, 0x04] ++ key)).length = 68 := by rw [der_length] <;> simp [h]
  have b : (der 0x30 (der 6 [0x2A, 0x86, 0x48, 0xCE, 0x3D, 0x02, 0x01] ++ der 6 [0x2A, 0x86, 0x48, 0xCE, 0x3D, 0x03, 0x01, 0x07])).length = 21 := by decide
  unfold spkiOf; rw [der_length] <;> simp only [List.length_append, a, b] <;> decide
theorem wLeaf_tbs (key : Bytes) (h : key.length = 64) : (der 2 [] ++ (der 2 [] ++ (der 2 [] ++ (der 2 [] ++ (der 2 [] ++ spkiOf key))))).length = 101 := by
  simp only [List.length_append, spki_length key h]; decide
theorem wLeaf_length (key : Bytes) (h : key.length = 64) : (wLeaf key).length = 105 := by
  have h1 := wLeaf_tbs key h
  have h2 : (der 0x30 (der 2 [] ++ (der 2 [] ++ (der 2 [] ++ (der 2 [] ++ (der 2 [] ++ spkiOf key)))))).length = 103 := by
    rw [der_length _ _ (by rw [h1]; decide), h1]
  unfold wLeaf; rw [der_length _ _ (by rw [h2]; decide), h2]
theorem wLeaf_key (key : Bytes) (h : key.length = 64) : leafKey (wLeaf key) = some key := by
  have a : (der 3 ([0x00, 0x04] ++ key)).length = 68 := by rw [der_length] <;> simp [h]
  have b : (der 0x30 (der 6 [0x2A, 0x86, 0x48, 0xCE, 0x3D, 0x02, 0x01] ++ der 6 [0x2A, 0x86, 0x48, 0xCE, 0x3D, 0x03, 0x01, 0x07])).length = 21 := by decide
  have h0 : (der 0x30 (der 2 [] ++ (der 2 [] ++ (der 2 [] ++ (der 2 [] ++ (der 2 [] ++ spkiOf key)))))).length < 128 := by rw [der_length] <;> simp only [wLeaf_tbs key h] <;> decide
  have e : ∀ r : Bytes, derNext (der 2 [] ++ r) = some (2, [], r) := fun r => derNext_der 2 [] r (by decide) (by decide)
  have f : derNext (spkiOf key) = some (0x30, _, []) := derNext_one 0x30 _ (by decide) (by simp only [List.length_append, a, b]; decide)
  have g : ∀ r : Bytes, derNext (der 0x30 (der 6 [0x2A, 0x86, 0x48, 0xCE, 0x3D, 0x02, 0x01] ++ der 6 [0x2A, 0x86, 0x48, 0xCE, 0x3D, 0x03, 0x01, 0x07]) ++ r) = some (0x30, _, r) :=
    fun r => derNext_der 0x30 _ r (by decide) (by decide)
  have k := derNext_one 3 ([0x00, 0x04] ++ key) (by decide) (by simp [h])
  have n : derNext [] = none := rfl
  simp only [leafKey, wLeaf, derNext_one 0x30 _ (by decide) h0, derNext_one 0x30 _ (by decide) (show (der 2 [] ++ (der 2 [] ++ (der 2 [] ++ (der 2 [] ++ (der 2 [] ++ spkiOf key))))).length < 128 by rw [wLeaf_tbs key h]; decide),
    derItems, e, f, g, k, n, List.drop]
  simp [h]
theorem wReq_nodePublic (s : State) (op : Nat) (b : Bytes) (r : Role) (n : Nat) : (wReq s op b r).nodePublic n = s.nodePublic n := rfl
theorem wTk_rest (op : Nat) (b : Bytes) (r : Role) : (wTk op ([9, 0] ++ b) r).rest 2 = b := rfl
theorem wVault_cert (s : State) (h : (s.nodePublic 9).length = 64) : leafKey ((wTk 0x0607 ([9, 0] ++ wLeaf (s.nodePublic 9)) .admin).rest 2) =
    some ((wReq s 0x0607 ([9, 0] ++ wLeaf (s.nodePublic 9)) .admin).nodePublic 9) := by
  rw [wTk_rest, wLeaf_key _ h, wReq_nodePublic]
theorem wLeaf_size (key : Bytes) (h : key.length = 64) : (wTk 0x0607 ([9, 0] ++ wLeaf key) .admin).arg.length ≤ 4098 := by
  show ([9, 0] ++ wLeaf key).length ≤ 4098
  rw [List.length_append, wLeaf_length _ h]; decide

theorem test_witness_stepRunsTheFrontCommand_1 : (fun (c : Instr) rest (s : State) => s.pending = c :: rest) .timeReplicaRealign [.eventAdmit] { State.reset with pending := [.timeReplicaRealign, .eventAdmit] } := by decide +kernel

theorem test_witness_stepRunsTheFrontCommand_2 : State.reset.pending = [] := by decide +kernel

theorem test_witness_commandKeepsQueueAndNumbersEvents_2 : ∃ u, exec .eventAdmit State.reset = .next u := ⟨_, rfl⟩

theorem test_witness_stepsNeverRepeatASequenceNumber_1 : State.reset.safe ∧ ∃ t, step State.reset = .next t := ⟨⟨rfl, trivial, Nat.le_refl 0⟩, _, rfl⟩

theorem test_witness_admissionGoesByClassThenSource_1 : (firstWaiting [{ cls := .diag, die := 0, unit := 0, lane := 0, code := 1, data := [], time := 0 }, { cls := .host, die := 1, unit := 9, lane := 0, code := 2, data := [], time := 0 }, { cls := .host, die := 1, unit := 8, lane := 0, code := 3, data := [], time := 0 }]).map (·.code) = some 3 := by decide +kernel

theorem test_witness_admissionGoesByClassThenSource_2 : [({ cls := .diag, die := 0, unit := 0, lane := 0, code := 1, data := [], time := 0 } : Ev)] ≠ [] := by decide +kernel

theorem test_witness_admissionGoesByClassThenSource_3 : ∃ (s : State) (e : Ev), 5 ≤ s.rs.phase ∧ firstWaiting s.seqr.waiting = some e ∧ s.seqr.drops = [] :=
  ⟨({ State.reset with rs := { State.reset.rs with phase := 5 }, seqr := { State.reset.seqr with waiting := [{ cls := .host, die := 1, unit := 9, lane := 0, code := 2, data := [], time := 0 }] } }), ({ cls := .host, die := 1, unit := 9, lane := 0, code := 2, data := [], time := 0 }), by decide +kernel⟩

theorem test_witness_admissionGoesByClassThenSource_4 : (fun (q : Seqr) (e : Ev) => firstWaiting q.waiting = some e ∧ q.drops = []) { waiting := [{ cls := .host, die := 1, unit := 9, lane := 0, code := 2, data := [], time := 0 }] } { cls := .host, die := 1, unit := 9, lane := 0, code := 2, data := [], time := 0 } := by decide +kernel

theorem test_witness_eventsWaitOrAreCounted_1 : EvClass.metering = .safety ∨ EvClass.metering = .metering := by decide

theorem test_witness_eventsWaitOrAreCounted_2 : EvClass.diag ≠ .safety ∧ EvClass.diag ≠ .metering := by decide

theorem test_witness_eventsWaitOrAreCounted_3 : (fun (q : Seqr) (e : Ev) (d : Drop) ds => firstWaiting q.waiting = some e ∧ q.drops = d :: ds) { waiting := [{ cls := .host, die := 1, unit := 9, lane := 0, code := 2, data := [], time := 0 }], drops := [{ cls := .host, die := 1, count := 1 }] } { cls := .host, die := 1, unit := 9, lane := 0, code := 2, data := [], time := 0 } { cls := .host, die := 1, count := 1 } [] := by decide +kernel

theorem test_witness_eventsWaitOrAreCounted_4 : (0 : Nat) ≤ 65535 := by decide

theorem test_witness_completionEndsTheTicket_1 : (fun (s : State) => s.emits = [] ∧ ticketPort 1 < 3 ∧ (s.sess (ticketPort 1)).isSome = true) (wReq State.reset 0x0306) := by decide +kernel

theorem test_witness_completionEndsTheTicket_3 : State.reset.ticket 1 0x0306 = none := by decide +kernel

theorem test_witness_accountCellsAreKeptCanonical_1 : (fun s : State => (s.ac.cells.map (·.1)).Pairwise (· < ·)) (({ State.reset with ac := { State.reset.ac with cells := [(2, { importTotal := 1 }), (9, { importTotal := 1 })] } } : State)) := by decide +kernel

theorem test_witness_accountCellsAreKeptCanonical_2 : (State.reset.ac.cells.map (·.1)).Pairwise (· < ·) ∧ ∀ x ∈ State.reset.ac.cells, x.2 ≠ {} := by decide +kernel

theorem test_witness_timeAndSharedDies_1 : (fun s : State => s.pw.state ≤ 2 ∧ s.clock.frac < 768) { State.reset with clock := { State.reset.clock with frac := 767 } } := by decide +kernel

theorem test_witness_timeAndSharedDies_2 : (fun s : State => 2 < s.pw.state) { State.reset with pw := { State.reset.pw with state := 3 } } := by decide +kernel

theorem test_witness_timeAndSharedDies_3 : ∃ (s : State), s.clock.replicaAt + 1000 ≤ s.now :=
  ⟨(wAt State.reset 1000), by decide +kernel⟩

theorem test_witness_timeAndSharedDies_4 : ∃ (s : State) (d : Int), s.clock.anchorTime + sec 1 ≤ s.now :=
  ⟨(wAt State.reset 1000000000), (5), by decide +kernel⟩

theorem test_witness_timeAndSharedDies_5 : ∃ (s : State) (d : Nat), (2 ≤ d ∧ d < 8 ∨ d = 13) :=
  ⟨(State.reset), (13), by decide +kernel⟩

theorem test_witness_timeAndSharedDies_7 : ∃ (s : State) (d : Nat), 9 ≤ d ∧ d ≤ 12 :=
  ⟨(State.reset), (12), by decide +kernel⟩

theorem test_witness_timeAndSharedDies_8 : (fun (s : State) d => s.dieBad d = true) { State.reset with ident := { State.reset.ident with dieStanding := 0x2000 } } 13 := by decide +kernel

theorem test_witness_ticketsCarryPortAndSerial_1 : ∃ (s : State) (p op : Nat) (c : Session) (roles : List Role) (arg : Bytes), s.sess p = some c ∧ rolesOf op = some roles ∧ c.role ∈ roles ∧ p ≤ 3 ∧ ¬ (p = 2 ∧ hp2Bars op) ∧ ¬ (p = 3 ∧ monitorBars op) ∧ s.variantLacks op arg = false ∧ s.busyAt op arg = false ∧ c.outstanding.length < 256 ∧ 1 ≤ c.serial ∧ c.serial ≤ 0x0FFFFFFF :=
  ⟨{ State.reset with host := { State.reset.host with ports := [{ session := some { role := .admin, serial := 0x0FFFFFFF, outstanding := List.replicate 255 { id := 9 } } }, {}, {}] } }, 0, 0x0101, { role := .admin, serial := 0x0FFFFFFF, outstanding := List.replicate 255 { id := 9 } }, [.admin], [], by decide +kernel⟩

theorem test_witness_ticketsCarryPortAndSerial_2 : ∃ (s : State) (p op : Nat) (c : Session) (roles : List Role) (arg : Bytes), s.sess p = some c ∧ rolesOf op = some roles ∧ c.role ∈ roles ∧ p ≤ 3 ∧ ¬ (p = 2 ∧ hp2Bars op) ∧ ¬ (p = 3 ∧ monitorBars op) ∧ s.variantLacks op arg = false ∧ 256 ≤ c.outstanding.length :=
  ⟨{ State.reset with host := { State.reset.host with ports := [{ session := some { role := .admin, serial := 0x0FFFFFFF, outstanding := List.replicate 256 { id := 9 } } }, {}, {}] } }, 0, 0x0101, { role := .admin, serial := 0x0FFFFFFF, outstanding := List.replicate 256 { id := 9 } }, [.admin], [], by decide +kernel⟩

theorem test_witness_ticketsCarryPortAndSerial_3 : ∃ (s : State) (p op : Nat) (c : Session) (roles : List Role) (arg : Bytes), s.sess p = some c ∧ rolesOf op = some roles ∧ c.role ∈ roles ∧ p ≤ 3 ∧ ¬ (p = 2 ∧ hp2Bars op) ∧ ¬ (p = 3 ∧ monitorBars op) ∧ s.variantLacks op arg = true :=
  ⟨{ { State.reset with host := { State.reset.host with ports := [{ session := some { role := .admin, serial := 0x0FFFFFFF, outstanding := List.replicate 0 { id := 9 } } }, {}, {}] } } with ident := { State.reset.ident with variant := .sx16 } }, 0, 0x0D02, { role := .admin, serial := 0x0FFFFFFF, outstanding := List.replicate 0 { id := 9 } }, [.admin, .service], [], by decide +kernel⟩

theorem test_witness_ticketsCarryPortAndSerial_4 : ∃ (s : State) (p op : Nat) (c : Session) (roles : List Role) (arg : Bytes), s.sess p = some c ∧ rolesOf op = some roles ∧ c.role ∈ roles ∧ p ≤ 3 ∧ ¬ (p = 2 ∧ hp2Bars op) ∧ ¬ (p = 3 ∧ monitorBars op) ∧ s.variantLacks op arg = false ∧ c.outstanding.length < 256 ∧ s.busyAt op arg = true :=
  ⟨{ { State.reset with host := { State.reset.host with ports := [{ session := some { role := .admin, serial := 0x0FFFFFFF, outstanding := List.replicate 0 { id := 9 } } }, {}, {}] } } with mx := { State.reset.mx with job := some { ticket := 1, cfg := {}, changed := 0, deltaSlot := 0, xfer := none } } }, 0, 0x0101, { role := .admin, serial := 0x0FFFFFFF, outstanding := List.replicate 0 { id := 9 } }, [.admin], [], by decide +kernel⟩

theorem test_witness_ticketsCarryPortAndSerial_5 : 0 < State.reset.host.ports.length := by decide +kernel

theorem test_witness_laneEntryMovesOneLane_1 : (63 : Nat) < State.reset.lanes.length := by decide +kernel

theorem test_witness_laneEntryMovesOneLane_2 : (62 : Nat) ≠ 63 := by decide

theorem test_witness_timersWaitTwoHundredNanoseconds_1 : (fun s n k e => (s.lane n).timer k = some e ∧ e ≤ s.now ∧ s.now < e + 200) (wAt (wTimer 63 .dcx .precharge 6) 204) 63 6 5 := by decide +kernel

theorem test_witness_timersWaitTwoHundredNanoseconds_2 : (fun s n k e => (s.lane n).timer k = some e ∧ s.now < e) (wAt (wTimer 63 .dcx .precharge 6) 4) 63 6 5 := by decide +kernel

theorem test_witness_laneTimersThatEndAStateExpire_1 : ∃ (s : State) (n e : Nat), n < s.lanes.length ∧ (s.lane n).timer Tm.guardWait = some e ∧ e + 200 ≤ s.now ∧ (s.lane n).st = .negotiate :=
  ⟨(wTimer 63 .dcx .negotiate 4), (63), (5), by decide +kernel⟩

theorem test_witness_laneTimersThatEndAStateExpire_2 : ∃ (s : State) (n e : Nat), n < s.lanes.length ∧ (s.lane n).timer Tm.guardWait = some e ∧ e + 200 ≤ s.now ∧ (s.lane n).st = .isolationTest :=
  ⟨(wTimer 63 .dcx .isolationTest 4), (63), (5), by decide +kernel⟩

theorem test_witness_laneTimersThatEndAStateExpire_3 : ∃ (s : State) (n e : Nat), n < s.lanes.length ∧ (s.lane n).timer Tm.guardWait = some e ∧ e + 200 ≤ s.now ∧ (s.lane n).st = .suspended :=
  ⟨(wTimer 63 .dcx .suspended 4), (63), (5), by decide +kernel⟩

theorem test_witness_laneTimersThatEndAStateExpire_4 : ∃ (s : State) (n e : Nat), n < s.lanes.length ∧ (s.lane n).timer Tm.cableCheck = some e ∧ e + 200 ≤ s.now ∧ (s.lane n).st = .isolationTest :=
  ⟨(wTimer 63 .dcx .isolationTest 5), (63), (5), by decide +kernel⟩

theorem test_witness_laneTimersThatEndAStateExpire_5 : ∃ (s : State) (n e : Nat), n < s.lanes.length ∧ (s.lane n).timer Tm.precharge = some e ∧ e + 200 ≤ s.now ∧ (s.lane n).st = .precharge :=
  ⟨(wTimer 63 .dcx .precharge 6), (63), (5), by decide +kernel⟩

theorem test_witness_laneTimersThatEndAStateExpire_6 : ∃ (s : State) (n e : Nat), n < s.lanes.length ∧ (s.lane n).timer Tm.ramp = some e ∧ e + 200 ≤ s.now ∧ (s.lane n).st = .rampDown :=
  ⟨(wTimer 63 .dcx .rampDown 7), (63), (5), by decide +kernel⟩

theorem test_witness_laneTimersThatEndAStateExpire_7 : ∃ (s : State) (n e : Nat), n < s.lanes.length ∧ (s.lane n).timer Tm.weld = some e ∧ e + 200 ≤ s.now ∧ (s.lane n).st = .openCheck :=
  ⟨(wTimer 63 .dcx .openCheck 8), (63), (5), by decide +kernel⟩

theorem test_witness_laneTimersThatEndAStateExpire_8 : ∃ (s : State) (n e : Nat), n < s.lanes.length ∧ (s.lane n).timer Tm.suspend = some e ∧ e + 200 ≤ s.now ∧ (s.lane n).st = .suspended :=
  ⟨(wTimer 63 .dcx .suspended 10), (63), (5), by decide +kernel⟩

theorem test_witness_laneTimersOfConnectionExpire_1 : ∃ (s : State) (n e : Nat), n < s.lanes.length ∧ (s.lane n).timer Tm.plug = some e ∧ e + 200 ≤ s.now ∧ (s.lane n).st = .plugged ∧ (s.lane n).pilot = .a :=
  ⟨((wTimer 63 .ac1 .plugged 1).onLane 63 fun l => { l with pilot := .a }), (63), (5), by decide +kernel⟩

theorem test_witness_laneTimersOfConnectionExpire_2 : ∃ (s : State) (n e : Nat), n < s.lanes.length ∧ (s.lane n).timer Tm.plug = some e ∧ e + 200 ≤ s.now ∧ (s.lane n).st = .identify ∧ (s.lane n).pilot = .a :=
  ⟨((wTimer 63 .ac1 .identify 1).onLane 63 fun l => { l with pilot := .a }), (63), (5), by decide +kernel⟩

theorem test_witness_laneTimersOfConnectionExpire_3 : ∃ (s : State) (n e : Nat), n < s.lanes.length ∧ (s.lane n).timer Tm.plug = some e ∧ e + 200 ≤ s.now ∧ (s.lane n).st = .authorise ∧ (s.lane n).pilot = .a :=
  ⟨((wTimer 63 .ac1 .authorise 1).onLane 63 fun l => { l with pilot := .a }), (63), (5), by decide +kernel⟩

theorem test_witness_laneTimersOfConnectionExpire_4 : ∃ (s : State) (n e : Nat), n < s.lanes.length ∧ (s.lane n).timer Tm.plug = some e ∧ e + 200 ≤ s.now ∧ (s.lane n).st = .negotiate ∧ (s.lane n).pilot = .a :=
  ⟨((wTimer 63 .ac1 .negotiate 1).onLane 63 fun l => { l with pilot := .a }), (63), (5), by decide +kernel⟩

theorem test_witness_laneTimersOfConnectionExpire_5 : ∃ (s : State) (n e : Nat), n < s.lanes.length ∧ (s.lane n).timer Tm.plug = some e ∧ e + 200 ≤ s.now ∧ (s.lane n).st = .suspended ∧ (s.lane n).pilot = .a ∧ (s.typ n).isAc = true :=
  ⟨((wTimer 63 .ac1 .suspended 1).onLane 63 fun l => { l with pilot := .a }), (63), (5), by decide +kernel⟩

theorem test_witness_laneTimersOfConnectionExpire_6 : ∃ (s : State) (n e : Nat), n < s.lanes.length ∧ (s.lane n).timer Tm.plug = some e ∧ e + 200 ≤ s.now ∧ (s.lane n).st = .rampDown ∧ (s.lane n).pilot = .a ∧ (s.typ n).isAc = true :=
  ⟨((wTimer 63 .ac1 .rampDown 1).onLane 63 fun l => { l with pilot := .a }), (63), (5), by decide +kernel⟩

theorem test_witness_laneTimersOfConnectionExpire_7 : ∃ (s : State) (n e : Nat), n < s.lanes.length ∧ (s.lane n).timer Tm.plug = some e ∧ e + 200 ≤ s.now ∧ (s.lane n).st = .unlock ∧ (s.lane n).pilot = .a ∧ (s.lane n).unlockDue = false ∧ (s.lane n).pulsing = false :=
  ⟨((wTimer 63 .ac1 .unlock 1).onLane 63 fun l => { l with pilot := .a }), (63), (5), by decide +kernel⟩

theorem test_witness_laneTimersOfConnectionExpire_8 : ∃ (s : State) (n e : Nat), n < s.lanes.length ∧ (s.lane n).timer Tm.plug = some e ∧ e + 200 ≤ s.now ∧ (s.lane n).st = .idle ∧ (s.lane n).pilot = .b ∧ (s.typ n).charges = true ∧ s.dieBad 13 = false ∧ s.isPending n = false :=
  ⟨((wTimer 63 .ac1 .idle 1).onLane 63 fun l => { l with pilot := .b }), (63), (5), by decide +kernel⟩

theorem test_witness_laneTimersOfConnectionExpire_9 : ∃ (s : State) (n e : Nat), n < s.lanes.length ∧ (s.lane n).timer Tm.settle = some e ∧ e + 200 ≤ s.now ∧ (s.lane n).st = .plugged :=
  ⟨(wTimer 63 .dcx .plugged 2), (63), (5), by decide +kernel⟩

theorem test_witness_laneTimersOfConnectionExpire_10 : ∃ (s : State) (n e : Nat), n < s.lanes.length ∧ (s.lane n).timer Tm.hostAuth = some e ∧ e + 200 ≤ s.now ∧ (s.lane n).st = .authorise ∧ (s.lane n).awaiting = true ∧ (s.lane n).held = none ∧ (s.lane n).authMode ≠ 3 :=
  ⟨((wTimer 63 .ac1 .authorise 3).onLane 63 fun l => { l with awaiting := true }), (63), (5), by decide +kernel⟩

theorem test_witness_laneTimersOfConnectionExpire_11 : ∃ (s : State) (n e : Nat), n < s.lanes.length ∧ (s.lane n).timer Tm.degraded = some e ∧ e + 200 ≤ s.now ∧ (s.lane n).st = .degraded :=
  ⟨(wTimer 63 .ac1 .degraded 9), (63), (5), by decide +kernel⟩

theorem test_witness_laneTimersOfConnectionExpire_12 : ∃ (s : State) (n e : Nat), n < s.lanes.length ∧ (s.lane n).timer Tm.preauth = some e ∧ e + 200 ≤ s.now :=
  ⟨(wTimer 63 .ac1 .idle 11), (63), (5), by decide +kernel⟩

theorem test_witness_laneRequestsMoveTheLane_1 : ∃ (s : State) (tk : Nat) (t : Ticket), s.ticket tk 0x0201 = some t ∧ s.nLanes > t.u 0 1 ∧ s.isPending (t.u 0 1) = false ∧ (s.typ (t.u 0 1)).charges = true ∧ (s.lane (t.u 0 1)).st ∈ [LState.idle, .plugged, .identify, .authorise] :=
  ⟨(wReq ((wTyp 63 .ac1).onLane 63 fun l => { l with st := .identify }) 0x0201 [63, 1, 2] .operator), (1), (wTk 0x0201 [63, 1, 2] .operator), by decide +kernel⟩

theorem test_witness_laneRequestsMoveTheLane_2 : ∃ (s : State) (tk : Nat) (t : Ticket), s.ticket tk 0x0202 = some t ∧ s.nLanes > t.u 0 1 ∧ s.isPending (t.u 0 1) = false ∧ (s.typ (t.u 0 1)).charges = true :=
  ⟨(wReq ((wTyp 63 .ac1).onLane 63 fun l => { l with st := .energy }) 0x0202 [63] .operator), (1), (wTk 0x0202 [63] .operator), by decide +kernel⟩

theorem test_witness_laneRequestsMoveTheLane_3 : ∃ (s : State) (tk : Nat) (t : Ticket), s.ticket tk 0x0203 = some t ∧ s.nLanes > t.u 0 1 ∧ s.isPending (t.u 0 1) = false ∧ (s.typ (t.u 0 1)).charges = true ∧ t.u 1 1 = 0 ∧ (s.lane (t.u 0 1)).st = .authorise ∧ (s.lane (t.u 0 1)).awaiting = true ∧ (s.lane (t.u 0 1)).late Tm.hostAuth t.acceptTime = false ∧ (t.u 2 4 = 0xFFFFFFFF ∨ (s.cell (t.u 2 4)).used = true) :=
  ⟨(wReq ((wTyp 63 .ac1).onLane 63 fun l => { l with st := .authorise, awaiting := true }) 0x0203 [63, 0, 0xFF, 0xFF, 0xFF, 0xFF] .operator), (1), (wTk 0x0203 [63, 0, 0xFF, 0xFF, 0xFF, 0xFF] .operator), by decide +kernel⟩

theorem test_witness_laneRequestsMoveTheLane_4 : ∃ (s : State) (tk : Nat) (t : Ticket), s.ticket tk 0x0203 = some t ∧ s.nLanes > t.u 0 1 ∧ s.isPending (t.u 0 1) = false ∧ (s.typ (t.u 0 1)).charges = true ∧ t.u 1 1 = 1 ∧ (s.lane (t.u 0 1)).st = .authorise ∧ (s.lane (t.u 0 1)).awaiting = true ∧ (s.lane (t.u 0 1)).late Tm.hostAuth t.acceptTime = false ∧ (t.u 2 4 = 0xFFFFFFFF ∨ (s.cell (t.u 2 4)).used = true) :=
  ⟨(wReq ((wTyp 63 .ac1).onLane 63 fun l => { l with st := .authorise, awaiting := true }) 0x0203 [63, 1, 0xFF, 0xFF, 0xFF, 0xFF] .operator), (1), (wTk 0x0203 [63, 1, 0xFF, 0xFF, 0xFF, 0xFF] .operator), by decide +kernel⟩

theorem test_witness_laneRequestsMoveTheLane_5 : ∃ (s : State) (tk : Nat) (t : Ticket), s.ticket tk 0x0204 = some t ∧ s.nLanes > t.u 0 1 ∧ s.isPending (t.u 0 1) = false ∧ (s.typ (t.u 0 1)).charges = true ∧ ((s.lane (t.u 0 1)).st = .energy ∨ (s.lane (t.u 0 1)).st = .suspended) :=
  ⟨(wReq ((wTyp 63 .ac1).onLane 63 fun l => { l with st := .suspended }) 0x0204 [63] .operator), (1), (wTk 0x0204 [63] .operator), by decide +kernel⟩

theorem test_witness_laneRequestsMoveTheLane_6 : ∃ (s : State) (tk : Nat) (t : Ticket), s.ticket tk 0x0205 = some t ∧ s.nLanes > t.u 0 1 ∧ s.isPending (t.u 0 1) = false ∧ (s.typ (t.u 0 1)).charges = true ∧ (s.lane (t.u 0 1)).suspHost = true :=
  ⟨(wReq ((wTyp 63 .ac1).onLane 63 fun l => { l with st := .suspended, suspHost := true }) 0x0205 [63] .operator), (1), (wTk 0x0205 [63] .operator), by decide +kernel⟩

theorem test_witness_laneRequestsMoveTheLane_7 : ∃ (s : State) (tk : Nat) (t : Ticket), s.ticket tk 0x0206 = some t ∧ s.nLanes > t.u 0 1 ∧ s.isPending (t.u 0 1) = false ∧ (s.typ (t.u 0 1)).charges = true ∧ (s.lane (t.u 0 1)).st = .fault ∧ ((s.lane (t.u 0 1)).causes.contains .weld = false ∨ t.role = .service) :=
  ⟨(wReq ((wTyp 63 .ac1).onLane 63 fun l => { l with st := .fault, causes := [.weld, .pilotFault] }) 0x0206 [63] .service), (1), (wTk 0x0206 [63] .service), by decide +kernel⟩

theorem test_witness_laneRequestsMoveTheLane_8 : ∃ (s : State) (tk : Nat) (t : Ticket), s.ticket tk 0x0207 = some t ∧ s.nLanes > t.u 0 1 ∧ s.isPending (t.u 0 1) = false ∧ (s.typ (t.u 0 1)).isLane = true ∧ ((s.lane (t.u 0 1)).st = .idle ∨ (s.lane (t.u 0 1)).st = .fault) :=
  ⟨(wReq ((wTyp 63 .ac1).onLane 63 fun l => { l with st := .fault }) 0x0207 [63] .operator), (1), (wTk 0x0207 [63] .operator), by decide +kernel⟩

theorem test_witness_laneRequestsMoveTheLane_9 : ∃ (s : State) (tk : Nat) (t : Ticket), s.ticket tk 0x0208 = some t ∧ s.nLanes > t.u 0 1 ∧ s.isPending (t.u 0 1) = false ∧ (s.typ (t.u 0 1)).isLane = true ∧ (s.lane (t.u 0 1)).st = .offline ∧ (s.lane (t.u 0 1)).enable = false :=
  ⟨(wReq ((wTyp 63 .ac1).onLane 63 fun l => { l with st := .offline, enable := false }) 0x0208 [63] .operator), (1), (wTk 0x0208 [63] .operator), by decide +kernel⟩

theorem test_witness_laneRequestsMoveTheLane_10 : ∃ (s : State) (tk : Nat) (t : Ticket), s.ticket tk 0x0209 = some t ∧ s.nLanes > t.u 0 1 ∧ s.isPending (t.u 0 1) = false ∧ (s.typ (t.u 0 1)).isLane = true :=
  ⟨(wReq (wTyp 63 .meter) 0x0209 [63] .operator), (1), (wTk 0x0209 [63] .operator), by decide +kernel⟩

theorem test_witness_pilotAndProximityMeasurements_1 : ∃ (s : State) (n : Nat) (pos neg : Option Int), n < s.hs.lanes.length ∧ measuredPilot (s.lane n).cp (s.lane n).pilot pos neg ≠ (s.lane n).pilot ∧ (s.hsl n).p.cand = none :=
  ⟨((wTyp 63 .ac1).onLane 63 fun l => { l with cp := .s12, pilot := .a }), (63), (some 9000), (none), by decide +kernel⟩

theorem test_witness_pilotAndProximityMeasurements_2 : ∃ (s : State) (n : Nat) (q : Pilot) (c : Nat), (s.hsl n).p.cand = some (q, c) ∧ c + ms 1 ≤ s.now ∧ ((s.lane n).pilot == .a && q == .b && (s.typ n).charges) = false :=
  ⟨(wAt ((wTyp 63 .ac1).onPilot 63 fun p => { p with cand := some (.c, 0) }) 1000000), (63), (.c), (0), by decide +kernel⟩

theorem test_witness_pilotAndProximityMeasurements_3 : ∃ (s : State) (n c : Nat), (s.hsl n).p.cand = some (.b, c) ∧ c + ms 1 ≤ s.now ∧ (s.lane n).pilot = .a ∧ (s.typ n).charges = true :=
  ⟨(wAt (((wTyp 63 .ac1).onPilot 63 fun p => { p with cand := some (.b, 0) }).onLane 63 fun l => { l with pilot := .a }) 1000000), (63), (0), by decide +kernel⟩

theorem test_witness_pilotAndProximityMeasurements_4 : ∃ (s : State) (n : Nat) (m : CpMode) (d e : Nat), (s.lane n).cpNext = some (m, d, e) ∧ e ≤ s.now :=
  ⟨((wTyp 63 .ac1).onLane 63 fun l => { l with cpNext := some (.s5, 50, 0) }), (63), (.s5), (50), (0), by decide +kernel⟩

theorem test_witness_pilotAndProximityMeasurements_5 : ∃ (s : State) (n : Nat), (s.hsl n).p.folded = false :=
  ⟨(State.reset), (63), by decide +kernel⟩

theorem test_witness_pilotAndProximityMeasurements_6 : ∃ (s : State) (n : Nat) (b : Bool), (s.hsl n).p.folded = true ∧ (s.hsl n).p.testAt ≤ s.now :=
  ⟨(State.reset.onPilot 63 fun p => { p with folded := true }), (63), (true), by decide +kernel⟩

theorem test_witness_pilotAndProximityMeasurements_7 : ∃ (s : State) (n r : Nat), (s.slot n).connector ≠ 0 ∧ (s.typ n).charges = true ∧ (s.lane n).st = .idle ∧ r ≤ 10000 :=
  ⟨((wCfg { slots := [{ slot := 63, typ := .ac1, connector := 2 }] }).onLane 63 fun l => { l with st := .idle }), (63), (10000), by decide +kernel⟩

theorem test_witness_pilotAndProximityMeasurements_8 : ∃ (s : State) (n k e : Nat), n < s.hs.lanes.length ∧ (s.hsl n).p.ppPend = some (k, e) ∧ e + ms 20 ≤ s.now ∧ k ≠ 7 ∧ LState.between .identify .suspended (s.lane n).st = false :=
  ⟨(wAt (State.reset.onPilot 63 fun p => { p with ppPend := some (2, 0) }) 20000000), (63), (2), (0), by decide +kernel⟩

theorem test_witness_pilotAndProximityMeasurements_9 : ∃ (s : State) (n k e : Nat), (s.hsl n).p.ppPend = some (k, e) ∧ e + ms 20 ≤ s.now ∧ 1 ≤ k ∧ k ≤ 4 ∧ (s.hsl n).p.ppRating = 0 ∧ LState.between .identify .suspended (s.lane n).st = true :=
  ⟨(wAt ((State.reset.onPilot 63 fun p => { p with ppPend := some (2, 0) }).onLane 63 fun l => { l with st := .energy }) 20000000), (63), (2), (0), by decide +kernel⟩

theorem test_witness_faultEndsAndGuardReturns_1 : ∃ (s : State) (n : Nat), n < s.lanes.length ∧ (s.lane n).st = .fault ∧ (s.lane n).causes = [] ∧ (s.ppl n).outSrc = 0 ∧ s.typ n ≠ .meter ∧ s.belowFor n (sec 1) = true ∧ (s.lane n).pulsing = false ∧ (s.lane n).unlockDue = false ∧ (s.lane n).pilot = .a ∧ (s.lane n).pilotA = some 0 ∧ ms 10 ≤ s.now :=
  ⟨(wAt (((wTyp 63 .ac1).onLane 63 fun l => { l with st := .fault, pilot := .a, pilotA := some 0 }).onPp 63 fun p => { p with belowSince := some 0 }) 1000000000), (63), by decide +kernel⟩

theorem test_witness_faultEndsAndGuardReturns_2 : ∃ (s : State) (n : Nat), (s.settleOutput n).lane n = s.lane n ∧ (s.lane n).st = .fault ∧ (s.lane n).cp = .f ∧ (s.settleOutput n).faultClear n = true ∧ (s.settleOutput n).typ n ≠ .meter :=
  ⟨(wAt (((wTyp 63 .ac1).onLane 63 fun l => { l with st := .fault, cp := .f }).onPp 63 fun p => { p with belowSince := some 0 }) 1000000000), (63), by decide +kernel⟩

theorem test_witness_faultEndsAndGuardReturns_3 : ∃ (s : State) (n e : Nat), (s.lane n).st = .fault ∧ (s.lane n).cp = .s12 ∧ (s.lane n).pilotABC = some e ∧ e + sec 1 ≤ s.now :=
  ⟨(wAt ((wTyp 63 .ac1).onLane 63 fun l => { l with st := .fault, cp := .s12, pilotABC := some 0, causes := [.pilotFault] }) 1000000000), (63), (0), by decide +kernel⟩

theorem test_witness_faultEndsAndGuardReturns_4 : ∃ (s : State) (n : Nat), (s.lane n).guardHeld = true ∧ s.energyGuard n = true ∧ (s.lane n).st = .negotiate :=
  ⟨(((wTyp 63 .ac1).onLane 63 fun l => { l with st := .negotiate, guardHeld := true }).onGrv (fun v => { v with permit := 1 }) |> fun s => { s with sf := { s.sf with guardTested := true, groupGrant := 1 } }), (63), by decide +kernel⟩

theorem test_witness_faultEndsAndGuardReturns_5 : ∃ (s : State) (n e : Nat), (s.lane n).acOpenDue = some e ∧ e ≤ s.now ∧ (s.lane n).st = .suspended :=
  ⟨((wTyp 63 .ac1).onLane 63 fun l => { l with st := .suspended, acOpenDue := some 0 }), (63), (0), by decide +kernel⟩

theorem test_witness_faultEndsAndGuardReturns_6 : ∃ (s : State) (n k e : Nat) (b : Bool), (k, e) ∈ (s.lane n).holds ∧ e + 200 ≤ s.now :=
  ⟨(wAt ((wTyp 63 .ac1).onLane 63 fun l => { l with holds := [(2, 5)] }) 205), (63), (2), (5), (false), by decide +kernel⟩

theorem test_witness_faultEndsAndGuardReturns_7 : ∃ (s : State) (n e k : Nat) (b : Bool), (s.lane n).timer Tm.lockPulse = some e ∧ e + 200 ≤ s.now ∧ (s.lane n).st = .openCheck ∧ s.chanOf n 5 = some k ∧ s.lockInput n = none ∧ (s.ppl n).relock = false :=
  ⟨(wAt ((wCfg { slots := [{ slot := 63, typ := .ac1, connector := 2 }], outputs := [{ output := 127, owner := 0x103F, func := 5 }] }).onLane 63 fun l => { l with st := .openCheck, timers := [(12, 5)] }) 205), (63), (5), (127), (true), by decide +kernel⟩

theorem test_witness_slacRunsAssociateOneLane_1 : ∃ (s : State) (id mac : Nat) (heard : List Nat), (((List.range 64).filter fun n => s.slacCandidate n heard) ≠ []) :=
  ⟨(((wTyp 63 .ac1).onLane 63 fun l => { l with st := .plugged, hlc := true, pilot := .b }).onLink 63 fun h => { h with windowStart := some 0 }), (9), (3), ([63]), by decide +kernel⟩

theorem test_witness_slacRunsAssociateOneLane_2 : ∃ (s : State) (id : Nat) (r : Slac), s.run id = some r ∧ r.firstAt = none :=
  ⟨(({ State.reset with hs := { State.reset.hs with runs := [{ runId := 9 }] } } : State)), (9), ({ runId := 9 }), by decide +kernel⟩

theorem test_witness_slacRunsAssociateOneLane_3 : ∃ (s : State) (id e : Nat) (att : List Nat) (r : Slac), s.run id = some r ∧ r.firstAt = some e ∧ r.sounds < 10 ∧ s.now < e + ms 600 ∧ r.chosen = none :=
  ⟨(({ State.reset with hs := { State.reset.hs with runs := [{ runId := 9, firstAt := some 0, sounds := 9 }] } } : State)), (9), (0), ([]), ({ runId := 9, firstAt := some 0, sounds := 9 }), by decide +kernel⟩

theorem test_witness_slacRunsAssociateOneLane_4 : ∃ (s : State) (id e : Nat) (r : Slac), s.run id = some r ∧ r.firstAt = some e ∧ r.chosen = none ∧ (r.sounds = 10 ∨ e + ms 600 ≤ s.now) :=
  ⟨(({ State.reset with hs := { State.reset.hs with runs := [{ runId := 9, mac := 3, cands := [5, 63], firstAt := some 0, sounds := 10, att := List.replicate 64 600 }] } } : State)), (9), (0), ({ runId := 9, mac := 3, cands := [5, 63], firstAt := some 0, sounds := 10, att := List.replicate 64 600 }), by decide +kernel⟩

theorem test_witness_slacRunsAssociateOneLane_5 : (2 : Nat) < 3 := by decide

theorem test_witness_slacRunsAssociateOneLane_6 : ∃ (s : State) (id n v : Nat) (r : Slac), s.run id = some r ∧ r.chosen = some n :=
  ⟨(({ State.reset with hs := { State.reset.hs with runs := [{ runId := 9, mac := 3, cands := [5, 63], firstAt := some 0, sounds := 10, att := List.replicate 64 600, chosen := some 63 }] } } : State)), (9), (63), (4), ({ runId := 9, mac := 3, cands := [5, 63], firstAt := some 0, sounds := 10, att := List.replicate 64 600, chosen := some 63 }), by decide +kernel⟩

theorem test_witness_slacRunsAssociateOneLane_7 : ∃ (s : State) (id n : Nat) (r : Slac), n < s.hs.lanes.length ∧ s.run id = some r ∧ r.chosen = some n ∧ s.kv.rngFail = false :=
  ⟨(({ State.reset with hs := { State.reset.hs with runs := [{ runId := 9, mac := 3, cands := [5, 63], firstAt := some 0, sounds := 10, att := List.replicate 64 600, chosen := some 63 }] } } : State)), (9), (63), ({ runId := 9, mac := 3, cands := [5, 63], firstAt := some 0, sounds := 10, att := List.replicate 64 600, chosen := some 63 }), by decide +kernel⟩

theorem test_witness_handshakeLinkAndSessionEnds_1 : ∃ (s : State) (die n e : Nat) (heard : List (Nat × Nat)), (strongest (heard.filter fun x => s.hears x.1 && x.1 / 32 == die) = some n) ∧ s.freeEngine die n = some e :=
  ⟨(wLane 63 .ac1 .idle), (1), (63), (8), ([(63, 9)]), by decide +kernel⟩

theorem test_witness_handshakeLinkAndSessionEnds_3 : ∃ (s : State) (n w : Nat), (s.hsl n).l.windowStart = some w ∧ (s.hsl n).l.assoc ≠ 3 ∧ (s.lane n).hlc = true ∧ w + sec s.cfg.window ≤ s.now ∧ LState.between .plugged .negotiate (s.lane n).st = true ∧ (s.typ n).isAc = false :=
  ⟨(wAt (((wTyp 63 .dcx).onLane 63 fun l => { l with st := .negotiate, hlc := true }).onLink 63 fun h => { h with windowStart := some 0 }) 30000000000), (63), (0), by decide +kernel⟩

theorem test_witness_handshakeLinkAndSessionEnds_4 : ∃ (s : State) (n w : Nat), (s.hsl n).l.windowStart = some w ∧ (s.hsl n).l.assoc ≠ 3 ∧ (s.lane n).hlc = true ∧ w + sec s.cfg.window ≤ s.now ∧ LState.between .plugged .negotiate (s.lane n).st = true ∧ (s.typ n).isAc = true ∧ (s.hsl n).l.tFallback = true :=
  ⟨(wAt (((wTyp 63 .ac1).onLane 63 fun l => { l with st := .plugged, hlc := true }).onLink 63 fun h => { h with windowStart := some 0 }) 30000000000), (63), (0), by decide +kernel⟩

theorem test_witness_handshakeLinkAndSessionEnds_5 : ∃ (s : State) (n e : Nat), (s.hsl n).l.fallbackEnd = some e ∧ e ≤ s.now ∧ (s.lane n).st = .negotiate :=
  ⟨((wLane 63 .ac1 .negotiate).onLink 63 fun h => { h with fallbackEnd := some 0 }), (63), (0), by decide +kernel⟩

theorem test_witness_handshakeLinkAndSessionEnds_6 : ∃ (s : State) (n : Nat), (s.lane n).hlc = true ∧ (s.hsl n).l.assoc = 3 ∧ (s.lane n).st = .energy :=
  ⟨(((wLane 63 .dcx .energy).onLane 63 fun l => { l with hlc := true }).onLink 63 fun h => { h with assoc := 3 }), (63), by decide +kernel⟩

theorem test_witness_handshakeLinkAndSessionEnds_7 : ∃ (s : State) (n : Nat), (s.lane n).hlc = true ∧ (s.hsl n).l.assoc = 3 ∧ (s.lane n).st = .negotiate :=
  ⟨(((wLane 63 .dcx .negotiate).onLane 63 fun l => { l with hlc := true }).onLink 63 fun h => { h with assoc := 3 }), (63), by decide +kernel⟩

theorem test_witness_handshakeLinkAndSessionEnds_8 : ∃ (s : State) (n : Nat) (b : Bool), (s.hsl n).l.assoc = 3 :=
  ⟨(State.reset.onLink 63 fun h => { h with assoc := 3 }), (63), (true), by decide +kernel⟩

theorem test_witness_handshakeLinkAndSessionEnds_9 : ∃ (s : State) (n version node : Nat), n < s.hs.lanes.length ∧ (s.hsl n).l.assoc = 3 ∧ s.isOrphan node = false ∧ s.kv.rngFail = false ∧ version = 3 :=
  ⟨(State.reset.onLink 63 fun h => { h with assoc := 3 }), (63), (3), (0), by decide +kernel⟩

theorem test_witness_handshakeLinkAndSessionEnds_10 : ∃ (s : State) (n node a g : Nat), (s.hsl n).l.assoc = 3 ∧ s.isOrphan node = false :=
  ⟨(State.reset.onLink 63 fun h => { h with assoc := 3 }), (63), (0), (42), (2), by decide +kernel⟩

theorem test_witness_handshakeLinkAndSessionEnds_11 : ∃ (s : State) (n e : Nat), (s.hsl n).l.setupEnd = some e ∧ e + 200 ≤ s.now :=
  ⟨(wAt (State.reset.onLink 63 fun h => { h with setupEnd := some 0 }) 200), (63), (0), by decide +kernel⟩

theorem test_witness_handshakeLinkAndSessionEnds_12 : ∃ (s : State) (n e : Nat), (s.hsl n).l.seqEnd = some e ∧ e + 200 ≤ s.now :=
  ⟨(wAt (State.reset.onLink 63 fun h => { h with seqEnd := some 0 }) 200), (63), (0), by decide +kernel⟩

theorem test_witness_vehicleRequestsAreAnswered_1 : ∃ (s : State) (n stamp : Nat) (r : V2gReq), (s.hsl n).l.isOpen = true ∧ (s.hsl n).l.seqEnd = none ∧ (s.lane n).st ≠ .fault ∧ r.inSequence (s.lane n).st (s.hsl n).l.proto (s.typ n).isAc = true :=
  ⟨((wLane 63 .dcx .negotiate).onLink 63 fun h => { h with isOpen := true, proto := 2 }), (63), (0), (.cableCheck), by decide +kernel⟩

theorem test_witness_vehicleRequestsAreAnswered_2 : ∃ (s : State) (n stamp : Nat) (r : V2gReq), (s.hsl n).l.isOpen = true ∧ (s.hsl n).l.seqEnd = none ∧ (s.lane n).st ≠ .fault ∧ r.inSequence (s.lane n).st (s.hsl n).l.proto (s.typ n).isAc = false :=
  ⟨((wLane 63 .dcx .negotiate).onLink 63 fun h => { h with isOpen := true, proto := 2 }), (63), (0), (.other), by decide +kernel⟩

theorem test_witness_vehicleRequestsAreAnswered_3 : ∃ (s : State) (n stamp : Nat) (r : V2gReq), (s.hsl n).l.isOpen = true ∧ (s.hsl n).l.seqEnd = none ∧ (s.lane n).st = .fault ∧ r ≠ .sessionStop :=
  ⟨((wLane 63 .dcx .fault).onLink 63 fun h => { h with isOpen := true, proto := 2 }), (63), (0), (.other), by decide +kernel⟩

theorem test_witness_vehicleRequestsAreAnswered_4 : ∃ (s : State) (n stamp e : Nat) (r : V2gReq), (s.hsl n).l.seqEnd = some e ∧ e < stamp :=
  ⟨(State.reset.onLink 63 fun h => { h with seqEnd := some 0 }), (63), (1), (0), (.other), by decide +kernel⟩

theorem test_witness_vehicleRequestsAreAnswered_5 : ∃ (s : State) (n : Nat), n < s.hs.lanes.length ∧ (s.hsl n).l.assoc = 3 ∧ (s.typ n).isDc = true ∧ (s.hsl n).l.tls = false ∧ bit (s.hsl n).l.tProto 0 = true :=
  ⟨((wTyp 63 .dcx).onLink 63 fun h => { h with assoc := 3 }), (63), by decide +kernel⟩

theorem test_witness_vehicleRequestsAreAnswered_6 : ∃ (s : State) (n kind : Nat) (exi : Bytes), (s.hsl n).l.isOpen = true :=
  ⟨(State.reset.onLink 63 fun h => { h with isOpen := true }), (63), (1), ([1]), by decide +kernel⟩

theorem test_witness_vehicleRequestsAreAnswered_7 : ∃ (s : State) (ref : Nat) (c : CertReq), s.certReq ref = some c ∧ c.arrived + sec 4 + 200 ≤ s.now :=
  ⟨(wAt ({ State.reset with hs := { State.reset.hs with certs := [{ ref := 5, lane := 63 }] } } : State) 4000000200), (5), ({ ref := 5, lane := 63 }), by decide +kernel⟩

theorem test_witness_vehicleRequestsAreAnswered_8 : ∃ (s : State) (tk : Nat) (t : Ticket) (c : CertReq), s.ticket tk 0x0213 = some t ∧ s.certReq (t.u 0 4) = some c ∧ t.u 4 1 = 0 ∧ t.acceptTime ≤ c.arrived + sec 4 :=
  ⟨(wReq (({ State.reset with hs := { State.reset.hs with certs := [{ ref := 5, lane := 63 }] } } : State)) 0x0213 [5, 0, 0, 0, 0, 9] .operator), (1), (wTk 0x0213 [5, 0, 0, 0, 0, 9] .operator), ({ ref := 5, lane := 63 }), by decide +kernel⟩

theorem test_witness_vehicleRequestsAreAnswered_9 : ∃ (s : State) (tk : Nat) (t : Ticket) (c : CertReq), s.ticket tk 0x0212 = some t ∧ s.certReq (t.u 0 4) = some c :=
  ⟨(wReq (({ State.reset with hs := { State.reset.hs with certs := [{ ref := 5, lane := 63 }] } } : State)) 0x0212 [5, 0, 0, 0] .operator), (1), (wTk 0x0212 [5, 0, 0, 0] .operator), ({ ref := 5, lane := 63 }), by decide +kernel⟩

theorem test_witness_vehicleRequestsAreAnswered_10 : ∃ (s : State) (tk : Nat) (t : Ticket), s.ticket tk 0x0210 = some t ∧ s.nLanes > t.u 0 1 ∧ (s.typ (t.u 0 1)).charges = true :=
  ⟨(wReq (wTyp 63 .ac1) 0x0210 [63] .reader), (1), (wTk 0x0210 [63] .reader), by decide +kernel⟩

theorem test_witness_vehicleRequestsAreAnswered_11 : ∃ (s : State) (tk : Nat) (t : Ticket), s.ticket tk 0x0211 = some t ∧ s.nLanes > t.u 0 1 ∧ (s.typ (t.u 0 1)).charges = true ∧ t.u 0 1 ≠ 0xFF :=
  ⟨(wReq (wTyp 63 .ac1) 0x0211 [63] .operator), (1), (wTk 0x0211 [63] .operator), by decide +kernel⟩

theorem test_witness_vehicleRequestsAreAnswered_12 : ∃ (s : State) (tk : Nat) (t : Ticket), s.ticket tk 0x0211 = some t ∧ t.u 0 1 = 0xFF :=
  ⟨(wReq (State.reset) 0x0211 [0xFF] .operator), (1), (wTk 0x0211 [0xFF] .operator), by decide +kernel⟩

theorem test_witness_contactorsAndCableCheck_1 : ∃ (s : State) (n : Nat), (s.lane n).st = .isolationTest ∧ (s.ppl n).phase = 1 ∧ (s.ppl n).phaseAt + ms 20 ≤ s.now :=
  ⟨(wAt ((wLane 63 .dcx .isolationTest).onPp 63 fun p => { p with phase := 1 }) 20000000), (63), by decide +kernel⟩

theorem test_witness_contactorsAndCableCheck_2 : ∃ (s : State) (n : Nat), (s.lane n).st = .isolationTest ∧ ((s.ppl n).phase = 3 ∨ (s.ppl n).phase = 4) ∧ (s.lane n).uOut < 200 :=
  ⟨((wLane 63 .dcx .isolationTest).onPp 63 fun p => { p with phase := 4 }), (63), by decide +kernel⟩

theorem test_witness_contactorsAndCableCheck_3 : ∃ (s : State) (n e : Nat), n < s.pp.lanes.length ∧ (s.ppl n).confEnd = some (1, e) ∧ s.now ≤ e ∧ s.confirms n 1 = true :=
  ⟨((wLane 63 .dcx .energy).onPp 63 fun p => { p with confEnd := some (1, 9) }), (63), (9), by decide +kernel⟩

theorem test_witness_contactorsAndCableCheck_4 : ∃ (s : State) (n e : Nat), (s.ppl n).confEnd = some (4, e) ∧ s.now ≤ e ∧ s.confirms n 4 = true :=
  ⟨((wLane 63 .ac1 .energy).onPp 63 fun p => { p with confEnd := some (4, 9) }), (63), (9), by decide +kernel⟩

theorem test_witness_contactorsAndCableCheck_5 : ∃ (s : State) (n fn e : Nat), (s.ppl n).confEnd = some (fn, e) ∧ e ≤ s.now :=
  ⟨((wLane 63 .dcx .energy).onPp 63 fun p => { p with confEnd := some (1, 0) }), (63), (1), (0), by decide +kernel⟩

theorem test_witness_contactorsAndCableCheck_6 : ∃ (s : State) (n e : Nat), (s.ppl n).preOpenDue = some e ∧ e ≤ s.now :=
  ⟨((wLane 63 .dcx .energy).onPp 63 fun p => { p with preOpenDue := some 0 }), (63), (0), by decide +kernel⟩

theorem test_witness_contactorsAndCableCheck_7 : ∃ (s : State) (n e : Nat), (s.ppl n).pdSince = some e ∧ e + ms 150 ≤ s.now :=
  ⟨(wAt ((wLane 63 .dcx .precharge).onPp 63 fun p => { p with pdSince := some 0 }) 150000000), (63), (0), by decide +kernel⟩

theorem test_witness_contactorsAndCableCheck_8 : ∃ (s : State) (n e : Nat), (s.ppl n).dcnegDue = some e ∧ e ≤ s.now :=
  ⟨((wLane 63 .dcx .openCheck).onPp 63 fun p => { p with dcnegDue := some 0 }), (63), (0), by decide +kernel⟩

theorem test_witness_contactorsAndCableCheck_9 : ∃ (s : State) (n : Nat), n < s.lanes.length ∧ ((s.lane n).timer Tm.weld).isSome = true ∧ (s.ppl n).belowSince.isSome = true ∧ (s.lane n).st = .openCheck ∧ (s.lane n).causes = [] :=
  ⟨(((wTyp 63 .dcx).onLane 63 fun l => { l with st := .openCheck, timers := [(8, 9)] }).onPp 63 fun p => { p with belowSince := some 0 }), (63), by decide +kernel⟩

theorem test_witness_contactorsAndCableCheck_10 : ∃ (s : State) (n : Nat), (s.lane n).unlockDue = true ∧ s.unlockGuard n = true ∧ (s.lane n).pulsing = false ∧ (s.lane n).st ≠ .fault ∧ (s.ppl n).lockPos = true :=
  ⟨(wAt (((wTyp 63 .ac1).onLane 63 fun l => { l with st := .unlock, unlockDue := true }).onPp 63 fun p => { p with belowSince := some 0, lockPos := true }) 10000000), (63), by decide +kernel⟩

theorem test_witness_lockDirectionAndController_1 : ∃ (s : State) (n e : Nat), (s.ppl n).lockWin = some e ∧ (s.ppl n).feedbackFits = true :=
  ⟨((wLane 63 .ac1 .plugged).onPp 63 fun p => { p with lockWin := some 0, lockAct := 1, feedback := true }), (63), (0), by decide +kernel⟩

theorem test_witness_lockDirectionAndController_2 : ∃ (s : State) (n e : Nat), (s.ppl n).lockWin = some e ∧ (s.ppl n).feedbackFits = false ∧ e ≤ s.now :=
  ⟨((wLane 63 .ac1 .plugged).onPp 63 fun p => { p with lockWin := some 0, lockAct := 1 }), (63), (0), by decide +kernel⟩

theorem test_witness_lockDirectionAndController_3 : ∃ (s : State) (n e : Nat), (s.ppl n).lockRetry = some e ∧ e ≤ s.now ∧ (s.lane n).st = .plugged ∧ (s.lane n).pulsing = false :=
  ⟨((wLane 63 .ac1 .plugged).onPp 63 fun p => { p with lockRetry := some 0 }), (63), (0), by decide +kernel⟩

theorem test_witness_lockDirectionAndController_4 : ∃ (s : State) (n e : Nat), (s.ppl n).unlockRetry = some e ∧ e ≤ s.now ∧ (s.lane n).st = .unlock ∧ (s.lane n).pulsing = false ∧ s.unlockGuard n = true :=
  ⟨(wAt ((wLane 63 .ac1 .unlock).onPp 63 fun p => { p with unlockRetry := some 0, belowSince := some 0 }) 10000000), (63), (0), by decide +kernel⟩

theorem test_witness_lockDirectionAndController_5 : ∃ (s : State) (n : Nat), (s.lockInput n).isSome = true ∧ (s.ppl n).feedback = false ∧ (s.ppl n).cLock = true ∧ LState.between .identify .suspended (s.lane n).st = true ∧ (s.lane n).pulsing = false :=
  ⟨(((wCfg { slots := [{ slot := 63, typ := .ac1 }], pulses := [{ input := 31, owner := 0x103F, flags := 1 }] }).onLane 63 fun l => { l with st := .energy }).onPp 63 fun p => { p with cLock := true }), (63), by decide +kernel⟩

theorem test_witness_lockDirectionAndController_6 : ∃ (s : State) (n e : Nat), (s.ppl n).dirHold = some e ∧ e ≤ s.now :=
  ⟨((wLane 63 .dcb .energy).onPp 63 fun p => { p with dirHold := some 0, dirTarget := 2 }), (63), (0), by decide +kernel⟩

theorem test_witness_lockDirectionAndController_9 : ∃ (s : State) (k : Nat), s.canFree k = true :=
  ⟨(State.reset), (3), by decide +kernel⟩

theorem test_witness_lockDirectionAndController_10 : ∃ (s : State) (tk : Nat) (t : Ticket), s.ticket tk 0x0220 = some t ∧ s.nLanes > t.u 0 1 ∧ (s.typ (t.u 0 1)).charges = true :=
  ⟨(wReq (wTyp 63 .ac1) 0x0220 [63] .reader), (1), (wTk 0x0220 [63] .reader), by decide +kernel⟩

theorem test_witness_lockDirectionAndController_11 : ∃ (s : State) (tk : Nat) (t : Ticket), s.ticket tk 0x0221 = some t ∧ s.nLanes > t.u 0 1 ∧ (s.typ (t.u 0 1)).charges = true ∧ t.u 0 1 ≠ 0xFF :=
  ⟨(wReq (wTyp 63 .ac1) 0x0221 [63] .operator), (1), (wTk 0x0221 [63] .operator), by decide +kernel⟩

theorem test_witness_lockDirectionAndController_12 : ∃ (s : State) (tk : Nat) (t : Ticket), s.ticket tk 0x0221 = some t ∧ t.u 0 1 = 0xFF :=
  ⟨(wReq (State.reset) 0x0221 [0xFF] .operator), (1), (wTk 0x0221 [0xFF] .operator), by decide +kernel⟩

theorem test_witness_setpointsAndFeedback_1 : ∃ (s : State) (n k : Nat) (e : CanEnt), s.pathOf n = some k ∧ k < 4 ∧ (s.lane n).st ≠ .offline ∧ (s.ppl n).spTx.sentAt + s.periodOf n ≤ s.now ∧ s.canEnt n 0 = some e ∧ e.dlc ≠ 8 ∧ (s.can k).enable = true ∧ (s.can k).isOff = false ∧ n < s.pp.lanes.length :=
  ⟨(wAt (((wCfg { slots := [{ slot := 63, typ := .dcx, group := 0 }], groups := [{ group := 0, path := 2 }], cans := [{ resource := 5, owner := 0x103F, role := 0 }, { resource := 6, owner := 0x103F, role := 1 }] }).onLane 63 fun l => { l with st := .energy }).onCan 2 fun c => { c with enable := true }) 10000000), (63), (2), ({ resource := 5, owner := 0x103F, role := 0 }), by decide +kernel⟩

theorem test_witness_setpointsAndFeedback_2 : ∃ (s : State) (n k : Nat) (b : Bytes) (e : CanEnt), s.canEnt n 1 = some e ∧ (s.typ n).isDc = true ∧ s.pathOf n = some k ∧ k < 4 ∧ (s.can k).enable = true :=
  ⟨(((wCfg { slots := [{ slot := 63, typ := .dcx, group := 0 }], groups := [{ group := 0, path := 2 }], cans := [{ resource := 5, owner := 0x103F, role := 0 }, { resource := 6, owner := 0x103F, role := 1 }] }).onLane 63 fun l => { l with st := .energy }).onCan 2 fun c => { c with enable := true }), (63), (2), ([]), ({ resource := 6, owner := 0x103F, role := 1 }), by decide +kernel⟩

theorem test_witness_setpointsAndFeedback_3 : fbCrcOk false [] = false := by decide

theorem test_witness_setpointsAndFeedback_4 : (fun (s : State) n (b : Bytes) => n < s.pp.lanes.length ∧ fbCrcOk false b = true ∧ (s.ppl n).fb.atT = none ∧ leNat (sub b 1 1) = 2) State.reset 63 ([1, 2] ++ List.replicate 12 0 ++ leBytes 2 (crc16 ([1, 2] ++ List.replicate 12 0))) := by decide +kernel

theorem test_witness_setpointsAndFeedback_5 : ∃ (s : State) (n k : Nat), s.pathOf n = some k ∧ LState.between .isolationTest .suspended (s.lane n).st = true ∧ (s.ppl n).fb.lost = false ∧ max ((s.ppl n).fb.atT.getD 0) (s.ppl n).isoAt + s.fbTimeout n ≤ s.now :=
  ⟨(wAt ((wCfg { slots := [{ slot := 63, typ := .dcx, group := 0 }], groups := [{ group := 0, path := 2 }], cans := [{ resource := 5, owner := 0x103F, role := 0 }, { resource := 6, owner := 0x103F, role := 1 }] }).onLane 63 fun l => { l with st := .energy }) 50000000), (63), (2), by decide +kernel⟩

theorem test_witness_sharingRoundsAndTimedChanges_2 : ∃ (s : State) (t0 : Nat) (lvl : Bool), (lvl == s.ps.glim0Pol) = true ∧ s.ps.glim0Act = false ∧ t0 + ms 1 ≤ s.now :=
  ⟨(wAt (({ State.reset with ps := { State.reset.ps with glim0Pol := true } } : State)) 1000000), (0), (true), by decide +kernel⟩

theorem test_witness_sharingRoundsAndTimedChanges_3 : ∃ (s : State) (t0 : Nat) (lvl : Bool), (lvl == s.ps.glim1Pol) = false ∧ s.ps.glim1Act = true ∧ t0 + ms 1 ≤ s.now :=
  ⟨(wAt (({ State.reset with ps := { State.reset.ps with glim1Act := true, glim1Pol := true } } : State)) 1000000), (0), (false), by decide +kernel⟩

theorem test_witness_sharingRoundsAndTimedChanges_4 : ∃ (s : State) (src scope : Nat) (r : Release), ((s.ps.releases.find? fun r => r.source == src && r.scope == scope && !r.ended) = some r) ∧ r.until_ ≤ s.now :=
  ⟨(({ State.reset with ps := { State.reset.ps with releases := [{ source := 2, scope := 0xFF, limit := 5, until_ := 0, hold := 9 }] } } : State)), (2), (0xFF), ({ source := 2, scope := 0xFF, limit := 5, until_ := 0, hold := 9 }), by decide +kernel⟩

theorem test_witness_sharingRoundsAndTimedChanges_5 : ∃ (s : State) (scope e : Nat) (c : Curtail), ((s.ps.curtails.find? fun c => c.scope == scope) = some c) ∧ c.endLegal = some e ∧ e ≤ s.legalSec :=
  ⟨(({ State.reset with ps := { State.reset.ps with curtails := [{ scope := 3, limit := 5, endLegal := some 0 }] } } : State)), (3), (0), ({ scope := 3, limit := 5, endLegal := some 0 }), by decide +kernel⟩

theorem test_witness_sharingRoundsAndTimedChanges_6 : ∃ (s : State) (e : Nat) (d : Dispatch), s.ps.dispatch = some d ∧ d.until_ = some e ∧ e ≤ s.now :=
  ⟨(({ State.reset with ps := { State.reset.ps with dispatch := some { mask := 1, target := 5, until_ := some 0 } } } : State)), (0), ({ mask := 1, target := 5, until_ := some 0 }), by decide +kernel⟩

theorem test_witness_sharingRoundsAndTimedChanges_7 : ∃ (s : State), s.hubMember = true ∧ s.ps.fallback = false ∧ s.ps.grantFrom + sec 3 ≤ s.now :=
  ⟨(wAt ({ State.reset with kz := { State.reset.kz with enable := true, joined := true } } : State) 3000000000), by decide +kernel⟩

theorem test_witness_sharingRoundsAndTimedChanges_8 : ∃ (s : State) (a : Nat) (r : HubRep), ((s.ps.reports.find? fun r => r.addr == a) = some r) ∧ s.kz.master = true ∧ r.absent = false ∧ r.atT + sec 3 ≤ s.now :=
  ⟨(wAt ({ State.reset with kz := { State.reset.kz with master := true }, ps := { State.reset.ps with reports := [{ addr := 7 }] } } : State) 3000000000), (7), ({ addr := 7 }), by decide +kernel⟩

theorem test_witness_sharingRoundsAndTimedChanges_9 : ∃ (s : State) (n e ref per c : Nat), n < s.ps.lanes.length ∧ s.lineRef = some (ref, per) ∧ (s.typ n).isAc = true ∧ (s.psl n).acSince = some c ∧ s.now ≤ c + ms 200 :=
  ⟨(({ wTyp 63 .ac1 with kz := { State.reset.kz with zcValid := true, zcAt := some 0, zcPers := [20000000] }, ps := { State.reset.ps with lanes := State.reset.ps.lanes.map fun q => { q with acSince := some 0 } } } : State)), (63), (0), (0), (20000000), (0), by decide +kernel⟩

theorem test_witness_sharingRequests_1 : ∃ (s : State) (tk : Nat) (t : Ticket), s.ticket tk 0x0301 = some t ∧ t.u 0 1 = 0xFF :=
  ⟨(wReq (State.reset) 0x0301 [0xFF, 9] .operator), (1), (wTk 0x0301 [0xFF, 9] .operator), by decide +kernel⟩

theorem test_witness_sharingRequests_2 : ∃ (s : State) (tk : Nat) (t : Ticket) (c : Curtail), s.ticket tk 0x0302 = some t ∧ ((s.ps.curtails.find? fun c => c.scope == t.u 0 1) = some c) :=
  ⟨(wReq (({ State.reset with ps := { State.reset.ps with curtails := [{ scope := 3, limit := 5 }] } } : State)) 0x0302 [3] .operator), (1), (wTk 0x0302 [3] .operator), ({ scope := 3, limit := 5 }), by decide +kernel⟩

theorem test_witness_sharingRequests_3 : ∃ (s : State) (tk : Nat) (t : Ticket), s.ticket tk 0x0303 = some t ∧ (((bitsOf 64 (t.u 0 8)).any fun n => s.typ n != .dcb) = false) ∧ s.ps.roundTickets.contains tk = false :=
  ⟨(wReq (wCfg { slots := [{ slot := 63, typ := .dcb, group := 0 }], groups := [{ group := 0, path := 2 }] }) 0x0303 [0,0,0,0,0,0,0,0x80] .operator), (1), (wTk 0x0303 [0,0,0,0,0,0,0,0x80] .operator), by decide +kernel⟩

theorem test_witness_sharingRequests_4 : ∃ (s : State) (tk : Nat) (t : Ticket), s.ticket tk 0x0304 = some t ∧ t.u 0 1 < s.nLanes ∧ s.ps.roundTickets.contains tk = false :=
  ⟨(wReq (wTyp 63 .ac1) 0x0304 [63] .operator), (1), (wTk 0x0304 [63] .operator), by decide +kernel⟩

theorem test_witness_sharingRequests_5 : ∃ (s : State) (tk : Nat) (t : Ticket), s.ticket tk 0x0305 = some t ∧ s.kz.master = true ∧ s.ps.hubTickets.contains tk = false :=
  ⟨(wReq (({ State.reset with kz := { State.reset.kz with master := true } } : State)) 0x0305 [1] .operator), (1), (wTk 0x0305 [1] .operator), by decide +kernel⟩

theorem test_witness_sharingRequests_6 : ∃ (s : State) (tk : Nat) (t : Ticket), s.ticket tk 0x0306 = some t :=
  ⟨(wReq (State.reset) 0x0306 [] .reader), (1), (wTk 0x0306 [] .reader), by decide +kernel⟩

theorem test_witness_sharingRequests_7 : (63 : Nat) ∈ ([(62, 0), (63, 0)] : Shares).map (·.1) ∧ (63 : Nat) ≠ 62 := by decide +kernel

theorem test_witness_sharingRequests_8 : (fun (bs : List Budget) (b : Budget) (a : Shares) (k : Nat) (w d : Rat) => b ∈ bs ∧ (b.ws.find? fun x => x.1 == k) = some (k, w) ∧ fitsAll bs a k d = true) [{ limit := 100, ws := [(63, 1)] }] { limit := 100, ws := [(63, 1)] } [(63, 0)] 63 1 100 :=
  ⟨List.mem_singleton.2 rfl, by decide +kernel, by decide +kernel⟩

theorem test_witness_insulationMonitoring_1 : ∃ (s : State) (fits : List ChipFit), s.now % 40000000 = 0 :=
  ⟨(wAt State.reset 80000000), ([]), by decide +kernel⟩

theorem test_witness_insulationMonitoring_2 : ∃ (s : State) (fits : List ChipFit), s.now % 40000000 ≠ 0 :=
  ⟨(wAt State.reset 80000001), ([]), by decide +kernel⟩

theorem test_witness_insulationMonitoring_3 : (fun (s : State) (f : ChipFit) => f.group < s.ef.groups.length ∧ (s.cfg.group f.group).isSome = true ∧ s.connected f.group = []) (wCfg { slots := [{ slot := 63, typ := .dcb, group := 0 }], groups := [{ group := 0, path := 2 }] }) { group := 0, gEst := 0, cNf := 0, driverOk := true, lanes := [], foreign := [] } := by decide +kernel

theorem test_witness_insulationMonitoring_4 : ∃ (s : State) (g e : Nat), (s.efg g).verifyEnd = some e ∧ e ≤ s.now :=
  ⟨(((wCfg { slots := [{ slot := 63, typ := .dcb, group := 0 }], groups := [{ group := 0, path := 2 }] }).onEfg 0 fun e => { e with verifyEnd := some 0 })), (0), (0), by decide +kernel⟩

theorem test_witness_insulationMonitoring_5 : ∃ (s : State) (n e : Nat), (s.efl n).openSince = some e ∧ e + sec 10 ≤ s.now :=
  ⟨(wAt State.reset 10000000000), (63), (0), by decide +kernel⟩

theorem test_witness_insulationMonitoring_6 : ∃ (s : State) (g : Nat), (s.efg g).testing = false ∧ s.connected g ≠ [] ∧ s.windowOpen g = false ∧ (s.efg g).testDue = true :=
  ⟨(((wCfg { slots := [{ slot := 63, typ := .dcb, group := 0 }], groups := [{ group := 0, path := 2 }] }).onEfg 0 fun e => { e with testDue := true }).onPp 63 fun p => { p with dcneg := true }), (0), by decide +kernel⟩

theorem test_witness_insulationMonitoring_7 : ∃ (s : State) (g na : Nat) (x : Group), g < s.ef.groups.length ∧ (s.efg g).testing = true ∧ (s.efg g).testTicket = none ∧ (s.efg g).testFrom + ms 640 ≤ s.now ∧ s.cfg.group g = some x ∧ (max na (x.amplitude * 10000) - min na (x.amplitude * 10000)) * 20 ≤ x.amplitude * 10000 ∧ (s.efg g).state ≠ Iso.normal ∧ (s.efg g).state ≠ Iso.warning :=
  ⟨(wAt (((wCfg { slots := [{ slot := 63, typ := .dcb, group := 0 }], groups := [{ group := 0, path := 2 }] }).onEfg 0 fun e => { e with testing := true })) 640000000), (0), (0), ({ group := 0, path := 2 }), by decide +kernel⟩

theorem test_witness_insulationMonitoring_8 : ∃ (s : State) (tk : Nat) (t : Ticket) (x : Group), s.ticket tk 0x0F10 = some t ∧ s.cfg.group (t.u 0 1) = some x ∧ x.driver ≠ 0xFF :=
  ⟨(wReq (wCfg { slots := [{ slot := 63, typ := .dcb, group := 0 }], groups := [{ group := 0, path := 2, driver := 0 }] }) 0x0F10 [0] .reader), (1), (wTk 0x0F10 [0] .reader), ({ group := 0, path := 2, driver := 0 }), by decide +kernel⟩

theorem test_witness_insulationMonitoring_9 : ∃ (s : State) (tk : Nat) (t : Ticket) (x : Group), s.ticket tk 0x0F11 = some t ∧ s.cfg.group (t.u 0 1) = some x ∧ x.driver ≠ 0xFF ∧ (s.efg x.group).state ≠ Iso.idle ∧ (s.efg x.group).testing = false ∧ s.windowOpen x.group = false :=
  ⟨(wReq (((wCfg { slots := [{ slot := 63, typ := .dcb, group := 0 }], groups := [{ group := 0, path := 2, driver := 0 }] }).onEfg 0 fun e => { e with state := 1 })) 0x0F11 [0] .operator), (1), (wTk 0x0F11 [0] .operator), ({ group := 0, path := 2, driver := 0 }), by decide +kernel⟩

theorem test_witness_insulationMonitoring_10 : ∃ (s : State) (tk : Nat) (t : Ticket) (x : Group), s.ticket tk 0x0F12 = some t ∧ s.cfg.group (t.u 0 1) = some x ∧ x.driver ≠ 0xFF ∧ (s.efg x.group).locked = true :=
  ⟨(wReq (((wCfg { slots := [{ slot := 63, typ := .dcb, group := 0 }], groups := [{ group := 0, path := 2, driver := 0 }] }).onEfg 0 fun e => { e with state := 5, locked := true })) 0x0F12 [0] .admin), (1), (wTk 0x0F12 [0] .admin), ({ group := 0, path := 2, driver := 0 }), by decide +kernel⟩

theorem test_witness_insulationMonitoring_11 : ∃ (s : State) (tk : Nat) (t : Ticket), s.ticket tk 0x0F13 = some t :=
  ⟨(wReq (State.reset) 0x0F13 [] .operator), (1), (wTk 0x0F13 [] .operator), by decide +kernel⟩

theorem test_witness_residualCurrentStages_1 : ∃ (s : State) (n r : Nat) (period : Bool) (a b c : Int), bit (s.slot n).options 0 = false :=
  ⟨(wTyp 63 .ac1), (63), (9), (true), (150000), (0), (0), by decide +kernel⟩

theorem test_witness_residualCurrentStages_2 : ∃ (s : State) (n r : Nat) (a b c : Int), bit (s.slot n).options 0 = true ∧ (s.typ n).isAc = true ∧ (s.ppl n).acMain = true ∧ 150000 ≤ (a - (s.efl n).zeroUa).natAbs :=
  ⟨((wCfg { slots := [{ slot := 63, typ := .ac1, group := 0, options := 1 }] }).onPp 63 fun p => { p with acMain := true }), (63), (9), (-150000), (0), (0), by decide +kernel⟩

theorem test_witness_residualCurrentStages_3 : ∃ (s : State) (n r : Nat) (a b c : Int), bit (s.slot n).options 0 = true ∧ (a - (s.efl n).zeroUa).natAbs < 150000 :=
  ⟨((wCfg { slots := [{ slot := 63, typ := .ac1, group := 0, options := 1 }] }).onPp 63 fun p => { p with acMain := true }), (63), (9), (-149999), (0), (0), by decide +kernel⟩

theorem test_witness_residualCurrentStages_4 : ∃ (s : State) (n r : Nat) (a b c : Int), n < s.ef.lanes.length ∧ bit (s.slot n).options 0 = true ∧ (s.typ n).isAc = true ∧ (s.ppl n).acMain = true ∧ (a - (s.efl n).zeroUa).natAbs < 150000 ∧ (b - (s.efl n).zeroUa).natAbs < 45000 ∧ (c - (s.efl n).zeroUa).natAbs < 5000 ∧ r < 25000 :=
  ⟨((wCfg { slots := [{ slot := 63, typ := .ac1, group := 0, options := 1 }] }).onPp 63 fun p => { p with acMain := true }), (63), (24999), (-149999), (44999), (4999), by decide +kernel⟩

theorem test_witness_residualCurrentStages_5 : ∃ (s : State) (n r : Nat) (a b c : Int), bit (s.slot n).options 0 = true ∧ (s.typ n).isAc = true ∧ (s.ppl n).acMain = true ∧ (a - (s.efl n).zeroUa).natAbs < 150000 ∧ (45000 ≤ (b - (s.efl n).zeroUa).natAbs ∨ (5000 ≤ (c - (s.efl n).zeroUa).natAbs ∧ (s.efl n).zeroAt + 200 * s.mainsPeriod ≤ s.now) ∨ (25000 ≤ r ∧ 4 ≤ (s.efl n).acRuns)) :=
  ⟨(((wCfg { slots := [{ slot := 63, typ := .ac1, group := 0, options := 1 }] }).onPp 63 fun p => { p with acMain := true }).onEfl 63 fun e => { e with acRuns := 4 }), (63), (25000), (0), (0), (0), by decide +kernel⟩

theorem test_witness_residualCurrentStages_6 : ∃ (s : State) (n : Nat), bit (s.slot n).options 0 = true ∧ (s.typ n).isAc = true :=
  ⟨(wCfg { slots := [{ slot := 63, typ := .ac1, group := 0, options := 1 }] }), (63), by decide +kernel⟩

theorem test_witness_residualCurrentStages_7 : ∃ (s : State) (n : Nat), n < s.ef.lanes.length ∧ bit (s.slot n).options 0 = true ∧ (s.typ n).isAc = false :=
  ⟨(wCfg { slots := [{ slot := 63, typ := .dcb, group := 0, options := 1 }] }), (63), by decide +kernel⟩

theorem test_witness_channelFaultsAndConnectorTemperature_1 : ∃ (s : State) (c : Nat), s.usedChans.contains c = true ∧ (s.chan c).fault = false :=
  ⟨(wCfg { slots := [{ slot := 63, typ := .dcb, group := 0, chfunc := [1, 2, 3, 4, 0], gain := 0, options := 3 }], pulses := [{ input := 31, mode := 2, owner := 0x103F, unit := 0, filter := 2, weight := 5, maxRate := 1 }] }), (318), by decide +kernel⟩

theorem test_witness_channelFaultsAndConnectorTemperature_2 : ∃ (s : State) (k : Nat) (ok : Bool), k < 4 ∧ s.dieBad (2 + k) ≠ ok :=
  ⟨(State.reset), (3), (true), by decide +kernel⟩

theorem test_witness_channelFaultsAndConnectorTemperature_3 : ∃ (s : State) (c e : Nat), (s.chan c).clipSince = some e ∧ e + ms 10 ≤ s.now ∧ (s.chan c).clip = true :=
  ⟨(wAt (State.reset.onChan 319 fun h => { h with clipSince := some 0, clip := true }) 10000000), (319), (0), by decide +kernel⟩

theorem test_witness_channelFaultsAndConnectorTemperature_4 : ∃ (s : State) (c e : Nat), (s.chan c).fault = true ∧ s.chanValid c = true ∧ (s.chan c).validSince = some e ∧ e + sec 1 ≤ s.now :=
  ⟨(wAt ((({ wCfg { slots := [{ slot := 63, typ := .dcb, group := 0, chfunc := [1, 2, 3, 4, 0], gain := 0, options := 3 }], pulses := [{ input := 31, mode := 2, owner := 0x103F, unit := 0, filter := 2, weight := 5, maxRate := 1 }] } with mt := { State.reset.mt with refOk := List.replicate 4 true } } : State)).onChan 318 fun h => { h with fault := true, seen := true, validSince := some 0 }) 1000000000), (318), (0), by decide +kernel⟩

theorem test_witness_channelFaultsAndConnectorTemperature_5 : ∃ (s : State) (c e : Nat), (s.chan c).settleEnd = some e ∧ e ≤ s.now :=
  ⟨(State.reset.onChan 319 fun h => { h with settleEnd := some 0 }), (319), (0), by decide +kernel⟩

theorem test_witness_channelFaultsAndConnectorTemperature_6 : ∃ (s : State) (n ohm : Nat) (v : Int), bit (s.slot n).options 1 = true ∧ 700 ≤ ohm ∧ ohm ≤ 2000 ∧ (s.mtl n).tempFault = false :=
  ⟨(wCfg { slots := [{ slot := 63, typ := .dcb, group := 0, chfunc := [1, 2, 3, 4, 0], gain := 0, options := 3 }], pulses := [{ input := 31, mode := 2, owner := 0x103F, unit := 0, filter := 2, weight := 5, maxRate := 1 }] }), (63), (2000), (850), by decide +kernel⟩

theorem test_witness_channelFaultsAndConnectorTemperature_7 : ∃ (s : State) (n ohm e : Nat) (v : Int), n < s.mt.lanes.length ∧ bit (s.slot n).options 1 = true ∧ (ohm < 700 ∨ 2000 < ohm) ∧ (s.mtl n).tempBad = some e ∧ e + ms 30 ≤ s.now :=
  ⟨(wAt ((wCfg { slots := [{ slot := 63, typ := .dcb, group := 0, chfunc := [1, 2, 3, 4, 0], gain := 0, options := 3 }], pulses := [{ input := 31, mode := 2, owner := 0x103F, unit := 0, filter := 2, weight := 5, maxRate := 1 }] }).onMtl 63 fun m => { m with tempBad := some 0 }) 30000000), (63), (699), (0), (0), by decide +kernel⟩

theorem test_witness_channelFaultsAndConnectorTemperature_8 : ∃ (s : State) (n : Nat), n < s.mt.lanes.length ∧ (s.typ n).isLane = true ∧ (s.slot n).sensor ≠ 3 :=
  ⟨(wCfg { slots := [{ slot := 63, typ := .dcb, group := 0, chfunc := [1, 2, 3, 4, 0], gain := 0, options := 3 }], pulses := [{ input := 31, mode := 2, owner := 0x103F, unit := 0, filter := 2, weight := 5, maxRate := 1 }] }), (63), by decide +kernel⟩

theorem test_witness_channelFaultsAndConnectorTemperature_9 : ∃ (s : State) (n e : Nat), (s.mtl n).testEnd = some e ∧ e ≤ s.now :=
  ⟨(State.reset.onMtl 63 fun m => { m with testEnd := some 0 }), (63), (0), by decide +kernel⟩

theorem test_witness_channelFaultsAndConnectorTemperature_10 : ∃ (s : State) (e : Nat) (xs : List ChanIn) (flux : List (Nat × Int)), (e % 31250 ≠ 0 ∨ e ≤ s.en.lastStamp) :=
  ⟨(State.reset), (31249), ([]), ([]), by decide +kernel⟩

theorem test_witness_channelFaultsAndConnectorTemperature_11 : ∃ (s : State) (e : Nat) (xs : List ChanIn) (flux : List (Nat × Int)), e % 31250 = 0 ∧ s.en.lastStamp < e ∧ e ≤ s.now ∧ s.en.warnAt = none :=
  ⟨(wAt State.reset 31250), (31250), ([]), ([]), by decide +kernel⟩

theorem test_witness_pulseInputsAndMeasurementRequests_1 : ∃ (s : State) (i e d : Nat) (on : Bool) (p : Pulse), s.cfg.pulse i = some p ∧ p.mode ≠ 0 ∧ s.pw.state ≤ 2 ∧ e + d ≤ s.now ∧ d < p.filterNs :=
  ⟨(wAt (wCfg { slots := [{ slot := 63, typ := .dcb, group := 0, chfunc := [1, 2, 3, 4, 0], gain := 0, options := 3 }], pulses := [{ input := 31, mode := 2, owner := 0x103F, unit := 0, filter := 2, weight := 5, maxRate := 1 }] }) 19999), (31), (0), (19999), (true), ({ input := 31, mode := 2, owner := 0x103F, unit := 0, filter := 2, weight := 5, maxRate := 1 }), by decide +kernel⟩

theorem test_witness_pulseInputsAndMeasurementRequests_2 : ∃ (s : State) (i e d : Nat) (on : Bool) (p : Pulse), i < s.mt.pulses.length ∧ s.cfg.pulse i = some p ∧ p.mode ≠ 0 ∧ s.pw.state ≤ 2 ∧ e + d ≤ s.now ∧ p.filterNs ≤ d ∧ (s.pls i).level ≠ on ∧ on ≠ bit p.flags 2 ∧ (s.pls i).fault = 0 :=
  ⟨(wAt (wCfg { slots := [{ slot := 63, typ := .dcb, group := 0, chfunc := [1, 2, 3, 4, 0], gain := 0, options := 3 }], pulses := [{ input := 31, mode := 2, owner := 0x103F, unit := 0, filter := 2, weight := 5, maxRate := 1 }] }) 20000), (31), (0), (20000), (true), ({ input := 31, mode := 2, owner := 0x103F, unit := 0, filter := 2, weight := 5, maxRate := 1 }), by decide +kernel⟩

theorem test_witness_pulseInputsAndMeasurementRequests_5 : ∃ (s : State) (i : Nat), i < 32 :=
  ⟨(State.reset), (31), by decide +kernel⟩

theorem test_witness_pulseInputsAndMeasurementRequests_6 : ∃ (s : State) (i k : Nat) (p : Pulse), i < 32 ∧ (k = 1 ∨ k = 2) ∧ s.cfg.pulse i = some p ∧ p.mode = 2 :=
  ⟨(wCfg { slots := [{ slot := 63, typ := .dcb, group := 0, chfunc := [1, 2, 3, 4, 0], gain := 0, options := 3 }], pulses := [{ input := 31, mode := 2, owner := 0x103F, unit := 0, filter := 2, weight := 5, maxRate := 1 }] }), (31), (2), ({ input := 31, mode := 2, owner := 0x103F, unit := 0, filter := 2, weight := 5, maxRate := 1 }), by decide +kernel⟩

theorem test_witness_pulseInputsAndMeasurementRequests_7 : ∃ (s : State) (i : Nat), i < 32 ∧ i < s.mt.pulses.length ∧ (s.pls i).fault ≠ 0 :=
  ⟨(State.reset.onPls 31 fun x => { x with fault := 3 }), (31), by decide +kernel⟩

theorem test_witness_pulseInputsAndMeasurementRequests_8 : ∃ (s : State) (i : Nat), (s.pls i).folded = false :=
  ⟨(State.reset), (31), by decide +kernel⟩

theorem test_witness_pulseInputsAndMeasurementRequests_9 : ∃ (s : State) (i : Nat), (s.pls i).folded = true ∧ (s.pls i).foldAt + ms 1 ≤ s.now :=
  ⟨(wAt (State.reset.onPls 31 fun x => { x with folded := true }) 1000000), (31), by decide +kernel⟩

theorem test_witness_pulseInputsAndMeasurementRequests_10 : ∃ (s : State) (tk : Nat) (t : Ticket), s.ticket tk 0x0401 = some t ∧ t.u 0 1 < s.nLanes ∧ (s.typ (t.u 0 1)).isLane = true ∧ s.isPending (t.u 0 1) = false ∧ 1 ≤ t.coeffs.length ∧ t.coeffs.length ≤ 10 ∧ t.arg.length = 2 + 12 * t.coeffs.length ∧ ((t.coeffs.any fun (c, g, o, d) => !(s.existChans (t.u 0 1)).contains c || !coeffOk g o d) = false) ∧ (s.lane (t.u 0 1)).session = 0 :=
  ⟨(wReq (wCfg { slots := [{ slot := 63, typ := .dcb, group := 0, chfunc := [1, 2, 3, 4, 0], gain := 0, options := 3 }], pulses := [{ input := 31, mode := 2, owner := 0x103F, unit := 0, filter := 2, weight := 5, maxRate := 1 }] }) 0x0401 ([63, 1] ++ leBytes 2 318 ++ leBytes 4 (2 ^ 30) ++ leBytes 4 65536 ++ leBytes 2 30000) .metrology), (1), (wTk 0x0401 ([63, 1] ++ leBytes 2 318 ++ leBytes 4 (2 ^ 30) ++ leBytes 4 65536 ++ leBytes 2 30000) .metrology), by decide +kernel⟩

theorem test_witness_pulseInputsAndMeasurementRequests_11 : ∃ (s : State) (tk : Nat) (t : Ticket), s.ticket tk 0x0402 = some t ∧ t.u 0 1 < s.nLanes ∧ (s.typ (t.u 0 1)).isLane = true :=
  ⟨(wReq (wCfg { slots := [{ slot := 63, typ := .dcb, group := 0, chfunc := [1, 2, 3, 4, 0], gain := 0, options := 3 }], pulses := [{ input := 31, mode := 2, owner := 0x103F, unit := 0, filter := 2, weight := 5, maxRate := 1 }] }) 0x0402 [63] .reader), (1), (wTk 0x0402 [63] .reader), by decide +kernel⟩

theorem test_witness_pulseInputsAndMeasurementRequests_12 : ∃ (s : State) (tk : Nat) (t : Ticket), s.ticket tk 0x0403 = some t ∧ t.u 0 1 < s.nLanes ∧ (s.typ (t.u 0 1)).isLane = true ∧ t.u 1 1 = 1 ∧ (s.lane (t.u 0 1)).st = .offline ∧ (s.lane (t.u 0 1)).enable = false :=
  ⟨(wReq ((wCfg { slots := [{ slot := 63, typ := .dcb, group := 0, chfunc := [1, 2, 3, 4, 0], gain := 0, options := 3 }], pulses := [{ input := 31, mode := 2, owner := 0x103F, unit := 0, filter := 2, weight := 5, maxRate := 1 }] }).onLane 63 fun l => { l with enable := false }) 0x0403 [63, 1] .metrology), (1), (wTk 0x0403 [63, 1] .metrology), by decide +kernel⟩

theorem test_witness_pulseInputsAndMeasurementRequests_13 : ∃ (s : State) (tk : Nat) (t : Ticket), s.ticket tk 0x0404 = some t ∧ t.u 0 1 < s.nLanes ∧ (s.typ (t.u 0 1)).isLane = true :=
  ⟨(wReq (wCfg { slots := [{ slot := 63, typ := .dcb, group := 0, chfunc := [1, 2, 3, 4, 0], gain := 0, options := 3 }], pulses := [{ input := 31, mode := 2, owner := 0x103F, unit := 0, filter := 2, weight := 5, maxRate := 1 }] }) 0x0404 [63] .metrology), (1), (wTk 0x0404 [63] .metrology), by decide +kernel⟩

theorem test_witness_pulseInputsAndMeasurementRequests_14 : ∃ (s : State) (tk : Nat) (t : Ticket), s.ticket tk 0x0405 = some t :=
  ⟨(wReq (State.reset) 0x0405 [] .reader), (1), (wTk 0x0405 [] .reader), by decide +kernel⟩

theorem test_witness_pulseInputsAndMeasurementRequests_15 : ∃ (s : State) (tk : Nat) (t : Ticket), s.ticket tk 0x0406 = some t :=
  ⟨(wReq (State.reset) 0x0406 [] .operator), (1), (wTk 0x0406 [] .operator), by decide +kernel⟩

theorem test_witness_registersAreMirroredAndCommitted_1 : ∃ (s : State), s.twin = true :=
  ⟨(({ State.reset with rd := { State.reset.rd with sync := true }, ident := { State.reset.ident with variant := .fx } } : State)), by decide +kernel⟩

theorem test_witness_registersAreMirroredAndCommitted_2 : ∃ (s : State), s.en.warnAt = none ∧ 5 ≤ s.rs.phase ∧ s.en.nextCopy = 0 :=
  ⟨({ State.reset with rs := { State.reset.rs with phase := 5 }, en := { State.reset.en with nextCopy := 0 } }), by decide +kernel⟩

theorem test_witness_registersAreMirroredAndCommitted_3 : ∃ (s : State), s.en.warnAt = none ∧ 5 ≤ s.rs.phase ∧ s.en.nextCopy = 1 :=
  ⟨({ State.reset with rs := { State.reset.rs with phase := 5 } }), by decide +kernel⟩

theorem test_witness_registersAreMirroredAndCommitted_4 : ∃ (s : State) (n : Nat), n < s.en.lanes.length ∧ (s.typ n).isLane = true ∧ s.isBidir false n = false ∧ s.revFresh false n = true ∧ s.revHeld false n = true :=
  ⟨(wAt ((wCfg { slots := [{ slot := 63, typ := .meter, group := 0 }] }).onEn false 63 fun e => { e with revSince := some 0 }) 5000000001), (63), by decide +kernel⟩

theorem test_witness_registersAreMirroredAndCommitted_5 : ∃ (s : State) (n mis larger : Nat), n < s.en.lanes.length ∧ s.bypassed n mis larger = true :=
  ⟨(wCfg { slots := [{ slot := 63, typ := .ac1, group := 0, ratedI := 32000 }] }), (63), (1921), (32000), by decide +kernel⟩

theorem test_witness_registersAreMirroredAndCommitted_6 : ∃ (s : State) (n mis larger : Nat), s.bypassed n mis larger = false :=
  ⟨(wCfg { slots := [{ slot := 63, typ := .ac1, group := 0, ratedI := 32000 }] }), (63), (1920), (32000), by decide +kernel⟩

theorem test_witness_registersAreMirroredAndCommitted_7 : ∃ (s : State) (n vn vp : Nat), (s.typ n).isAc = true ∧ 500 < vn ∧ (s.slot n).ratedU ≤ 200 * vp :=
  ⟨(wCfg { slots := [{ slot := 63, typ := .ac1, group := 0, ratedU := 230000 }] }), (63), (501), (1150), by decide +kernel⟩

theorem test_witness_registersAreMirroredAndCommitted_8 : ∃ (s : State), s.pw.state = 0 ∧ s.en.coverNow = false :=
  ⟨(State.reset), by decide +kernel⟩

theorem test_witness_registersAreMirroredAndCommitted_9 : ∃ (s : State), 1 ≤ s.pw.state ∧ s.pw.state ≤ 3 ∧ s.en.coverNow = false :=
  ⟨({ State.reset with pw := { State.reset.pw with state := 3 } }), by decide +kernel⟩

theorem test_witness_registersAreMirroredAndCommitted_10 : ∃ (s : State), s.pw.state = 0 ∧ s.en.coverNow = true :=
  ⟨({ State.reset with en := { State.reset.en with coverNow := true } }), by decide +kernel⟩

theorem test_witness_registersAreMirroredAndCommitted_11 : ∃ (s : State) (x : RecPend) (rest : List RecPend), s.en.closing = x :: rest ∧ x.endSeq ≠ 0 ∧ s.dieBad 13 = false :=
  ⟨({ State.reset with en := { State.reset.en with closing := [{ lane := 63, endSeq := 1 }] } }), ({ lane := 63, endSeq := 1 }), ([]), by decide +kernel⟩

theorem test_witness_registersAreMirroredAndCommitted_12 : ∃ (s : State), s.pw.state ≠ 4 ∧ s.rs.pfw = false :=
  ⟨(State.reset), by decide +kernel⟩

theorem test_witness_registersAreMirroredAndCommitted_13 : ∃ (s : State), s.pw.state ≠ 4 ∧ s.rs.pfw = true :=
  ⟨({ State.reset with rs := { State.reset.rs with pfw := true } }), by decide +kernel⟩

theorem test_witness_registersAreMirroredAndCommitted_14 : ∃ (s : State) (e : Nat), s.en.warnAt = some e ∧ e + ms 50 ≤ s.now :=
  ⟨(wAt { State.reset with en := { State.reset.en with warnAt := some 0 } } 50000000), (0), by decide +kernel⟩

theorem test_witness_registersAreMirroredAndCommitted_15 : ∃ (s : State) (e : Nat), s.rs.pfClearAt = some e ∧ s.rs.pfStop = true ∧ e + ms 100 ≤ s.now :=
  ⟨(wAt { State.reset with rs := { State.reset.rs with pfClearAt := some 0, pfStop := true } } 100000000), (0), by decide +kernel⟩

theorem test_witness_energyRequests_1 : ∃ (s : State) (tk : Nat) (t : Ticket), s.ticket tk 0x0410 = some t ∧ t.u 0 1 = 0 ∧ t.u 1 1 < s.nLanes ∧ (s.typ (t.u 1 1)).isLane = true :=
  ⟨(wReq (wCfg { slots := [{ slot := 63, typ := .meter, group := 0 }] }) 0x0410 [0, 63] .reader), (1), (wTk 0x0410 [0, 63] .reader), by decide +kernel⟩

theorem test_witness_energyRequests_2 : ∃ (s : State) (tk : Nat) (t : Ticket) (b : Bytes), s.ticket tk 0x0411 = some t ∧ t.u 0 1 ≠ 0xFF ∧ ((s.en.records.find? fun b => leNat (sub b 0x10 1) == t.u 0 1 && leNat (sub b 0x14 4) == t.u 1 4) = some b) :=
  ⟨(wReq (({ State.reset with en := { State.reset.en with records := [List.replicate 16 0 ++ [63, 0, 0, 0, 9, 0, 0, 0]] } } : State)) 0x0411 [63, 9, 0, 0, 0] .reader), (1), (wTk 0x0411 [63, 9, 0, 0, 0] .reader), (List.replicate 16 0 ++ [63, 0, 0, 0, 9, 0, 0, 0]), by decide +kernel⟩

theorem test_witness_energyRequests_3 : ∃ (s : State) (tk : Nat) (t : Ticket), s.ticket tk 0x0412 = some t ∧ 1 ≤ t.u 2 1 ∧ t.u 2 1 ≤ 10 ∧ t.u 0 2 < imprSlots ∧ ringAge s.en.imprNext imprSlots (t.u 0 2) < s.en.imprs.length ∧ t.u 2 1 ≤ ringAge s.en.imprNext imprSlots (t.u 0 2) + 1 :=
  ⟨(wReq (({ State.reset with en := { State.reset.en with imprs := [[1]], imprNext := 1 } } : State)) 0x0412 [0, 0, 1] .reader), (1), (wTk 0x0412 [0, 0, 1] .reader), by decide +kernel⟩

theorem test_witness_energyRequests_4 : ∃ (s : State) (tk : Nat) (t : Ticket), s.ticket tk 0x0413 = some t ∧ t.u 0 1 < s.nLanes ∧ (s.typ (t.u 0 1)).isLane = true ∧ (s.slot (t.u 0 1)).sensor ≠ 3 ∧ (s.lane (t.u 0 1)).session = 0 :=
  ⟨(wReq (wCfg { slots := [{ slot := 63, typ := .meter, group := 0 }] }) 0x0413 [63, 5, 0, 0, 0] .metrology), (1), (wTk 0x0413 [63, 5, 0, 0, 0] .metrology), by decide +kernel⟩

theorem test_witness_energyRequests_5 : ∃ (s : State) (tk : Nat) (t : Ticket) (n : Nat), s.ticket tk 0x0414 = some t ∧ t.u 1 1 < s.en.lanes.length ∧ t.u 0 1 = 0 ∧ t.u 1 1 < s.nLanes ∧ (s.typ (t.u 1 1)).isLane = true ∧ n = t.u 1 1 :=
  ⟨(wReq ((wCfg { slots := [{ slot := 63, typ := .meter, group := 0 }] }).onEn false 63 fun e => { e with tamper := 3 }) 0x0414 [0, 63, 2, 0] .metrology), (1), (wTk 0x0414 [0, 63, 2, 0] .metrology), (63), by decide +kernel⟩

theorem test_witness_energyRequests_6 : ∃ (s : State) (tk : Nat) (t : Ticket), s.ticket tk 0x0414 = some t ∧ t.u 0 1 = 2 ∧ s.en.coverOpen = true ∧ s.en.coverNow = false ∧ bit (t.u 2 2) 3 = true :=
  ⟨(wReq (({ State.reset with en := { State.reset.en with coverOpen := true } } : State)) 0x0414 [2, 0, 8, 0] .metrology), (1), (wTk 0x0414 [2, 0, 8, 0] .metrology), by decide +kernel⟩

theorem test_witness_energyRequests_7 : ∃ (s : State) (tk : Nat) (t : Ticket), s.ticket tk 0x0415 = some t ∧ t.u 0 1 = 0 ∧ t.u 1 1 < s.nLanes ∧ (s.typ (t.u 1 1)).isLane = true ∧ t.u 1 1 ≠ 0xFF :=
  ⟨(wReq (wCfg { slots := [{ slot := 63, typ := .meter, group := 0 }] }) 0x0415 [0, 63] .operator), (1), (wTk 0x0415 [0, 63] .operator), by decide +kernel⟩

theorem test_witness_permitBallsFollowTheirConditions_1 : (15 : Nat) < 16 := by decide

theorem test_witness_grantsComparatorsAndWatch_1 : ∃ (s : State) (ctr : Nat), s.sf.grv.powered = true ∧ s.sf.grv.counter ≠ some (ctr % 256) ∧ s.rd.holder = s.rd.active :=
  ⟨(State.reset), (255), by decide +kernel⟩

theorem test_witness_grantsComparatorsAndWatch_3 : ∃ (s : State), s.sf.grv.everTaken = true ∧ s.sf.grv.wd = false ∧ s.sf.grv.takenAt + ms 8 ≤ s.now :=
  ⟨(wAt ((State.reset).onGrv fun v => { v with everTaken := true }) 8000000), by decide +kernel⟩

theorem test_witness_grantsComparatorsAndWatch_6 : ∃ (s : State) (k edge : Nat) (x : Int) (c : Comp), s.cfg.comp k = some c ∧ s.armed c = true ∧ bit c.flags edge = true ∧ edge ≤ 1 ∧ k ∉ s.sf.grv.latches :=
  ⟨(((wCfg { slots := [{ slot := 63, typ := .dcb, group := 15 }], comps := [{ comp := 127, owner := 0x103F, flags := 3, high := 100, low := -100 }] }).onLane 63 fun l => { l with st := .energy })), (127), (1), (-101), ({ comp := 127, owner := 0x103F, flags := 3, high := 100, low := -100 }), by decide +kernel⟩

theorem test_witness_grantsComparatorsAndWatch_7 : ∃ (s : State) (k e : Nat), s.sf.grv.latches.contains k = true ∧ s.sf.grv.inside.find? (fun x => x.1 == k) = some (k, e) ∧ e + ms 100 ≤ s.now ∧ s.sf.grv.taken = [] :=
  ⟨(wAt ((State.reset).onGrv fun v => { v with latches := [127], inside := [(127, 0)] }) 100000000), (127), (0), by decide +kernel⟩

theorem test_witness_grantsComparatorsAndWatch_8 : ∃ (s : State) (k : Nat) (inside : Bool) (lo hi : Int) (c : Comp), s.cfg.comp k = some c ∧ s.armed c = false :=
  ⟨(wCfg { slots := [{ slot := 63, typ := .dcb, group := 15 }], comps := [{ comp := 127, owner := 0x103F, flags := 3, high := 100, low := -100 }] }), (127), (true), (0), (0), ({ comp := 127, owner := 0x103F, flags := 3, high := 100, low := -100 }), by decide +kernel⟩

theorem test_witness_grantsComparatorsAndWatch_9 : ∃ (s : State) (k : Nat) (inside : Bool) (lo hi : Int) (c : Comp), k < s.sf.watch.length ∧ s.cfg.comp k = some c ∧ c.comp = k ∧ s.armed c = true ∧ c.allBeyond 105 lo hi = false ∧ ((c.allInside 70 lo hi = true ∧ inside = false) ∨ (c.allBeyond 80 lo hi = true ∧ inside = true)) ∧ (s.wat k).mism = 7 ∧ (s.wat k).stands = false :=
  ⟨(((wCfg { slots := [{ slot := 63, typ := .dcb, group := 15 }], comps := [{ comp := 127, owner := 0x103F, flags := 3, high := 100, low := -100 }] }).onLane 63 fun l => { l with st := .energy }).onWatch 127 fun w => { w with mism := 7 }), (127), (false), (-70), (70), ({ comp := 127, owner := 0x103F, flags := 3, high := 100, low := -100 }), by decide +kernel⟩

theorem test_witness_grantsComparatorsAndWatch_10 : ∃ (s : State) (k : Nat) (inside : Bool) (lo hi : Int) (c : Comp), k < s.sf.watch.length ∧ s.cfg.comp k = some c ∧ s.armed c = true ∧ c.allBeyond 105 lo hi = false ∧ (c.allInside 70 lo hi && !inside) = false ∧ (c.allBeyond 80 lo hi && inside) = false ∧ (s.wat k).matchAt = none :=
  ⟨(((wCfg { slots := [{ slot := 63, typ := .dcb, group := 15 }], comps := [{ comp := 127, owner := 0x103F, flags := 3, high := 100, low := -100 }] }).onLane 63 fun l => { l with st := .energy })), (127), (true), (-70), (70), ({ comp := 127, owner := 0x103F, flags := 3, high := 100, low := -100 }), by decide +kernel⟩

theorem test_witness_safetyInputsStippleAndPilotLine_1 : ∃ (s : State) (i : Nat), (i < 4 ∧ bit s.sf.grv.pairs i = true ∨ 4 ≤ i ∧ i < 8 ∧ bit s.sf.grv.xtrip (i - 4) = false) :=
  ⟨(State.reset), (7), by decide +kernel⟩

theorem test_witness_safetyInputsStippleAndPilotLine_2 : ∃ (s : State) (i : Nat), (i < 4 ∧ bit s.sf.grv.pairs i = false ∨ 4 ≤ i ∧ i < 8 ∧ bit s.sf.grv.xtrip (i - 4) = true) :=
  ⟨(((State.reset).onGrv fun v => { v with xtrip := 8 })), (7), by decide +kernel⟩

theorem test_witness_safetyInputsStippleAndPilotLine_3 : ∃ (s : State) (p a b : Nat), p < 2 ∧ bit s.sf.grv.pairs (2 * p) ≠ bit s.sf.grv.pairs (2 * p + 1) ∧ (if p = 0 then s.sf.grv.estFault else s.sf.grv.grdFault) = false ∧ s.sf.grv.moveAt.getD (2 * p) none = some a ∧ s.sf.grv.moveAt.getD (2 * p + 1) none = some b ∧ max a b + ms s.sf.grvPar.discTime ≤ s.now :=
  ⟨(wAt ((State.reset).onGrv fun v => { v with pairs := 8, moveAt := [none, none, some 0, some 5] }) 500000005), (1), (0), (5), by decide +kernel⟩

theorem test_witness_safetyInputsStippleAndPilotLine_4 : ∃ (s : State), s.sf.phase = 1 ∧ bit s.sf.grv.pairs 2 = false ∧ bit s.sf.grv.pairs 3 = false :=
  ⟨({ State.reset with sf := { State.reset.sf with phase := 1 } }), by decide +kernel⟩

theorem test_witness_safetyInputsStippleAndPilotLine_5 : ∃ (s : State) (e : Nat), s.sf.phase = 2 ∧ s.sf.phaseAt = some e ∧ e + ms 100 ≤ s.now ∧ s.sf.grv.grdFault = false :=
  ⟨(wAt { State.reset with sf := { State.reset.sf with phase := 2, phaseAt := some 0 } } 100000000), (0), by decide +kernel⟩

theorem test_witness_safetyInputsStippleAndPilotLine_6 : ∃ (s : State) (e : Nat), s.sf.phase = 3 ∧ s.sf.phaseAt = some e ∧ e + ms 100 ≤ s.now ∧ s.sf.grv.grdFault = false :=
  ⟨(wAt { State.reset with sf := { State.reset.sf with phase := 3, phaseAt := some 0 } } 100000000), (0), by decide +kernel⟩

theorem test_witness_safetyInputsStippleAndPilotLine_7 : ∃ (s : State) (n : Nat) (b : Bool), n < 64 ∧ (s.typ n).charges = true ∧ bit s.sf.grv.pilotBad n ≠ b :=
  ⟨(wTyp 63 .ac1), (63), (true), by decide +kernel⟩

theorem test_witness_safetyInputsStippleAndPilotLine_8 : ∃ (s : State) (g mv : Nat), s.permit g = false :=
  ⟨(State.reset), (15), (0), by decide +kernel⟩

theorem test_witness_safetyInputsStippleAndPilotLine_9 : ∃ (s : State) (g mv : Nat), s.permit g = true ∧ (s.stip 1 g).deferred = false ∧ mv ≤ 800 :=
  ⟨(((State.reset).onGrv fun v => { v with permit := 0x8000 })), (15), (800), by decide +kernel⟩

theorem test_witness_safetyInputsStippleAndPilotLine_10 : ∃ (s : State) (g mv : Nat), g < s.sf.stipP.length ∧ s.permit g = true ∧ 800 < mv ∧ (s.stip 1 g).misses = 1 ∧ (s.stip 1 g).suspect = false :=
  ⟨(((State.reset).onGrv fun v => { v with permit := 0x8000 }).onStip 1 15 fun p => { p with misses := 1 }), (15), (801), by decide +kernel⟩

theorem test_witness_safetyInputsStippleAndPilotLine_11 : ∃ (s : State) (g : Nat), s.permit g = false :=
  ⟨(State.reset), (15), by decide +kernel⟩

theorem test_witness_safetyInputsStippleAndPilotLine_12 : ∃ (s : State) (k : Nat), (s.och k).cmd = false :=
  ⟨(State.reset), (127), by decide +kernel⟩

theorem test_witness_safetyParameterBlock_1 : ∃ (s : State) (tk : Nat) (t : Ticket) (pw : Bytes) (c : Nat) (b : SpBlock), s.ticket tk 0x0C03 = some t ∧ s.pwLocked = false ∧ s.sf.password = some pw ∧ sub t.arg 1 (t.u 0 1) = pw ∧ 1 ≤ c ∧ c ≤ 16 ∧ c = t.u (1 + t.u 0 1) 1 ∧ t.arg.length = 2 + t.u 0 1 + 6 * c ∧ (((spItems (t.rest (2 + t.u 0 1)) c).find? fun x => (s.sf.block.value x.1).isNone) = none) ∧ b = (spItems (t.rest (2 + t.u 0 1)) c).foldl (fun b x => b.put x.1 x.2) s.sf.block ∧ b.firstBad = none :=
  ⟨(wReq (({ State.reset with sf := { State.reset.sf with password := some [65, 66, 67, 68, 69, 70, 71, 72] } } : State)) 0x0C03 ([8] ++ ([65, 66, 67, 68, 69, 70, 71, 72] : Bytes) ++ [1, 0x00, 0x02, 100, 0, 0, 0]) .service), (1), (wTk 0x0C03 ([8] ++ ([65, 66, 67, 68, 69, 70, 71, 72] : Bytes) ++ [1, 0x00, 0x02, 100, 0, 0, 0]) .service), ([65, 66, 67, 68, 69, 70, 71, 72]), (1), ((spItems [0x00, 0x02, 100, 0, 0, 0] 1).foldl (fun b x => b.put x.1 x.2) State.reset.sf.block), by decide +kernel⟩

theorem test_witness_safetyParameterBlock_2 : ∃ (s : State) (tk : Nat) (t : Ticket) (pw : Bytes), s.ticket tk 0x0C03 = some t ∧ s.pwLocked = false ∧ s.sf.password = some pw ∧ sub t.arg 1 (t.u 0 1) ≠ pw :=
  ⟨(wReq (({ State.reset with sf := { State.reset.sf with password := some [65, 66, 67, 68, 69, 70, 71, 72] } } : State)) 0x0C03 [0] .service), (1), (wTk 0x0C03 [0] .service), ([65, 66, 67, 68, 69, 70, 71, 72]), by decide +kernel⟩

theorem test_witness_safetyParameterBlock_4 : (fun (b : SpBlock) key => b.firstBad = none ∧ (b.value key).isSome = true) ({} : SpBlock) 0x123F := by decide +kernel

theorem test_witness_safetyParameterBlock_5 : ∃ (s : State) (e : Nat), s.sf.grv.reloadDue = some e :=
  ⟨(((State.reset).onGrv fun v => { v with reloadDue := some 9 })), (9), by decide +kernel⟩

theorem test_witness_safetyParameterBlock_6 : ∃ (s : State) (tk : Nat) (t : Ticket) (new : Bytes), s.ticket tk 0x0C04 = some t ∧ s.pwLocked = false ∧ t.u 0 1 = 0 ∧ new = sub t.arg 2 (t.u 1 1) ∧ passwordOk new = true ∧ t.arg.length = 2 + t.u 1 1 ∧ s.sf.password = none :=
  ⟨(wReq (State.reset) 0x0C04 ([0, 8] ++ ([65, 66, 67, 68, 69, 70, 71, 72] : Bytes)) .service), (1), (wTk 0x0C04 ([0, 8] ++ ([65, 66, 67, 68, 69, 70, 71, 72] : Bytes)) .service), ([65, 66, 67, 68, 69, 70, 71, 72]), by decide +kernel⟩

theorem test_witness_safetyParameterBlock_7 : ∃ (s : State) (e : Nat), s.sf.pwLock = some e ∧ e ≤ s.now :=
  ⟨({ State.reset with sf := { State.reset.sf with pwLock := some 0 } }), (0), by decide +kernel⟩

theorem test_witness_safetyParameterBlock_8 : ∃ (s : State) (e : Nat) (p : Bytes), s.sf.replace = some (p, e) ∧ e < s.now :=
  ⟨(wAt { State.reset with sf := { State.reset.sf with replace := some ([], 0) } } 1), (0), ([]), by decide +kernel⟩

theorem test_witness_safetyParameterBlock_9 : ∃ (s : State) (tk : Nat) (t : Ticket), s.ticket tk 0x0C01 = some t :=
  ⟨(wReq (State.reset) 0x0C01 [] .reader), (1), (wTk 0x0C01 [] .reader), by decide +kernel⟩

theorem test_witness_safetyParameterBlock_10 : ∃ (s : State) (tk : Nat) (t : Ticket) (v : Nat), s.ticket tk 0x0C02 = some t ∧ t.u 0 2 ≠ 0xFFFF ∧ s.sf.block.value (t.u 0 2) = some v :=
  ⟨(wReq (State.reset) 0x0C02 [0x00, 0x02] .reader), (1), (wTk 0x0C02 [0x00, 0x02] .reader), (100), by decide +kernel⟩

theorem test_witness_safetyParameterBlock_11 : ∃ (s : State) (tk : Nat) (t : Ticket), s.ticket tk 0x0C05 = some t ∧ 1 ≤ t.u 1 1 ∧ t.u 1 1 ≤ 32 :=
  ⟨(wReq (State.reset) 0x0C05 [0, 32] .reader), (1), (wTk 0x0C05 [0, 32] .reader), by decide +kernel⟩

theorem test_witness_protectedOutputTrips_1 : ∃ (s : State) (k : Nat), s.blanking k = false :=
  ⟨(State.reset), (127), by decide +kernel⟩

theorem test_witness_protectedOutputTrips_2 : ∃ (s : State) (k : Nat), (s.och k).out = true ∧ s.blanking k = false ∧ (s.och k).lowered = 0 :=
  ⟨(((State.reset).onCh 127 fun c => { c with out := true })), (127), by decide +kernel⟩

theorem test_witness_protectedOutputTrips_3 : ∃ (s : State) (k cur : Nat), (s.och k).out = true ∧ s.blanking k = false ∧ 60000 ≤ cur :=
  ⟨(((State.reset).onCh 127 fun c => { c with out := true })), (127), (60000), by decide +kernel⟩

theorem test_witness_protectedOutputTrips_4 : ∃ (s : State) (k cur : Nat), s.blanking k = true ∧ cur < 90000 :=
  ⟨(((State.reset).onCh 127 fun c => { c with out := true, blankEnd := some 1 })), (127), (89999), by decide +kernel⟩

theorem test_witness_protectedOutputTrips_5 : ∃ (s : State) (k tj : Nat), (s.och k).out = true :=
  ⟨(((State.reset).onCh 127 fun c => { c with out := true })), (127), (225), by decide +kernel⟩

theorem test_witness_protectedOutputTrips_6 : (127 : Nat) < State.reset.po.chans.length := by decide +kernel

theorem test_witness_protectedOutputTrips_7 : ∃ (s : State) (k e : Nat), (s.och k).tripped = true ∧ (s.och k).retryAt = some e ∧ e ≤ s.now :=
  ⟨(((State.reset).onCh 127 fun c => { c with tripped := true, retryAt := some 0 })), (127), (0), by decide +kernel⟩

theorem test_witness_protectedOutputTrips_8 : ∃ (s : State) (k e : Nat), (s.och k).tripped = true ∧ (s.och k).retryAt = some e ∧ e ≤ s.now :=
  ⟨(((State.reset).onCh 127 fun c => { c with tripped := true, retryAt := some 0 })), (127), (0), by decide +kernel⟩

theorem test_witness_protectedOutputTrips_9 : ∃ (s : State) (k : Nat), (s.och k).waitCool = true ∧ s.cfg.output k = none :=
  ⟨(((State.reset).onCh 127 fun c => { c with waitCool := true })), (127), by decide +kernel⟩

theorem test_witness_protectedOutputTrips_10 : ∃ (s : State) (k n : Nat) (o : Output), (s.och k).waitCool = false ∧ s.cfg.output k = some o ∧ ownerLane o.owner = some n :=
  ⟨(wCfg { slots := [{ slot := 63, typ := .ac1, group := 15 }], outputs := [{ output := 127, owner := 0x103F, func := 0, flags := 8 }] }), (127), (63), ({ output := 127, owner := 0x103F, func := 0, flags := 8 }), by decide +kernel⟩

theorem test_witness_protectedOutputTrips_11 : ∃ (s : State) (k e : Nat), (s.och k).onSince = some e ∧ e + sec 10 ≤ s.now :=
  ⟨(wAt ((State.reset).onCh 127 fun c => { c with onSince := some 0, used := 3 }) 10000000000), (127), (0), by decide +kernel⟩

theorem test_witness_protectedOutputTrips_12 : ∃ (s : State) (k : Nat), (2 ≤ ((s.och k).clamps.filter fun t => decide (s.now < t + sec 60)).length) :=
  ⟨(((State.reset).onCh 127 fun c => { c with clamps := [0, 0] })), (127), by decide +kernel⟩

theorem test_witness_protectedOutputTrips_13 : ∃ (s : State) (k : Nat), k < s.po.chans.length ∧ (((s.och k).clamps.filter fun t => decide (s.now < t + sec 60)).length < 2) :=
  ⟨(wAt ((State.reset).onCh 127 fun c => { c with clamps := [0, 0] }) 60000000000), (127), by decide +kernel⟩

theorem test_witness_outputDiesLoadsAndRequests_1 : ∃ (s : State) (d lim vsw : Nat) (cur tj : List Nat), d < 4 ∧ 4 ≤ s.po.dies.length :=
  ⟨(State.reset), (3), (0), (240), ([]), ([]), by decide +kernel⟩

theorem test_witness_outputDiesLoadsAndRequests_2 : ∃ (s : State) (k e : Nat), (s.och k).lowAt = some e ∧ e + ms 50 ≤ s.now ∧ (s.och k).out = true ∧ (s.och k).limit = true :=
  ⟨(wAt ((State.reset).onCh 127 fun c => { c with lowAt := some 0, out := true, limit := true }) 50000000), (127), (0), by decide +kernel⟩

theorem test_witness_outputDiesLoadsAndRequests_3 : ∃ (s : State) (k cur : Nat) (high : Bool), k < s.po.chans.length ∧ (s.och k).out = true ∧ s.blanking k = false :=
  ⟨(((State.reset).onCh 127 fun c => { c with out := true })), (127), (99), (false), by decide +kernel⟩

theorem test_witness_outputDiesLoadsAndRequests_4 : ∃ (s : State) (k cur : Nat) (high : Bool), k < s.po.chans.length ∧ (s.och k).out = false :=
  ⟨(State.reset), (127), (0), (true), by decide +kernel⟩

theorem test_witness_outputDiesLoadsAndRequests_5 : ∃ (s : State) (k : Nat) (above : Bool) (o : Output), (s.och k).out = false ∧ s.cfg.output k = some o ∧ bit o.flags 3 = true :=
  ⟨(wCfg { slots := [{ slot := 63, typ := .ac1, group := 15 }], outputs := [{ output := 127, owner := 0x103F, func := 0, flags := 8 }] }), (127), (true), ({ output := 127, owner := 0x103F, func := 0, flags := 8 }), by decide +kernel⟩

theorem test_witness_outputDiesLoadsAndRequests_6 : ∃ (s : State) (d v : Nat), d < 4 ∧ (s.swd d).uv = false ∧ v < 80 :=
  ⟨(State.reset), (3), (79), by decide +kernel⟩

theorem test_witness_outputDiesLoadsAndRequests_7 : ∃ (s : State) (d v : Nat), d < 4 ∧ (s.swd d).uv = true ∧ 85 < v :=
  ⟨(State.reset.onDie 3 fun x => { x with uv := true }), (3), (86), by decide +kernel⟩

theorem test_witness_outputDiesLoadsAndRequests_8 : ∃ (s : State) (d v : Nat), d < 4 :=
  ⟨(State.reset), (3), (240), by decide +kernel⟩

theorem test_witness_outputDiesLoadsAndRequests_9 : ∃ (s : State) (tk : Nat) (t : Ticket) (o : Output), s.ticket tk 0x0E01 = some t ∧ s.cfg.output (t.u 0 1) = some o ∧ o.func = 0 ∧ t.u 1 1 ≤ 1 ∧ (s.och (t.u 0 1)).latched = false ∧ (s.och (t.u 0 1)).proofFail = false :=
  ⟨(wReq (wCfg { slots := [{ slot := 63, typ := .ac1, group := 15 }], outputs := [{ output := 127, owner := 0x103F, func := 0, flags := 8 }] }) 0x0E01 [127, 1] .operator), (1), (wTk 0x0E01 [127, 1] .operator), ({ output := 127, owner := 0x103F, func := 0, flags := 8 }), by decide +kernel⟩

theorem test_witness_outputDiesLoadsAndRequests_10 : ∃ (s : State) (tk : Nat) (t : Ticket) (o : Output) (bad above : List Nat), s.ticket tk 0x0E02 = some t ∧ s.cfg.output (t.u 0 1) = some o ∧ (s.och (t.u 0 1)).latched = false ∧ t.u 0 1 ≠ 0xFF :=
  ⟨(wReq (wCfg { slots := [{ slot := 63, typ := .ac1, group := 15 }], outputs := [{ output := 127, owner := 0x103F, func := 0, flags := 8 }] }) 0x0E02 [127]), (1), (wTk 0x0E02 [127]), ({ output := 127, owner := 0x103F, func := 0, flags := 8 }), ([]), ([]), by decide +kernel⟩

theorem test_witness_outputDiesLoadsAndRequests_11 : ∃ (s : State) (tk : Nat) (t : Ticket) (o : Output) (bad above : List Nat), s.ticket tk 0x0E02 = some t ∧ s.cfg.outputs = [o] ∧ t.u 0 1 = o.output ∧ o.output ≠ 0xFF ∧ s.cfg.output o.output = some o ∧ (s.och o.output).latched = true :=
  ⟨(wReq ((wCfg { slots := [{ slot := 63, typ := .ac1, group := 15 }], outputs := [{ output := 127, owner := 0x103F, func := 0, flags := 8 }] }).onCh 127 fun c => { c with latched := true }) 0x0E02 [127]), (1), (wTk 0x0E02 [127]), ({ output := 127, owner := 0x103F, func := 0, flags := 8 }), ([]), ([]), by decide +kernel⟩

theorem test_witness_outputDiesLoadsAndRequests_12 : ∃ (s : State) (tk : Nat) (t : Ticket) (o : Output) (bad above chans res : List Nat), s.ticket tk 0x0E03 = some t ∧ s.cfg.output (t.u 0 1) = some o ∧ s.laneHolds (t.u 0 1) = false ∧ t.u 0 1 ≠ 0xFF ∧ (chans = (s.cfg.outputs.map (·.output)).filter fun c => c == t.u 0 1) ∧ (res = chans.map fun c => if s.laneHolds c then 2 else b2n (bad.contains c)) :=
  ⟨(wReq (wCfg { slots := [{ slot := 63, typ := .ac1, group := 15 }], outputs := [{ output := 127, owner := 0x103F, func := 0, flags := 8 }] }) 0x0E03 [127]), (1), (wTk 0x0E03 [127]), ({ output := 127, owner := 0x103F, func := 0, flags := 8 }), ([127]), ([]), ([127]), ([1]), by decide +kernel⟩

theorem test_witness_outputDiesLoadsAndRequests_13 : ∃ (s : State) (tk : Nat) (t : Ticket), s.ticket tk 0x0E04 = some t ∧ t.u 0 1 < 4 :=
  ⟨(wReq (State.reset) 0x0E04 [3] .reader), (1), (wTk 0x0E04 [3] .reader), by decide +kernel⟩

theorem test_witness_twinSidesFailAndReturn_1 : ∃ (s : State) (a b : Bool), s.twin = true ∧ a = false ∧ b = false :=
  ⟨(({ State.reset with ident := { State.reset.ident with variant := .fx }, rd := { State.reset.rd with sync := true } } : State)), (false), (false), by decide +kernel⟩

theorem test_witness_twinSidesFailAndReturn_2 : ∃ (s : State) (a b : Bool), s.twin = true ∧ (a = true ∨ b = true) ∧ s.rd.faultA = false ∧ s.rd.faultB = false :=
  ⟨(({ State.reset with ident := { State.reset.ident with variant := .fx }, rd := { State.reset.rd with sync := true } } : State)), (false), (true), by decide +kernel⟩

theorem test_witness_twinSidesFailAndReturn_3 : ∃ (s : State), s.twin = true ∧ s.rs.phase = 7 ∧ s.rd.hbAt + ms 3 ≤ s.now :=
  ⟨((wAt { State.reset with ident := { State.reset.ident with variant := .fx }, rd := { State.reset.rd with sync := true }, rs := { State.reset.rs with phase := 7 } } 3000000)), by decide +kernel⟩

theorem test_witness_twinSidesFailAndReturn_4 : ∃ (s : State) (side k m off : Nat), side < 2 ∧ k ≠ 0 ∧ k ≤ 7 ∧ k ≠ 3 ∧ k ≠ 7 :=
  ⟨(State.reset), (1), (6), (0), (0), by decide +kernel⟩

theorem test_witness_twinSidesFailAndReturn_5 : ∃ (s : State) (side m off : Nat), side < 2 :=
  ⟨(State.reset), (1), (0), (9), by decide +kernel⟩

theorem test_witness_twinSidesFailAndReturn_6 : State.reset.twin = false ∨ State.reset.rd.sync = false ∨ State.reset.pw.state = 2 := by decide +kernel

theorem test_witness_twinSidesFailAndReturn_7 : (fun (s : State) => s.twin = true ∧ s.rd.sync = true ∧ s.pw.state ≠ 2 ∧ s.rd.active < 2 ∧ s.emits = [] ∧ s.seqr.mirrored = s.seqr.seqLast) ({ State.reset with ident := { State.reset.ident with variant := .fx }, rd := { State.reset.rd with sync := true, standby := 4 } } : State) := by decide +kernel

theorem test_witness_twinSidesFailAndReturn_8 : ∃ (s : State) (p : Nat), s.twin = true ∧ p ≤ 1 ∧ (if p = 0 then s.rd.faultA else s.rd.faultB) = false ∧ s.rd.standby ≠ 4 :=
  ⟨(({ State.reset with ident := { State.reset.ident with variant := .fx }, rd := { State.reset.rd with standby := 3 } } : State)), (1), by decide +kernel⟩

theorem test_witness_twinSidesFailAndReturn_9 : ∃ (s : State) (k : Nat), s.twin = true ∧ s.rd.standby ≠ 5 :=
  ⟨(({ State.reset with ident := { State.reset.ident with variant := .fx }, rd := { State.reset.rd with standby := 4 } } : State)), (9), by decide +kernel⟩

theorem test_witness_twinSidesFailAndReturn_10 : ∃ (s : State) (e : Nat), s.rd.heldReset = some e ∧ e + ms 10 ≤ s.now ∧ s.rd.standby = 1 :=
  ⟨((wAt { State.reset with ident := { State.reset.ident with variant := .fx }, rd := { State.reset.rd with heldReset := some 0, standby := 1 } } 10000000)), (0), by decide +kernel⟩

theorem test_witness_twinSidesFailAndReturn_11 : ∃ (s : State), s.twin = true ∧ s.rd.standby = 3 ∧ s.rd.faultA = false ∧ s.mismatch ≠ 0 :=
  ⟨(({ State.reset with ident := { State.reset.ident with variant := .fx }, rd := { State.reset.rd with standby := 3, digestA := 1 } } : State)), by decide +kernel⟩

theorem test_witness_twinSidesFailAndReturn_12 : ∃ (s : State), s.twin = true ∧ s.rd.standby = 3 ∧ s.rd.faultA = false ∧ s.mismatch = 0 ∧ s.rd.restartTk = none :=
  ⟨(({ State.reset with ident := { State.reset.ident with variant := .fx }, rd := { State.reset.rd with standby := 3 } } : State)), by decide +kernel⟩

theorem test_witness_plannedSwapsAndTheirRequests_1 : ∃ (s : State), s.twin = true ∧ s.cfg.cpInterval ≠ 0 ∧ s.cpDue ≤ s.now ∧ s.rd.swap = none ∧ s.sideHeld = false :=
  ⟨(wAt { wCfg { cpInterval := 1 } with ident := { State.reset.ident with variant := .fx } } 3600000000000), by decide +kernel⟩

theorem test_witness_plannedSwapsAndTheirRequests_2 : ∃ (s : State), s.twin = true ∧ s.preferred = some (1 - s.rd.active) ∧ s.rd.sync = true ∧ s.rd.syncAt + sec s.cfg.revertS ≤ s.now ∧ s.rd.swap = none ∧ s.sideHeld = false :=
  ⟨(wAt { wCfg { prefSide := 2, revertS := 60 } with ident := { State.reset.ident with variant := .fx }, rd := { State.reset.rd with sync := true } } 60000000000), by decide +kernel⟩

theorem test_witness_plannedSwapsAndTheirRequests_3 : ∃ (s : State) (x : RdSwap), s.rd.swap = some x ∧ x.reason = 2 ∧ x.drainEnd = none ∧ x.since + sec 600 ≤ s.now :=
  ⟨((wAt { State.reset with ident := { State.reset.ident with variant := .fx }, rd := { State.reset.rd with sync := true, swap := some { reason := 2, since := 0 } } } 600000000000)), ({ reason := 2, since := 0 }), by decide +kernel⟩

theorem test_witness_plannedSwapsAndTheirRequests_4 : ∃ (s : State) (x : RdSwap), s.rd.swap = some x ∧ x.drainEnd = none ∧ s.swapOk x.reason = true ∧ (s.protectedOpen = false ∨ x.waited = true) ∧ x.ticket = none :=
  ⟨(({ State.reset with ident := { State.reset.ident with variant := .fx }, rd := { State.reset.rd with sync := true, swap := some { reason := 2, since := 0 } } } : State)), ({ reason := 2, since := 0 }), by decide +kernel⟩

theorem test_witness_plannedSwapsAndTheirRequests_5 : ∃ (s : State) (x : RdSwap), s.rd.swap = some x ∧ x.since + sec 60 ≤ s.now ∧ x.drainEnd = none :=
  ⟨((wAt { State.reset with ident := { State.reset.ident with variant := .fx }, rd := { State.reset.rd with sync := true, swap := some { reason := 2, since := 0 } } } 60000000000)), ({ reason := 2, since := 0 }), by decide +kernel⟩

theorem test_witness_plannedSwapsAndTheirRequests_6 : ∃ (s : State) (x : RdSwap) (e : Nat), s.rd.swap = some x ∧ x.drainEnd = some e ∧ s.rd.sync = true :=
  ⟨(({ State.reset with ident := { State.reset.ident with variant := .fx }, rd := { State.reset.rd with sync := true, swap := some { reason := 2, since := 0, drainEnd := some 0 } } } : State)), ({ reason := 2, since := 0, drainEnd := some 0 }), (0), by decide +kernel⟩

theorem test_witness_plannedSwapsAndTheirRequests_7 : ∃ (s : State) (tk : Nat) (t : Ticket), s.ticket tk 0x0D01 = some t :=
  ⟨(wReq (State.reset) 0x0D01 [] .reader), (1), (wTk 0x0D01 [] .reader), by decide +kernel⟩

theorem test_witness_plannedSwapsAndTheirRequests_8 : ∃ (s : State) (tk : Nat) (t : Ticket), s.ticket tk 0x0D02 = some t ∧ s.twin = true ∧ s.rd.sync = true ∧ s.rd.swap = none :=
  ⟨(wReq (({ State.reset with ident := { State.reset.ident with variant := .fx }, rd := { State.reset.rd with sync := true } } : State)) 0x0D02 [] .operator), (1), (wTk 0x0D02 [] .operator), by decide +kernel⟩

theorem test_witness_plannedSwapsAndTheirRequests_9 : ∃ (s : State) (x : RdSwap) (tk : Nat) (k : Ticket), s.rd.swap = some x ∧ x.ticket = some tk ∧ x.drainEnd = none ∧ x.since + sec 10 ≤ s.now ∧ ({ s with rd := { s.rd with swap := none } } : State).ticket tk 0x0D02 = some k :=
  ⟨(wAt (wReq ({ State.reset with ident := { State.reset.ident with variant := .fx }, rd := { State.reset.rd with sync := true, swap := some { reason := 4, since := 0, ticket := some 1 } } } : State) 0x0D02) 10000000000), ({ reason := 4, since := 0, ticket := some 1 }), (1), (wTk 0x0D02), by decide +kernel⟩

theorem test_witness_plannedSwapsAndTheirRequests_10 : ∃ (s : State) (tk : Nat) (t : Ticket), s.ticket tk 0x0D03 = some t ∧ s.twin = true ∧ s.sideHeld = false ∧ s.rd.restartTk = none :=
  ⟨(wReq (({ State.reset with ident := { State.reset.ident with variant := .fx }, rd := { State.reset.rd with standby := 4 } } : State)) 0x0D03 [] .admin), (1), (wTk 0x0D03 [] .admin), by decide +kernel⟩

theorem test_witness_plannedSwapsAndTheirRequests_11 : ∃ (s : State) (tk e : Nat) (k : Ticket), s.rd.restartTk = some (tk, e) ∧ e ≤ s.now ∧ ({ s with rd := { s.rd with restartTk := none } } : State).ticket tk 0x0D03 = some k :=
  ⟨(wReq ({ State.reset with ident := { State.reset.ident with variant := .fx }, rd := { State.reset.rd with restartTk := some (1, 0) } } : State) 0x0D03), (1), (0), (wTk 0x0D03), by decide +kernel⟩

theorem test_witness_plannedSwapsAndTheirRequests_12 : ∃ (s : State) (tk : Nat) (t : Ticket), s.ticket tk 0x0D04 = some t ∧ s.twin = true ∧ s.sideHeld = true :=
  ⟨(wReq (({ State.reset with ident := { State.reset.ident with variant := .fx }, rd := { State.reset.rd with standby := 5 } } : State)) 0x0D04 [] .admin), (1), (wTk 0x0D04 [] .admin), by decide +kernel⟩

theorem test_witness_billingPeriodsCloseOnTheirDay_1 : ((({ bpMode := 0, bpDay := 28 } : CalTab).nextPeriodFrom 0 40 0).isSome = true) := by decide +kernel

theorem test_witness_billingPeriodsCloseOnTheirDay_3 : ∃ (s : State) (i : Nat), s.dueBound = some (i, .period) :=
  ⟨(({ State.reset with clock := { State.reset.clock with legalValid := true, anchorLegal := 2678400 * 2 ^ 32 }, rs := { State.reset.rs with phase := 5 }, bl := { State.reset.bl with hwmSet := true, cal := {}, hwmD := 2678400 * 2 ^ 32 } } : State)), (2678400), by decide +kernel⟩

theorem test_witness_billingPeriodsCloseOnTheirDay_4 : (36524 : Nat) < 36525 := by decide

theorem test_witness_boundariesAndCorrections_1 : ∃ (s : State) (i : Nat), s.dueBound = some (i, .demand) :=
  ⟨(({ State.reset with clock := { State.reset.clock with legalValid := true, anchorLegal := 900 * 2 ^ 32 }, rs := { State.reset.rs with phase := 5 }, bl := { State.reset.bl with hwmSet := true, cal := {} } } : State)), (900), by decide +kernel⟩

theorem test_witness_boundariesAndCorrections_2 : ∃ (s : State) (i r : Nat), s.dueBound = some (i, .switch r) :=
  ⟨(({ State.reset with clock := { State.reset.clock with legalValid := true, anchorLegal := 60 * 2 ^ 32 }, rs := { State.reset.rs with phase := 5 }, bl := { State.reset.bl with hwmSet := true, cal := { days := [[{ minute := 0, rate := 1 }, { minute := 1, rate := 2 }], []] } } } : State)), (60), (2), by decide +kernel⟩

theorem test_witness_boundariesAndCorrections_3 : ∃ (s : State) (i j : Nat) (c : CalTab), s.dueBound = some (i, .activation) ∧ s.bl.passive = some (c, j) :=
  ⟨(({ State.reset with clock := { State.reset.clock with legalValid := true, anchorLegal := 60 * 2 ^ 32 }, rs := { State.reset.rs with phase := 5 }, bl := { State.reset.bl with hwmSet := true, cal := {}, passive := some ({ demandMin := 5 }, 0) } } : State)), (0), (0), ({ demandMin := 5 }), by decide +kernel⟩

theorem test_witness_boundariesAndCorrections_4 : ∃ (s : State), s.bl.dst ≠ s.dstNow :=
  ⟨(({ State.reset with bl := { State.reset.bl with dst := true } } : State)), by decide +kernel⟩

theorem test_witness_boundariesAndCorrections_5 : ∃ (s : State) (e : Nat), s.clock.slewEnd = some e ∧ e ≤ s.now :=
  ⟨(({ State.reset with clock := { State.reset.clock with slewEnd := some 0 } } : State)), (0), by decide +kernel⟩

theorem test_witness_boundariesAndCorrections_6 : ∃ (s : State) (tk : Nat) (t : Ticket) (d : Int), s.ticket tk 0x0563 = some t ∧ s.hubTime = false ∧ d = s.corrDelta (t.u 0 8) t.acceptTime ∧ s.corrRefused (t.u 0 8) d = false :=
  ⟨(wReq (State.reset) 0x0563 (leBytes 8 (7305 * 86400 * 2 ^ 32)) .operator), (1), (wTk 0x0563 (leBytes 8 (7305 * 86400 * 2 ^ 32)) .operator), (7305 * 86400 * 2 ^ 32), by decide +kernel⟩

theorem test_witness_boundariesAndCorrections_7 : State.reset.corrMode 0 ≠ 0 := by decide +kernel

theorem test_witness_boundariesAndCorrections_8 : ({ State.reset with clock := { State.reset.clock with legalValid := true } } : State).corrMode (2 * 2 ^ 32) = 0 := by decide +kernel

theorem test_witness_boundariesAndCorrections_9 : ∃ (s : State) (tk : Nat) (t : Ticket) (c : CalTab), s.ticket tk 0x0560 = some t ∧ s.checkTable (t.rest 4) = .inr c ∧ t.u 0 4 ≠ 0 ∧ s.instantOk c (t.u 0 4) = true :=
  ⟨(wReq (State.reset) 0x0560 (leBytes 4 3600 ++ defaultTable) .admin), (1), (wTk 0x0560 (leBytes 4 3600 ++ defaultTable) .admin), ((parseTable defaultTable).getD {}), by decide +kernel⟩

theorem test_witness_boundariesAndCorrections_10 : ∃ (s : State) (tk : Nat) (t : Ticket), s.ticket tk 0x0561 = some t :=
  ⟨(wReq (State.reset) 0x0561 [] .admin), (1), (wTk 0x0561 [] .admin), by decide +kernel⟩

theorem test_witness_boundariesAndCorrections_11 : ∃ (s : State) (tk : Nat) (t : Ticket), s.ticket tk 0x0562 = some t ∧ t.u 0 1 = 0 :=
  ⟨(wReq (State.reset) 0x0562 [0] .reader), (1), (wTk 0x0562 [0] .reader), by decide +kernel⟩

theorem test_witness_boundariesAndCorrections_12 : ∃ (s : State) (tk : Nat) (t : Ticket), s.ticket tk 0x0564 = some t :=
  ⟨(wReq (State.reset) 0x0564 [] .reader), (1), (wTk 0x0564 [] .reader), by decide +kernel⟩

theorem test_witness_boundariesAndCorrections_13 : ∃ (s : State) (tk : Nat) (t : Ticket) (l : List Bytes) (e : Bytes), s.ticket tk 0x0565 = some t ∧ t.u 0 1 = 0 ∧ t.u 1 1 < s.nLanes ∧ (s.typ (t.u 1 1)).isLane = true ∧ ((s.bl.history.find? fun y => y.1 == 0 && y.2.1 == t.u 1 1) = some (0, t.u 1 1, l)) ∧ l[t.u 2 1]? = some e :=
  ⟨(wReq (({ wCfg { slots := [{ slot := 63, typ := .meter, group := 0 }] } with bl := { State.reset.bl with history := [(0, 63, [[7]])] } } : State)) 0x0565 [0, 63, 0] .reader), (1), (wTk 0x0565 [0, 63, 0] .reader), ([[7]]), ([7]), by decide +kernel⟩

theorem test_witness_boundariesAndCorrections_14 : ∃ (s : State) (tk : Nat) (t : Ticket), s.ticket tk 0x0566 = some t ∧ t.u 0 1 = 0 ∧ t.u 1 1 < s.nLanes ∧ (s.typ (t.u 1 1)).isLane = true :=
  ⟨(wReq (wCfg { slots := [{ slot := 63, typ := .meter, group := 0 }] }) 0x0566 [0, 63] .reader), (1), (wTk 0x0566 [0, 63] .reader), by decide +kernel⟩

theorem test_witness_debitsChecksAndPrices_3 : ∃ (s : State) (m : Nat), m = bitsLess (s.friendlyAt s.legalSec) s.ac.frNow ∧ m ≠ 0 :=
  ⟨(({ State.reset with ac := { State.reset.ac with frDays := [{ year := 0xFFFF, month := 1, day := 1, used := true }] } } : State)), (0xFFFF), by decide +kernel⟩

theorem test_witness_debitsChecksAndPrices_4 : ∃ (s : State) (m : Nat), m = bitsLess s.ac.frNow (s.friendlyAt s.legalSec) ∧ m ≠ 0 :=
  ⟨(({ State.reset with ac := { State.reset.ac with frNow := 0x8000 } } : State)), (0x8000), by decide +kernel⟩

theorem test_witness_debitsChecksAndPrices_5 : ∃ (s : State) (p : PriceTab) (i : Nat), s.ac.pricePend = some (p, i) ∧ i ≤ s.legalSec :=
  ⟨(({ State.reset with ac := { State.reset.ac with pricePend := some ({}, 0) } } : State)), ({}), (0), by decide +kernel⟩

theorem test_witness_debitsChecksAndPrices_6 : ∃ (s : State) (tk : Nat) (t : Ticket) (b : Bytes) (gs : List (Option PriceGrp)), s.ticket tk 0x0508 = some t ∧ s.bulkRuns = false ∧ b = t.rest 4 ∧ b.length = 5124 ∧ leNat (sub b 5120 4) = crc32 (b.take 5120) ∧ (gs = (List.range 64).map (fun k => parseGroup (sub b (80 * k) 80))) ∧ gs.any (·.isNone) = false ∧ t.u 0 4 ≠ 0 ∧ t.u 0 4 % 60 = 0 ∧ s.legal < t.u 0 4 * 2 ^ 32 := by
  have h1 : ∀ (c : Bytes) (x : Bytes), (leBytes 4 60 ++ (c ++ x)).drop 4 = c ++ x := fun c x => rfl
  have h2 : ∀ x : Bytes, sub (leBytes 4 60 ++ x) 0 4 = leBytes 4 60 := fun x => rfl
  have h3 : (wPrices ++ leBytes 4 (crc32 wPrices)).take 5120 = wPrices := List.take_left' wPrices_length
  have hz : parseGroup (List.replicate 80 0) = some {} := by decide +kernel
  have h4 : ∀ k < 64, sub (wPrices ++ leBytes 4 (crc32 wPrices)) (80 * k) 80 = List.replicate 80 0 := by
    intro k hk
    simp only [sub]
    rw [List.drop_append_of_le_length (by rw [wPrices_length]; omega), List.take_append_of_le_length (by rw [List.length_drop, wPrices_length]; omega)]
    simp only [wPrices, List.drop_replicate, List.take_replicate]; congr 1; omega
  refine ⟨wReq State.reset 0x0508 (leBytes 4 60 ++ (wPrices ++ leBytes 4 (crc32 wPrices))) .admin, 1, wTk 0x0508 (leBytes 4 60 ++ (wPrices ++ leBytes 4 (crc32 wPrices))) .admin,
    wPrices ++ leBytes 4 (crc32 wPrices), (List.range 64).map fun _ => some {}, rfl, rfl, (h1 _ _).symm, ?_, ?_, ?_, by decide +kernel, ?_, ?_, ?_⟩
  · rw [List.length_append, wPrices_length, leBytes_length]
  · rw [h3, sub_append_right _ _ _ _ wPrices_length, List.take_of_length_le (by simp), leNat_leBytes]
    exact Nat.mod_eq_of_lt (crc32_lt _)
  · apply List.map_congr_left; intro k hk; rw [h4 k (by simpa using hk), hz]
  · show leNat (sub (leBytes 4 60 ++ _) 0 4) ≠ 0; rw [h2]; decide
  · show leNat (sub (leBytes 4 60 ++ _) 0 4) % 60 = 0; rw [h2]; decide
  · show State.reset.legal < leNat (sub (leBytes 4 60 ++ _) 0 4) * 2 ^ 32; rw [h2]; decide +kernel

theorem test_witness_debitsChecksAndPrices_7 : ∃ (s : State) (tk : Nat) (t : Ticket) (ws : List (FrWin × Bool)) (ds : List (FrDay × Bool)), s.ticket tk 0x0509 = some t ∧ s.bulkRuns = false ∧ t.arg.length = 192 ∧ ws = (List.range 8).map (fun k => parseWindow (sub t.arg (8 * k) 8)) ∧ ds = (List.range 32).map (fun k => parseFrDay (sub t.arg (64 + 4 * k) 4)) ∧ ((ws.any fun w => !w.2) = false) ∧ ((ds.any fun d => !d.2) = false) :=
  ⟨(wReq (State.reset) 0x0509 (List.replicate 192 0) .admin), (1), (wTk 0x0509 (List.replicate 192 0) .admin), ((List.range 8).map (fun _ => parseWindow (List.replicate 8 0))), ((List.range 32).map (fun _ => parseFrDay (List.replicate 4 0))), by decide +kernel⟩

theorem test_witness_debitsChecksAndPrices_8 : ∃ (s : State) (tk : Nat) (t : Ticket), s.ticket tk 0x0507 = some t ∧ t.u 0 1 ≤ 15 ∧ t.u 1 4 ≤ 2000000000 ∧ t.u 5 4 ≤ 2000000000 ∧ t.u 9 4 ≤ 2000000000 ∧ t.u 13 1 ≤ 64 ∧ t.u 14 1 ≤ 1 ∧ t.u 15 1 = 1 ∧ t.u 16 1 = 0 :=
  ⟨(wReq (State.reset) 0x0507 ([15] ++ List.replicate 12 0 ++ [64, 1, 1, 0]) .admin), (1), (wTk 0x0507 ([15] ++ List.replicate 12 0 ++ [64, 1, 1, 0]) .admin), by decide +kernel⟩

theorem test_witness_debitsChecksAndPrices_9 : ∃ (s : State) (tk : Nat) (t : Ticket), s.ticket tk 0x050A = some t :=
  ⟨(wReq (State.reset) 0x050A [] .reader), (1), (wTk 0x050A [] .reader), by decide +kernel⟩

theorem test_witness_cellsCredentialsAndBulkLoads_1 : ∃ (s : State) (tk : Nat) (t : Ticket) (x : Cell), s.ticket tk 0x0502 = some t ∧ parseCell (t.rest 4) = some (x, false) ∧ t.u 0 4 < cellCount :=
  ⟨(wReq (State.reset) 0x0502 (leBytes 4 1048575 ++ (List.replicate 36 0 ++ [255, 0, 15, 7] ++ List.replicate 8 0)) .admin), (1), (wTk 0x0502 (leBytes 4 1048575 ++ (List.replicate 36 0 ++ [255, 0, 15, 7] ++ List.replicate 8 0)) .admin), ({ cls := 15, used := true, blocked := true, prepaid := true }), by decide +kernel⟩

theorem test_witness_cellsCredentialsAndBulkLoads_2 : ∃ (s : State) (tk : Nat) (t : Ticket), s.ticket tk 0x0503 = some t ∧ t.u 0 4 < cellCount :=
  ⟨(wReq (State.reset) 0x0503 (leBytes 4 1048575) .reader), (1), (wTk 0x0503 (leBytes 4 1048575) .reader), by decide +kernel⟩

theorem test_witness_cellsCredentialsAndBulkLoads_3 : ∃ (s : State) (tk : Nat) (t : Ticket) (b : Int), s.ticket tk 0x0504 = some t ∧ t.u 0 4 < cellCount ∧ t.u 12 8 ≠ 0 ∧ s.bulkRuns = false ∧ ((s.ac.txns.find? fun x => x.id == t.u 12 8) = none) ∧ b = (s.cell (t.u 0 4)).balance + t.i 4 8 ∧ -(2 ^ 63 : Int) ≤ b ∧ b < 2 ^ 63 :=
  ⟨(wReq (({ State.reset with ac := { State.reset.ac with cells := [(1048575, { balance := 100, used := true, prepaid := true })] } } : State)) 0x0504 (leBytes 4 1048575 ++ leBytes 8 5 ++ leBytes 8 1) .operator), (1), (wTk 0x0504 (leBytes 4 1048575 ++ leBytes 8 5 ++ leBytes 8 1) .operator), (105), by decide +kernel⟩

theorem test_witness_cellsCredentialsAndBulkLoads_4 : ∃ (s : State) (tk : Nat) (t : Ticket) (x : Txn), s.ticket tk 0x0504 = some t ∧ t.u 0 4 < cellCount ∧ t.u 12 8 ≠ 0 ∧ s.bulkRuns = false ∧ ((s.ac.txns.find? fun x => x.id == t.u 12 8) = some x) :=
  ⟨(wReq (({ State.reset with ac := { State.reset.ac with txns := [{ id := 1, balance := 105 }] } } : State)) 0x0504 (leBytes 4 1048575 ++ leBytes 8 5 ++ leBytes 8 1) .operator), (1), (wTk 0x0504 (leBytes 4 1048575 ++ leBytes 8 5 ++ leBytes 8 1) .operator), ({ id := 1, balance := 105 }), by decide +kernel⟩

theorem test_witness_cellsCredentialsAndBulkLoads_5 : ∃ (s : State) (tk : Nat) (t : Ticket) (e : CredEnt), s.ticket tk 0x0505 = some t ∧ t.u 0 1 = 0 ∧ parseEntry (t.rest 1) false = some e ∧ s.ac.creds = [] :=
  ⟨(wReq (State.reset) 0x0505 ([0] ++ ([4, 8, 0, 0] ++ leBytes 4 1048575 ++ List.replicate 56 1).take 16 ++ List.replicate 48 0) .admin), (1), (wTk 0x0505 ([0] ++ ([4, 8, 0, 0] ++ leBytes 4 1048575 ++ List.replicate 56 1).take 16 ++ List.replicate 48 0) .admin), ({ kind := 4, ident := List.replicate 8 1, cell := 1048575 }), by decide +kernel⟩

theorem test_witness_cellsCredentialsAndBulkLoads_6 : ∃ (s : State) (tk : Nat) (t : Ticket) (e x : CredEnt), s.ticket tk 0x0505 = some t ∧ parseEntry (t.rest 1) false = some e ∧ s.ac.creds = [x] ∧ e.same x = true ∧ t.u 0 1 ≤ 2 ∧ 1 ≤ t.u 0 1 :=
  ⟨(wReq (({ State.reset with ac := { State.reset.ac with creds := [{ kind := 4, ident := List.replicate 8 1, cell := 1048575 }] } } : State)) 0x0505 ([1] ++ ([4, 8, 0, 0] ++ leBytes 4 1048575 ++ List.replicate 56 1).take 16 ++ List.replicate 48 0) .admin), (1), (wTk 0x0505 ([1] ++ ([4, 8, 0, 0] ++ leBytes 4 1048575 ++ List.replicate 56 1).take 16 ++ List.replicate 48 0) .admin), ({ kind := 4, ident := List.replicate 8 1, cell := 1048575 }), ({ kind := 4, ident := List.replicate 8 1, cell := 1048575 }), by decide +kernel⟩

theorem test_witness_cellsCredentialsAndBulkLoads_7 : ∃ (s : State) (tk : Nat) (t : Ticket) (k : Nat) (id : Bytes) (e : CredEnt), s.ticket tk 0x0506 = some t ∧ s.identOf (beNat (sub t.arg 0 4)) (t.role == .admin) = some (k, id) ∧ ((s.ac.creds.find? fun e => e.kind == k && e.ident == id) = some e) := by
  have ho : wCreds.isOrphan 3 = false := by decide +kernel
  have hr : wCreds.credRef 4 (List.replicate 8 1) = beNat wRef := by simp only [State.credRef, ho, Bool.false_eq_true, if_false, wRef]
  have hs : sub wRef 0 4 = wRef := by simp only [wRef, sub, List.drop_zero, List.take_take, Nat.min_self]
  generalize wRef = b at hr hs
  exact ⟨wReq wCreds 0x0506 b .admin, 1, wTk 0x0506 b .admin, 4, List.replicate 8 1, { kind := 4, ident := List.replicate 8 1, cell := 1048575 }, rfl, wCreds_ref b hs hr, rfl⟩

theorem test_witness_cellsCredentialsAndBulkLoads_8 : ∃ (s : State) (tk : Nat) (t : Ticket), s.ticket tk 0x050B = some t ∧ t.u 0 1 ≤ 31 ∧ t.u 1 4 < cellCount ∧ s.custExists (t.u 0 1) = true ∧ s.ac.custody.getD (t.u 0 1) none = none :=
  ⟨(wReq (wCfg { pulses := [{ input := 31, mode := 2, owner := custodyOwner 31, unit := 0, filter := 2, weight := 5, maxRate := 1 }] }) 0x050B ([31] ++ leBytes 4 1048575) .admin), (1), (wTk 0x050B ([31] ++ leBytes 4 1048575) .admin), by decide +kernel⟩

theorem test_witness_cellsCredentialsAndBulkLoads_9 : ∃ (s : State) (tk : Nat) (t : Ticket) (b : Bytes) (mode : Nat) (cells : List (Nat × Cell × Bool)) (creds : List CredEnt), s.ticket tk 0x0501 = some t ∧ s.ac.bulk = none ∧ s.applying = false ∧ ((s.up.xfers.any fun x => decide (x.kind < 2)) = false) ∧ s.xferBytes (t.u 0 4) 3 = some b ∧ s.checkBulk b = .inr (mode, cells, creds) :=
  ⟨(wReq (({ State.reset with up := { State.reset.up with xfers := [{ num := 9, kind := 3, size := 32, frags := 1, complete := true, store := [(0, [0x59, 0x47, 0x41, 0x43, 1] ++ List.replicate 23 0 ++ leBytes 4 (crc32 []))] }] } } : State)) 0x0501 [9, 0, 0, 0] .admin), (1), (wTk 0x0501 [9, 0, 0, 0] .admin), ([0x59, 0x47, 0x41, 0x43, 1] ++ List.replicate 23 0 ++ leBytes 4 (crc32 [])), (1), ([]), ([]), by decide +kernel⟩

theorem test_witness_cellsCredentialsAndBulkLoads_10 : ∃ (s : State) (b : Bulk), s.ac.bulk = some b ∧ b.committed = false ∧ b.cells = [] ∧ s.ticket b.ticket 0x0501 = none :=
  ⟨(({ State.reset with ac := { State.reset.ac with bulk := some { xfer := 9, mode := 1 } } } : State)), ({ xfer := 9, mode := 1 }), by decide +kernel⟩

theorem test_witness_cellsCredentialsAndBulkLoads_11 : ∃ (s : State) (b : Bulk), s.ac.bulk = some b ∧ b.committed = true :=
  ⟨(({ State.reset with ac := { State.reset.ac with bulk := some { xfer := 9, mode := 1, committed := true } } } : State)), ({ xfer := 9, mode := 1, committed := true }), by decide +kernel⟩

theorem test_witness_cosemLinkAndAssociations_2 : ∃ (s : State), s.cosem.hdlc = true ∧ s.cosem.hdlcAt + sec 120 ≤ s.now :=
  ⟨(wAt ({ State.reset with cosem := { State.reset.cosem with hdlc := true, assocs := [{ transport := 4, client := 1, sap := 16, role := .pub, mechanism := 0 }] } } : State) (sec 120)), by decide +kernel⟩

theorem test_witness_cosemLinkAndAssociations_3 : ∃ (s : State) (transport client mech prot : Nat) (authOk : Bool), s.cosemUp transport = true ∧ s.cosemLocked transport = false ∧ ((s.cosem.assocs.filter fun a => a.transport == transport && a.client != client).length < assocLimit transport) ∧ mech = 0 :=
  ⟨(State.reset), (1), (5), (0), (0), (false), by decide +kernel⟩

theorem test_witness_cosemLinkAndAssociations_4 : ∃ (s : State) (transport client sap : Nat) (r : Role), s.cosemUp transport = true ∧ sapRole sap = some r ∧ r ≠ .pub ∧ s.cosemLocked transport = false ∧ ((s.cosem.assocs.filter fun a => a.transport == transport && a.client != client).length < assocLimit transport) ∧ s.isOrphan 4 = false ∧ s.isOrphan 1 = false ∧ s.assocKeys r 7 = true :=
  ⟨(({ State.reset with kv := { State.reset.kv with objects := [(0, 4, [1])], anchors := [(25, [1])] } } : State)), (0), (5), (1), (.admin), by decide +kernel⟩

theorem test_witness_cosemLinkAndAssociations_5 : ∃ (s : State) (transport client : Nat) (a : Assoc), s.assocOf transport client = some a ∧ s.cosemUp transport = true :=
  ⟨(({ State.reset with cosem := { State.reset.cosem with assocs := [{ transport := 0, client := 1, sap := 1, role := .admin, mechanism := 7 }] } } : State)), (0), (1), ({ transport := 0, client := 1, sap := 1, role := .admin, mechanism := 7 }), by decide +kernel⟩

theorem test_witness_cosemLinkAndAssociations_6 : ∃ (s : State) (transport client : Nat) (a : Assoc), s.assocOf transport client = some a ∧ transport < 2 ∧ a.lastApdu + sec 120 ≤ s.now :=
  ⟨(wAt ({ State.reset with cosem := { State.reset.cosem with assocs := [{ transport := 0, client := 1, sap := 1, role := .admin, mechanism := 7 }] } } : State) (sec 120)), (0), (1), ({ transport := 0, client := 1, sap := 1, role := .admin, mechanism := 7 }), by decide +kernel⟩

theorem test_witness_cosemLinkAndAssociations_7 : ∃ (s : State) (tr e : Nat), (tr, e) ∈ s.cosem.lockouts :=
  ⟨(({ State.reset with cosem := { State.reset.cosem with lockouts := [(1, 0)] } } : State)), (1), (0), by decide +kernel⟩

theorem test_witness_cosemLinkAndAssociations_8 : ∃ (s : State) (a : Assoc), s.assocOf 0 1 = some a ∧ s.cosemUp 0 = true ∧ a.role ≠ .pub ∧ s.cosem.invRx.find? (fun x => x.1 == a.sap) = none :=
  ⟨({ State.reset with cosem := { State.reset.cosem with assocs := [{ transport := 0, client := 1, sap := 1, role := .admin, mechanism := 7 }] } } : State), { transport := 0, client := 1, sap := 1, role := .admin, mechanism := 7 }, by decide +kernel⟩

theorem test_witness_cosemLinkAndAssociations_9 : ∃ (s : State) (a : Assoc), s.assocOf 0 1 = some a ∧ s.cosemUp 0 = true ∧ a.role ≠ .pub ∧ s.cosem.invRx.find? (fun x => x.1 == a.sap) = some (a.sap, 6) ∧ 6 ≤ 6 :=
  ⟨({ State.reset with cosem := { State.reset.cosem with assocs := [{ transport := 0, client := 1, sap := 1, role := .admin, mechanism := 7 }], invRx := [(1, 6)] } } : State), { transport := 0, client := 1, sap := 1, role := .admin, mechanism := 7 }, by decide +kernel⟩

theorem test_witness_cosemLinkAndAssociations_10 : ∃ (s : State) (transport client ctr room : Nat) (ok : Bool) (l : List CosemRef) (a : Assoc) (b : Bytes), s.assocOf transport client = some a ∧ s.cosemUp transport = true ∧ a.role = .pub ∧ (b = l.flatMap (fun r => (s.cosemApdu transport client ctr true fun u _ => u).cosemGet a.role r)) ∧ (room = 0 ∨ b.length ≤ room) :=
  ⟨(({ State.reset with cosem := { State.reset.cosem with assocs := [{ transport := 0, client := 5, sap := 16, role := .pub, mechanism := 0 }] } } : State)), (0), (5), (0), (0), (true), ([]), ({ transport := 0, client := 5, sap := 16, role := .pub, mechanism := 0 }), ([]), by decide +kernel⟩

theorem test_witness_cosemLinkAndAssociations_11 : ∃ (s : State) (transport client ctr room : Nat) (ok : Bool) (a : Assoc) (b : Bytes), s.assocOf transport client = some a ∧ s.cosemUp transport = true ∧ a.role = .pub ∧ a.rest = some b ∧ 0 < room ∧ room < b.length :=
  ⟨(({ State.reset with cosem := { State.reset.cosem with assocs := [{ client := 5, transport := 0, rest := some [1, 2] }] } } : State)), (0), (5), (0), (1), (true), ({ client := 5, transport := 0, rest := some [1, 2] }), ([1, 2]), by decide +kernel⟩

theorem test_witness_cosemLinkAndAssociations_12 : ∃ (s : State) (transport client ctr value : Nat) (r : CosemRef) (a : Assoc) (o : Nat × List (Nat × Bytes)), s.assocOf transport client = some a ∧ s.cosemUp transport = true ∧ clockRight a.role = true ∧ ((s.cosemApdu transport client ctr true fun u _ => u).cosemObj r = some o) ∧ r.cls = 8 ∧ r.attr = 2 ∧ ((s.cosem.invRx.find? fun x => x.1 == a.sap) = none) :=
  ⟨(({ State.reset with cosem := { State.reset.cosem with assocs := [{ transport := 0, client := 1, sap := 1, role := .admin, mechanism := 7 }] } } : State)), (0), (1), (1), (0), ({ cls := 8, a := 0, b := 0, c := 1, d := 0, e := 0, attr := 2 }), ({ transport := 0, client := 1, sap := 1, role := .admin, mechanism := 7 }), ((State.reset.cosemObj { cls := 8, a := 0, b := 0, c := 1, d := 0, e := 0, attr := 2 }).getD (0, [])), by decide +kernel⟩

theorem test_witness_cosemLinkAndAssociations_13 : ∃ (s : State) (transport client ctr : Nat) (value : Int) (r : CosemRef) (a : Assoc) (o : Nat × List (Nat × Bytes)), s.assocOf transport client = some a ∧ s.cosemUp transport = true ∧ clockRight a.role = true ∧ ((s.cosemApdu transport client ctr true fun u _ => u).cosemObj r = some o) ∧ r.cls = 8 ∧ r.attr = 6 ∧ -900 ≤ value ∧ value ≤ 900 ∧ ((s.cosem.invRx.find? fun x => x.1 == a.sap) = none) :=
  ⟨(({ State.reset with cosem := { State.reset.cosem with assocs := [{ transport := 0, client := 1, sap := 1, role := .admin, mechanism := 7 }] } } : State)), (0), (1), (1), (900), ({ cls := 8, a := 0, b := 0, c := 1, d := 0, e := 0, attr := 6 }), ({ transport := 0, client := 1, sap := 1, role := .admin, mechanism := 7 }), ((State.reset.cosemObj { cls := 8, a := 0, b := 0, c := 1, d := 0, e := 0, attr := 6 }).getD (0, [])), by decide +kernel⟩

theorem test_witness_cosemLinkAndAssociations_14 : ∃ (s : State) (v : Nat), s.hubTime = false ∧ s.corrRefused v (s.corrDelta v s.now) = false :=
  ⟨State.reset, legalFrom * 2 ^ 32, by decide +kernel⟩

theorem test_witness_vaultNodesAndObjects_1 : ∃ (s : State) (tk : Nat) (t : Ticket) (p x : KvNode) (n : Nat), s.ticket tk 0x0601 = some t ∧ s.kvNode (t.u 0 2) = some p ∧ t.vaultRole p.plate = true ∧ p.usage = 0 ∧ p.depth < 6 ∧ t.u 2 1 ≤ 4 ∧ t.u 3 1 = 4 ∧ 1 ≤ t.u 4 1 ∧ t.u 4 1 ≤ 32 ∧ (t.rest 5).length = t.u 4 1 ∧ s.kv.nodes.any (fun x => x.parent == p.node && x.label == t.rest 5) = false ∧ s.kv.rngFail = false ∧ (((List.range 4096).find? fun n => (s.kvNode n).isNone) = some n) ∧ x = { node := n, parent := p.node, depth := p.depth + 1, usage := t.u 2 1, hostUse := true, label := t.rest 5, gen := 1, parentGen := p.gen } :=
  ⟨(wReq (State.reset) 0x0601 ([0, 0, 4, 4, 1, 65]) .admin), (1), (wTk 0x0601 ([0, 0, 4, 4, 1, 65]) .admin), ({ node := 0, parent := 0xFFFF, depth := 0, usage := 0, label := asciiBytes "YG6440 root" }), ({ node := 5, parent := 0, depth := 1, usage := 4, hostUse := true, label := [65], gen := 1, parentGen := 1 }), (5), by decide +kernel⟩

theorem test_witness_vaultNodesAndObjects_2 : ∃ (s : State) (tk : Nat) (t : Ticket) (x : KvNode), s.ticket tk 0x0602 = some t ∧ t.u 0 2 ≠ 0 ∧ s.kvNode (t.u 0 2) = some x ∧ t.vaultRole x.plate = true :=
  ⟨(wReq (({ State.reset with kv := { State.reset.kv with nodes := kvManufacture ++ [{ node := 9, parent := 0, depth := 1, usage := 1, label := [65] }] } } : State)) 0x0602 [9, 0] .admin), (1), (wTk 0x0602 [9, 0] .admin), ({ node := 9, parent := 0, depth := 1, usage := 1, label := [65] }), by decide +kernel⟩

theorem test_witness_vaultNodesAndObjects_3 : ∃ (s : State) (tk : Nat) (t : Ticket) (x p : KvNode), s.ticket tk 0x0603 = some t ∧ s.kvNode (t.u 0 2) = some x ∧ t.vaultRole x.plate = true ∧ s.kvNode x.parent = some p ∧ s.isOrphan x.node = true ∧ s.isOrphan p.node = false :=
  ⟨(wReq (({ State.reset with kv := { State.reset.kv with nodes := kvManufacture ++ [{ node := 9, parent := 0, depth := 1, usage := 1, label := [65], parentGen := 0 }] } } : State)) 0x0603 [9, 0] .admin), (1), (wTk 0x0603 [9, 0] .admin), ({ node := 9, parent := 0, depth := 1, usage := 1, label := [65], parentGen := 0 }), ({ node := 0, parent := 0xFFFF, depth := 0, usage := 0, label := asciiBytes "YG6440 root" }), by decide +kernel⟩

theorem test_witness_vaultNodesAndObjects_4 : ∃ (s : State) (tk : Nat) (t : Ticket) (x : KvNode), s.ticket tk 0x0604 = some t ∧ 4 < t.u 0 2 ∧ s.kvNode (t.u 0 2) = some x ∧ t.vaultRole x.plate = true ∧ ((s.kv.nodes.any fun y => y.parent == x.node) = false) :=
  ⟨(wReq (({ State.reset with kv := { State.reset.kv with nodes := kvManufacture ++ [{ node := 9, parent := 0, depth := 1, usage := 3, label := [65], object := some 0 }], objects := [(0, 9, [1])] } } : State)) 0x0604 [9, 0] .admin), (1), (wTk 0x0604 [9, 0] .admin), ({ node := 9, parent := 0, depth := 1, usage := 3, label := [65], object := some 0 }), by decide +kernel⟩

theorem test_witness_vaultNodesAndObjects_5 : ∃ (s : State) (tk : Nat) (t : Ticket) (x : KvNode), s.ticket tk 0x0605 = some t ∧ s.kvNode (t.u 0 2) = some x ∧ s.isOrphan x.node = false :=
  ⟨(wReq (({ State.reset with kv := { State.reset.kv with nodes := kvManufacture ++ [{ node := 9, parent := 0, depth := 1, usage := 2, label := [65] }] } } : State)) 0x0605 [9, 0] .pub), (1), (wTk 0x0605 [9, 0] .pub), ({ node := 9, parent := 0, depth := 1, usage := 2, label := [65] }), by decide +kernel⟩

theorem test_witness_vaultNodesAndObjects_6 : ∃ (s : State) (tk : Nat) (t : Ticket) (x : KvNode), s.ticket tk 0x0605 = some t ∧ s.kvNode (t.u 0 2) = some x ∧ s.isOrphan x.node = true ∧ (x.usage = 1 ∨ x.usage = 2) :=
  ⟨(wReq (({ State.reset with kv := { State.reset.kv with nodes := kvManufacture ++ [{ node := 9, parent := 0, depth := 1, usage := 2, label := [65], parentGen := 0 }] } } : State)) 0x0605 [9, 0] .pub), (1), (wTk 0x0605 [9, 0] .pub), ({ node := 9, parent := 0, depth := 1, usage := 2, label := [65], parentGen := 0 }), by decide +kernel⟩

theorem test_witness_vaultNodesAndObjects_7 : ∃ (s : State) (tk : Nat) (t : Ticket) (x : KvNode) (k : Nat), s.ticket tk 0x060C = some t ∧ s.kvNode (t.u 0 2) = some x ∧ t.vaultRole x.plate = true ∧ x.usage = 3 ∧ 1 ≤ (t.rest 2).length ∧ (t.rest 2).length ≤ 2048 ∧ s.isOrphan x.node = false ∧ x.object = none ∧ (((List.range 64).find? fun k => !s.kv.objects.any fun o => o.1 == k) = some k) :=
  ⟨(wReq (({ State.reset with kv := { State.reset.kv with nodes := kvManufacture ++ [{ node := 9, parent := 0, depth := 1, usage := 3, label := [65] }], objects := [(0, 4, [1])] } } : State)) 0x060C [9, 0, 7] .admin), (1), (wTk 0x060C [9, 0, 7] .admin), ({ node := 9, parent := 0, depth := 1, usage := 3, label := [65] }), (1), by decide +kernel⟩

theorem test_witness_vaultNodesAndObjects_8 : ∃ (s : State) (tk : Nat) (t : Ticket) (x : KvNode) (k : Nat), s.ticket tk 0x060C = some t ∧ s.kvNode (t.u 0 2) = some x ∧ t.vaultRole x.plate = true ∧ x.usage = 3 ∧ 1 ≤ (t.rest 2).length ∧ (t.rest 2).length ≤ 2048 ∧ s.isOrphan x.node = false ∧ x.object = some k :=
  ⟨(wReq (({ State.reset with kv := { State.reset.kv with nodes := kvManufacture ++ [{ node := 9, parent := 0, depth := 1, usage := 3, label := [65], object := some 63 }], objects := [(63, 9, [1])] } } : State)) 0x060C [9, 0, 7] .admin), (1), (wTk 0x060C [9, 0, 7] .admin), ({ node := 9, parent := 0, depth := 1, usage := 3, label := [65], object := some 63 }), (63), by decide +kernel⟩

theorem test_witness_vaultNodesAndObjects_9 : ∃ (s : State) (tk : Nat) (t : Ticket) (x : KvNode), s.ticket tk 0x060B = some t ∧ s.kvNode (t.u 0 2) = some x ∧ x.plate = false ∧ x.usage = 1 ∧ x.hostUse = true ∧ (t.rest 2).length = 32 ∧ s.isOrphan x.node = false :=
  ⟨(wReq (({ State.reset with kv := { State.reset.kv with nodes := kvManufacture ++ [{ node := 9, parent := 0, depth := 1, usage := 1, label := [65], hostUse := true }] } } : State)) 0x060B ([9, 0] ++ List.replicate 32 1) .admin), (1), (wTk 0x060B ([9, 0] ++ List.replicate 32 1) .admin), ({ node := 9, parent := 0, depth := 1, usage := 1, label := [65], hostUse := true }), by decide +kernel⟩

theorem test_witness_vaultNodesAndObjects_10 : ∃ (s : State) (tk : Nat) (t : Ticket) (x : KvNode), s.ticket tk 0x0608 = some t ∧ s.kvNode (t.u 0 2) = some x ∧ x.cert = true :=
  ⟨(wReq (({ State.reset with kv := { State.reset.kv with nodes := kvManufacture ++ [{ node := 9, parent := 0, depth := 1, usage := 1, label := [65], cert := true, chain := [1, 2] }] } } : State)) 0x0608 [9, 0] .pub), (1), (wTk 0x0608 [9, 0] .pub), ({ node := 9, parent := 0, depth := 1, usage := 1, label := [65], cert := true, chain := [1, 2] }), by decide +kernel⟩

theorem test_witness_certificatesAnchorsRootAndRandom_1 : ∃ (s : State) (tk : Nat) (t : Ticket) (x : KvNode), s.ticket tk 0x0606 = some t ∧ s.kvNode (t.u 0 2) = some x ∧ t.vaultRole x.plate = true ∧ t.arg.length ≤ 258 ∧ x.usage = 1 ∧ s.isOrphan x.node = false :=
  ⟨(wReq (({ State.reset with kv := { State.reset.kv with nodes := kvManufacture ++ [{ node := 9, parent := 0, depth := 1, usage := 1, label := [65] }] } } : State)) 0x0606 [9, 0, 48, 0] .admin), (1), (wTk 0x0606 [9, 0, 48, 0] .admin), ({ node := 9, parent := 0, depth := 1, usage := 1, label := [65] }), by decide +kernel⟩

theorem test_witness_certificatesAnchorsRootAndRandom_2 : ∃ (s : State) (tk : Nat) (t : Ticket) (x : KvNode), s.ticket tk 0x0606 = some t ∧ s.kvNode (t.u 0 2) = some x ∧ t.vaultRole x.plate = true ∧ t.arg.length ≤ 258 ∧ x.usage = 2 ∧ s.isOrphan x.node = false ∧ s.isOrphan 1 = false :=
  ⟨(wReq (({ State.reset with kv := { State.reset.kv with nodes := kvManufacture ++ [{ node := 9, parent := 0, depth := 1, usage := 2, label := [65] }] } } : State)) 0x0606 [9, 0, 48, 0] .admin), (1), (wTk 0x0606 [9, 0, 48, 0] .admin), ({ node := 9, parent := 0, depth := 1, usage := 2, label := [65] }), by decide +kernel⟩

theorem test_witness_certificatesAnchorsRootAndRandom_3 : ∃ (b : Bytes) (x : KvNode), let s := wReq (({ State.reset with kv := { State.reset.kv with nodes := kvManufacture ++ [{ node := 9, parent := 0, depth := 1, usage := 1, label := [65] }] } } : State)) 0x0607 b .admin; let t := wTk 0x0607 b .admin; s.ticket 1 0x0607 = some t ∧ s.kvNode (t.u 0 2) = some x ∧ t.vaultRole x.plate = true ∧ x.usage = 1 ∧ t.arg.length ≤ 4098 ∧ s.isOrphan x.node = false ∧ leafKey (t.rest 2) = some (s.nodePublic x.node) :=
  have h := publicOf_length ((({ State.reset with kv := { State.reset.kv with nodes := kvManufacture ++ [{ node := 9, parent := 0, depth := 1, usage := 1, label := [65] }] } } : State) : State).nodeScalar 9)
  ⟨[9, 0] ++ wLeaf ((({ State.reset with kv := { State.reset.kv with nodes := kvManufacture ++ [{ node := 9, parent := 0, depth := 1, usage := 1, label := [65] }] } } : State) : State).nodePublic 9), { node := 9, parent := 0, depth := 1, usage := 1, label := [65] }, rfl, rfl, rfl, rfl, (wLeaf_size _ h), rfl, wVault_cert _ h⟩

theorem test_witness_certificatesAnchorsRootAndRandom_4 : ∃ (s : State) (tk : Nat) (t : Ticket), s.ticket tk 0x0609 = some t ∧ t.u 0 1 ≤ 27 ∧ t.u 0 1 ≠ 2 ∧ t.role = anchorRole (t.u 0 1) ∧ (t.rest 1).length = 64 ∧ (t.rest 1).all (· == 0) = true :=
  ⟨(wReq (({ State.reset with kv := { State.reset.kv with anchors := [(24, [1])] } } : State)) 0x0609 ([24] ++ List.replicate 64 0) .admin), (1), (wTk 0x0609 ([24] ++ List.replicate 64 0) .admin), by decide +kernel⟩

theorem test_witness_certificatesAnchorsRootAndRandom_5 : ∃ (s : State) (tk : Nat) (t : Ticket), s.ticket tk 0x0609 = some t ∧ t.u 0 1 ≤ 27 ∧ t.u 0 1 ≠ 2 ∧ t.role = anchorRole (t.u 0 1) ∧ (t.rest 1).length = 64 ∧ (t.rest 1).all (· == 0) = false ∧ P256.onCurve (t.rest 1) = true :=
  ⟨(wReq (State.reset) 0x0609 ([24] ++ beBytes 32 P256.gx ++ beBytes 32 P256.gy) .admin), (1), (wTk 0x0609 ([24] ++ beBytes 32 P256.gx ++ beBytes 32 P256.gy) .admin), by decide +kernel⟩

theorem test_witness_certificatesAnchorsRootAndRandom_6 : ∃ (s : State) (tk : Nat) (t : Ticket), s.ticket tk 0x060A = some t ∧ s.kv.rngFail = false ∧ s.kv.retire = none :=
  ⟨(wReq (State.reset) 0x060A [] .admin), (1), (wTk 0x060A [] .admin), by decide +kernel⟩

theorem test_witness_certificatesAnchorsRootAndRandom_7 : ∃ (s : State) (tk : Nat) (t : Ticket) (r : Role) (e : Nat) (x : KvNode), s.ticket tk 0x060A = some t ∧ s.kv.rngFail = false ∧ s.kv.retire = some (r, e) ∧ r ≠ t.role ∧ s.now ≤ e ∧ s.kvNode 0 = some x :=
  ⟨(wReq (({ State.reset with kv := { State.reset.kv with retire := some (.metrology, 0) } } : State)) 0x060A [] .admin), (1), (wTk 0x060A [] .admin), (.metrology), (0), ({ node := 0, parent := 0xFFFF, depth := 0, usage := 0, label := asciiBytes "YG6440 root" }), by decide +kernel⟩

theorem test_witness_certificatesAnchorsRootAndRandom_8 : ∃ (s : State) (r : Role) (e : Nat), s.kv.retire = some (r, e) ∧ e ≤ s.now :=
  ⟨(({ State.reset with kv := { State.reset.kv with retire := some (.metrology, 0) } } : State)), (.metrology), (0), by decide +kernel⟩

theorem test_witness_certificatesAnchorsRootAndRandom_9 : ∃ (s : State), s.kv.rngFail = false :=
  ⟨(State.reset), by decide +kernel⟩

theorem test_witness_certificatesAnchorsRootAndRandom_10 : ({ State.reset with kv := { State.reset.kv with rngFail := true } } : State).kv.rngFail = true := rfl

theorem test_witness_certificatesAnchorsRootAndRandom_11 : ∃ (s : State) (late : Bool), s.kv.rngFail = false ∧ s.kv.rotLate < 65535 :=
  ⟨(State.reset), (true), by decide +kernel⟩

theorem test_witness_certificatesAnchorsRootAndRandom_12 : ∃ (s : State) (k : Nat), s.kv.rngFail = false :=
  ⟨(State.reset), (1), by decide +kernel⟩

theorem test_witness_certificatesAnchorsRootAndRandom_13 : ∃ (s : State) (k : Nat), s.kv.rngFail = true ∧ s.kv.healthOk = 1023 :=
  ⟨(({ State.reset with kv := { State.reset.kv with rngFail := true, healthOk := 1023 } } : State)), (1), by decide +kernel⟩

theorem test_witness_certificatesAnchorsRootAndRandom_14 : ∃ (s : State) (k : Nat), s.kv.rngFail = true ∧ s.kv.healthOk < 1023 :=
  ⟨(({ State.reset with kv := { State.reset.kv with rngFail := true, healthOk := 1022 } } : State)), (1), by decide +kernel⟩

theorem test_witness_kryuzFramesAndAcknowledgements_1 : ∃ (s : State) (f : KzFrame), s.kzOn = true ∧ f.hdrOk = true ∧ 4 * f.erased ≤ kzSymbols f.mode (kzLen f.body) ∧ (s.kz.keyEn = true → f.tagOk = true) ∧ s.kzPairOf f.eui = some { eui := 5, addr := 3 } ∧ f.counter = 1 ∧ f.dest = 0xFFFF :=
  ⟨({ State.reset with kz := { State.reset.kz with masterEui := 5, joined := true, address := 7, pairs := [{ eui := 5, addr := 3 }] } } : State), { dest := 0xFFFF, src := 3, eui := 5, counter := 1, mode := 4, snr := 40, erased := 0, hdrOk := true, tagOk := true, body := [] }, by decide +kernel⟩

theorem test_witness_kryuzFramesAndAcknowledgements_2 : ∃ (s : State) (f : KzFrame), s.kzOn = true ∧ f.hdrOk = true ∧ 4 * f.erased ≤ kzSymbols f.mode (kzLen f.body) ∧ s.kzPairOf f.eui = some { eui := 5, addr := 3, counter := 1 } ∧ f.counter ≤ 1 ∧ f.tagOk = true :=
  ⟨({ State.reset with kz := { State.reset.kz with pairs := [{ eui := 5, addr := 3, counter := 1 }] } } : State), { dest := 0xFFFF, src := 3, eui := 5, counter := 1, mode := 4, snr := 40, erased := 0, hdrOk := true, tagOk := true, body := [] }, by decide +kernel⟩

theorem test_witness_kryuzFramesAndAcknowledgements_3 : ∃ (s : State) (fsn : Nat) (x : KzTx), ((s.kz.txs.find? fun x => x.fsn == fsn && x.wakeEnd.isNone && !([2, 6, 13].contains x.ft)) = some x) ∧ s.kzOn = true ∧ x.endAt ≤ s.now ∧ s.now ≤ x.endAt + 14600000 ∧ x.bind = false :=
  ⟨(({ State.reset with kz := { State.reset.kz with txs := [{ dest := 3, ft := 4, fsn := 2, attempt := 1 }] } } : State)), (2), ({ dest := 3, ft := 4, fsn := 2, attempt := 1 }), by decide +kernel⟩

theorem test_witness_kryuzFramesAndAcknowledgements_4 : ∃ (s : State) (fsn : Nat) (x : KzTx), ((s.kz.txs.find? fun x => x.fsn == fsn) = some x) ∧ s.kzOn = true ∧ x.wakeEnd = none ∧ x.endAt + 14600000 ≤ s.now ∧ x.attempt = 7 :=
  ⟨(wAt ({ State.reset with kz := { State.reset.kz with txs := [{ dest := 3, ft := 4, fsn := 2, attempt := 7 }] } } : State) 14600000), (2), ({ dest := 3, ft := 4, fsn := 2, attempt := 7 }), by decide +kernel⟩

theorem test_witness_kryuzFramesAndAcknowledgements_5 : ∃ (s : State) (fsn : Nat) (x : KzTx), ((s.kz.txs.find? fun x => x.fsn == fsn) = some x) ∧ s.kzOn = true ∧ x.wakeEnd = none ∧ x.endAt + 14600000 ≤ s.now ∧ x.attempt < 7 :=
  ⟨(wAt ({ State.reset with kz := { State.reset.kz with txs := [{ dest := 3, ft := 4, fsn := 2, attempt := 6 }] } } : State) 14600000), (2), ({ dest := 3, ft := 4, fsn := 2, attempt := 6 }), by decide +kernel⟩

theorem test_witness_kryuzFramesAndAcknowledgements_6 : ∃ (s : State) (fsn e : Nat) (x : KzTx), ((s.kz.txs.find? fun x => x.fsn == fsn) = some x) ∧ s.kzOn = true ∧ x.wakeEnd = some e ∧ e ≤ s.now :=
  ⟨(({ State.reset with kz := { State.reset.kz with txs := [{ fsn := 2, attempt := 0, wakeEnd := some 0 }] } } : State)), (2), (0), ({ fsn := 2, attempt := 0, wakeEnd := some 0 }), by decide +kernel⟩

theorem test_witness_kryuzFramesAndAcknowledgements_7 : ∃ (s : State) (x : KzPair), s.kz.presAt + sec 10 ≤ s.now ∧ s.kzOn = true ∧ s.kz.master = false ∧ s.kz.joined = true ∧ s.kzPairOf s.kz.masterEui = some x :=
  ⟨(wAt ({ State.reset with kz := { State.reset.kz with masterEui := 5, joined := true, address := 7, pairs := [{ eui := 5, addr := 3 }] } } : State) (sec 10)), ({ eui := 5, addr := 3 }), by decide +kernel⟩

theorem test_witness_kryuzFramesAndAcknowledgements_8 : ∃ (s : State) (a : Nat), s.kz.zcAt = some a ∧ s.kz.zcPers.length ≤ 10 :=
  ⟨(({ State.reset with kz := { State.reset.kz with zcAt := some 0 } } : State)), (0), by decide +kernel⟩

theorem test_witness_kryuzFramesAndAcknowledgements_9 : ∃ (s : State), s.kz.zcAt = none :=
  ⟨(State.reset), by decide +kernel⟩

theorem test_witness_kryuzFramesAndAcknowledgements_10 : ∃ (s : State) (busy own : Nat), 80 < busy ∧ busy ≤ 100 ∧ own ≤ 100 ∧ s.kz.loadHigh = false :=
  ⟨(State.reset), (81), (0), by decide +kernel⟩

theorem test_witness_kryuzFramesAndAcknowledgements_11 : ∃ (s : State) (busy own : Nat), busy < 70 ∧ own ≤ 100 ∧ s.kz.loadHigh = true :=
  ⟨(({ State.reset with kz := { State.reset.kz with loadHigh := true } } : State)), (69), (0), by decide +kernel⟩

theorem test_witness_kryuzFramesAndAcknowledgements_12 : ∃ (s : State) (busy own : Nat), 70 ≤ busy ∧ busy ≤ 80 ∧ own ≤ 100 :=
  ⟨(State.reset), (80), (100), by decide +kernel⟩

theorem test_witness_kryuzFramesAndAcknowledgements_13 : ∃ (s : State) (tk : Nat) (t : Ticket), s.ticket tk 0x0A01 = some t :=
  ⟨(wReq (State.reset) 0x0A01 [] .reader), (1), (wTk 0x0A01 [] .reader), by decide +kernel⟩

theorem test_witness_kryuzFramesAndAcknowledgements_14 : ∃ (s : State) (tk : Nat) (t : Ticket), s.ticket tk 0x0A04 = some t ∧ s.kzOn = true :=
  ⟨(wReq (State.reset) 0x0A04 [] .operator), (1), (wTk 0x0A04 [] .operator), by decide +kernel⟩

theorem test_witness_kryuzFramesAndAcknowledgements_15 : ∃ (s : State) (tk : Nat) (t : Ticket), s.ticket tk 0x0A06 = some t :=
  ⟨(wReq (State.reset) 0x0A06 [] .operator), (1), (wTk 0x0A06 [] .operator), by decide +kernel⟩

theorem test_witness_kryuzMasterJoiningAndNodes_1 : ∃ (s : State) (f : KzFrame) (u : State), s.kzReceive f ((leNat (sub f.body 0 8) == f.eui && f.eui != s.ident.eui64)) = (.accepted, u) ∧ u.kz.master = false ∧ u.kz.masterEui = f.eui :=
  ⟨(({ State.reset with kz := { State.reset.kz with masterEui := 5, joined := true, address := 7, pairs := [{ eui := 5, addr := 3 }] } } : State)), ({ dest := 0xFFFF, src := 3, eui := 5, counter := 1, mode := 4, snr := 40, erased := 0, hdrOk := true, tagOk := true, body := (leBytes 8 5 ++ List.replicate 18 0) }), (((({ State.reset with kz := { State.reset.kz with masterEui := 5, joined := true, address := 7, pairs := [{ eui := 5, addr := 3 }] } } : State) : State).kzReceive { dest := 0xFFFF, src := 3, eui := 5, counter := 1, mode := 4, snr := 40, erased := 0, hdrOk := true, tagOk := true, body := (leBytes 8 5 ++ List.replicate 18 0) } true).2), by decide +kernel⟩

theorem test_witness_kryuzMasterJoiningAndNodes_2 : ∃ (s : State) (f : KzFrame) (u : State), s.kzReceive f ((leNat (sub f.body 0 8) == f.eui && f.eui != s.ident.eui64)) = (.accepted, u) ∧ u.kz.master = true ∧ u.ident.eui64 ≤ f.eui :=
  ⟨(({ State.reset with ident := { State.reset.ident with eui64 := 4 }, kz := { State.reset.kz with master := true, masterEui := 4 } } : State)), ({ dest := 0xFFFF, src := 3, eui := 5, counter := 1, mode := 4, snr := 40, erased := 0, hdrOk := true, tagOk := true, body := (leBytes 8 5 ++ List.replicate 18 0) }), (((({ State.reset with ident := { State.reset.ident with eui64 := 4 }, kz := { State.reset.kz with master := true, masterEui := 4 } } : State) : State).kzReceive { dest := 0xFFFF, src := 3, eui := 5, counter := 1, mode := 4, snr := 40, erased := 0, hdrOk := true, tagOk := true, body := (leBytes 8 5 ++ List.replicate 18 0) } true).2), by decide +kernel⟩

theorem test_witness_kryuzMasterJoiningAndNodes_3 : ∃ (s : State) (f : KzFrame) (u : State), s.kzReceive f ((leNat (sub f.body 0 8) == f.eui && f.eui != s.ident.eui64)) = (.accepted, u) ∧ u.kz.master = true ∧ f.eui < u.ident.eui64 :=
  ⟨(({ State.reset with ident := { State.reset.ident with eui64 := 9 }, kz := { State.reset.kz with master := true, masterEui := 9 } } : State)), ({ dest := 0xFFFF, src := 3, eui := 5, counter := 1, mode := 4, snr := 40, erased := 0, hdrOk := true, tagOk := true, body := (leBytes 8 5 ++ List.replicate 18 0) }), (((({ State.reset with ident := { State.reset.ident with eui64 := 9 }, kz := { State.reset.kz with master := true, masterEui := 9 } } : State) : State).kzReceive { dest := 0xFFFF, src := 3, eui := 5, counter := 1, mode := 4, snr := 40, erased := 0, hdrOk := true, tagOk := true, body := (leBytes 8 5 ++ List.replicate 18 0) } true).2), by decide +kernel⟩

theorem test_witness_kryuzMasterJoiningAndNodes_4 : ∃ (s : State) (f : KzFrame) (u : State), s.kzReceive f ((leNat (sub f.body 0 8) == f.eui && f.eui != s.ident.eui64)) = (.accepted, u) ∧ u.kz.master = false ∧ u.kz.masterEui ≠ 0 ∧ u.kz.masterEui < f.eui ∧ u.kz.listenEnd = none :=
  ⟨(({ State.reset with kz := { State.reset.kz with masterEui := 4 } } : State)), ({ dest := 0xFFFF, src := 3, eui := 5, counter := 1, mode := 4, snr := 40, erased := 0, hdrOk := true, tagOk := true, body := (leBytes 8 5 ++ List.replicate 18 0) }), (((({ State.reset with kz := { State.reset.kz with masterEui := 4 } } : State) : State).kzReceive { dest := 0xFFFF, src := 3, eui := 5, counter := 1, mode := 4, snr := 40, erased := 0, hdrOk := true, tagOk := true, body := (leBytes 8 5 ++ List.replicate 18 0) } true).2), by decide +kernel⟩

theorem test_witness_kryuzMasterJoiningAndNodes_5 : ∃ (s : State) (b : Nat), s.kzOn = true ∧ s.kz.master = false ∧ s.kz.listenEnd = none ∧ s.kz.beaconAt = some b ∧ b + sec 1 ≤ s.now :=
  ⟨(wAt ({ State.reset with kz := { State.reset.kz with beaconAt := some 0 } } : State) (sec 1)), (0), by decide +kernel⟩

theorem test_witness_kryuzMasterJoiningAndNodes_6 : ∃ (s : State) (e : Nat), s.kz.listenEnd = some e ∧ e ≤ s.now ∧ s.kzOn = true :=
  ⟨(({ State.reset with kz := { State.reset.kz with listenEnd := some 0 } } : State)), (0), by decide +kernel⟩

theorem test_witness_kryuzMasterJoiningAndNodes_7 : ∃ (s : State) (b : Nat), s.kzOn = true ∧ s.kz.master = true ∧ s.kz.beaconSent = some b ∧ b + ms 199 ≤ s.now :=
  ⟨(wAt ({ State.reset with kz := { State.reset.kz with master := true, beaconSent := some 0 } } : State) (ms 199)), (0), by decide +kernel⟩

theorem test_witness_kryuzMasterJoiningAndNodes_8 : ∃ (s : State) (f : KzFrame) (u : State), s.kzReceive f (!s.kz.master && f.eui == s.kz.masterEui && leNat (sub f.body 0 8) == s.ident.eui64) = (.accepted, u) ∧ leNat (sub f.body 10 1) = 0 :=
  ⟨(({ State.reset with kz := { State.reset.kz with masterEui := 5, joined := true, address := 7, pairs := [{ eui := 5, addr := 3 }] } } : State)), ({ dest := 0xFFFF, src := 3, eui := 5, counter := 1, mode := 4, snr := 40, erased := 0, hdrOk := true, tagOk := true, body := (leBytes 8 State.reset.ident.eui64 ++ [7, 0, 0]) }), (((({ State.reset with kz := { State.reset.kz with masterEui := 5, joined := true, address := 7, pairs := [{ eui := 5, addr := 3 }] } } : State) : State).kzReceive { dest := 0xFFFF, src := 3, eui := 5, counter := 1, mode := 4, snr := 40, erased := 0, hdrOk := true, tagOk := true, body := (leBytes 8 State.reset.ident.eui64 ++ [7, 0, 0]) } true).2), by decide +kernel⟩

theorem test_witness_kryuzMasterJoiningAndNodes_9 : ∃ (s : State) (f : KzFrame) (u : State), s.kzReceive f (!s.kz.master && f.eui == s.kz.masterEui && leNat (sub f.body 0 8) == s.ident.eui64) = (.accepted, u) ∧ leNat (sub f.body 10 1) = 2 :=
  ⟨(({ State.reset with kz := { State.reset.kz with masterEui := 5, joined := true, address := 7, pairs := [{ eui := 5, addr := 3 }] } } : State)), ({ dest := 0xFFFF, src := 3, eui := 5, counter := 1, mode := 4, snr := 40, erased := 0, hdrOk := true, tagOk := true, body := (leBytes 8 State.reset.ident.eui64 ++ [7, 0, 2]) }), (((({ State.reset with kz := { State.reset.kz with masterEui := 5, joined := true, address := 7, pairs := [{ eui := 5, addr := 3 }] } } : State) : State).kzReceive { dest := 0xFFFF, src := 3, eui := 5, counter := 1, mode := 4, snr := 40, erased := 0, hdrOk := true, tagOk := true, body := (leBytes 8 State.reset.ident.eui64 ++ [7, 0, 2]) } true).2), by decide +kernel⟩

theorem test_witness_kryuzMasterJoiningAndNodes_10 : ∃ (s : State) (e : Nat), s.kz.joinWait = some e ∧ e ≤ s.now :=
  ⟨(({ State.reset with kz := { State.reset.kz with joinWait := some 0 } } : State)), (0), by decide +kernel⟩

theorem test_witness_kryuzMasterJoiningAndNodes_11 : ∃ (s : State) (f : KzFrame) (u : State), s.kzReceive f (s.kz.master) = (.accepted, u) ∧ ((u.kz.nodes.find? fun x => x.eui == f.eui && u.holdsAddr x) = none) ∧ u.kzLive.length < 256 ∧ leNat (sub f.body 10 2) = 0 ∧ f.eui ≠ u.ident.eui64 ∧ (∀ x ∈ u.kz.nodes, x.eui ≠ f.eui) :=
  ⟨(({ State.reset with kz := { State.reset.kz with master := true, nodes := [{ eui := 9, addr := 4 }] } } : State)), ({ dest := 0, src := 3, eui := 5, counter := 1, mode := 4, snr := 40, erased := 0, hdrOk := true, tagOk := true, body := (leBytes 8 5 ++ [0, 3, 0, 0, 0]) }), (((({ State.reset with kz := { State.reset.kz with master := true, nodes := [{ eui := 9, addr := 4 }] } } : State) : State).kzReceive { dest := 0, src := 3, eui := 5, counter := 1, mode := 4, snr := 40, erased := 0, hdrOk := true, tagOk := true, body := (leBytes 8 5 ++ [0, 3, 0, 0, 0]) } true).2), by decide +kernel⟩

theorem test_witness_kryuzMasterJoiningAndNodes_12 : ∃ (s : State) (f : KzFrame) (u : State), s.kzReceive f s.kz.master = (.badTag, u) ∧ u.kz.master = true ∧ (f.dest = u.kz.address ∨ f.dest = 0xFFFF) :=
  ⟨(({ State.reset with kz := { State.reset.kz with master := true, keyEn := true } } : State)), ({ dest := 0xFFFF, src := 3, eui := 5, counter := 1, mode := 4, snr := 40, erased := 0, hdrOk := true, tagOk := false, body := [] }), (({ State.reset with kz := { State.reset.kz with master := true, keyEn := true, authFail := 1 } } : State)), by decide +kernel⟩

theorem test_witness_kryuzMasterJoiningAndNodes_13 : ∃ (s : State) (f : KzFrame) (u : State), (s.kzReceive f ((s.kz.master && (s.kzLive.any fun x => x.eui == f.eui))) = (.accepted, u)) ∧ ((∀ x ∈ s.kz.nodes, x.eui = f.eui → x.departed = none)) :=
  ⟨(({ State.reset with kz := { State.reset.kz with master := true, joined := true, address := 1, masterEui := 0, nodes := [{ eui := 9, addr := 4 }], pairs := [{ eui := 9, addr := 4 }] } } : State)), ({ dest := 1, src := 4, eui := 9, counter := 1, mode := 4, snr := 40, erased := 0, hdrOk := true, tagOk := true, body := [7, 1, 30] }), (((({ State.reset with kz := { State.reset.kz with master := true, joined := true, address := 1, masterEui := 0, nodes := [{ eui := 9, addr := 4 }], pairs := [{ eui := 9, addr := 4 }] } } : State) : State).kzReceive { dest := 1, src := 4, eui := 9, counter := 1, mode := 4, snr := 40, erased := 0, hdrOk := true, tagOk := true, body := [7, 1, 30] } true).2), by decide +kernel⟩

theorem test_witness_kryuzMasterJoiningAndNodes_14 : ∃ (s : State) (eui : Nat) (x : KzNode), ((s.kzLive.find? fun x => x.eui == eui) = some x) ∧ s.kz.master = true ∧ eui ≠ s.ident.eui64 ∧ x.heardAt + sec 30 ≤ s.now :=
  ⟨(wAt ({ State.reset with kz := { State.reset.kz with master := true, joined := true, address := 1, masterEui := 0, nodes := [{ eui := 9, addr := 4 }], pairs := [{ eui := 9, addr := 4 }] } } : State) (sec 30)), (9), ({ eui := 9, addr := 4 }), by decide +kernel⟩

theorem test_witness_kryuzMasterJoiningAndNodes_15 : ∃ (s : State) (tk : Nat) (t : Ticket), s.ticket tk 0x0A02 = some t ∧ s.kz.master = true ∧ 1 ≤ t.u 1 1 ∧ t.u 1 1 ≤ 32 :=
  ⟨(wReq (({ State.reset with kz := { State.reset.kz with master := true, joined := true, address := 1, masterEui := 0, nodes := [{ eui := 9, addr := 4 }], pairs := [{ eui := 9, addr := 4 }] } } : State)) 0x0A02 [0, 32] .reader), (1), (wTk 0x0A02 [0, 32] .reader), by decide +kernel⟩

theorem test_witness_kryuzSharingBindingsAndDistribution_1 : ∃ (s : State) (r : Nat), s.kz.master = true ∧ s.kz.roundAt = some r ∧ r + sec 1 ≤ s.now ∧ s.ps.hubTickets = [] :=
  ⟨(wAt ({ State.reset with kz := { State.reset.kz with master := true, roundAt := some 0 } } : State) (sec 1)), (0), by decide +kernel⟩

theorem test_witness_kryuzSharingBindingsAndDistribution_2 : ∃ (s : State) (f : KzFrame) (u : State) (gs : List (Nat × Nat)), s.kzReceive f (!s.kz.master && f.eui == s.kz.masterEui) = (.accepted, u) ∧ gs = (List.range (leNat (sub f.body 8 1))).map (fun i => (leNat (sub f.body (9 + 6 * i) 2), leNat (sub f.body (11 + 6 * i) 4))) :=
  ⟨(({ State.reset with kz := { State.reset.kz with masterEui := 5, joined := true, address := 7, pairs := [{ eui := 5, addr := 3 }] } } : State)), ({ dest := 0xFFFF, src := 3, eui := 5, counter := 1, mode := 4, snr := 40, erased := 0, hdrOk := true, tagOk := true, body := ([0, 0, 0, 0] ++ leBytes 4 9000 ++ [1, 7, 0] ++ leBytes 4 500) }), (((({ State.reset with kz := { State.reset.kz with masterEui := 5, joined := true, address := 7, pairs := [{ eui := 5, addr := 3 }] } } : State) : State).kzReceive { dest := 0xFFFF, src := 3, eui := 5, counter := 1, mode := 4, snr := 40, erased := 0, hdrOk := true, tagOk := true, body := ([0, 0, 0, 0] ++ leBytes 4 9000 ++ [1, 7, 0] ++ leBytes 4 500) } true).2), ([(7, 500)]), by decide +kernel⟩

theorem test_witness_kryuzSharingBindingsAndDistribution_3 : ∃ (s : State) (x : KzPair) (p : Nat), s.kzPairOf s.kz.masterEui = some x ∧ s.kzOn = true ∧ s.kz.joined = true ∧ s.kz.master = false ∧ s.kz.shareAt = some p ∧ p + sec 1 ≤ s.now :=
  ⟨(wAt ({ State.reset with kz := { State.reset.kz with masterEui := 5, joined := true, shareAt := some 0, address := 7, pairs := [{ eui := 5, addr := 3 }] } } : State) (sec 1)), ({ eui := 5, addr := 3 }), (0), by decide +kernel⟩

theorem test_witness_kryuzSharingBindingsAndDistribution_4 : ∃ (s : State) (f : KzFrame) (u : State), (s.kzReceive f (s.kz.master && s.kzLive.any fun x => x.eui == f.eui && x.kind == 0) = (.accepted, u)) :=
  ⟨(({ State.reset with kz := { State.reset.kz with master := true, joined := true, address := 1, masterEui := 0, nodes := [{ eui := 9, addr := 4 }], pairs := [{ eui := 9, addr := 4 }] } } : State)), ({ dest := 1, src := 4, eui := 9, counter := 1, mode := 4, snr := 40, erased := 0, hdrOk := true, tagOk := true, body := (leBytes 4 5000 ++ List.replicate 8 0) }), (((({ State.reset with kz := { State.reset.kz with master := true, joined := true, address := 1, masterEui := 0, nodes := [{ eui := 9, addr := 4 }], pairs := [{ eui := 9, addr := 4 }] } } : State) : State).kzReceive { dest := 1, src := 4, eui := 9, counter := 1, mode := 4, snr := 40, erased := 0, hdrOk := true, tagOk := true, body := (leBytes 4 5000 ++ List.replicate 8 0) } true).2), by decide +kernel⟩

theorem test_witness_kryuzSharingBindingsAndDistribution_5 : ∃ (s : State) (k : Nat) (p : KzPeer) (q : KzPair), s.kz.peers[k]? = some p ∧ p.resend = true ∧ s.kzOn = true ∧ s.kzPairOf p.eui = some q :=
  ⟨(({ State.reset with kz := { State.reset.kz with peers := [{ eui := 5, role := 1, resend := true }], pairs := [{ eui := 5, addr := 3 }] } } : State)), (0), ({ eui := 5, role := 1, resend := true }), ({ eui := 5, addr := 3 }), by decide +kernel⟩

theorem test_witness_kryuzSharingBindingsAndDistribution_6 : ∃ (s : State) (tk : Nat) (t : Ticket) (q : KzPair), s.ticket tk 0x0A03 = some t ∧ s.kz.bindTk = none ∧ t.u 8 1 = 1 ∧ t.u 10 8 < 2 ^ s.nLanes ∧ s.kzPairOf (t.u 0 8) = some q :=
  ⟨(wReq (({ State.reset with kz := { State.reset.kz with masterEui := 5, joined := true, address := 7, pairs := [{ eui := 5, addr := 3 }] } } : State)) 0x0A03 (leBytes 8 5 ++ [1, 0] ++ leBytes 8 1) .admin), (1), (wTk 0x0A03 (leBytes 8 5 ++ [1, 0] ++ leBytes 8 1) .admin), ({ eui := 5, addr := 3 }), by decide +kernel⟩

theorem test_witness_kryuzSharingBindingsAndDistribution_7 : ∃ (s : State) (tk e : Nat) (p : KzPeer) (t : Ticket), s.kz.bindTk = some (tk, p, e) ∧ e ≤ s.now ∧ s.ticket tk 0x0A03 = some t :=
  ⟨(wReq ({ State.reset with kz := { State.reset.kz with bindTk := some (1, {}, 0) } } : State) 0x0A03), (1), (0), ({}), (wTk 0x0A03), by decide +kernel⟩

theorem test_witness_kryuzSharingBindingsAndDistribution_8 : ∃ (s : State) (f : KzFrame) (u : State), (s.kzReceive f (s.kz.peers.any fun x => x.role == 2 && x.group == leNat (sub f.body 0 1) && x.eui == f.eui) = (.accepted, u)) ∧ leNat (sub f.body 1 1) = 0 :=
  ⟨(({ State.reset with kz := { State.reset.kz with peers := [{ eui := 5, role := 2, group := 0 }] } } : State)), ({ dest := 0xFFFF, src := 3, eui := 5, counter := 1, mode := 4, snr := 40, erased := 0, hdrOk := true, tagOk := true, body := [0, 0] }), (((({ State.reset with kz := { State.reset.kz with peers := [{ eui := 5, role := 2, group := 0 }] } } : State) : State).kzReceive { dest := 0xFFFF, src := 3, eui := 5, counter := 1, mode := 4, snr := 40, erased := 0, hdrOk := true, tagOk := true, body := [0, 0] } true).2), by decide +kernel⟩

theorem test_witness_kryuzSharingBindingsAndDistribution_9 : ∃ (s : State) (f : KzFrame) (u : State) (lanes : List Nat), (s.kzReceive f (s.kz.peers.any fun x => x.role == 1 && x.eui == f.eui) = (.accepted, u)) ∧ (lanes = (bitsOf 64 (((s.kz.peers.find? fun x => x.role == 1 && x.eui == f.eui).map (·.mask)).getD 0)).filter (fun k => decide (k < (u.kzAck f.src).nLanes) && ((u.kzAck f.src).typ k).charges)) :=
  ⟨(({ State.reset with kz := { State.reset.kz with peers := [{ eui := 5, role := 1, mask := 1 }] } } : State)), ({ dest := 0xFFFF, src := 3, eui := 5, counter := 1, mode := 4, snr := 40, erased := 0, hdrOk := true, tagOk := true, body := [0, 4, 1, 2, 3, 4] }), (((({ State.reset with kz := { State.reset.kz with peers := [{ eui := 5, role := 1, mask := 1 }] } } : State) : State).kzReceive { dest := 0xFFFF, src := 3, eui := 5, counter := 1, mode := 4, snr := 40, erased := 0, hdrOk := true, tagOk := true, body := [0, 4, 1, 2, 3, 4] } true).2), ([]), by decide +kernel⟩

theorem test_witness_kryuzSharingBindingsAndDistribution_10 : ∃ (s : State) (f : KzFrame) (u : State) (x : Xfer), s.kzReceive f (!s.kz.master && f.eui == s.kz.masterEui) = (.accepted, u) ∧ (((List.range (leNat (sub f.body 42 1))).any fun i => leNat (sub f.body (43 + 2 * i) 2) == u.kz.address) = true) ∧ ((u.up.xfers.find? fun x => x.hash == sub f.body 10 32 && x.size == leNat (sub f.body 4 4)) = some x) :=
  ⟨(({ ({ State.reset with kz := { State.reset.kz with masterEui := 5, joined := true, address := 7, pairs := [{ eui := 5, addr := 3 }] } } : State) with up := { State.reset.up with xfers := [{ num := 9, size := 32, hash := List.replicate 32 1 }] } } : State)), ({ dest := 0xFFFF, src := 3, eui := 5, counter := 1, mode := 4, snr := 40, erased := 0, hdrOk := true, tagOk := true, body := (leBytes 4 8 ++ leBytes 4 32 ++ [1, 0] ++ List.replicate 32 1 ++ [1, 7, 0]) }), (((({ ({ State.reset with kz := { State.reset.kz with masterEui := 5, joined := true, address := 7, pairs := [{ eui := 5, addr := 3 }] } } : State) with up := { State.reset.up with xfers := [{ num := 9, size := 32, hash := List.replicate 32 1 }] } } : State) : State).kzReceive { dest := 0xFFFF, src := 3, eui := 5, counter := 1, mode := 4, snr := 40, erased := 0, hdrOk := true, tagOk := true, body := (leBytes 4 8 ++ leBytes 4 32 ++ [1, 0] ++ List.replicate 32 1 ++ [1, 7, 0]) } true).2), ({ num := 9, size := 32, hash := List.replicate 32 1 }), by decide +kernel⟩

theorem test_witness_kryuzSharingBindingsAndDistribution_11 : ∃ (s : State) (f : KzFrame) (u : State) (x : Xfer), s.kzReceive f (!s.kz.master && f.eui == s.kz.masterEui) = (.accepted, u) ∧ u.xfer u.kz.rxNum = some x ∧ u.kz.rxDist ≠ 0 ∧ leNat (sub f.body 0 4) = u.kz.rxDist ∧ x.complete = false ∧ leNat (sub f.body 4 2) < x.frags ∧ leNat (sub f.body 6 1) ≤ 9 ∧ (x.held u.rd.active).contains (leNat (sub f.body 4 2)) = false ∧ f.body.length = 7 + segLen (leNat (sub f.body 6 1)) ∧ u.kz.segs = [] :=
  ⟨(({ ({ State.reset with kz := { State.reset.kz with masterEui := 5, rxDist := 8, rxNum := 9 } } : State) with up := { State.reset.up with xfers := [{ num := 9, size := 4096, frags := 1 }] } } : State)), ({ dest := 0xFFFF, src := 3, eui := 5, counter := 1, mode := 4, snr := 40, erased := 0, hdrOk := true, tagOk := true, body := ([8, 0, 0, 0, 0, 0, 9] ++ List.replicate 406 1) }), (((({ ({ State.reset with kz := { State.reset.kz with masterEui := 5, rxDist := 8, rxNum := 9 } } : State) with up := { State.reset.up with xfers := [{ num := 9, size := 4096, frags := 1 }] } } : State) : State).kzReceive { dest := 0xFFFF, src := 3, eui := 5, counter := 1, mode := 4, snr := 40, erased := 0, hdrOk := true, tagOk := true, body := ([8, 0, 0, 0, 0, 0, 9] ++ List.replicate 406 1) } true).2), ({ num := 9, size := 4096, frags := 1 }), by decide +kernel⟩

theorem test_witness_kryuzSharingBindingsAndDistribution_12 : ∃ (s : State) (f : KzFrame) (u : State), s.kzReceive f (!s.kz.master && f.eui == s.kz.masterEui) = (.accepted, u) :=
  ⟨(({ State.reset with kz := { State.reset.kz with masterEui := 5, joined := true, address := 7, pairs := [{ eui := 5, addr := 3 }] } } : State)), ({ dest := 0xFFFF, src := 3, eui := 5, counter := 1, mode := 4, snr := 40, erased := 0, hdrOk := true, tagOk := true, body := [8, 0, 0, 0] }), (((({ State.reset with kz := { State.reset.kz with masterEui := 5, joined := true, address := 7, pairs := [{ eui := 5, addr := 3 }] } } : State) : State).kzReceive { dest := 0xFFFF, src := 3, eui := 5, counter := 1, mode := 4, snr := 40, erased := 0, hdrOk := true, tagOk := true, body := [8, 0, 0, 0] } true).2), by decide +kernel⟩

theorem test_witness_kryuzSharingBindingsAndDistribution_13 : ∃ (s : State) (f : KzFrame) (u : State) (d : KzDist), (s.kzReceive f ((match s.kz.dist with | some d => d.targets.any fun t => t.eui == f.eui | none => false)) = (.accepted, u)) ∧ u.kz.dist = some d ∧ leNat (sub f.body 0 4) = d.xfer :=
  ⟨(({ ({ State.reset with kz := { State.reset.kz with master := true, dist := some { xfer := 9, ticket := 1, targets := [{ eui := 9, addr := 4 }], pass := 1 } } } : State) with up := { State.reset.up with xfers := [{ num := 9, kind := 3, size := 4096, frags := 1, complete := true, store := [(0, [1])] }] } } : State)), ({ dest := 0xFFFF, src := 4, eui := 9, counter := 1, mode := 4, snr := 40, erased := 0, hdrOk := true, tagOk := true, body := ([9, 0, 0, 0, 1, 0, 1, 0] ++ List.replicate 256 0) }), (((({ ({ State.reset with kz := { State.reset.kz with master := true, dist := some { xfer := 9, ticket := 1, targets := [{ eui := 9, addr := 4 }], pass := 1 } } } : State) with up := { State.reset.up with xfers := [{ num := 9, kind := 3, size := 4096, frags := 1, complete := true, store := [(0, [1])] }] } } : State) : State).kzReceive { dest := 0xFFFF, src := 4, eui := 9, counter := 1, mode := 4, snr := 40, erased := 0, hdrOk := true, tagOk := true, body := ([9, 0, 0, 0, 1, 0, 1, 0] ++ List.replicate 256 0) } true).2), ({ xfer := 9, ticket := 1, targets := [{ eui := 9, addr := 4 }], pass := 1 }), by decide +kernel⟩

theorem test_witness_kryuzSharingBindingsAndDistribution_14 : ∃ (s : State) (d : KzDist) (x : Xfer), s.kz.dist = some d ∧ s.xfer d.xfer = some x ∧ ((s.kz.txs.any fun y => y.ft == 13) = false) ∧ d.pass = 16 :=
  ⟨(({ ({ State.reset with kz := { State.reset.kz with master := true, dist := some { xfer := 9, ticket := 1, targets := [{ eui := 9, addr := 4 }], pass := 16 } } } : State) with up := { State.reset.up with xfers := [{ num := 9, kind := 3, size := 4096, frags := 1, complete := true, store := [(0, [1])] }] } } : State)), ({ xfer := 9, ticket := 1, targets := [{ eui := 9, addr := 4 }], pass := 16 }), ({ num := 9, kind := 3, size := 4096, frags := 1, complete := true, store := [(0, [1])] }), by decide +kernel⟩

theorem test_witness_kryuzSharingBindingsAndDistribution_15 : ∃ (s : State) (d : KzDist) (x : Xfer), s.kz.dist = some d ∧ s.xfer d.xfer = some x ∧ ((s.kz.txs.any fun y => y.ft == 13) = false) ∧ d.pass ≠ 16 ∧ ((d.targets.all fun t => t.addr == 0 || t.status x.frags == 0) = false) :=
  ⟨(({ ({ State.reset with kz := { State.reset.kz with master := true, dist := some { xfer := 9, ticket := 1, targets := [{ eui := 9, addr := 4 }], pass := 15 } } } : State) with up := { State.reset.up with xfers := [{ num := 9, kind := 3, size := 4096, frags := 1, complete := true, store := [(0, [1])] }] } } : State)), ({ xfer := 9, ticket := 1, targets := [{ eui := 9, addr := 4 }], pass := 15 }), ({ num := 9, kind := 3, size := 4096, frags := 1, complete := true, store := [(0, [1])] }), by decide +kernel⟩

theorem test_witness_kryuzSharingBindingsAndDistribution_16 : ∃ (s : State) (tk : Nat) (t : Ticket) (x : Xfer), s.ticket tk 0x0A05 = some t ∧ s.kz.master = true ∧ s.kz.dist = none ∧ s.xfer (t.u 0 4) = some x ∧ x.complete = true ∧ 1 ≤ t.u 4 1 ∧ t.u 4 1 ≤ 15 ∧ t.arg.length = 5 + 8 * t.u 4 1 :=
  ⟨(wReq (({ ({ State.reset with kz := { State.reset.kz with master := true, joined := true, address := 1, masterEui := 0, nodes := [{ eui := 9, addr := 4 }], pairs := [{ eui := 9, addr := 4 }] } } : State) with up := { State.reset.up with xfers := [{ num := 9, kind := 3, size := 4096, frags := 1, complete := true, store := [(0, [1])] }] } } : State)) 0x0A05 ([9, 0, 0, 0, 1] ++ leBytes 8 77) .admin), (1), (wTk 0x0A05 ([9, 0, 0, 0, 1] ++ leBytes 8 77) .admin), ({ num := 9, kind := 3, size := 4096, frags := 1, complete := true, store := [(0, [1])] }), by decide +kernel⟩

theorem test_witness_tagDwellsFaultsAndReplies_1 : ∃ (s : State) (o p : Nat), s.twin = true ∧ s.pw.state = 0 ∧ s.tg.link = true ∧ s.tg.carrier = false ∧ s.tg.offAt = some o ∧ o + ms 2 ≤ s.now ∧ s.nextPort = some p ∧ s.tg.write = none :=
  ⟨(wAt ({ State.reset with tg := { State.reset.tg with link := true, offAt := some 0, inv := [{ ticket := 1, port := 3 }] } } : State) (ms 2)), (0), (3), by decide +kernel⟩

theorem test_witness_tagDwellsFaultsAndReplies_2 : ∃ (s : State) (e : TgTag), s.tg.carrier = true ∧ s.tg.dwellAt + ms 40 ≤ s.now ∧ s.tg.write = none ∧ s.tg.inv = [] ∧ s.tg.epcs = [e] ∧ 12 ≤ e.epc.length ∧ e.epc.length ≤ 32 ∧ s.heldOff s.tg.port e = false ∧ s.tg.shortEpc < 65536 :=
  ⟨(wAt ({ State.reset with tg := { State.reset.tg with carrier := true, epcs := [{ epc := List.replicate 12 1 }] } } : State) (ms 40)), ({ epc := List.replicate 12 1 }), by decide +kernel⟩

theorem test_witness_tagDwellsFaultsAndReplies_3 : ∃ (s : State) (a b : TgTag), s.tg.carrier = true ∧ s.tg.dwellAt + ms 40 ≤ s.now ∧ s.tg.write = none ∧ s.tg.inv = [] ∧ s.tg.epcs = [a, b] ∧ 12 ≤ a.epc.length ∧ a.epc.length ≤ 32 ∧ 12 ≤ b.epc.length ∧ b.epc.length ≤ 32 :=
  ⟨(wAt ({ State.reset with tg := { State.reset.tg with carrier := true, epcs := [{ epc := List.replicate 12 1 }, { epc := List.replicate 32 2 }] } } : State) (ms 40)), ({ epc := List.replicate 12 1 }), ({ epc := List.replicate 32 2 }), by decide +kernel⟩

theorem test_witness_tagDwellsFaultsAndReplies_4 : ∃ (s : State), s.tg.carrier = true ∧ s.tg.dwellAt + ms 40 ≤ s.now ∧ s.tg.write = none ∧ s.tg.inv = [] ∧ s.tg.epcs = [] :=
  ⟨(wAt ({ State.reset with tg := { State.reset.tg with carrier := true } } : State) (ms 40)), by decide +kernel⟩

theorem test_witness_tagDwellsFaultsAndReplies_5 : ∃ (s : State), s.twin = true ∧ s.tg.link = true :=
  ⟨(({ State.reset with tg := { State.reset.tg with link := true } } : State)), by decide +kernel⟩

theorem test_witness_tagDwellsFaultsAndReplies_6 : ∃ (s : State), s.twin = true ∧ s.tg.carrier = true ∧ (s.tgp s.tg.port).fault = false :=
  ⟨(({ State.reset with tg := { State.reset.tg with carrier := true } } : State)), by decide +kernel⟩

theorem test_witness_tagDwellsFaultsAndReplies_7 : ∃ (s : State) (p e : Nat), (s.tgp p).faultEnd = some e ∧ e ≤ s.now :=
  ⟨(({ State.reset with tg := { State.reset.tg with ports := List.replicate 8 { fault := true, faultEnd := some 0, faultKind := 2 } } } : State)), (7), (0), by decide +kernel⟩

theorem test_witness_tagDwellsFaultsAndReplies_8 : ∃ (s : State), s.twin = true ∧ s.tg.link = false ∧ s.tg.linkLost = true :=
  ⟨(({ State.reset with tg := { State.reset.tg with linkLost := true } } : State)), by decide +kernel⟩

theorem test_witness_tagDwellsFaultsAndReplies_9 : ∃ (s : State), s.twin = true ∧ s.tg.link = false ∧ s.tg.linkLost = false :=
  ⟨(State.reset), by decide +kernel⟩

theorem test_witness_tagDwellsFaultsAndReplies_10 : ∃ (s : State) (rssi fwd refl : Int), s.tg.carrier = true ∧ s.tg.link = true ∧ s.tg.write = none ∧ 3 ≤ s.tg.qfp ∧ s.tg.qfp ≤ 150 :=
  ⟨(({ State.reset with tg := { State.reset.tg with link := true, carrier := true } } : State)), (0), (300), (0), by decide +kernel⟩

theorem test_witness_tagDwellsFaultsAndReplies_11 : ∃ (s : State) (rssi fwd refl : Int), s.tg.carrier = true ∧ s.tg.link = true ∧ s.tg.write = none ∧ 0 ≤ s.tg.qfp ∧ s.tg.qfp ≤ 147 :=
  ⟨(({ State.reset with tg := { State.reset.tg with link := true, carrier := true } } : State)), (0), (300), (0), by decide +kernel⟩

theorem test_witness_tagDwellsFaultsAndReplies_12 : ∃ (s : State) (e : Bytes) (rssi fwd refl : Int), s.tg.carrier = true ∧ s.tg.link = true ∧ s.tg.write = none ∧ ((s.tg.epcs.any fun x => x.epc == e) = false) :=
  ⟨(({ State.reset with tg := { State.reset.tg with link := true, carrier := true } } : State)), (List.replicate 12 1), (0), (300), (0), by decide +kernel⟩

theorem test_witness_tagDwellsFaultsAndReplies_13 : ∃ (s : State) (e : Bytes) (rssi fwd refl : Int), s.tg.carrier = true ∧ s.tg.link = true ∧ s.tg.write = none :=
  ⟨(({ State.reset with tg := { State.reset.tg with link := true, carrier := true } } : State)), (List.replicate 12 1), (0), (300), (0), by decide +kernel⟩

theorem test_witness_tagWritesAndRequests_1 : ∃ (s : State) (tk : Nat) (t : Ticket), s.ticket tk 0x0902 = some t ∧ s.twin = true ∧ s.tg.write = none ∧ t.u 0 1 ≤ 7 ∧ 12 ≤ t.u 1 1 ∧ t.u 1 1 ≤ 32 ∧ (t.u 34 1 = 1 ∨ t.u 34 1 = 3) ∧ 1 ≤ t.u 37 1 ∧ t.u 37 1 ≤ 16 ∧ t.arg.length = 42 + 2 * t.u 37 1 :=
  ⟨(wReq (State.reset) 0x0902 ([0, 12] ++ List.replicate 32 1 ++ ([1, 2, 0, 2] ++ List.replicate 8 0)) .admin), (1), (wTk 0x0902 ([0, 12] ++ List.replicate 32 1 ++ ([1, 2, 0, 2] ++ List.replicate 8 0)) .admin), by decide +kernel⟩

theorem test_witness_tagWritesAndRequests_2 : ∃ (s : State) (k : Nat) (rssi fwd refl : Int) (w : TgWr), s.tg.carrier = true ∧ s.tg.link = true ∧ s.portWrite s.tg.port = some w ∧ 0 < w.seen ∧ w.handle = none ∧ w.phase ≠ 2 ∧ w.word < w.data.length ∧ w.pwd = 0 ∧ s.tg.writeRssi ≤ rssi ∧ 20 * s.tg.writePtag ≤ fwd + 10 * rssi + 100 :=
  ⟨(({ State.reset with tg := { State.reset.tg with link := true, carrier := true, write := some { ticket := 1, port := 0, epc := List.replicate 12 1, data := [7, 8], seen := 1 } } } : State)), (9), (-10), (300), (0), ({ ticket := 1, port := 0, epc := List.replicate 12 1, data := [7, 8], seen := 1 }), by decide +kernel⟩

theorem test_witness_tagWritesAndRequests_3 : ∃ (s : State) (k : Nat) (rssi fwd refl : Int) (w : TgWr), s.tg.carrier = true ∧ s.tg.link = true ∧ s.portWrite s.tg.port = some w ∧ 0 < w.seen ∧ w.handle = none ∧ w.phase ≠ 2 ∧ w.word < w.data.length ∧ rssi < s.tg.writeRssi ∧ w.margin = false :=
  ⟨(({ State.reset with tg := { State.reset.tg with link := true, carrier := true, write := some { ticket := 1, port := 0, epc := List.replicate 12 1, data := [7, 8], seen := 1 } } } : State)), (9), (-66), (300), (0), ({ ticket := 1, port := 0, epc := List.replicate 12 1, data := [7, 8], seen := 1 }), by decide +kernel⟩

theorem test_witness_tagWritesAndRequests_4 : ∃ (s : State) (d : List Nat) (rssi fwd refl : Int) (w : TgWr), s.tg.carrier = true ∧ s.tg.link = true ∧ s.portWrite s.tg.port = some w ∧ w.phase = 2 ∧ w.handle.isSome = true ∧ d = w.data ∧ w.tried = List.range w.data.length ∧ w.data ≠ [] ∧ s.ticket w.ticket 0x0902 = none :=
  ⟨(({ State.reset with tg := { State.reset.tg with link := true, carrier := true, write := some { ticket := 1, port := 0, epc := List.replicate 12 1, data := [7, 8], phase := 2, handle := some 9, tried := [0, 1] } } } : State)), ([7, 8]), (-10), (300), (0), ({ ticket := 1, port := 0, epc := List.replicate 12 1, data := [7, 8], phase := 2, handle := some 9, tried := [0, 1] }), by decide +kernel⟩

theorem test_witness_tagWritesAndRequests_5 : ∃ (s : State) (w : TgWr) (e : Nat), s.tg.write = some w ∧ w.window = some e ∧ e ≤ s.now ∧ w.word + 1 < w.data.length :=
  ⟨(({ State.reset with tg := { State.reset.tg with write := some { ticket := 1, port := 0, epc := List.replicate 12 1, data := [7, 8], window := some 0 } } } : State)), ({ ticket := 1, port := 0, epc := List.replicate 12 1, data := [7, 8], window := some 0 }), (0), by decide +kernel⟩

theorem test_witness_tagWritesAndRequests_6 : ∃ (s : State) (w : TgWr) (e : Nat), s.tg.write = some w ∧ w.window = some e ∧ e ≤ s.now ∧ w.data.length ≤ w.word + 1 :=
  ⟨(({ State.reset with tg := { State.reset.tg with write := some { ticket := 1, port := 0, epc := List.replicate 12 1, data := [7, 8], word := 1, window := some 0 } } } : State)), ({ ticket := 1, port := 0, epc := List.replicate 12 1, data := [7, 8], word := 1, window := some 0 }), (0), by decide +kernel⟩

theorem test_witness_tagWritesAndRequests_7 : ∃ (s : State) (w : TgWr), s.tg.write = some w ∧ w.until_ ≤ s.now ∧ w.window = none ∧ w.phase ≠ 2 ∧ w.tried ≠ [] :=
  ⟨(({ State.reset with tg := { State.reset.tg with write := some { ticket := 1, port := 0, epc := List.replicate 12 1, data := [7, 8], tried := [0] } } } : State)), ({ ticket := 1, port := 0, epc := List.replicate 12 1, data := [7, 8], tried := [0] }), by decide +kernel⟩

theorem test_witness_tagWritesAndRequests_8 : ∃ (s : State) (w : TgWr) (q : Ticket), s.tg.write = some w ∧ w.until_ ≤ s.now ∧ w.window = none ∧ w.phase = 2 ∧ (∃ k, k < w.data.length ∧ k ∈ w.tried) ∧ s.ticket w.ticket 0x0902 = some q :=
  ⟨(wReq ({ State.reset with tg := { State.reset.tg with write := some { ticket := 1, port := 0, epc := List.replicate 12 1, data := [7, 8], tried := [0], phase := 2 } } } : State) 0x0902), ({ ticket := 1, port := 0, epc := List.replicate 12 1, data := [7, 8], tried := [0], phase := 2 }), (wTk 0x0902), by decide +kernel⟩

theorem test_witness_tagWritesAndRequests_9 : ∃ (s : State) (tk : Nat) (t : Ticket), s.ticket tk 0x0901 = some t ∧ s.twin = true ∧ ((s.tg.inv.any fun i => i.ticket == tk) = false) ∧ t.u 0 1 ≤ 7 ∧ 40 ≤ t.u 1 2 ∧ t.u 1 2 ≤ 2000 :=
  ⟨(wReq (State.reset) 0x0901 [7, 40, 0] .operator), (1), (wTk 0x0901 [7, 40, 0] .operator), by decide +kernel⟩

theorem test_witness_tagWritesAndRequests_10 : ∃ (s : State) (tk : Nat) (i : TgInv) (t : Ticket), ((s.tg.inv.find? fun i => i.ticket == tk) = some i) ∧ i.until_ ≤ s.now ∧ s.ticket tk 0x0901 = some t :=
  ⟨(wReq ({ State.reset with tg := { State.reset.tg with inv := [{ ticket := 1 }] } } : State) 0x0901), (1), ({ ticket := 1 }), (wTk 0x0901), by decide +kernel⟩

theorem test_witness_tagWritesAndRequests_11 : ∃ (s : State) (tk : Nat) (t : Ticket), s.ticket tk 0x0903 = some t ∧ s.twin = true :=
  ⟨(wReq (State.reset) 0x0903 [] .reader), (1), (wTk 0x0903 [] .reader), by decide +kernel⟩

theorem test_witness_tagWritesAndRequests_12 : ∃ (s : State) (tk : Nat) (t : Ticket), s.ticket tk 0x0904 = some t ∧ s.twin = true :=
  ⟨(wReq (State.reset) 0x0904 [] .operator), (1), (wTk 0x0904 [] .operator), by decide +kernel⟩

theorem test_witness_displaysDrawProveAndRedraw_1 : ∃ (s : State) (rs : List Nat) (f : Nat), s.pw.state = 0 ∧ s.en.warnAt = none ∧ s.ds.frameAt = some f ∧ s.now < f + 11764705 :=
  ⟨(({ State.reset with ds := { State.reset.ds with panels := List.replicate 4 { width := 256, height := 64, enable := true, cfgEnable := true, cfgWidth := 256, cfgHeight := 64 }, frameAt := some 0 } } : State)), ([]), (0), by decide +kernel⟩

theorem test_witness_displaysDrawProveAndRedraw_2 : ∃ (s : State) (rs : List Nat), s.pw.state = 0 ∧ s.en.warnAt = none ∧ s.ds.frameAt = none ∧ s.ds.waveOk = true ∧ (∀ q ∈ s.ds.panels, q.flight = [] ∧ q.queue = [] ∧ q.needProof = false) ∧ s.ds.railsOn = true ∧ s.ds.railsOff = none :=
  ⟨(({ State.reset with ds := { State.reset.ds with panels := List.replicate 4 { width := 256, height := 64, enable := true, cfgEnable := true, cfgWidth := 256, cfgHeight := 64, needProof := false }, waveOk := true, railsOn := true } } : State)), ([]), by decide +kernel⟩

theorem test_witness_displaysDrawProveAndRedraw_3 : ∃ (s : State) (r : Rect), 3 < s.ds.panels.length ∧ r.tickets = [] ∧ (if (s.panel 3).ntcBad then 3 else (s.panel 3).band) = r.band :=
  ⟨State.reset, { band := (if (State.reset.panel 3).ntcBad then 3 else (State.reset.panel 3).band) }, by decide +kernel⟩

theorem test_witness_displaysDrawProveAndRedraw_4 : ∃ (s : State) (e : Nat), s.ds.railsOff = some e ∧ e ≤ s.now :=
  ⟨(({ State.reset with ds := { State.reset.ds with panels := List.replicate 4 { width := 256, height := 64, enable := true, cfgEnable := true, cfgWidth := 256, cfgHeight := 64 }, railsOn := true, railsOff := some 0 } } : State)), (0), by decide +kernel⟩

theorem test_witness_displaysDrawProveAndRedraw_5 : ∃ (s : State) (tk : Nat) (t : Ticket) (p : Nat), s.ticket tk 0x0801 = some t ∧ p = t.u 0 1 ∧ p ≤ 3 ∧ p < s.ds.panels.length ∧ (s.panel p).enable = true ∧ (s.panel p).fault = false ∧ (s.panel p).queue = [] ∧ (s.panel p).flight = [] ∧ t.u 1 2 % 8 = 0 ∧ t.u 5 2 % 8 = 0 ∧ 0 < t.u 5 2 ∧ 0 < t.u 7 2 ∧ t.u 1 2 + t.u 5 2 ≤ (s.panel p).width ∧ t.u 3 2 + t.u 7 2 ≤ (s.panel p).height ∧ s.hasMode (t.u 9 1) = true ∧ (t.rest 10).length = t.u 5 2 * t.u 7 2 / 2 ∧ (t.rest 10).length ≤ 65536 ∧ s.fields p = [] :=
  ⟨(wReq (({ State.reset with ds := { State.reset.ds with panels := List.replicate 4 { width := 256, height := 64, enable := true, cfgEnable := true, cfgWidth := 256, cfgHeight := 64 }, waveModes := 2 } } : State)) 0x0801 ([0, 0, 0, 0, 0, 8, 0, 2, 0, 1] ++ List.replicate 8 0) .admin), (1), (wTk 0x0801 ([0, 0, 0, 0, 0, 8, 0, 2, 0, 1] ++ List.replicate 8 0) .admin), (0), by decide +kernel⟩

theorem test_witness_displaysDrawProveAndRedraw_6 : ∃ (s : State) (tk : Nat) (t : Ticket) (x : Xfer) (n : Nat) (b : Bytes), s.ticket tk 0x0802 = some t ∧ s.xfer (t.u 0 4) = some x ∧ x.kind = 4 ∧ x.complete = true ∧ ((s.ds.panels.any fun q => !q.flight.isEmpty) = false) ∧ x.bytes.length = n + 4 ∧ b = x.bytes.take n ∧ leNat (x.bytes.drop n) = crc32 b :=
  ⟨(wReq (({ State.reset with up := { State.reset.up with xfers := [{ num := 9, kind := 4, size := 4, frags := 1, complete := true, store := [(0, leBytes 4 (crc32 []))] }] } } : State)) 0x0802 [9, 0, 0, 0] .admin), (1), (wTk 0x0802 [9, 0, 0, 0] .admin), ({ num := 9, kind := 4, size := 4, frags := 1, complete := true, store := [(0, leBytes 4 (crc32 []))] }), (0), ([]), by decide +kernel⟩

theorem test_witness_displaysDrawProveAndRedraw_7 : ∃ (s : State) (tk : Nat) (t : Ticket) (rs : List Nat), s.ticket tk 0x0803 = some t ∧ t.u 0 1 ≤ 3 ∧ (s.panel (t.u 0 1)).cfgEnable = true ∧ (s.panel (t.u 0 1)).flight = [] ∧ rs.getD (t.u 0 1) 0 = 0 :=
  ⟨(wReq (({ State.reset with ds := { State.reset.ds with panels := List.replicate 4 { width := 256, height := 64, enable := true, cfgEnable := true, cfgWidth := 256, cfgHeight := 64 } } } : State)) 0x0803 [3] .admin), (1), (wTk 0x0803 [3] .admin), ([]), by decide +kernel⟩

theorem test_witness_displaysDrawProveAndRedraw_8 : 3 < ({ State.reset with ds := { State.reset.ds with panels := List.replicate 4 { width := 256, height := 64, enable := true, cfgEnable := true, cfgWidth := 256, cfgHeight := 64 } } } : State).ds.panels.length ∧ (({ State.reset with ds := { State.reset.ds with panels := List.replicate 4 { width := 256, height := 64, enable := true, cfgEnable := true, cfgWidth := 256, cfgHeight := 64 } } } : State).panel 3).cfgEnable = true := by decide +kernel

theorem test_witness_displaysDrawProveAndRedraw_9 : ∃ (s : State) (p : Nat) (v : Int), p ≤ 3 :=
  ⟨(State.reset), (3), (250), by decide +kernel⟩

theorem test_witness_displaysDrawProveAndRedraw_10 : ∃ (s : State) (p : Nat), p ≤ 3 ∧ (s.panel p).ntcBad = false ∧ (s.panel p).enable = true :=
  ⟨(({ State.reset with ds := { State.reset.ds with panels := List.replicate 4 { width := 256, height := 64, enable := true, cfgEnable := true, cfgWidth := 256, cfgHeight := 64, ntcBad := false } } } : State)), (0), by decide +kernel⟩

theorem test_witness_displaysDrawProveAndRedraw_11 : ∃ (s : State) (n p d : Nat) (b : Bytes), p = (s.slot n).panel ∧ p ≤ 3 ∧ (s.typ n).isLane = true ∧ s.pw.state = 0 ∧ (s.panel p).fields.find? (fun x => x.1 == n) = some (n, b) ∧ b ≠ s.fieldValues n ∧ (s.panel p).drawnAt.find? (fun x => x.1 == n) = some (n, d) ∧ d + sec 1 ≤ s.now :=
  ⟨(wAt ({ wCfg { slots := [{ slot := 63, typ := .ac1, group := 0, panel := 0 }] } with ds := { State.reset.ds with panels := List.replicate 4 { width := 256, height := 64, enable := true, cfgEnable := true, cfgWidth := 256, cfgHeight := 64, fields := [(63, [])], drawnAt := [(63, 0)] } } } : State) (sec 1)), (63), (0), (0), ([]), by decide +kernel⟩

theorem test_witness_displaysDrawProveAndRedraw_12 : ∃ (s : State) (p : Nat), p ≤ 3 ∧ (s.panel p).enable = true ∧ s.pw.state = 0 ∧ (s.panel p).crcAt + sec 10 ≤ s.now :=
  ⟨(wAt ({ State.reset with ds := { State.reset.ds with panels := List.replicate 4 { width := 256, height := 64, enable := true, cfgEnable := true, cfgWidth := 256, cfgHeight := 64 } } } : State) (sec 10)), (0), by decide +kernel⟩

theorem test_witness_displaysDrawProveAndRedraw_13 : ∃ (s : State) (p k : Nat), p ≤ 3 ∧ p < s.ds.panels.length ∧ (s.panel p).enable = true ∧ s.pw.state = 0 ∧ (s.panel p).crcAt + sec 10 ≤ s.now ∧ 0 < k ∧ (s.panel p).fields = [] :=
  ⟨(wAt ({ State.reset with ds := { State.reset.ds with panels := List.replicate 4 { width := 256, height := 64, enable := true, cfgEnable := true, cfgWidth := 256, cfgHeight := 64 } } } : State) (sec 10)), (0), (1), by decide +kernel⟩

theorem test_witness_displaysDrawProveAndRedraw_14 : ∃ (s : State) (tk : Nat) (t : Ticket), s.ticket tk 0x0804 = some t :=
  ⟨(wReq (State.reset) 0x0804 [] .reader), (1), (wTk 0x0804 [] .reader), by decide +kernel⟩

theorem test_witness_memoryTestsAndPowerStates_1 : ∃ (s : State) (side mem : Nat) (w : List Nat), mem ≤ 2 ∧ s.sramOn side mem = true ∧ (s.mms side).burnAt.getD mem none = none ∧ side < s.mm.sides.length :=
  ⟨(State.reset), (0), (2), ([]), by decide +kernel⟩

theorem test_witness_memoryTestsAndPowerStates_2 : ∃ (s : State) (side mem : Nat) (w : List Nat), mem ≤ 2 ∧ s.sramOn side mem = true ∧ (s.mms side).burnAt.getD mem none = none ∧ side < s.mm.sides.length :=
  ⟨(State.reset), (0), (2), ([]), by decide +kernel⟩

theorem test_witness_memoryTestsAndPowerStates_3 : ∃ (s : State) (side : Nat) (hot : Bool), (side = 0 ∨ s.twin = true) :=
  ⟨(State.reset), (1), (true), by decide +kernel⟩

theorem test_witness_memoryTestsAndPowerStates_4 : ∃ (s : State) (tk : Nat) (t : Ticket), s.ticket tk 0x0F20 = some t :=
  ⟨(wReq (State.reset) 0x0F20 [] .reader), (1), (wTk 0x0F20 [] .reader), by decide +kernel⟩

theorem test_witness_memoryTestsAndPowerStates_5 : ∃ (s : State) (tk : Nat) (t : Ticket), s.ticket tk 0x0F21 = some t :=
  ⟨(wReq (State.reset) 0x0F21 [] .operator), (1), (wTk 0x0F21 [] .operator), by decide +kernel⟩

theorem test_witness_memoryTestsAndPowerStates_6 : ∃ (s : State) (tk : Nat) (t : Ticket), s.ticket tk 0x0B01 = some t ∧ t.arg.length = 1 ∧ t.u 0 1 = 1 ∧ s.pw.state = 0 ∧ s.pw.entry = none ∧ s.refusers 1 (ticketPort tk) = 0 :=
  ⟨(wReq (State.reset) 0x0B01 [1] .operator), (1), (wTk 0x0B01 [1] .operator), by decide +kernel⟩

theorem test_witness_memoryTestsAndPowerStates_7 : ∃ (s : State) (tk : Nat) (t : Ticket) (m : Nat), s.ticket tk 0x0B01 = some t ∧ t.arg.length = 1 ∧ t.u 0 1 = 2 ∧ s.pw.state = 0 ∧ s.pw.entry = none ∧ m = s.refusers 2 (ticketPort tk) ∧ m ≠ 0 :=
  ⟨(wReq (({ State.reset with ds := { State.reset.ds with panels := [{ queue := [{}] }] } } : State)) 0x0B01 [2] .operator), (1), (wTk 0x0B01 [2] .operator), (16), by decide +kernel⟩

theorem test_witness_memoryTestsAndPowerStates_8 : ∃ (s : State), s.parkDue = true ∧ s.refusers 1 3 = 0 :=
  ⟨(wAt ({ State.reset with pw := { State.reset.pw with parkS := 60 } } : State) (sec 60)), by decide +kernel⟩

theorem test_witness_memoryTestsAndPowerStates_9 : ∃ (s : State) (e : PwEntry), s.pw.entry = some e ∧ e.since + ms 10 ≤ s.now ∧ e.target = 1 ∧ e.ticket = none ∧ s.refusers 1 e.port = 0 :=
  ⟨(wAt ({ State.reset with pw := { State.reset.pw with entry := some {} } } : State) (ms 10)), ({}), by decide +kernel⟩

theorem test_witness_memoryTestsAndPowerStates_10 : ∃ (s : State) (e : PwEntry) (m : Nat), s.pw.entry = some e ∧ e.since + ms 10 ≤ s.now ∧ m = s.refusers e.target e.port ∧ m ≠ 0 :=
  ⟨(wAt ({ ({ State.reset with pw := { State.reset.pw with entry := some {} } } : State) with ds := { State.reset.ds with panels := [{ queue := [{}] }] } } : State) (ms 10)), ({}), (16), by decide +kernel⟩

theorem test_witness_memoryTestsAndPowerStates_13 : ∃ (s : State) (src lane ua : Nat), (src = 1 ∨ src = 2 ∨ src = 4 ∨ src = 5) ∧ s.pw.state = 1 ∧ s.pw.entry = none ∧ s.wakeEnabled src = true ∧ s.en.coverPend = none :=
  ⟨(({ State.reset with pw := { State.reset.pw with state := 1 } } : State)), (1), (0), (0), by decide +kernel⟩

theorem test_witness_memoryTestsAndPowerStates_14 : ∃ (s : State) (lane ua : Nat), lane < 64 ∧ (s.typ lane).charges = true ∧ s.pw.state = 3 ∧ s.wakeEnabled 3 = true ∧ ua < 65536 :=
  ⟨(({ wTyp 63 .ac1 with pw := { State.reset.pw with state := 3 } } : State)), (63), (65535), by decide +kernel⟩

theorem test_witness_memoryTestsAndPowerStates_15 : ∃ (s : State) (src lane ua : Nat), s.pw.state = 0 ∧ s.pw.entry = none ∧ (src = 1 ∨ src = 2 ∨ src = 4 ∨ src = 5) :=
  ⟨(State.reset), (5), (0), (0), by decide +kernel⟩

theorem test_witness_memoryTestsAndPowerStates_16 : ∃ (s : State) (ua : Nat), s.pw.state = 3 ∧ s.wakeEnabled 2 = true ∧ ua < 65536 :=
  ⟨(({ State.reset with pw := { State.reset.pw with state := 3 } } : State)), (65535), by decide +kernel⟩

theorem test_witness_memoryTestsAndPowerStates_17 : ∃ (s : State) (ua : Nat), s.pw.armed = true ∧ s.clock.legalValid = true ∧ s.clock.rtcOk = true ∧ s.pw.alarmS ≤ s.legalSec ∧ s.pw.state = 0 ∧ s.pw.entry = none :=
  ⟨(({ ({ State.reset with pw := { State.reset.pw with armed := true } } : State) with clock := { State.reset.clock with legalValid := true, rtcOk := true } } : State)), (0), by decide +kernel⟩

theorem test_witness_memoryTestsAndPowerStates_18 : ∃ (s : State) (ua : Nat), s.pw.state = 3 ∧ 10000 < ua ∧ ua < 65536 ∧ s.pw.borLp < 65535 :=
  ⟨(({ State.reset with pw := { State.reset.pw with state := 3 } } : State)), (10001), by decide +kernel⟩

theorem test_witness_memoryTestsAndPowerStates_19 : ∃ (s : State) (tk : Nat) (t : Ticket), s.ticket tk 0x0B03 = some t ∧ t.arg.length = 4 ∧ s.clock.legalValid = true ∧ t.u 0 4 = 0 :=
  ⟨(wReq (({ State.reset with clock := { State.reset.clock with legalValid := true } } : State)) 0x0B03 [0, 0, 0, 0] .operator), (1), (wTk 0x0B03 [0, 0, 0, 0] .operator), by decide +kernel⟩

theorem test_witness_memoryTestsAndPowerStates_20 : ∃ (s : State) (tk : Nat) (t : Ticket), s.ticket tk 0x0B03 = some t ∧ t.arg.length = 4 ∧ s.clock.legalValid = true ∧ t.u 0 4 ≠ 0 ∧ s.legal ≤ t.u 0 4 * 2 ^ 32 :=
  ⟨(wReq (({ State.reset with clock := { State.reset.clock with legalValid := true } } : State)) 0x0B03 [255, 255, 255, 255] .operator), (1), (wTk 0x0B03 [255, 255, 255, 255] .operator), by decide +kernel⟩

theorem test_witness_memoryTestsAndPowerStates_21 : ∃ (s : State) (tk : Nat) (t : Ticket), s.ticket tk 0x0B02 = some t :=
  ⟨(wReq (State.reset) 0x0B02 [] .reader), (1), (wTk 0x0B02 [] .reader), by decide +kernel⟩

theorem test_witness_memoryTestsAndPowerStates_22 : ∃ (s : State) (tk : Nat) (t : Ticket), s.ticket tk 0x0B04 = some t :=
  ⟨(wReq (State.reset) 0x0B04 [] .admin), (1), (wTk 0x0B04 [] .admin), by decide +kernel⟩

theorem test_witness_fieldUpdateTransfersAndInstallation_1 : ∃ (s : State) (tk : Nat) (t : Ticket), s.ticket tk 0x0701 = some t ∧ s.openRefusal (t.u 0 1) (t.u 1 4) = 0 ∧ 2 ≤ t.u 0 1 ∧ t.role ≠ .service ∧ s.up.nextNum + 1 < 2 ^ 32 :=
  ⟨(wReq (State.reset) 0x0701 ([2] ++ leBytes 4 4097 ++ List.replicate 32 1) .admin), (1), (wTk 0x0701 ([2] ++ leBytes 4 4097 ++ List.replicate 32 1) .admin), by decide +kernel⟩

theorem test_witness_fieldUpdateTransfersAndInstallation_2 : ∃ (s : State) (tk : Nat) (t : Ticket) (x : Xfer), s.ticket tk 0x0702 = some t ∧ s.xfer (t.u 0 4) = some x ∧ t.role ≠ .service ∧ t.u 4 4 < x.frags ∧ t.u 8 2 = x.fragLen (t.u 4 4) ∧ (t.rest 14).length = x.fragLen (t.u 4 4) ∧ t.u 10 4 = crc32 (t.rest 14) ∧ (x.held s.rd.active).contains (t.u 4 4) = false :=
  ⟨(wReq ({ State.reset with up := { State.reset.up with xfers := [{ num := 9, kind := 2, size := 4, frags := 1 }] } } : State) 0x0702 ([9, 0, 0, 0, 0, 0, 0, 0, 4, 0] ++ leBytes 4 (crc32 [1, 2, 3, 4]) ++ [1, 2, 3, 4]) .admin), (1), (wTk 0x0702 ([9, 0, 0, 0, 0, 0, 0, 0, 4, 0] ++ leBytes 4 (crc32 [1, 2, 3, 4]) ++ [1, 2, 3, 4]) .admin), ({ num := 9, kind := 2, size := 4, frags := 1 }), by decide +kernel⟩

theorem test_witness_fieldUpdateTransfersAndInstallation_3 : ∃ (s : State) (tk : Nat) (t : Ticket) (x : Xfer), s.ticket tk 0x0702 = some t ∧ s.xfer (t.u 0 4) = some x ∧ t.role ≠ .service ∧ t.u 4 4 < x.frags ∧ t.u 8 2 = x.fragLen (t.u 4 4) ∧ (t.rest 14).length = x.fragLen (t.u 4 4) ∧ t.u 10 4 = crc32 (t.rest 14) ∧ (x.held s.rd.active).contains (t.u 4 4) = true :=
  ⟨(wReq ({ State.reset with up := { State.reset.up with xfers := [{ num := 9, kind := 2, size := 4, frags := 1, heldA := [0], heldB := [0] }] } } : State) 0x0702 ([9, 0, 0, 0, 0, 0, 0, 0, 4, 0] ++ leBytes 4 (crc32 [1, 2, 3, 4]) ++ [1, 2, 3, 4]) .admin), (1), (wTk 0x0702 ([9, 0, 0, 0, 0, 0, 0, 0, 4, 0] ++ leBytes 4 (crc32 [1, 2, 3, 4]) ++ [1, 2, 3, 4]) .admin), ({ num := 9, kind := 2, size := 4, frags := 1, heldA := [0], heldB := [0] }), by decide +kernel⟩

theorem test_witness_fieldUpdateTransfersAndInstallation_4 : ∃ (s : State) (x : Xfer), s.xfer 9 = some x ∧ x.complete = false ∧ x.frags ≤ (x.held s.rd.active).length ∧ sha256 x.bytes = x.hash :=
  ⟨({ State.reset with up := { State.reset.up with xfers := [{ num := 9, hash := sha256 [] }] } } : State), { num := 9, hash := sha256 [] }, rfl, rfl, by decide, rfl⟩

theorem test_witness_fieldUpdateTransfersAndInstallation_5 : ∃ (s : State) (side num k : Nat) (x : Xfer), s.xfer num = some x ∧ s.twin = true ∧ side = 1 - s.rd.active ∧ side ≤ 1 ∧ 3 ≤ s.rd.standby ∧ (x.held side).contains k = false ∧ (x.held (1 - side)).contains k = true ∧ 2 ≤ x.kind :=
  ⟨(({ State.reset with up := { State.reset.up with xfers := [{ num := 9, kind := 2, size := 4, frags := 1, heldA := [0] }], sel := 0 }, rd := { State.reset.rd with active := 0, standby := 3 } } : State)), (1), (9), (0), ({ num := 9, kind := 2, size := 4, frags := 1, heldA := [0] }), by decide +kernel⟩

theorem test_witness_fieldUpdateTransfersAndInstallation_6 : ∃ (s : State) (num : Nat) (x : Xfer), s.xfer num = some x ∧ x.expires ≤ s.legalSec ∧ x.inUse = false :=
  ⟨(({ State.reset with up := { State.reset.up with xfers := [{ num := 9, kind := 2, size := 4, frags := 1 }] } } : State)), (9), ({ num := 9, kind := 2, size := 4, frags := 1 }), by decide +kernel⟩

theorem test_witness_fieldUpdateTransfersAndInstallation_7 : ∃ (s : State) (tk : Nat) (t : Ticket) (x : Xfer), s.ticket tk 0x0704 = some t ∧ s.xfer (t.u 0 4) = some x ∧ x.inUse = false :=
  ⟨(wReq (({ State.reset with up := { State.reset.up with xfers := [{ num := 9, kind := 2, size := 4, frags := 1 }] } } : State)) 0x0704 [9, 0, 0, 0] .admin), (1), (wTk 0x0704 [9, 0, 0, 0] .admin), ({ num := 9, kind := 2, size := 4, frags := 1 }), by decide +kernel⟩

theorem test_witness_fieldUpdateTransfersAndInstallation_9 : ∃ (s : State) (tk : Nat) (t : Ticket) (x : Xfer), s.ticket tk 0x0703 = some t ∧ s.xfer (t.u 0 4) = some x ∧ (((List.range x.frags).find? fun k => !(x.held s.rd.active).contains k) = none) :=
  ⟨(wReq (({ State.reset with up := { State.reset.up with xfers := [{ num := 9, kind := 0, size := 192, frags := 1, complete := true, heldA := [0], heldB := [0], store := [(0, ([0x59, 0x47, 0x46, 0x57, 1, 0, 0, 0, 2, 0, 0, 0, 1, 0, 0, 0, 192, 0, 0, 0] ++ List.replicate 172 0))] }] } } : State)) 0x0703 [9, 0, 0, 0] .reader), (1), (wTk 0x0703 [9, 0, 0, 0] .reader), ({ num := 9, kind := 0, size := 192, frags := 1, complete := true, heldA := [0], heldB := [0], store := [(0, ([0x59, 0x47, 0x46, 0x57, 1, 0, 0, 0, 2, 0, 0, 0, 1, 0, 0, 0, 192, 0, 0, 0] ++ List.replicate 172 0))] }), by decide +kernel⟩

theorem test_witness_fieldUpdateTransfersAndInstallation_10 : ∃ (s : State) (tk : Nat) (t : Ticket) (x : Xfer), s.ticket tk 0x0705 = some t ∧ s.xfer (t.u 0 4) = some x ∧ x.complete = true ∧ x.kind ≤ 1 ∧ t.u 4 1 ≤ 1 ∧ t.u 5 1 ≤ 1 ∧ (s.ups (t.u 4 1)).ticket = none ∧ s.applying = false ∧ s.applyRefused (t.u 4 1) = false ∧ imgHeaderOk x.bytes x.kind = true :=
  ⟨(wReq ({ State.reset with up := { State.reset.up with xfers := [{ num := 9, kind := 0, size := 192, frags := 1, complete := true, heldA := [0], heldB := [0], store := [(0, ([0x59, 0x47, 0x46, 0x57, 1, 0, 0, 0, 2, 0, 0, 0, 1, 0, 0, 0, 192, 0, 0, 0] ++ List.replicate 172 0))] }] } } : State) 0x0705 [9, 0, 0, 0, 0, 0] .admin), (1), (wTk 0x0705 [9, 0, 0, 0, 0, 0] .admin), ({ num := 9, kind := 0, size := 192, frags := 1, complete := true, heldA := [0], heldB := [0], store := [(0, ([0x59, 0x47, 0x46, 0x57, 1, 0, 0, 0, 2, 0, 0, 0, 1, 0, 0, 0, 192, 0, 0, 0] ++ List.replicate 172 0))] }), by decide +kernel⟩

theorem test_witness_fieldUpdateTransfersAndInstallation_11 : 1 < State.reset.up.sides.length := by decide

theorem test_witness_fieldUpdateTransfersAndInstallation_12 : ∃ (s : State) (side : Nat), (s.ups side).phase = 1 :=
  ⟨(({ State.reset with up := { State.reset.up with sides := [{ phase := 1 }, {}] } } : State)), (0), by decide +kernel⟩

theorem test_witness_fieldUpdateTransfersAndInstallation_13 : ∃ (s : State) (side : Nat), (s.ups side).phase = 2 :=
  ⟨(({ State.reset with up := { State.reset.up with sides := [{ phase := 2 }, {}] } } : State)), (0), by decide +kernel⟩

theorem test_witness_fieldUpdateTransfersAndInstallation_14 : ∃ (s : State) (side : Nat), (s.ups side).phase = 3 :=
  ⟨(({ State.reset with up := { State.reset.up with sides := [{ phase := 3 }, {}] } } : State)), (0), by decide +kernel⟩

theorem test_witness_fieldUpdateTransfersAndInstallation_15 : ∃ (s : State) (side : Nat), (s.ups side).phase = 4 ∧ 5 ≤ s.rs.phase ∧ side = s.rd.active :=
  ⟨(({ State.reset with up := { State.reset.up with sides := [{ phase := 4 }, {}] }, rd := { State.reset.rd with active := 0 }, rs := { State.reset.rs with phase := 5 } } : State)), (0), by decide +kernel⟩

theorem test_witness_fieldUpdateTransfersAndInstallation_16 : ∃ (s : State) (tk : Nat) (t : Ticket) (rb mf : Nat), s.ticket tk 0x0706 = some t ∧ t.u 0 1 ≤ 1 ∧ (s.ups (t.u 0 1)).ticket = none ∧ s.applying = false ∧ s.applyRefused (t.u 0 1) = false ∧ (s.ups (t.u 0 1)).archive = some (rb, mf) :=
  ⟨(wReq (({ State.reset with up := { State.reset.up with sides := [{ archive := some (3, 1) }, {}] } } : State)) 0x0706 [0] .admin), (1), (wTk 0x0706 [0] .admin), (3), (1), by decide +kernel⟩

theorem test_witness_fieldUpdateTransfersAndInstallation_17 : ∃ (s : State) (tk : Nat) (t : Ticket), s.ticket tk 0x0707 = some t ∧ s.up.counter < t.u 0 4 ∧ t.u 0 4 ≤ (s.ups 0).running ∧ (s.twin = true → t.u 0 4 ≤ (s.ups 1).running) :=
  ⟨(wReq (({ State.reset with up := { State.reset.up with sides := [{ running := 2 }, { running := 2 }] } } : State)) 0x0707 [2, 0, 0, 0] .admin), (1), (wTk 0x0707 [2, 0, 0, 0] .admin), by decide +kernel⟩

theorem test_witness_fieldUpdateTransfersAndInstallation_18 : ∃ (s : State), s.twin = true ∧ s.rd.standby = 2 ∧ (s.ups (1 - s.rd.active)).phase = 0 ∧ (s.ups (1 - s.rd.active)).running ≠ 0 ∧ s.rs.clkLost = none ∧ s.mismatch = 0 :=
  ⟨(({ State.reset with rd := { State.reset.rd with standby := 2 } } : State)), by decide +kernel⟩

theorem test_witness_monitorCommandsAnswer_1 : ∃ (s : State) (side len : Nat), s.monMode side = 3 ∧ side < s.mon.sides.length ∧ s.mon.level = 0 ∧ len ≤ 256 :=
  ⟨(({ State.reset with rs := { State.reset.rs with phase := 5, sides := [4, 4] }, mon := { State.reset.mon with sides := [{ role := .service }, {}] } } : State)), (0), (256), by decide +kernel⟩

theorem test_witness_monitorCommandsAnswer_2 : ∃ (s : State) (side len : Nat), s.monMode side = 3 ∧ side < s.mon.sides.length ∧ s.mon.level = 0 ∧ len ≤ 256 :=
  ⟨(({ State.reset with rs := { State.reset.rs with phase := 5, sides := [4, 4] }, mon := { State.reset.mon with sides := [{ role := .service }, {}] } } : State)), (0), (256), by decide +kernel⟩

theorem test_witness_monitorCommandsAnswer_3 : ∃ (s : State) (side len : Nat) (p : Bytes), s.monMode side = 3 ∧ side < s.mon.sides.length ∧ s.mon.level = 0 ∧ len ≤ 256 ∧ (s.mon.sides.getD side {}).lockUntil = none ∧ ((s.mon.passwords.find? fun x => x.1 == 3).map (·.2) = some p) :=
  ⟨(({ State.reset with rs := { State.reset.rs with phase := 5, sides := [4, 4] }, mon := { State.reset.mon with sides := [{ role := .pub }, {}], passwords := [(3, [65])] } } : State)), (0), (256), ([65]), by decide +kernel⟩

theorem test_witness_monitorCommandsAnswer_4 : ∃ (s : State) (side len : Nat) (p : Bytes), s.monMode side = 3 ∧ side < s.mon.sides.length ∧ s.mon.level = 0 ∧ len ≤ 256 ∧ (s.mon.sides.getD side {}).lockUntil = none ∧ ((s.mon.passwords.find? fun x => x.1 == 3).map (·.2) ≠ some p) ∧ (((s.mon.sides.getD side {}).fails.filter fun x => decide (s.now < x + sec 300)).length = 4) :=
  ⟨(({ State.reset with rs := { State.reset.rs with phase := 5, sides := [4, 4] }, mon := { State.reset.mon with sides := [{ role := .pub, fails := [0, 0, 0, 0] }, {}], passwords := [(3, [65])] } } : State)), (0), (256), ([66]), by decide +kernel⟩

theorem test_witness_monitorCommandsAnswer_5 : ∃ (s : State) (side len : Nat), s.monMode side = 3 ∧ side < s.mon.sides.length ∧ s.mon.level = 0 ∧ len ≤ 256 :=
  ⟨(({ State.reset with rs := { State.reset.rs with phase := 5, sides := [4, 4] }, mon := { State.reset.mon with sides := [{ role := .service }, {}] } } : State)), (0), (256), by decide +kernel⟩

theorem test_witness_monitorCommandsAnswer_6 : ∃ (s : State) (side : Nat), side < s.mon.sides.length ∧ (s.mon.sides.getD side {}).lastIn + sec 600 ≤ s.now :=
  ⟨(wAt ({ State.reset with rs := { State.reset.rs with phase := 5, sides := [4, 4] }, mon := { State.reset.mon with sides := [{ role := .service }, {}] } } : State) (sec 600)), (0), by decide +kernel⟩

theorem test_witness_monitorCommandsAnswer_7 : ∃ (s : State) (side e : Nat), side < s.mon.sides.length ∧ (s.mon.sides.getD side {}).lockUntil = some e :=
  ⟨(({ State.reset with rs := { State.reset.rs with phase := 5, sides := [4, 4] }, mon := { State.reset.mon with sides := [{ role := .pub, lockUntil := some 0 }, {}] } } : State)), (0), (0), by decide +kernel⟩

theorem test_witness_monitorCommandsAnswer_8 : ∃ (s : State) (side len : Nat) (addr : Nat), s.monMode side = 3 ∧ side < s.mon.sides.length ∧ s.mon.level = 0 ∧ len ≤ 256 ∧ (.reader : Role).code ≤ (s.monRole side).code ∧ regSpanOk addr 1 16 = true :=
  ⟨(({ State.reset with rs := { State.reset.rs with phase := 5, sides := [4, 4] }, mon := { State.reset.mon with sides := [{ role := .service }, {}] } } : State)), (0), (256), (0xFFF8), by decide +kernel⟩

theorem test_witness_monitorCommandsAnswer_9 : ∃ (s : State) (side len : Nat) (addr x : Nat), s.monMode side = 3 ∧ side < s.mon.sides.length ∧ s.mon.level = 0 ∧ len ≤ 256 ∧ (.operator : Role).code ≤ (s.monRole side).code ∧ regSpanOk addr 1 1 = true ∧ x < 2 ^ 64 :=
  ⟨(({ State.reset with rs := { State.reset.rs with phase := 5, sides := [4, 4] }, mon := { State.reset.mon with sides := [{ role := .service }, {}] } } : State)), (0), (256), (0xFFF8), (0), by decide +kernel⟩

theorem test_witness_monitorCommandsAnswer_10 : ∃ (s : State) (side len : Nat) (count : Nat), s.monMode side = 3 ∧ side < s.mon.sides.length ∧ s.mon.level = 0 ∧ len ≤ 256 ∧ (.reader : Role).code ≤ (s.monRole side).code ∧ 1 ≤ count ∧ count ≤ 64 :=
  ⟨(({ State.reset with rs := { State.reset.rs with phase := 5, sides := [4, 4] }, mon := { State.reset.mon with sides := [{ role := .service }, {}] } } : State)), (0), (256), (64), by decide +kernel⟩

theorem test_witness_monitorCommandsAnswer_11 : ∃ (s : State) (side len : Nat) (n : Nat), s.monMode side = 3 ∧ side < s.mon.sides.length ∧ s.mon.level = 0 ∧ len ≤ 256 ∧ (.reader : Role).code ≤ (s.monRole side).code ∧ n < s.nLanes :=
  ⟨(({ State.reset with rs := { State.reset.rs with phase := 5, sides := [4, 4] }, mon := { State.reset.mon with sides := [{ role := .service }, {}] } } : State)), (0), (256), (0), by decide +kernel⟩

theorem test_witness_monitorCommandsAnswer_12 : ∃ (s : State) (side len : Nat) (op : Nat) (arg : Bytes), s.monMode side = 3 ∧ side < s.mon.sides.length ∧ s.mon.level = 0 ∧ len ≤ 256 :=
  ⟨(({ State.reset with rs := { State.reset.rs with phase := 5, sides := [4, 4] }, mon := { State.reset.mon with sides := [{ role := .service }, {}] } } : State)), (0), (256), (0x0F20), ([]), by decide +kernel⟩

theorem test_witness_monitorCommandsAnswer_13 : ∃ (s : State) (side len : Nat) (addr count : Nat), s.monMode side = 3 ∧ side < s.mon.sides.length ∧ s.mon.level = 0 ∧ len ≤ 256 ∧ (.service : Role).code ≤ (s.monRole side).code ∧ 1 ≤ count ∧ count ≤ 256 ∧ 0x03800000 ≤ addr :=
  ⟨(({ State.reset with rs := { State.reset.rs with phase := 5, sides := [4, 4] }, mon := { State.reset.mon with sides := [{ role := .service }, {}] } } : State)), (0), (256), (0x03800000), (256), by decide +kernel⟩

theorem test_witness_monitorCommandsAnswer_14 : ∃ (s : State) (side len : Nat) (fam lanes post : Nat), s.monMode side = 3 ∧ side < s.mon.sides.length ∧ s.mon.level = 0 ∧ len ≤ 256 ∧ (.service : Role).code ≤ (s.monRole side).code ∧ post ≤ 2047 :=
  ⟨(({ State.reset with rs := { State.reset.rs with phase := 5, sides := [4, 4] }, mon := { State.reset.mon with sides := [{ role := .service }, {}] } } : State)), (0), (256), (65535), (1), (2047), by decide +kernel⟩

theorem test_witness_monitorCommandsAnswer_15 : ∃ (s : State) (side len : Nat), s.monMode side = 3 ∧ side < s.mon.sides.length ∧ s.mon.level = 0 ∧ len ≤ 256 ∧ (.service : Role).code ≤ (s.monRole side).code :=
  ⟨(({ State.reset with rs := { State.reset.rs with phase := 5, sides := [4, 4] }, mon := { State.reset.mon with sides := [{ role := .service }, {}] } } : State)), (0), (256), by decide +kernel⟩

theorem test_witness_monitorCommandsAnswer_16 : ∃ (s : State) (side len : Nat), s.monMode side = 3 ∧ side < s.mon.sides.length ∧ s.mon.level = 0 ∧ len ≤ 256 ∧ (.service : Role).code ≤ (s.monRole side).code :=
  ⟨(({ State.reset with rs := { State.reset.rs with phase := 5, sides := [4, 4] }, mon := { State.reset.mon with sides := [{ role := .service }, {}] } } : State)), (0), (256), by decide +kernel⟩

theorem test_witness_monitorCommandsAnswer_17 : ∃ (s : State) (side len : Nat), s.monMode side = 3 ∧ side < s.mon.sides.length ∧ s.mon.level = 0 ∧ len ≤ 256 ∧ (.service : Role).code ≤ (s.monRole side).code :=
  ⟨(({ State.reset with rs := { State.reset.rs with phase := 5, sides := [4, 4] }, mon := { State.reset.mon with sides := [{ role := .service }, {}] } } : State)), (0), (256), by decide +kernel⟩

theorem test_witness_monitorCommandsAnswer_18 : ∃ s : State, s.monMode 0 = 3 ∧ s.mon.level ≠ 2 ∧ (s.monRole 0).code < Role.reader.code :=
  ⟨({ State.reset with rs := { State.reset.rs with phase := 5, sides := [4, 4] }, mon := { State.reset.mon with sides := [{ role := .pub }, {}] } } : State), by decide +kernel⟩

theorem test_witness_monitorCommandsAnswer_19 : ∃ (s : State) (tk : Nat) (t : Ticket), s.ticket tk 0x0F30 = some t ∧ t.arg.length = 1 ∧ t.u 0 1 ≤ 2 ∧ t.u 0 1 ≠ s.mon.level ∧ s.mon.sides.length = 2 :=
  ⟨(wReq (({ State.reset with rs := { State.reset.rs with phase := 5, sides := [4, 4] }, mon := { State.reset.mon with sides := [{ role := .service }, {}] } } : State)) 0x0F30 [2] .admin), (1), (wTk 0x0F30 [2] .admin), by decide +kernel⟩

theorem test_witness_monitorCommandsAnswer_20 : ∃ (s : State) (tk : Nat) (t : Ticket), s.ticket tk 0x0F31 = some t ∧ (t.u 0 1 = 1 ∨ t.u 0 1 = 2 ∨ t.u 0 1 = 3 ∨ t.u 0 1 = 5) ∧ t.rest 2 = [] ∧ t.u 1 1 = 0 :=
  ⟨(wReq (({ State.reset with rs := { State.reset.rs with phase := 5, sides := [4, 4] }, mon := { State.reset.mon with sides := [{ role := .pub }, {}], passwords := [(3, [65])] } } : State)) 0x0F31 [3, 0] .admin), (1), (wTk 0x0F31 [3, 0] .admin), by decide +kernel⟩

theorem test_witness_monitorCommandsAnswer_21 : ∃ (s : State) (tk : Nat) (t : Ticket), s.ticket tk 0x0F31 = some t ∧ (t.u 0 1 = 1 ∨ t.u 0 1 = 2 ∨ t.u 0 1 = 3 ∨ t.u 0 1 = 5) ∧ (t.rest 2).length = t.u 1 1 ∧ passwordOk (t.rest 2) = true :=
  ⟨(wReq (State.reset) 0x0F31 ([3, 12] ++ asciiBytes "Abcdefgh1234") .admin), (1), (wTk 0x0F31 ([3, 12] ++ asciiBytes "Abcdefgh1234") .admin), by decide +kernel⟩

theorem test_witness_monitorCommandsAnswer_22 : ∃ (s : State) (tk : Nat) (t : Ticket), s.ticket tk 0x0F32 = some t :=
  ⟨(wReq (State.reset) 0x0F32 [] .reader), (1), (wTk 0x0F32 [] .reader), by decide +kernel⟩

theorem test_witness_hostSessionsFramesAndRequests_1 : ∃ (s : State) (f : HostFrame), s.hostOn = true ∧ s.frameOf 0 0x30 f = some f ∧ f.form = true ∧ f.ok = true ∧ (s.port 0).session = some { sid := 7, role := .operator } ∧ f.sid = 7 ∧ Session.fresh { sid := 7, role := .operator } f.counter = true :=
  ⟨({ State.reset with rs := { State.reset.rs with phase := 7 }, host := { State.reset.host with ports := [{ session := some { sid := 7, role := .operator } }, {}, {}] } } : State), { sid := 7, counter := 1, payload := [] }, by decide +kernel⟩

theorem test_witness_hostSessionsFramesAndRequests_2 : ∃ (s : State) (f : HostFrame), s.hostOn = true ∧ s.frameOf 0 0x30 f = some f ∧ f.form = true ∧ f.ok = true ∧ (s.port 0).session = some { sid := 7, role := .operator, rxHigh := 1, rxWindow := [1] } ∧ f.counter = 1 :=
  ⟨({ State.reset with rs := { State.reset.rs with phase := 7 }, host := { State.reset.host with ports := [{ session := some { sid := 7, role := .operator, rxHigh := 1, rxWindow := [1] } }, {}, {}] } } : State), { sid := 7, counter := 1, payload := [] }, by decide +kernel⟩

theorem test_witness_hostSessionsFramesAndRequests_3 : ∃ (s : State) (p : Nat), p < 2 ∧ s.hostOn = true ∧ (s.port p).session = none ∧ (s.port p).helloAt + ms 990 ≤ s.now ∧ (s.port p).ip4Enable = false :=
  ⟨(wAt ({ State.reset with rs := { State.reset.rs with phase := 7 }, host := { State.reset.host with ports := [{}, {}, { session := some { sid := 7, role := .operator } }] } } : State) (ms 990)), (1), by decide +kernel⟩

theorem test_witness_hostSessionsFramesAndRequests_4 : ∃ (s : State), s.hostOn = true ∧ (s.port 2).session = none ∧ (s.port 2).helloAt + ms 990 ≤ s.now :=
  ⟨(wAt ({ State.reset with rs := { State.reset.rs with phase := 7 }, host := { State.reset.host with ports := [{ session := some { sid := 7, role := .operator } }, {}, {}] } } : State) (ms 990)), by decide +kernel⟩

theorem test_witness_hostSessionsFramesAndRequests_5 : ∃ (s : State) (p : Nat) (f g : HostFrame), s.hostOn = true ∧ s.frameOf p 2 f = some g ∧ g.form = true ∧ g.ok = true ∧ g.payload.length = 92 ∧ leNat (sub g.payload 0 1) = 0 ∧ leNat (sub g.payload 1 1) ≤ 3 ∧ (s.port p).session = none ∧ s.bindLocked p = false ∧ s.isOrphan 1 = false ∧ p < s.host.ports.length :=
  ⟨(({ State.reset with rs := { State.reset.rs with phase := 7 }, host := { State.reset.host with ports := [{}, { session := some { sid := 7, role := .operator } }, {}] } } : State)), (0), ({ sid := 0, counter := 1, payload := (List.replicate 92 0) }), ({ sid := 0, counter := 1, payload := (List.replicate 92 0) }), by decide +kernel⟩

theorem test_witness_hostSessionsFramesAndRequests_6 : ∃ (s : State) (p : Nat) (f g : HostFrame) (r : Role), s.hostOn = true ∧ s.frameOf p 2 f = some g ∧ g.form = true ∧ g.ok = true ∧ g.payload.length = 92 ∧ Role.ofCode (leNat (sub g.payload 0 1)) = some r ∧ r ≠ .pub ∧ leNat (sub g.payload 1 1) ≤ 3 ∧ (s.anchor (hostKeySlot r (leNat (sub g.payload 1 1)))).isSome = true ∧ (s.port p).session = none ∧ s.bindLocked p = false ∧ s.isOrphan 1 = false ∧ p < s.host.ports.length :=
  ⟨(({ State.reset with rs := { State.reset.rs with phase := 7 }, host := { State.reset.host with ports := [{}, { session := some { sid := 7, role := .operator } }, {}] }, kv := { State.reset.kv with anchors := [(8, [1])] } } : State)), (0), ({ sid := 0, counter := 1, payload := (2 :: List.replicate 91 0) }), ({ sid := 0, counter := 1, payload := (2 :: List.replicate 91 0) }), (.operator), by decide +kernel⟩

theorem test_witness_hostSessionsFramesAndRequests_7 : ∃ (s : State) (p : Nat) (f g : HostFrame) (b : Bind) (k : Bytes), s.hostOn = true ∧ s.frameOf p 4 f = some g ∧ g.form = true ∧ g.ok = true ∧ (s.port p).bind = some b ∧ g.sid = b.sid ∧ s.anchor (hostKeySlot b.role b.keyIndex) = some k ∧ s.now ≤ b.challengeAt + sec 5 :=
  ⟨(({ State.reset with rs := { State.reset.rs with phase := 7 }, kv := { State.reset.kv with anchors := [(8, [1])] }, host := { State.reset.host with ports := [{ bind := some { role := .operator, sid := 7 } }, {}, {}] } } : State)), (0), ({ sid := 7, counter := 1, payload := [] }), ({ sid := 7, counter := 1, payload := [] }), ({ role := .operator, sid := 7 }), ([1]), by decide +kernel⟩

theorem test_witness_hostSessionsFramesAndRequests_8 : ∃ (s : State) (p : Nat) (b : Bind), (s.port p).bind = some b ∧ b.challengeAt + sec 5 ≤ s.now :=
  ⟨(wAt ({ State.reset with host := { State.reset.host with ports := [{ bind := some { role := .operator } }, {}, {}] } } : State) (sec 5)), (0), ({ role := .operator }), by decide +kernel⟩

theorem test_witness_hostSessionsFramesAndRequests_9 : ∃ s : State, 0 < s.host.ports.length ∧ ((s.port 0).fails.filter fun x => decide (s.now < x + sec 60)).length = 4 :=
  ⟨({ State.reset with host := { State.reset.host with ports := [{ fails := [0, 0, 0, 0] }, {}, {}] } } : State), by decide +kernel⟩

theorem test_witness_hostSessionsFramesAndRequests_10 : ∃ (s : State) (p e : Nat), (s.port p).lockUntil = some e ∧ e ≤ s.now :=
  ⟨(({ State.reset with host := { State.reset.host with ports := [{ lockUntil := some 0 }, {}, {}] } } : State)), (0), (0), by decide +kernel⟩

theorem test_witness_hostSessionsFramesAndRequests_11 : ∃ (s : State) (p : Nat) (f g : HostFrame) (c : Session) (op tag : Nat), s.hostOn = true ∧ s.frameOf p 0x10 f = some g ∧ g.form = true ∧ g.ok = true ∧ (s.port p).session = some c ∧ c.sid = g.sid ∧ c.fresh g.counter = true ∧ p < s.host.ports.length ∧ s.pw.state = 0 ∧ s.pw.entry = none ∧ 12 ≤ g.payload.length ∧ op = leNat (sub g.payload 0 2) ∧ leNat (sub g.payload 2 1) = 0 ∧ leNat (sub g.payload 3 1) = 1 ∧ tag = leNat (sub g.payload 4 4) ∧ leNat (sub g.payload 8 4) = g.payload.length - 12 ∧ g.payload.length ≤ 88844 ∧ c.tags = [] :=
  ⟨(({ State.reset with rs := { State.reset.rs with phase := 7 }, host := { State.reset.host with ports := [{ session := some { sid := 7, role := .operator } }, {}, {}] } } : State)), (0), ({ sid := 7, counter := 1, payload := (leBytes 2 0x0F20 ++ [0, 1] ++ leBytes 4 5 ++ leBytes 4 0) }), ({ sid := 7, counter := 1, payload := (leBytes 2 0x0F20 ++ [0, 1] ++ leBytes 4 5 ++ leBytes 4 0) }), ({ sid := 7, role := .operator }), (0x0F20), (5), by decide +kernel⟩

theorem test_witness_hostSessionsFramesAndRequests_12 : ∃ (s : State) (l : List Role), s.sess 0 = some { sid := 7, role := .operator } ∧ rolesOf 0x0F20 = some l ∧ l.contains .operator = true ∧ s.variantLacks 0x0F20 [] = false ∧ s.busyAt 0x0F20 [] = false :=
  ⟨({ State.reset with rs := { State.reset.rs with phase := 7 }, host := { State.reset.host with ports := [{ session := some { sid := 7, role := .operator } }, {}, {}] } } : State), (rolesOf 0x0F20).getD [], by decide +kernel⟩

theorem test_witness_hostSessionsFramesAndRequests_13 : ∃ (s : State) (p tag : Nat) (c : Session) (b : PartBuf), s.sess p = some c ∧ b ∈ c.parts ∧ b.tag = tag ∧ b.since + sec 1 ≤ s.now :=
  ⟨(wAt ({ State.reset with rs := { State.reset.rs with phase := 7 }, host := { State.reset.host with ports := [{ session := some { sid := 7, role := .operator, parts := [{ tag := 5 }] } }, {}, {}] } } : State) (sec 1)), (0), (5), ({ sid := 7, role := .operator, parts := [{ tag := 5 }] }), ({ tag := 5 }), by decide +kernel⟩

theorem test_witness_hostSessionsFramesAndRequests_14 : ∃ (s : State) (p : Nat) (f g : HostFrame) (c : Session), s.hostOn = true ∧ s.frameOf p 0x30 f = some g ∧ g.form = true ∧ g.ok = true ∧ (s.port p).session = some c ∧ c.sid = g.sid ∧ c.fresh g.counter = true ∧ p < s.host.ports.length :=
  ⟨(({ State.reset with rs := { State.reset.rs with phase := 7 }, host := { State.reset.host with ports := [{ session := some { sid := 7, role := .operator } }, {}, {}] } } : State)), (0), ({ sid := 7, counter := 1, payload := [] }), ({ sid := 7, counter := 1, payload := [] }), ({ sid := 7, role := .operator }), by decide +kernel⟩

theorem test_witness_hostSessionsFramesAndRequests_15 : ∃ (s : State) (p : Nat) (c : Session), (s.port p).session = some c ∧ c.lastRx + sec 3 ≤ s.now :=
  ⟨(wAt ({ State.reset with rs := { State.reset.rs with phase := 7 }, host := { State.reset.host with ports := [{ session := some { sid := 7, role := .operator } }, {}, {}] } } : State) (sec 3)), (0), ({ sid := 7, role := .operator }), by decide +kernel⟩

theorem test_witness_hostSessionsFramesAndRequests_16 : ((({ State.reset with rs := { State.reset.rs with phase := 7 }, host := { State.reset.host with ports := [{ session := some { sid := 7, role := .operator } }, {}, {}] } } : State) : State).port 0).session = some { sid := 7, role := .operator } ∧ 0 < (({ State.reset with rs := { State.reset.rs with phase := 7 }, host := { State.reset.host with ports := [{ session := some { sid := 7, role := .operator } }, {}, {}] } } : State) : State).host.ports.length := by decide +kernel

theorem test_witness_hostSessionsFramesAndRequests_17 : ∃ (s : State) (p : Nat) (up : Bool), p ≤ 1 ∧ (s.port p).link = !up ∧ s.pw.state ≠ 2 :=
  ⟨(State.reset), (1), (true), by decide +kernel⟩

theorem test_witness_eventStreamRegistersAndSecondHost_1 : ∃ (s : State) (p : Nat) (f g : HostFrame) (c : Session), s.hostOn = true ∧ s.frameOf p 0x21 f = some g ∧ g.form = true ∧ g.ok = true ∧ (s.port p).session = some c ∧ c.sid = g.sid ∧ c.fresh g.counter = true ∧ p < s.host.ports.length ∧ g.payload.length = 16 :=
  ⟨(({ State.reset with rs := { State.reset.rs with phase := 7 }, host := { State.reset.host with ports := [{ session := some { sid := 7, role := .operator } }, {}, {}] } } : State)), (0), ({ sid := 7, counter := 1, payload := (List.replicate 16 0) }), ({ sid := 7, counter := 1, payload := (List.replicate 16 0) }), ({ sid := 7, role := .operator }), by decide +kernel⟩

theorem test_witness_eventStreamRegistersAndSecondHost_2 : ∃ s : State, (s.port 0).session = some { sid := 7, role := .operator, sentThrough := 1 } ∧ 0 < s.host.ports.length :=
  ⟨({ State.reset with rs := { State.reset.rs with phase := 7 }, host := { State.reset.host with ports := [{ session := some { sid := 7, role := .operator, sentThrough := 1 } }, {}, {}] } } : State), by decide +kernel⟩

theorem test_witness_eventStreamRegistersAndSecondHost_3 : ∃ (s : State) (p : Nat) (c : Session), (s.port p).session = some c ∧ s.hostOn = true ∧ c.lastTx + sec 1 ≤ s.now :=
  ⟨(wAt ({ State.reset with rs := { State.reset.rs with phase := 7 }, host := { State.reset.host with ports := [{ session := some { sid := 7, role := .operator } }, {}, {}] } } : State) (sec 1)), (0), ({ sid := 7, role := .operator }), by decide +kernel⟩

theorem test_witness_eventStreamRegistersAndSecondHost_4 : ∃ (s : State) (p : Nat) (c : Session), (s.port p).session = some c ∧ p < 3 ∧ p < s.host.ports.length ∧ s.hostOn = true ∧ c.role ≠ .pub ∧ c.nextSeq ≤ s.seqr.seqLast ∧ (s.recordsFor c c.nextSeq).length ≤ 40 ∧ c.inFlight + (s.recordsFor c c.nextSeq).length ≤ 1024 :=
  ⟨(({ State.reset with rs := { State.reset.rs with phase := 7 }, host := { State.reset.host with ports := [{ session := some { sid := 7, role := .operator } }, {}, {}] } } : State)), (0), ({ sid := 7, role := .operator }), by decide +kernel⟩

theorem test_witness_eventStreamRegistersAndSecondHost_5 : ∃ (s : State) (p : Nat) (c : Session), (s.port p).session = some c ∧ s.hostOn = true ∧ c.ackSeq < c.sentThrough ∧ c.ackAt + ms 250 ≤ s.now :=
  ⟨(wAt ({ State.reset with rs := { State.reset.rs with phase := 7 }, host := { State.reset.host with ports := [{ session := some { sid := 7, role := .operator, sentThrough := 1 } }, {}, {}] } } : State) (ms 250)), (0), ({ sid := 7, role := .operator, sentThrough := 1 }), by decide +kernel⟩

theorem test_witness_eventStreamRegistersAndSecondHost_6 : ∃ (s : State) (tk : Nat) (t : Ticket) (c : Session), s.ticket tk 0x0001 = some t ∧ s.sess (ticketPort tk) = some c ∧ t.arg.length = 4 ∧ ((c.outstanding.any fun x => x.id == t.u 0 4) = true) :=
  ⟨(wReq (State.reset) 0x0001 (leBytes 4 1) .operator), (1), (wTk 0x0001 (leBytes 4 1) .operator), ({ sid := 7, role := .operator, outstanding := [wTk 0x0001 (leBytes 4 1)] }), by decide +kernel⟩

theorem test_witness_eventStreamRegistersAndSecondHost_7 : ∃ (s : State) (tk : Nat) (t : Ticket) (c : Session), s.ticket tk 0x0002 = some t ∧ ticketPort tk ≤ 2 ∧ s.sess (ticketPort tk) = some c ∧ ticketPort tk < s.host.ports.length ∧ t.arg.length = 8 ∧ t.u 0 8 ≤ c.nextSeq ∧ c.replayTk = none ∧ t.u 0 8 ≤ t.seqAt :=
  ⟨(wReq (State.reset) 0x0002 (leBytes 8 0) .operator), (1), (wTk 0x0002 (leBytes 8 0) .operator), ({ sid := 7, role := .operator, outstanding := [wTk 0x0002 (leBytes 8 0)] }), by decide +kernel⟩

theorem test_witness_eventStreamRegistersAndSecondHost_8 : ∃ (s : State) (tk : Nat) (t : Ticket), s.ticket tk 0x0003 = some t ∧ t.arg.length = 10 :=
  ⟨(wReq (State.reset) 0x0003 (List.replicate 10 1) .operator), (1), (wTk 0x0003 (List.replicate 10 1) .operator), by decide +kernel⟩

theorem test_witness_eventStreamRegistersAndSecondHost_9 : ∃ (s : State) (tk : Nat) (t : Ticket), s.ticket tk 0x0004 = some t ∧ t.arg.length = 4 ∧ regSpanOk (t.u 0 2) (t.u 2 2) 128 = true :=
  ⟨(wReq (State.reset) 0x0004 [0, 0, 128, 0] .reader), (1), (wTk 0x0004 [0, 0, 128, 0] .reader), by decide +kernel⟩

theorem test_witness_eventStreamRegistersAndSecondHost_10 : ∃ (s : State) (tk : Nat) (t : Ticket), s.ticket tk 0x0005 = some t ∧ regSpanOk (t.u 0 2) (t.u 2 2) 16 = true ∧ t.arg.length = 4 + 8 * t.u 2 2 :=
  ⟨(wReq (State.reset) 0x0005 ([0, 0, 1, 0] ++ List.replicate 8 0) .operator), (1), (wTk 0x0005 ([0, 0, 1, 0] ++ List.replicate 8 0) .operator), by decide +kernel⟩

theorem test_witness_eventStreamRegistersAndSecondHost_11 : ∃ (s : State) (role : Role) (addr v : Nat), v < 2 ^ 64 :=
  ⟨(State.reset), (.admin), (0x2020), (63), by decide +kernel⟩

theorem test_witness_eventStreamRegistersAndSecondHost_12 : ∃ (s : State) (role : Role) (v : Nat), v < 64 :=
  ⟨(State.reset), (.admin), (63), by decide +kernel⟩

theorem test_witness_eventStreamRegistersAndSecondHost_13 : ∃ (s : State), s.pw.state ≤ 1 ∧ bit s.pw.held 0 = false ∧ s.pw.entry = none :=
  ⟨(State.reset), by decide +kernel⟩

theorem test_witness_eventStreamRegistersAndSecondHost_14 : ∃ (s : State) (n : Nat) (f : Frame) (l : List Frame), s.pw.state = 0 ∧ s.pw.entry = none ∧ bit s.pw.held 0 = false ∧ (s.port 2).outbox = f :: l ∧ f.bytes.length + 2 ≤ n :=
  ⟨(({ State.reset with host := { State.reset.host with ports := [{}, {}, { outbox := [{}] }] } } : State)), (26), ({}), ([]), by decide +kernel⟩

theorem test_witness_eventStreamRegistersAndSecondHost_15 : ∃ (s : State) (b f : Bytes), s.pw.state = 0 ∧ s.pw.entry = none ∧ bit s.pw.held 0 = false ∧ f = sub b 2 (leNat (sub b 0 2)) ∧ leNat (sub b 0 2) + 2 ≤ b.length ∧ (s.port 2).inbox.length < 4 ∧ f.length = leNat (sub f 16 2) + 24 ∧ leNat (sub f 16 2) ≤ 1400 ∧ sub f 0 3 = [0x59, 0x48, 0x01] ∧ isHostType (leNat (sub f 3 1)) = true ∧ leNat (sub f (leNat (sub f 16 2) + 20) 4) = crc32 (sub f 0 (leNat (sub f 16 2) + 20)) :=
  ⟨(State.reset), ([24, 0] ++ ([0x59, 0x48, 1, 0x30] ++ List.replicate 16 0) ++ leBytes 4 (crc32 ([0x59, 0x48, 1, 0x30] ++ List.replicate 16 0))), (([0x59, 0x48, 1, 0x30] ++ List.replicate 16 0) ++ leBytes 4 (crc32 ([0x59, 0x48, 1, 0x30] ++ List.replicate 16 0))), by decide +kernel⟩

theorem test_witness_eventStreamRegistersAndSecondHost_16 : ∃ (s : State) (addr : Nat), s.pw.state = 0 ∧ s.pw.entry = none ∧ bit s.pw.held 0 = false ∧ addr % 8 = 0 ∧ addr ≤ 0xFFF8 :=
  ⟨(State.reset), (0xFFF8), by decide +kernel⟩

theorem test_witness_eventStreamRegistersAndSecondHost_17 : ∃ (s : State) (addr v : Nat) (c : Session), s.pw.state = 0 ∧ s.pw.entry = none ∧ bit s.pw.held 0 = false ∧ (s.port 2).session = some c ∧ c.role ≠ .pub ∧ c.role ≠ .reader ∧ addr % 8 = 0 ∧ addr < 2 ^ 16 ∧ v < 2 ^ 64 :=
  ⟨(({ State.reset with rs := { State.reset.rs with phase := 7 }, host := { State.reset.host with ports := [{}, {}, { session := some { sid := 7, role := .operator } }] } } : State)), (0), (0), ({ sid := 7, role := .operator }), by decide +kernel⟩

theorem test_witness_matrixLoadsChecksAndCommits_1 : ∃ (s : State) (tk : Nat) (t : Ticket) (b : Bytes) (x : Option Nat), s.ticket tk 0x0101 = some t ∧ s.mx.job = none ∧ s.mxStream t = some (b, x) :=
  ⟨(wReq (State.reset) 0x0101 [0, 0, 0, 0] .admin), (1), (wTk 0x0101 [0, 0, 0, 0] .admin), ([]), (none), by decide +kernel⟩

theorem test_witness_matrixLoadsChecksAndCommits_2 : ∃ (s : State) (tk : Nat) (t : Ticket) (b : Bytes) (x : Option Nat), s.ticket tk 0x0102 = some t ∧ s.mx.job = none ∧ s.mxStream t = some (b, x) :=
  ⟨(wReq (State.reset) 0x0102 [0, 0, 0, 0] .admin), (1), (wTk 0x0102 [0, 0, 0, 0] .admin), ([]), (none), by decide +kernel⟩

theorem test_witness_matrixLoadsChecksAndCommits_3 : State.reset.mxCheck14 (changedLanes State.reset.cfg { generation := 5 }) = none := by decide +kernel

theorem test_witness_matrixLoadsChecksAndCommits_5 : ∃ (s : State) (tk : Nat) (t : Ticket) (j : MxJob), s.ticket tk 0x0101 = some t ∧ s.mx.job = some j ∧ j.ticket ≠ t.id :=
  ⟨(wReq (({ State.reset with mx := { State.reset.mx with job := some { ticket := 2 } } } : State)) 0x0101 [0, 0, 0, 0] .admin), (1), (wTk 0x0101 [0, 0, 0, 0] .admin), ({ ticket := 2 }), by decide +kernel⟩

theorem test_witness_matrixLoadsChecksAndCommits_6 : ∃ (s : State) (tk : Nat) (t : Ticket) (b : Bytes) (x : Option Nat), s.ticket tk 0x0103 = some t ∧ s.mx.job = none ∧ s.mxStream t = some (b, x) :=
  ⟨(wReq (State.reset) 0x0103 [0, 0, 0, 0] .admin), (1), (wTk 0x0103 [0, 0, 0, 0] .admin), ([]), (none), by decide +kernel⟩

theorem test_witness_matrixLoadsChecksAndCommits_7 : ∃ (s : State) (tk : Nat) (t : Ticket), s.ticket tk 0x0104 = some t :=
  ⟨(wReq (State.reset) 0x0104 [] .reader), (1), (wTk 0x0104 [] .reader), by decide +kernel⟩

theorem test_witness_matrixLoadsChecksAndCommits_8 : ∃ (s : State) (tk : Nat) (t : Ticket) (c : Machine.Config), s.ticket tk 0x0105 = some t ∧ s.mx.job = none ∧ s.mx.copy (1 - s.mx.active) = some c ∧ s.mx.applied = none :=
  ⟨(wReq (({ State.reset with mx := { State.reset.mx with copyB := some {} } } : State)) 0x0105 [] .admin), (1), (wTk 0x0105 [] .admin), ({}), by decide +kernel⟩

theorem test_witness_matrixLoadsChecksAndCommits_9 : ∃ (s : State) (j : MxJob) (t0 : Ticket), s.mx.job = some j ∧ j.deltaSlot = 0xFF ∧ s.ticket j.ticket 0x0101 = some t0 ∧ j.xfer = none :=
  ⟨(wReq ({ State.reset with mx := { State.reset.mx with job := some { ticket := 1, cfg := { generation := 5 } } } } : State) 0x0101), ({ ticket := 1, cfg := { generation := 5 } }), (wTk 0x0101), by decide +kernel⟩

theorem test_witness_matrixLoadsChecksAndCommits_10 : ∃ (s : State) (j : MxJob) (t0 : Ticket), s.mx.job = some j ∧ j.deltaSlot = 0xFF ∧ s.ticket j.ticket 0x0101 = some t0 ∧ j.xfer = none :=
  ⟨(wReq ({ State.reset with mx := { State.reset.mx with job := some { ticket := 1, cfg := { generation := 5 } } } } : State) 0x0101), ({ ticket := 1, cfg := { generation := 5 } }), (wTk 0x0101), by decide +kernel⟩

theorem test_witness_suppliesClocksResetsAndStartup_2 : ∃ (s : State) (straps : Nat), s.rs.phase = 1 ∧ s.railsGood = true ∧ s.rs.rstn = true ∧ s.pw.state ≠ 4 ∧ s.twin = true :=
  ⟨(({ State.reset with rs := { State.reset.rs with phase := 1, rstn := true, vaon := true, vgrv := true, vio33 := true, vana := true, vio18 := true, vcore := 3, vddq := 3 } } : State)), (1), by decide +kernel⟩

theorem test_witness_suppliesClocksResetsAndStartup_3 : ∃ (s : State) (side : Nat) (r : BootRes), 2 ≤ s.rs.phase ∧ s.rs.pfStop = false ∧ (side = 0 ∨ side = 1 ∧ s.twin = true) ∧ s.rs.sides.getD side 4 = 2 ∧ r.ok = true :=
  ⟨(({ State.reset with rs := { State.reset.rs with phase := 2, sides := [2, 2] } } : State)), (1), ({}), by decide +kernel⟩

theorem test_witness_suppliesClocksResetsAndStartup_4 : ∃ (s : State) (side : Nat) (r : BootRes), 2 ≤ s.rs.phase ∧ s.rs.pfStop = false ∧ (side = 0 ∨ side = 1 ∧ s.twin = true) ∧ s.rs.sides.getD side 4 = 3 :=
  ⟨(({ State.reset with rs := { State.reset.rs with phase := 2, sides := [3, 3] } } : State)), (1), ({}), by decide +kernel⟩

theorem test_witness_suppliesClocksResetsAndStartup_5 : ∃ (s : State) (side : Nat) (r : BootRes), s.rs.pfStop = false ∧ (side = 0 ∨ side = 1 ∧ s.twin = true) ∧ s.rs.sides.getD side 4 = 4 ∧ side = s.rd.holder ∧ s.rs.phase = 4 :=
  ⟨(({ State.reset with rs := { State.reset.rs with phase := 4, sides := [4, 3] }, rd := { State.reset.rd with holder := 0 } } : State)), (0), ({}), by decide +kernel⟩

theorem test_witness_suppliesClocksResetsAndStartup_6 : ∃ (s : State) (side : Nat) (r : BootRes), s.rs.pfStop = false ∧ (side = 0 ∨ side = 1 ∧ s.twin = true) ∧ s.rs.sides.getD side 4 = 4 ∧ side = s.rd.holder ∧ s.rs.phase = 6 :=
  ⟨(({ State.reset with rs := { State.reset.rs with phase := 6, sides := [4, 3] }, rd := { State.reset.rd with holder := 0 } } : State)), (0), ({}), by decide +kernel⟩

theorem test_witness_suppliesClocksResetsAndStartup_7 : ∃ (s : State), s.twin = true ∧ (s.rs.phase = 2 ∨ s.rs.phase = 3) ∧ s.rs.released + sec 5 ≤ s.now ∧ s.rs.sides.getD (1 - s.rd.holder) 0 = 4 ∧ s.rs.sides.getD s.rd.holder 0 ≠ 4 :=
  ⟨(wAt ({ State.reset with rs := { State.reset.rs with phase := 2, released := 0, sides := [2, 4] }, rd := { State.reset.rd with holder := 0 } } : State) (sec 5)), by decide +kernel⟩

theorem test_witness_suppliesClocksResetsAndStartup_8 : ∃ (s : State), 5 ≤ s.rs.phase ∧ s.pw.state ≤ 2 ∧ s.rd.hbAt + ms 50 ≤ s.now :=
  ⟨(wAt ({ State.reset with rs := { State.reset.rs with phase := 7 } } : State) (ms 50)), by decide +kernel⟩

theorem test_witness_suppliesClocksResetsAndStartup_9 : ∃ (s : State), s.pw.state ≠ 4 ∧ s.rs.rstn = true ∧ s.rs.phase ≠ 1 :=
  ⟨(({ State.reset with rs := { State.reset.rs with phase := 7, rstn := true } } : State)), by decide +kernel⟩

theorem test_witness_suppliesClocksResetsAndStartup_10 : ∃ (s : State), s.pw.state ≠ 4 ∧ s.rs.rstn = false :=
  ⟨(({ State.reset with rs := { State.reset.rs with rstn := false } } : State)), by decide +kernel⟩

theorem test_witness_suppliesClocksResetsAndStartup_11 : ∃ (s : State) (mv : Int), s.pw.state ≠ 4 ∧ s.rs.vio18 = true ∧ s.rs.phase ≠ 1 :=
  ⟨(({ State.reset with rs := { State.reset.rs with phase := 7, vio18 := true } } : State)), (1600), by decide +kernel⟩

theorem test_witness_suppliesClocksResetsAndStartup_12 : ∃ (s : State) (mv : Int), s.pw.state ≠ 4 ∧ s.rs.vaon = true :=
  ⟨(({ State.reset with rs := { State.reset.rs with vaon := true } } : State)), (0), by decide +kernel⟩

theorem test_witness_suppliesClocksResetsAndStartup_13 : ∃ (s : State), s.rs.vaon = false :=
  ⟨(({ State.reset with rs := { State.reset.rs with vaon := false } } : State)), by decide +kernel⟩

theorem test_witness_suppliesClocksResetsAndStartup_14 : ∃ (s : State), s.rs.phase ≠ 1 ∧ s.pw.state < 3 ∧ s.saves = false ∧ s.rs.cXin < 65535 :=
  ⟨(({ State.reset with rs := { State.reset.rs with phase := 3 } } : State)), by decide +kernel⟩

theorem test_witness_suppliesClocksResetsAndStartup_15 : ∃ (s : State) (k : Nat), 2 ≤ k ∧ k ≤ 5 :=
  ⟨(State.reset), (5), by decide +kernel⟩

theorem test_witness_suppliesClocksResetsAndStartup_16 : ∃ (s : State), s.clock.rtcOk = true :=
  ⟨(({ State.reset with clock := { State.reset.clock with rtcOk := true } } : State)), by decide +kernel⟩

theorem test_witness_suppliesClocksResetsAndStartup_17 : ∃ (s : State), s.clock.rtcOk = false :=
  ⟨(({ State.reset with clock := { State.reset.clock with rtcOk := false } } : State)), by decide +kernel⟩

theorem test_witness_suppliesClocksResetsAndStartup_18 : ∃ (s : State) (v : Int), 1350 < v ∧ v < 32768 ∧ s.rs.hot = false :=
  ⟨(State.reset), (1351), by decide +kernel⟩

theorem test_witness_suppliesClocksResetsAndStartup_19 : ∃ (s : State) (v : Int), -32768 ≤ v ∧ v < 1250 ∧ s.rs.hot = true :=
  ⟨(({ State.reset with rs := { State.reset.rs with hot := true } } : State)), (1249), by decide +kernel⟩

theorem test_witness_suppliesClocksResetsAndStartup_20 : ∃ (s : State) (v : Int), 1250 ≤ v ∧ v ≤ 1350 :=
  ⟨(State.reset), (1350), by decide +kernel⟩

theorem test_witness_suppliesClocksResetsAndStartup_21 : ∃ (s : State) (tk : Nat) (t : Ticket), s.ticket tk 0x0F40 = some t ∧ t.arg.length = 1 ∧ (t.u 0 1 = 1 ∨ t.u 0 1 = 0 ∧ s.lanesRest = true) ∧ s.saves = false :=
  ⟨(wReq (State.reset) 0x0F40 [1] .admin), (1), (wTk 0x0F40 [1] .admin), by decide +kernel⟩

theorem test_witness_suppliesClocksResetsAndStartup_22 : ∃ (s : State) (tk : Nat) (t : Ticket), s.ticket tk 0x0F41 = some t :=
  ⟨(wReq (State.reset) 0x0F41 [] .reader), (1), (wTk 0x0F41 [] .reader), by decide +kernel⟩

theorem test_witness_commandsLeaveTheOtherPartsUnchanged_1 : ∃ u, exec (.bindLockoutEnd default) State.reset = .next u := ⟨_, rfl⟩

theorem test_witness_commandsLeaveTheOtherPartsUnchanged_2 : ∃ u, exec .timeReplicaRealign State.reset = .next u := ⟨_, rfl⟩

theorem test_witness_commandsLeaveTheOtherPartsUnchanged_3 : ∃ u, exec (.laneClear default) State.reset = .next u := ⟨_, rfl⟩

theorem test_witness_commandsLeaveTheOtherPartsUnchanged_4 : ∃ u, exec (.pilotStateChange default default default) State.reset = .next u := ⟨_, rfl⟩

theorem test_witness_commandsLeaveTheOtherPartsUnchanged_5 : ∃ u, exec (.soundingEnd default) State.reset = .next u := ⟨_, rfl⟩

theorem test_witness_commandsLeaveTheOtherPartsUnchanged_6 : ∃ u, exec (.canBusOffRecovery default) State.reset = .next u := ⟨_, rfl⟩

theorem test_witness_commandsLeaveTheOtherPartsUnchanged_7 : ∃ u, exec (.releaseHoldEnd default default) State.reset = .next u := ⟨_, rfl⟩

theorem test_witness_commandsLeaveTheOtherPartsUnchanged_8 : ∃ u, exec (.currentSenseTest default) State.reset = .next u := ⟨_, rfl⟩

theorem test_witness_commandsLeaveTheOtherPartsUnchanged_9 : ∃ u, exec (.clipTimeout default) State.reset = .next u := ⟨_, rfl⟩

theorem test_witness_commandsLeaveTheOtherPartsUnchanged_10 : ∃ u, exec .accumulatorMirror State.reset = .next u := ⟨_, rfl⟩

theorem test_witness_commandsLeaveTheOtherPartsUnchanged_11 : ∃ u, exec (.suspectClearHold default default) State.reset = .next u := ⟨_, rfl⟩

theorem test_witness_commandsLeaveTheOtherPartsUnchanged_12 : ∃ u, exec (.blankingEnd default) State.reset = .next u := ⟨_, rfl⟩

theorem test_witness_commandsLeaveTheOtherPartsUnchanged_13 : ∃ u, exec (.heartbeat default default) State.reset = .next u := ⟨_, rfl⟩

theorem test_witness_commandsLeaveTheOtherPartsUnchanged_14 : ∃ u, exec .demandClose State.reset = .next u := ⟨_, rfl⟩

theorem test_witness_commandsLeaveTheOtherPartsUnchanged_15 : ∃ u, exec .accountDebit State.reset = .next u := ⟨_, rfl⟩

theorem test_witness_commandsLeaveTheOtherPartsUnchanged_16 : ∃ u, exec (.hdlcSnrm default) State.reset = .next u := ⟨_, rfl⟩

theorem test_witness_commandsLeaveTheOtherPartsUnchanged_17 : ∃ u, exec (.kvNodeCreate default) State.reset = .next u := ⟨_, rfl⟩

theorem test_witness_commandsLeaveTheOtherPartsUnchanged_18 : ∃ u, exec (.kvCsr default) State.reset = .next u := ⟨_, rfl⟩

theorem test_witness_commandsLeaveTheOtherPartsUnchanged_19 : ∃ u, exec (.ack default) State.reset = .next u := ⟨_, rfl⟩

theorem test_witness_commandsLeaveTheOtherPartsUnchanged_20 : ∃ u, exec .carrierOffEnd State.reset = .next u := ⟨_, rfl⟩

theorem test_witness_commandsLeaveTheOtherPartsUnchanged_21 : ∃ u, exec .railOffDelay State.reset = .next u := ⟨_, rfl⟩

theorem test_witness_commandsLeaveTheOtherPartsUnchanged_22 : ∃ u, exec .automaticPark State.reset = .next u := ⟨_, rfl⟩

theorem test_witness_commandsLeaveTheOtherPartsUnchanged_23 : ∃ u, exec (.upOpen default) State.reset = .next u := ⟨_, rfl⟩

theorem test_witness_commandsLeaveTheOtherPartsUnchanged_24 : ∃ u, exec (.mmCountClear default) State.reset = .next u := ⟨_, rfl⟩

theorem test_witness_commandsLeaveTheOtherPartsUnchanged_25 : ∃ u, exec (.linkFault default) State.reset = .next u := ⟨_, rfl⟩

end Sys2Proof.Tests
end Slice0Tests
end

section
/-! PROOFS. Admission.lean: which waiting event goes first at the sequencer, and what its admission does to the sequencer (R20-R22, R75). SOURCE carries the
class in its top bits, so the order by class and then by SOURCE is the order of the SOURCE values. -/
namespace Sys2Proof.Machine

/-! ### The class in SOURCE -/

theorem EvClass.code_le_five (c : EvClass) : c.code ≤ 5 := by cases c <;> decide

theorem Ev.source_div (e : Ev) : e.source / 8192 = e.cls.code := by simp only [Ev.source]; omega

theorem Ev.source_lt (e : Ev) : e.source < 65536 := by
  have hcode := e.cls.code_le_five
  simp only [Ev.source]; omega

/-- R21: the lower class goes first, and within one class the lower SOURCE, exactly where the SOURCE is lower. -/
theorem Ev.before_iff (e f : Ev) : e.before f = true ↔ e.source < f.source := by
  have he := e.source_div
  have hf := f.source_div
  simp only [Ev.before, Bool.or_eq_true, Bool.and_eq_true, decide_eq_true_eq, beq_iff_eq]
  omega

theorem Ev.class_then_source_of_source_le {e f : Ev} (h : e.source ≤ f.source) :
    e.cls.code < f.cls.code ∨ (e.cls.code = f.cls.code ∧ e.source ≤ f.source) := by
  have hcode : e.cls.code ≤ f.cls.code := by
    rw [← e.source_div, ← f.source_div]; exact Nat.div_le_div_right h
  rcases Nat.lt_or_eq_of_le hcode with hlt | heq
  · exact .inl hlt
  · exact .inr ⟨heq, h⟩

/-! ### The event that goes first -/

theorem firstWaiting_eq_none_iff {l : List Ev} : firstWaiting l = none ↔ l = [] := by
  cases l with
  | nil => simp [firstWaiting]
  | cons e l =>
    simp only [firstWaiting]
    split
    · simp
    · split <;> simp

/-- The first of a longer list is the earlier arrival, or the first of the rest where that has the lower SOURCE. -/
theorem firstWaiting_cons {e g : Ev} {l : List Ev} (h : firstWaiting (e :: l) = some g) :
    (l = [] ∧ g = e) ∨ ∃ f, firstWaiting l = some f ∧ ((f.source < e.source ∧ g = f) ∨ (e.source ≤ f.source ∧ g = e)) := by
  simp only [firstWaiting] at h
  split at h
  case h_1 hnone => exact .inl ⟨firstWaiting_eq_none_iff.1 hnone, by simpa using h.symm⟩
  case h_2 f hf =>
    refine .inr ⟨f, hf, ?_⟩
    split at h
    case isTrue hb => exact .inl ⟨(f.before_iff e).1 hb, by simpa using h.symm⟩
    case isFalse hb => exact .inr ⟨Nat.le_of_not_lt fun hlt => hb ((f.before_iff e).2 hlt), by simpa using h.symm⟩

theorem firstWaiting_mem {l : List Ev} {g : Ev} (h : firstWaiting l = some g) : g ∈ l := by
  induction l generalizing g with
  | nil => simp [firstWaiting] at h
  | cons e l ih =>
    obtain ⟨-, rfl⟩ | ⟨f, hf, ⟨-, rfl⟩ | ⟨-, rfl⟩⟩ := firstWaiting_cons h
    · exact List.mem_cons_self
    · exact List.mem_cons_of_mem _ (ih hf)
    · exact List.mem_cons_self

theorem firstWaiting_source_le {l : List Ev} {g : Ev} (h : firstWaiting l = some g) : ∀ x ∈ l, g.source ≤ x.source := by
  induction l generalizing g with
  | nil => simp
  | cons e l ih =>
    obtain ⟨rfl, rfl⟩ | ⟨f, hf, ⟨hlt, rfl⟩ | ⟨hle, rfl⟩⟩ := firstWaiting_cons h
    · simp
    · exact List.forall_mem_cons.2 ⟨Nat.le_of_lt hlt, ih hf⟩
    · exact List.forall_mem_cons.2 ⟨Nat.le_refl _, fun x hx => Nat.le_trans hle (ih hf x hx)⟩

theorem firstWaiting_isSome {l : List Ev} (h : l ≠ []) : (firstWaiting l).isSome = true :=
  Option.isSome_iff_ne_none.2 (mt firstWaiting_eq_none_iff.1 h)

/-! ### Its admission -/

theorem Seqr.number_journal (q : Seqr) (e : Ev) :
    (q.number e).journal = { seq := q.seqLast + 1, ev := e } :: q.journal.take (journalDepth - 1) := by
  simp only [Seqr.number, journalDepth, List.take_succ_cons]

/-- With no drop to report the event that goes first is taken out of the waiting ones and numbered. -/
theorem Seqr.admitNext_of_no_drops {q : Seqr} {e : Ev} (side time : Nat) (he : firstWaiting q.waiting = some e) (hd : q.drops = []) :
    q.admitNext side time = Seqr.number { q with waiting := q.waiting.erase e } e := by
  simp only [Seqr.admitNext, he, hd]

/-- From RESET on (R521) the command asks for the admission, and what stores the SEQ of an event takes that of the admitted one. -/
theorem execEventAdmit_of_no_drops {s : State} {e : Ev} (hp : 5 ≤ s.rs.phase) (he : firstWaiting s.seqr.waiting = some e)
    (hd : s.seqr.drops = []) :
    execEventAdmit s = fin s ((s.numbered { seq := s.seqr.seqLast + 1, ev := e }).ask .admitNext) := by
  simp only [execEventAdmit, Nat.not_lt.2 hp, if_false, Seqr.admitNext_of_no_drops _ _ he hd, Seqr.number_seqLast,
    Seqr.number_journal, Nat.lt_succ_self, if_true]

/-! ### SOURCE in the record -/

/-- R75: SEQ and TIME fill the first 16 bytes of a record, SOURCE the next two. -/
theorem EvRec.sub_bytes_source (r : EvRec) (replayed gap : Bool) : sub (r.bytes replayed gap) 16 2 = leBytes 2 r.ev.source := by
  have hlen : (leBytes 8 r.seq ++ leBytes 8 r.ev.time).length = 16 := by simp
  simp only [EvRec.bytes, List.append_assoc]
  rw [← List.append_assoc, sub_append_right _ _ 16 2 hlen, List.take_left' (leBytes_length 2 _)]

/-! ### The statement -/

/-- Settles O5: SOURCE carries the class, so the least SOURCE, which the recursion of `firstWaiting` picks, is the first by class and then by SOURCE. -/
theorem admissionGoesByClassThenSource : Obligations.AdmissionGoesByClassThenSource := by
  unfold Obligations.AdmissionGoesByClassThenSource
  refine ⟨fun l e h => ⟨firstWaiting_mem h, fun f hf => ?_⟩, fun _ => firstWaiting_isSome, fun s e hp he hd => ?_,
    fun q e side time he hd => ?_, fun e => ⟨e.source_div, e.source_lt⟩, EvRec.sub_bytes_source, rfl⟩
  · exact Ev.class_then_source_of_source_le (firstWaiting_source_le h f hf)
  · exact execEventAdmit_of_no_drops hp he hd
  · rw [Seqr.take, Seqr.admitNext_of_no_drops side time he hd]
    exact ⟨Seqr.number_seqLast _ _, rfl, by rw [Seqr.number_journal, List.head?_cons]⟩

end Sys2Proof.Machine
end

section
/-! PROOFS. HostFrame.lean: the operations of the lane state machine leave the host ports and their sessions alone. So does what a bind does besides
the port it binds: a pilot change acted on late (R50), the end of the host-loss policies (R68). -/
namespace Sys2Proof.Machine

theorem foldl_host {α : Type} (f : State → α → State) (h : ∀ s a, (f s a).host = s.host) (l : List α) (s : State) :
    (l.foldl f s).host = s.host :=
  foldl_keeps (fun t => t.host = s.host) f l s rfl fun t ht a _ => (h t a).trans ht

/-! ### Pilot, outputs and lock -/

@[simp] theorem State.setCp_host (s : State) (n : Nat) (m : CpMode) (d : Nat) : (s.setCp n m d).host = s.host := rfl
@[simp] theorem State.cpS12_host (s : State) (n : Nat) : (s.cpS12 n).host = s.host := rfl
@[simp] theorem State.cpS5_host (s : State) (n : Nat) : (s.cpS5 n).host = s.host := rfl
@[simp] theorem State.cpF_host (s : State) (n : Nat) : (s.cpF n).host = s.host := rfl
@[simp] theorem State.cpV0_host (s : State) (n : Nat) : (s.cpV0 n).host = s.host := rfl
@[simp] theorem State.cpPwm_host (s : State) (n : Nat) : (s.cpPwm n).host = s.host := rfl
@[simp] theorem State.cpHold_host (s : State) (n : Nat) : (s.cpHold n).host = s.host := by
  simp [State.cpHold, apply_ite State.host]
@[simp] theorem State.cpOffer_host (s : State) (n : Nat) (g : Bool) : (s.cpOffer n g).host = s.host := by
  simp [State.cpOffer, apply_ite State.host]
@[simp] theorem State.drive_host (s : State) (k : Nat) : (s.drive k).host = s.host := by
  simp [State.drive, apply_ite State.host]
@[simp] theorem State.proofCycle_host (s : State) (k : Nat) (a b : Bool) : (s.proofCycle k a b).host = s.host := by
  simp [State.proofCycle]
@[simp] theorem State.deferredProof_host (s : State) (k : Nat) : (s.deferredProof k).host = s.host := by
  simp [State.deferredProof, apply_ite State.host]
@[simp] theorem State.command_host (s : State) (k : Nat) (b : Bool) : (s.command k b).host = s.host := by
  simp [State.command, apply_ite State.host]
@[simp] theorem State.disturb_host (s : State) (n : Nat) : (s.disturb n).host = s.host := rfl
@[simp] theorem State.noteOpen_host (s : State) (n : Nat) : (s.noteOpen n).host = s.host := by
  simp [State.noteOpen, apply_ite State.host]
@[simp] theorem State.zeroFluxgate_host (s : State) (n : Nat) : (s.zeroFluxgate n).host = s.host := by
  simp [State.zeroFluxgate, apply_ite State.host]
@[simp] theorem State.contact_host (s : State) (n f : Nat) (c : Bool) : (s.contact n f c).host = s.host := by
  simp only [State.contact]
  split
  · rfl
  · simp only [State.noteOpen_host, State.disturb_host]
    repeat' split
    all_goals simp
@[simp] theorem State.ownedOff_host (s : State) (n : Nat) (b : Bool) : (s.ownedOff n b).host = s.host :=
  foldl_host _ (fun s o => by simp [apply_ite State.host]) _ s
@[simp] theorem State.lockPulse_host (s : State) (n a k : Nat) : (s.lockPulse n a k).host = s.host := by
  simp only [State.lockPulse]
  split <;> simp
@[simp] theorem State.unlockDue_host (s : State) (n : Nat) : (s.unlockDue n).host = s.host := by
  simp [State.unlockDue, apply_ite State.host]
@[simp] theorem State.tryUnlock_host (s : State) (n : Nat) : (s.tryUnlock n).host = s.host := by
  simp only [State.tryUnlock]
  repeat' split
  all_goals simp
@[simp] theorem State.lockForPlug_host (s : State) (n : Nat) : (s.lockForPlug n).host = s.host := by
  simp [State.lockForPlug, apply_ite State.host]

/-! ### Sessions of a lane -/

@[simp] theorem State.evAt_host (s : State) (c : EvClass) (n k : Nat) (d : Bytes) (g : Nat) : (s.evAt c n k d g).host = s.host := by
  simp [State.evAt, apply_ite State.host]
@[simp] theorem State.putCell_host (s : State) (c : Nat) (v : Cell) : (s.putCell c v).host = s.host := rfl
@[simp] theorem State.writeCell_host (s : State) (c : Nat) (v : Cell) (n : Nat) : (s.writeCell c v n).host = s.host := by
  simp [State.writeCell, apply_ite State.host]
@[simp] theorem State.debit_host (s : State) (n : Nat) (c : Charge) (d : Int) (f : Cell → Cell) : (s.debit n c d f).1.host = s.host := by
  simp [State.debit]
@[simp] theorem State.startReadings_host (s : State) (n : Nat) : (s.startReadings n).host = s.host := by
  simp only [State.startReadings]
  split <;> simp
@[simp] theorem State.closeRecord_host (s : State) (n : Nat) (a b : Bool) (c l t : Nat) : (s.closeRecord n a b c l t).host = s.host := by
  simp only [State.closeRecord]
  split
  · rfl
  · simp only [State.onEn_host]
    split
    · rfl
    · simp
@[simp] theorem State.openSession_host (s : State) (n : Nat) : (s.openSession n).host = s.host := by
  simp [State.openSession]
@[simp] theorem State.endSession_host (s : State) (n : Nat) : (s.endSession n).host = s.host := by
  simp [State.endSession]

/-! ### Entry to a state -/

@[simp] theorem State.holdGuard_host (s : State) (n : Nat) : (s.holdGuard n).host = s.host := by
  simp [State.holdGuard, apply_ite State.host]
@[simp] theorem State.startRamp_host (s : State) (n : Nat) : (s.startRamp n).host = s.host := rfl
@[simp] theorem State.enterOffline_host (s : State) (n : Nat) : (s.enterOffline n).host = s.host := by
  simp [State.enterOffline, apply_ite State.host]
@[simp] theorem State.enterIdle_host (s : State) (n : Nat) : (s.enterIdle n).host = s.host := by
  simp [State.enterIdle, apply_ite State.host]
@[simp] theorem State.enterPlugged_host (s : State) (n : Nat) : (s.enterPlugged n).host = s.host := by
  simp only [State.enterPlugged, State.cpHold_host, State.lockForPlug_host, State.onPp_host, State.startTimer_host]
  split
  · rw [foldl_host _ fun t m => by simp [apply_ite State.host]]
    simp
  · simp
@[simp] theorem State.enterNegotiate_host (s : State) (n : Nat) : (s.enterNegotiate n).host = s.host := by
  simp [State.enterNegotiate, apply_ite State.host]
@[simp] theorem State.enterIsolation_host (s : State) (n : Nat) : (s.enterIsolation n).host = s.host := by
  simp [State.enterIsolation]
@[simp] theorem State.enterPrecharge_host (s : State) (n : Nat) : (s.enterPrecharge n).host = s.host := rfl
@[simp] theorem State.enterEnergy_host (s : State) (n : Nat) : (s.enterEnergy n).host = s.host := by
  simp [State.enterEnergy, apply_ite State.host]
@[simp] theorem State.enterRampDown_host (s : State) (n : Nat) : (s.enterRampDown n).host = s.host := by
  simp only [State.enterRampDown]
  repeat' split
  all_goals simp
@[simp] theorem State.enterOpenCheck_host (s : State) (n : Nat) : (s.enterOpenCheck n).host = s.host := by
  simp only [State.enterOpenCheck]
  repeat' split
  all_goals simp
@[simp] theorem State.enterUnlock_host (s : State) (n : Nat) : (s.enterUnlock n).host = s.host := by
  simp [State.enterUnlock, apply_ite State.host]
@[simp] theorem State.enterFault_host (s : State) (n : Nat) : (s.enterFault n).host = s.host := by
  simp [State.enterFault, apply_ite State.host]
@[simp] theorem State.enterDegraded_host (s : State) (n : Nat) : (s.enterDegraded n).host = s.host := by
  simp [State.enterDegraded, apply_ite State.host]
@[simp] theorem State.enterSuspended_host (s : State) (n : Nat) : (s.enterSuspended n).host = s.host := by
  simp only [State.enterSuspended]
  repeat' split
  all_goals simp
@[simp] theorem State.entryActions_host (s : State) (n : Nat) (st : LState) : (s.entryActions n st).host = s.host := by
  cases st <;> simp [State.entryActions]
@[simp] theorem State.enter_host (s : State) (n : Nat) (st : LState) (c : Cause) (cls : EvClass) : (s.enter n st c cls).host = s.host := by
  simp only [State.enter]
  repeat' split
  all_goals simp

/-! ### Authorisation and the transitions that follow -/

@[simp] theorem State.evAuth_host (s : State) (n r b c : Nat) : (s.evAuth n r b c).host = s.host := rfl
@[simp] theorem State.authAccept_host (s : State) (n b c : Nat) (cls : EvClass) : (s.authAccept n b c cls).host = s.host := by
  simp only [State.authAccept]
  repeat' split
  all_goals simp
@[simp] theorem State.authRefuse_host (s : State) (n r b c : Nat) (cls : EvClass) : (s.authRefuse n r b c cls).host = s.host := by
  simp [State.authRefuse, apply_ite State.host]
@[simp] theorem State.askHost_host (s : State) (n : Nat) (cls : EvClass) : (s.askHost n cls).host = s.host := by
  simp [State.askHost, apply_ite State.host]
@[simp] theorem State.authDecide_host (s : State) (n : Nat) (cls : EvClass) : (s.authDecide n cls).host = s.host := by
  simp only [State.authDecide]
  split
  · rfl
  · simp [apply_ite State.host]
@[simp] theorem State.takeCred_host (s : State) (n : Nat) (c : Cred) (b : Bool) (cls : EvClass) : (s.takeCred n c b cls).host = s.host := by
  simp [State.takeCred]
@[simp] theorem State.resume_host (s : State) (n : Nat) (cls : EvClass) : (s.resume n cls).host = s.host := by
  simp [State.resume, apply_ite State.host]
@[simp] theorem State.advance1_host (s : State) (n : Nat) (cls : EvClass) : (s.advance1 n cls).host = s.host := by
  simp only [State.advance1]
  repeat' split
  all_goals simp
@[simp] theorem State.advanceN_host (s : State) (n : Nat) (cls : EvClass) (k : Nat) : (s.advanceN n cls k).host = s.host := by
  induction k generalizing s with
  | zero => rfl
  | succ k ih => simp [State.advanceN, apply_ite State.host, ih]
@[simp] theorem State.advance_host (s : State) (n : Nat) (cls : EvClass) : (s.advance n cls).host = s.host := s.advanceN_host n cls 8
@[simp] theorem State.go_host (s : State) (n : Nat) (st : LState) (c : Cause) (cls : EvClass) : (s.go n st c cls).host = s.host := by
  simp [State.go]

/-! ### Triggers -/

@[simp] theorem State.stopLane_host (s : State) (n : Nat) (c : Cause) (cls : EvClass) (b : Bool) : (s.stopLane n c cls b).host = s.host := by
  simp only [State.stopLane]
  split <;> simp [apply_ite State.host]
@[simp] theorem State.suspend_host (s : State) (n : Nat) (r : Susp) (cls : EvClass) : (s.suspend n r cls).host = s.host := by
  simp only [State.suspend]
  split <;> simp [apply_ite State.host]
@[simp] theorem State.unsuspend_host (s : State) (n : Nat) (r : Susp) (cls : EvClass) : (s.unsuspend n r cls).host = s.host := by
  simp only [State.unsuspend]
  repeat' split
  all_goals simp
@[simp] theorem State.openSuspended_host (s : State) (n : Nat) : (s.openSuspended n).host = s.host := by
  simp only [State.openSuspended]
  repeat' split
  all_goals simp
@[simp] theorem State.countA_host (s : State) (n : Nat) (p : Pilot) (t : Nat) : (s.countA n p t).host = s.host := by
  simp only [State.countA]
  repeat' split
  all_goals simp
@[simp] theorem State.pilotReact_host (s : State) (n : Nat) (old p : Pilot) (t : Nat) : (s.pilotReact n old p t).host = s.host := by
  simp only [State.pilotReact]
  split <;> simp [apply_ite State.host]
/-- R50: a pilot change put off until no lane is pending acts on its lane alone. -/
@[simp] theorem State.unpend_host (s : State) : s.unpend.host = s.host := by
  refine foldl_host _ (fun t n => ?_) _ _
  split <;> simp
/-- R67: what waits for the tickets of an ended session is dropped outside the host ports. -/
@[simp] theorem State.dropWaits_host (s : State) (ids : List Nat) : (s.dropWaits ids).host = s.host := by
  simp only [State.dropWaits]
  rw [apply_ite State.host, State.unpend_host, ite_self]
/-- R68: the end of the host-loss policies changes nothing of the host but their mark. -/
@[simp] theorem State.hostLossEnd_host (s : State) : s.hostLossEnd.host = { s.host with hostloss := false } := by
  refine foldl_host _ (fun t n => ?_) _ _
  simp [apply_ite State.host]

end Sys2Proof.Machine
end

section
/-! PROOFS. Tickets.lean: the ticket a request gets and what its acceptance does to the session (R70, R72), and what a bind gives the session it opens
(R63). A request its role and port may send passes the checks of R70 in their order; the first that fails answers it, and the state stays. -/
namespace Sys2Proof.Machine

/-! ### The session of a port -/

theorem State.port_of_host {s t : State} (p : Nat) (h : t.host = s.host) : t.port p = s.port p := by
  simp only [State.port, h]

theorem State.sess_of_host {s t : State} (p : Nat) (h : t.host = s.host) : t.sess p = s.sess p := by
  simp only [State.sess, State.port, h]

/-- A port beyond those of the module has no session. -/
theorem State.port_lt_of_session {s : State} {p : Nat} {c : Session} (h : (s.port p).session = some c) : p < s.host.ports.length := by
  by_contra hp
  rw [State.port, List.getD_eq_default _ _ (Nat.le_of_not_lt hp)] at h
  exact absurd h (by simp)

theorem State.sess_onSess {s : State} {p : Nat} {c : Session} (f : Session → Session) (hp : p ≤ 3) (h : s.sess p = some c) :
    (s.onSess p f).sess p = some (f c) := by
  simp only [State.sess] at h
  split at h
  next hlt =>
    rw [State.onSess, if_pos hlt, State.sess, if_pos hlt, State.port_onPort _ _ (State.port_lt_of_session h), h, Option.map_some]
  next hge =>
    have h3 : p = 3 := by omega
    subst h3
    simp only [if_true] at h
    simp [State.onSess, State.sess, h]

/-- What neither an update of a port nor of its session touches stays. -/
theorem State.onPort_keeps {α : Type} (g : Port → α) (s : State) (p q : Nat) (f : Port → Port) (h : ∀ x, g (f x) = g x) :
    g ((s.onPort p f).port q) = g (s.port q) := by
  by_cases e : p = q
  · subst e
    by_cases hp : p < s.host.ports.length
    · rw [State.port_onPort s f hp, h]
    · have hp := Nat.le_of_not_lt hp
      rw [State.port, State.port, List.getD_eq_default _ _ (by rwa [State.onPort_length]), List.getD_eq_default _ _ hp]
  · rw [State.port_onPort_ne s f e]

theorem State.onSess_keeps {α : Type} (g : Port → α) (s : State) (p q : Nat) (f : Session → Session)
    (h : ∀ x, g { x with session := x.session.map f } = g x) : g ((s.onSess p f).port q) = g (s.port q) := by
  rw [State.onSess]
  split
  · exact s.onPort_keeps g p q _ h
  · rfl

/-! ### The ticket (R72) -/

/-- Bits 31:28 are the port, bits 27:0 the serial. -/
theorem ticket_eq (p : Nat) {k : Nat} (h : k < 2 ^ 28) : p <<< 28 ||| k = p * 2 ^ 28 + k := by
  rw [← Nat.shiftLeft_add_eq_or_of_lt h, Nat.shiftLeft_eq]

/-- R72: the serial after an accepted request. -/
def nextSerial (k : Nat) : Nat := if k = 0x0FFFFFFF then 1 else k + 1

theorem nextSerial_range {k : Nat} (h : k ≤ 0x0FFFFFFF) : 1 ≤ nextSerial k ∧ nextSerial k ≤ 0x0FFFFFFF := by
  simp only [nextSerial]
  split <;> omega

/-- R72, R78: the acceptance of a request: the ticket is outstanding in the session, and REQ_ACCEPTED reports it. -/
def State.giveTicket (s : State) (p op tag : Nat) (arg : Bytes) (c : Session) : State × Nat × Nat :=
  let tk := p <<< 28 ||| c.serial
  let t : Ticket := { id := tk, opcode := op, tag := tag, role := c.role, acceptTime := s.now, arg := arg, seqAt := s.seqr.seqLast }
  let s := s.onSess p fun c => { c with serial := nextSerial c.serial, outstanding := c.outstanding ++ [t] }
  (s.evMod .host s.rd.active p 0x7010 (leBytes 4 tk ++ leBytes 2 op ++ leBytes 4 tag), St.accepted, tk)

/-- R70: a request its role and port may send is answered by the first check that fails: the variant, the ticket limit, the BUSY conditions. -/
theorem State.acceptReq_of_may {s : State} {p op : Nat} {c : Session} {roles : List Role} (tag : Nat) (arg : Bytes) (hs : s.sess p = some c)
    (ho : rolesOf op = some roles) (hr : c.role ∈ roles) (h2 : ¬ (p = 2 ∧ hp2Bars op)) (h3 : ¬ (p = 3 ∧ monitorBars op)) :
    s.acceptReq p op tag arg =
      if s.variantLacks op arg then (s, St.notSupported, 0)
      else if 256 ≤ c.outstanding.length then (s, St.noResource, 0)
      else if s.busyAt op arg then (s, St.busy, 0)
      else s.giveTicket p op tag arg c := by
  have hmay : (!roles.contains c.role || (p == 2 && hp2Bars op) || (p == 3 && monitorBars op)) = false := by
    simpa [hr] using And.intro h2 h3
  simp only [State.acceptReq, hs, ho, hmay, Bool.false_eq_true, if_false]
  rfl

theorem State.giveTicket_sess {s : State} {p : Nat} {c : Session} (op tag : Nat) (arg : Bytes) (hp : p ≤ 3) (hs : s.sess p = some c) :
    ∃ d, (s.giveTicket p op tag arg c).1.sess p = some d ∧ d.outstanding.length = c.outstanding.length + 1 ∧ d.serial = nextSerial c.serial := by
  refine ⟨_, (State.sess_of_host p (State.evMod_host ..)).trans (State.sess_onSess _ hp hs), ?_, rfl⟩
  rw [List.length_append, List.length_singleton]

/-! ### BOUND and the session it opens (R63) -/

/-- R63: SERIAL_START stands at offset 8 of BOUND. -/
theorem State.leNat_boundBody_serial (s : State) (status role sid : Nat) {k : Nat} (h : k < 2 ^ 32) :
    leNat (sub (s.boundBody status role sid k) 8 4) = k := by
  have hlen : (leBytes 2 status ++ leBytes 1 role ++ leBytes 1 0 ++ leBytes 4 sid).length = 8 := by simp
  rw [State.boundBody, List.append_assoc, List.append_assoc, sub_append_right _ _ 8 4 hlen, List.take_left' (leBytes_length 4 k), leNat_leBytes]
  exact Nat.mod_eq_of_lt h

theorem State.sendFrame_serial (s : State) (p q typ : Nat) (b : Bytes) :
    ((s.sendFrame p typ b).port q).session.map (·.serial) = (s.port q).session.map (·.serial) := by
  rw [State.sendFrame]
  split
  · refine (State.onSess_keeps (fun x => x.session.map (·.serial)) _ p q _ fun x => ?_).trans
      (State.onPort_keeps (fun x => x.session.map (·.serial)) s p q _ fun _ => ?_)
    · cases x.session <;> rfl
    · rfl
  · rfl

theorem State.sendFrame_bind (s : State) (p q typ : Nat) (b : Bytes) : ((s.sendFrame p typ b).port q).bind = (s.port q).bind := by
  rw [State.sendFrame]
  split
  · exact (State.onSess_keeps Port.bind _ p q _ fun _ => rfl).trans (State.onPort_keeps Port.bind s p q _ fun _ => rfl)
  · rfl

theorem State.sendFrame_outbox {s : State} {p : Nat} {c : Session} (typ : Nat) (b : Bytes) (h : (s.port p).session = some c) :
    ((s.sendFrame p typ b).port p).outbox =
      (s.port p).outbox ++ [{ typ := typ, session := c.sid, counter := c.txCtr + 1, payload := b }] := by
  simp only [State.sendFrame, h]
  rw [State.onSess_keeps Port.outbox _ p p _ fun _ => rfl, State.port_onPort _ _ (State.port_lt_of_session h)]

/-- R63: what waits for the tickets of the session a bind replaces is dropped. -/
def State.replaced (s : State) (p : Nat) : State :=
  match (s.port p).session with
  | some c => s.dropWaits (c.outstanding.map fun (x : Ticket) => x.id)
  | none => s

@[simp] theorem State.replaced_host (s : State) (p : Nat) : (s.replaced p).host = s.host := by
  rw [State.replaced]
  split
  · exact State.dropWaits_host ..
  · rfl

/-- R63, R76: the session a bind opens; its serial is the default of a session, 1 (R72). -/
def State.newSession (s : State) (b : Bind) : Session :=
  let next := if b.resume = 0 then s.seqAsked + 1 else b.resume + 1
  { sid := b.sid, role := b.role, keyIndex := b.keyIndex, nextSeq := next, ackSeq := next - 1, sentThrough := next - 1,
    ackAt := s.now, lastRx := s.now, lastTx := s.now, keys := b.keys }

/-- R63: the session of a bind is open on its port. -/
def State.opened (s : State) (p : Nat) (b : Bind) : State :=
  (s.replaced p).onPort p fun q => { q with session := some ((s.replaced p).newSession b), bind := none }

theorem State.opened_port {s : State} {p : Nat} (b : Bind) (h : p < s.host.ports.length) :
    (s.opened p b).port p = { s.port p with session := some ((s.replaced p).newSession b), bind := none } := by
  rw [State.opened, State.port_onPort _ _ (by rwa [State.replaced_host]), State.port_of_host p (s.replaced_host p)]

/-- R63, R68: a bind that has succeeded is reported, and that of a supervising session ends the host-loss policies. -/
def State.reportBind (s : State) (p : Nat) (b : Bind) : State :=
  let s := s.evMod .host s.rd.active p 0x7001 (leBytes 1 p ++ leBytes 1 b.role.code ++ leBytes 1 b.keyIndex ++ leBytes 4 b.sid)
  if (b.role == .operator || b.role == .admin) && s.host.hostloss then (s.evMod .host s.rd.active p 0x7006 (leBytes 1 p)).hostLossEnd else s

theorem State.reportBind_port (s : State) (p q : Nat) (b : Bind) : (s.reportBind p b).port q = s.port q := by
  simp only [State.reportBind]
  split
  · rw [State.port, State.hostLossEnd_host]
    rfl
  · rfl

/-- R63: a bind opens the session, answers BOUND with SERIAL_START 1 and reports it. -/
theorem State.bound_eq (s : State) (p : Nat) (b : Bind) :
    s.bound p b = ((s.opened p b).sendFrame p 5 ((s.opened p b).boundBody St.ok b.role.code b.sid 1)).reportBind p b := rfl

/-! ### The statement -/

/-- Settles O10: of a request its role and port may send `acceptReq_of_may` leaves the three checks of R70 and the ticket, in which `ticket_eq` keeps port
and serial apart; at bind, `bound_eq` shows the new session and BOUND. -/
theorem ticketsCarryPortAndSerial : Obligations.TicketsCarryPortAndSerial := by
  unfold Obligations.TicketsCarryPortAndSerial
  refine ⟨fun s p op c roles tag arg hs ho hr hp h2 h3 hv hb hlen h1 hk => ?_, fun s p op c roles tag arg hs ho hr _ h2 h3 hv hlen => ?_,
    fun s p op c roles tag arg hs ho hr _ h2 h3 hv => ?_, fun s p op c roles tag arg hs ho hr _ h2 h3 hv hlen hb => ?_, fun s p b hp => ?_⟩
  · have hacc : s.acceptReq p op tag arg = s.giveTicket p op tag arg c := by
      simp [State.acceptReq_of_may tag arg hs ho hr h2 h3, hv, hb, hlen]
    have htk : (s.giveTicket p op tag arg c).2.2 = p * 2 ^ 28 + c.serial := ticket_eq p (by omega)
    obtain ⟨d, hd, hdlen, hdk⟩ := s.giveTicket_sess op tag arg hp hs
    have hrange := nextSerial_range hk
    rw [hacc, htk]
    exact ⟨rfl, by omega, by omega, by omega, by omega, d, hd, hdlen, by omega, hdk, by omega, by omega⟩
  · simp [State.acceptReq_of_may tag arg hs ho hr h2 h3, hv, hlen]
  · simp [State.acceptReq_of_may tag arg hs ho hr h2 h3, hv]
  · simp [State.acceptReq_of_may tag arg hs ho hr h2 h3, hv, hb, hlen]
  · have hopen := State.opened_port b hp
    rw [s.bound_eq, State.reportBind_port, State.sendFrame_serial, State.sendFrame_bind, State.sendFrame_outbox 5 _ (congrArg Port.session hopen), hopen]
    exact ⟨rfl, rfl, _, rfl, rfl, rfl, State.leNat_boundBody_serial _ _ _ _ (by decide)⟩

end Sys2Proof.Machine
end

section
/-! PROOFS. BillingPeriod.lean: dates as the calendar counts them (R18), and the close of the billing period (R317). A year counted from 1 March
ends with its leap day, so a day is a number of centuries, groups of four years, years and days, from which `civilOf` makes a date and `dayOf` the
day. -/
namespace Sys2Proof.Machine

/-! ### The year of a day among 400 years -/

/-- Day `n` of the 400 years is day `r` of year `a` of group `q` of century `c`: a group is 1461 days, a century 36524. -/
structure EraDay (n c q a r : Nat) : Prop where
  eq : n = 36524 * c + 1461 * q + 365 * a + r
  century_le : c ≤ 3
  group_le : q ≤ 24
  year_le : a ≤ 3
  day_le : r ≤ 365
  leap : r = 365 → a = 3 ∧ (q < 24 ∨ c = 3)

theorem exists_eraDay {n : Nat} (h : n < 146097) : ∃ c q a r, EraDay n c q a r := by
  obtain ⟨c, m, hc, hn, hm, hlast⟩ : ∃ c m, c ≤ 3 ∧ n = 36524 * c + m ∧ m ≤ 36524 ∧ (m = 36524 → c = 3) :=
    ⟨min (n / 36524) 3, n - 36524 * min (n / 36524) 3, by omega⟩
  obtain ⟨a, r, ha, ht, hr, hleap⟩ : ∃ a r, a ≤ 3 ∧ m % 1461 = 365 * a + r ∧ r ≤ 365 ∧ (r = 365 → a = 3) :=
    ⟨min (m % 1461 / 365) 3, m % 1461 - 365 * min (m % 1461 / 365) 3, by omega⟩
  exact ⟨c, m / 1461, a, r, by omega, hc, by omega, ha, hr, fun h => ⟨hleap h, by omega⟩⟩

/-- The year of a day among 400 years, as `civilOf` computes it. -/
def eraYear (n : Nat) : Nat := (n - n / 1460 + n / 36524 - n / 146096) / 365

/-- The days of the 400 years before a year. -/
def yearStart (y : Nat) : Nat := 365 * y + y / 4 - y / 100

theorem EraDay.eraYear_eq {n c q a r : Nat} (h : EraDay n c q a r) : eraYear n = 100 * c + 4 * q + a := by
  obtain ⟨hn, hc, hq, ha, hr, hleap⟩ := h
  rcases Nat.lt_or_ge n 146096 with hlt | hge
  · have hera : n / 146096 = 0 := Nat.div_eq_of_lt hlt
    have hcent : n / 36524 = c := Nat.div_eq_of_lt_le (by omega) (by omega)
    have hfour : n / 1460 = 25 * c + q + (24 * c + q + 365 * a + r) / 1460 := by
      rw [show n = 24 * c + q + 365 * a + r + 1460 * (25 * c + q) by omega, Nat.add_mul_div_left _ _ (by decide), Nat.add_comm]
    have hcarry : (24 * c + q + 365 * a + r) / 1460 ≤ r ∧ r ≤ 364 + (24 * c + q + 365 * a + r) / 1460 := by omega
    rw [eraYear, hera, hcent, hfour, hn]
    generalize (24 * c + q + 365 * a + r) / 1460 = k at *
    exact Nat.div_eq_of_lt_le (by omega) (by omega)
  · obtain ⟨rfl, rfl, rfl, rfl⟩ : c = 3 ∧ q = 24 ∧ a = 3 ∧ r = 365 := by omega
    rw [hn]
    rfl

theorem EraDay.yearStart_add {n c q a r : Nat} (h : EraDay n c q a r) : yearStart (100 * c + 4 * q + a) + r = n := by
  obtain ⟨hn, hc, hq, ha, -, -⟩ := h
  simp only [yearStart]
  omega

/-! ### The month of a day of a year that begins on 1 March -/

/-- The month of a day of the year, 0 March to 11 February. -/
def marchMonth (r : Nat) : Nat := (5 * r + 2) / 153
/-- The days of the year before a month. -/
def monthStart (p : Nat) : Nat := (153 * p + 2) / 5
/-- The number of a month in a date. -/
def civilMonth (p : Nat) : Nat := if p < 10 then p + 3 else p - 9

theorem marchMonth_le {r : Nat} (h : r ≤ 365) : marchMonth r ≤ 11 := by
  simp only [marchMonth]
  omega

theorem monthStart_marchMonth_le (r : Nat) : monthStart (marchMonth r) ≤ r := by
  simp only [monthStart, marchMonth]
  omega

theorem lt_monthStart_succ (r : Nat) : r < monthStart (marchMonth r + 1) := by
  simp only [monthStart, marchMonth]
  omega

theorem civilMonth_range {p : Nat} (h : p ≤ 11) : 1 ≤ civilMonth p ∧ civilMonth p ≤ 12 := by
  simp only [civilMonth]
  split <;> omega

theorem monthDays_february (y : Nat) : monthDays y 2 = if y % 4 = 0 ∧ (y % 100 ≠ 0 ∨ y % 400 = 0) then 29 else 28 := by
  simp [monthDays]

/-- Every month but February has the days to the start of the next. -/
theorem monthStart_add_monthDays (y : Nat) {p : Nat} (h : p < 11) : monthStart p + monthDays y (civilMonth p) = monthStart (p + 1) := by
  have hdays : ∀ p < 11, civilMonth p ≠ 2 ∧
      monthStart p + (if [4, 6, 9, 11].contains (civilMonth p) then 30 else 31) = monthStart (p + 1) := by decide
  obtain ⟨hfeb, hp⟩ := hdays p h
  rw [monthDays, if_neg hfeb, hp]

/-! ### Dates and days (R18) -/

/-- The date of day `r` of the year that begins on 1 March of year `y`. -/
def marchDate (y r : Nat) : Nat × Nat × Nat :=
  (y + b2n (decide (civilMonth (marchMonth r) ≤ 2)), civilMonth (marchMonth r), r - monthStart (marchMonth r) + 1)

/-- `civilOf` takes a day apart into the era of 400 years that begins on 1 March, the year and the day of the year. -/
theorem exists_civilOf_eq (d : Nat) : ∃ e n c q a r, d + 730425 = 146097 * e + n ∧ EraDay n c q a r ∧
    civilOf d = marchDate (400 * e + (100 * c + 4 * q + a)) r := by
  obtain ⟨c, q, a, r, h⟩ := exists_eraDay (Nat.mod_lt (d + 730425) (by decide))
  refine ⟨_, _, c, q, a, r, (Nat.div_add_mod _ _).symm, h, ?_⟩
  have hr : (d + 730425) % 146097 - yearStart (eraYear ((d + 730425) % 146097)) = r := by
    have hyear := h.yearStart_add
    rw [h.eraYear_eq]
    omega
  rw [← h.eraYear_eq, ← hr, Nat.add_comm (400 * _), Nat.mul_comm 400]
  rfl

/-- `dayOf` adds up the days of the eras, of the years and of the year. -/
theorem dayOf_marchDate {y r d : Nat} (hr : r ≤ 365) (hd : d + 730425 = y / 400 * 146097 + yearStart (y % 400) + r) :
    dayOf (marchDate y r).1 (marchDate y r).2.1 (marchDate y r).2.2 = d := by
  have hyear (b : Nat) : (if b ≤ 2 then y + b2n (decide (b ≤ 2)) - 1 else y + b2n (decide (b ≤ 2))) = y := by
    split <;> simp [b2n, *]
  have hmonth : (if 2 < civilMonth (marchMonth r) then civilMonth (marchMonth r) - 3 else civilMonth (marchMonth r) + 9) = marchMonth r := by
    have hle := marchMonth_le hr
    simp only [civilMonth]
    split <;> split <;> omega
  have hstart := monthStart_marchMonth_le r
  simp only [yearStart] at hd
  simp only [monthStart] at hstart
  simp only [marchDate]
  unfold dayOf -- its equation lemma subtracts too large a numeral to be generated
  simp only [hyear, hmonth, monthStart]
  omega

/-- The day of a date from 2000 on is the day it came from. -/
theorem dayOf_civilOf (d : Nat) : dayOf (civilOf d).1 (civilOf d).2.1 (civilOf d).2.2 = d := by
  obtain ⟨e, n, c, q, a, r, hd, h, hdate⟩ := exists_civilOf_eq d
  have hlt : 100 * c + 4 * q + a < 400 := by
    obtain ⟨-, hc, hq, ha, -, -⟩ := h
    omega
  have hyear := h.yearStart_add
  rw [hdate]
  refine dayOf_marchDate h.day_le ?_
  rw [Nat.mul_add_div (by decide), Nat.div_eq_of_lt hlt, Nat.mul_add_mod, Nat.mod_eq_of_lt hlt]
  omega

/-- The date of a day is one of its month; day 365 of a year from March, counted from 0, is 29 February of a leap year. -/
theorem EraDay.marchDate_le_monthDays {n c q a r : Nat} (h : EraDay n c q a r) (e : Nat) :
    (marchDate (400 * e + (100 * c + 4 * q + a)) r).2.2 ≤
      monthDays (marchDate (400 * e + (100 * c + 4 * q + a)) r).1 (marchDate (400 * e + (100 * c + 4 * q + a)) r).2.1 := by
  simp only [marchDate]
  rcases Nat.lt_or_eq_of_le (marchMonth_le h.day_le) with hlt | hfeb
  · have hstart := monthStart_marchMonth_le r
    have hnext := lt_monthStart_succ r
    rw [← monthStart_add_monthDays _ hlt] at hnext
    exact (Nat.sub_lt_iff_lt_add' hstart).2 hnext
  · obtain ⟨-, hc, hq, ha, hr, hleap⟩ := h
    rw [hfeb, show civilMonth 11 = 2 from rfl, show monthStart 11 = 337 from rfl, monthDays_february,
      show b2n (decide (2 ≤ 2)) = 1 from rfl]
    split <;> omega

theorem civilOf_range (d : Nat) : 1 ≤ (civilOf d).2.2 ∧ (civilOf d).2.2 ≤ monthDays (civilOf d).1 (civilOf d).2.1 ∧
    1 ≤ (civilOf d).2.1 ∧ (civilOf d).2.1 ≤ 12 := by
  obtain ⟨e, n, c, q, a, r, -, h, hdate⟩ := exists_civilOf_eq d
  rw [hdate]
  exact ⟨Nat.le_add_left .., h.marchDate_le_monthDays e, civilMonth_range (marchMonth_le h.day_le)⟩

/-! ### The close of the billing period (R317) -/

theorem CalTab.closesOn_iff (c : CalTab) (d : Nat) : c.closesOn d = true ↔
    (c.bpMode = 0 ∧ (civilOf d).2.2 = c.bpDay) ∨ (c.bpMode = 1 ∧ weekdayOf d = c.bpDay) ∨ 2 ≤ c.bpMode := by
  simp only [CalTab.closesOn]
  split
  case h_1 h => simp [h]
  case h_2 h => simp [h]
  case h_3 h0 h1 => exact iff_of_true rfl (.inr (.inr (Nat.one_lt_iff_ne_zero_and_ne_one.2 ⟨h0, h1⟩)))

/-- The close a search finds is that of its first date that closes after the second. -/
theorem CalTab.nextPeriodFrom_some {c : CalTab} {after k d i : Nat} (h : c.nextPeriodFrom after k d = some i) :
    ∃ e, d ≤ e ∧ e < d + k ∧ i = c.instantOf (e * 86400 + c.bpHour * 3600) ∧ after < i ∧ c.closesOn e = true ∧
      ∀ f, d ≤ f → f < e → c.closesOn f = false ∨ c.instantOf (f * 86400 + c.bpHour * 3600) ≤ after := by
  induction k generalizing d with
  | zero => simp [CalTab.nextPeriodFrom] at h
  | succ k ih =>
    simp only [CalTab.nextPeriodFrom, Bool.and_eq_true, decide_eq_true_eq] at h
    split at h
    case isTrue hd =>
      obtain rfl := Option.some.inj h
      exact ⟨d, Nat.le_refl d, by omega, rfl, hd.2, hd.1, fun f hle hlt => by omega⟩
    case isFalse hd =>
      obtain ⟨e, hde, hek, hi, hafter, hcloses, hearlier⟩ := ih h
      refine ⟨e, by omega, by omega, hi, hafter, hcloses, fun f hle hlt => ?_⟩
      rcases Nat.eq_or_lt_of_le hle with rfl | hlt'
      · exact (Classical.not_and_iff_not_or_not.1 hd).imp Bool.eq_false_of_not_eq_true Nat.le_of_not_lt
      · exact hearlier f hlt' hlt

/-- R324: a billing period close that is due is the one the command closes. -/
theorem execBillingPeriodClose_of_dueBound {s : State} {i : Nat} (h : s.dueBound = some (i, .period)) :
    execBillingPeriodClose s = fin s (s.periodClose 0 i) := by
  rw [execBillingPeriodClose, h]

/-! ### The statement -/

/-- Settles O40: the search stops at the first date whose close is after the second (`CalTab.nextPeriodFrom_some`), and of the
year and the day of the year that `civilOf` takes from a day (`exists_civilOf_eq`), `dayOf` makes that day again (`dayOf_marchDate`). -/
theorem billingPeriodsCloseOnTheirDay : Obligations.BillingPeriodsCloseOnTheirDay := by
  unfold Obligations.BillingPeriodsCloseOnTheirDay
  refine ⟨fun c after k d i h => ?_, CalTab.closesOn_iff, fun s i => execBillingPeriodClose_of_dueBound,
    fun d _ => ⟨dayOf_civilOf d, civilOf_range d⟩⟩
  obtain ⟨e, hde, hek, hi, hafter, hcloses, hearlier⟩ := CalTab.nextPeriodFrom_some h
  have hday := (c.closesOn_iff e).1 hcloses
  exact ⟨e, hde, hek, hi, hafter, by omega, by omega, hearlier⟩

end Sys2Proof.Machine
end

section
/-! PROOFS. Steps.lean: what every step does: it runs the command at the front of the queue or moves TIME, and the sequencer goes on from where it
stood (R20-R24); and the state after reset. -/
namespace Sys2Proof.Machine

theorem execEventAdmit_eq_fin (s : State) : ∃ t, execEventAdmit s = fin s t := by
  rw [execEventAdmit]
  split <;> exact ⟨_, rfl⟩

/-- Every command answers the state after some effect. -/
theorem exec_eq_fin (c : Instr) (s : State) : ∃ t, exec c s = fin s t := by
  cases c
  case eventAdmit => exact execEventAdmit_eq_fin s
  all_goals exact ⟨_, rfl⟩

/-- R17: a tick moves the clock alone. -/
theorem State.tick_eq (s : State) : s.tick = { s with clock := s.tick.clock } := by
  simp only [State.tick]
  split
  · split <;> rfl
  · rfl

@[simp] theorem State.tick_seqr (s : State) : s.tick.seqr = s.seqr := by rw [State.tick_eq]
@[simp] theorem State.tick_emits (s : State) : s.tick.emits = s.emits := by rw [State.tick_eq]

/-- R24: a step goes on from the sequencer it found. -/
theorem step_goesOn {s t : State} (h : step s = .next t) (he : s.emits = []) : s.seqr.goesOn t.seqr ∧ t.emits = [] := by
  rw [step] at h
  split at h
  case h_1 =>
    obtain rfl : s.tick = t := by injection h
    simp [Seqr.goesOn_refl, he]
  case h_2 c rest _ =>
    obtain ⟨u, hu⟩ := exec_eq_fin c { s with pending := rest }
    obtain ⟨hseq, hemits, -⟩ := fin_goesOn (hu.symm.trans h)
    exact ⟨hseq, hemits⟩

/-- Settles O3: whatever a command asks of the sequencer, it goes on (`Seqr.absorb_goesOn`), and a step without a command asks nothing. -/
theorem stepsNeverRepeatASequenceNumber : Obligations.StepsNeverRepeatASequenceNumber := by
  unfold Obligations.StepsNeverRepeatASequenceNumber
  rintro s t ⟨he, hord⟩ h
  obtain ⟨⟨hle, hkeeps, hnew⟩, hemits⟩ := step_goesOn h he
  refine ⟨⟨hemits, hkeeps hord⟩, hle, fun r hr hnot => (hnew r hr).resolve_left fun ⟨q, hq, heq⟩ => hnot q hq heq⟩

theorem step_of_empty_queue {s : State} (h : s.pending = []) : step s = .next { s with clock := s.tick.clock } := by
  rw [← s.tick_eq, step, h]

theorem step_of_front {s : State} {c : Instr} {rest : List Instr} (h : s.pending = c :: rest) :
    step s = exec c { s with pending := rest } := by
  rw [step, h]

/-- Settles O1. -/
theorem stepRunsTheFrontCommand : Obligations.StepRunsTheFrontCommand := by
  unfold Obligations.StepRunsTheFrontCommand
  exact ⟨fun _ _ _ => step_of_front, fun _ => step_of_empty_queue⟩

/-! ### The state after reset -/
theorem State.reset_safe : State.reset.safe := ⟨rfl, trivial, Nat.le_refl _⟩

/-- A list of one value reads as that value at every place. -/
theorem getD_replicate_self {α : Type} (k n : Nat) (a : α) : (List.replicate k a).getD n a = a := by
  rw [List.getD_eq_getElem?_getD, List.getElem?_replicate]
  split <;> rfl

@[simp] theorem State.reset_lane (n : Nat) : State.reset.lane n = {} := getD_replicate_self 64 n _
@[simp] theorem State.reset_ppl (n : Nat) : State.reset.ppl n = {} := getD_replicate_self 64 n _
@[simp] theorem State.reset_port (p : Nat) : State.reset.port p = {} := getD_replicate_self 3 p _

theorem State.reset_sess (p : Nat) : State.reset.sess p = none := by
  rw [State.sess, State.reset_port]
  split
  · rfl
  · split <;> rfl

/-- Settles O4. -/
theorem resetState : Obligations.ResetState := by
  unfold Obligations.ResetState
  refine ⟨State.reset_safe, ⟨rfl, rfl, rfl, rfl, rfl⟩, fun n => ?_, State.reset_sess, fun _ _ => rfl⟩
  rw [State.reset_lane, State.reset_ppl]
  exact ⟨rfl, rfl, rfl, rfl, rfl⟩

end Sys2Proof.Machine
end

section
/-! PROOFS. Overflow.lean: the source FIFO of a class and die that is full (R23), EVENT_OVERFLOW, and the SEQ after a reset or a change of side (R24). -/
namespace Sys2Proof.Machine

theorem Seqr.arrive_of_kept {q : Seqr} {e : Ev} (h : e.cls.kept = true) : q.arrive e = { q with waiting := q.waiting ++ [e] } := by
  rw [Seqr.arrive, h]; rfl

theorem EvClass.kept_iff (c : EvClass) : c.kept = true ↔ c = .safety ∨ c = .metering := by cases c <;> decide

theorem Seqr.arrive_of_not_kept {q : Seqr} {e : Ev} (h : e.cls.kept = false) :
    q.arrive e = if (q.waiting.filter fun x => x.cls == e.cls && x.die == e.die).length < 64 then { q with waiting := q.waiting ++ [e] }
      else { q with drops := addDrop q.drops e.cls e.die, overflows := satU 24 (q.overflows + 1) } := by
  simp only [Seqr.arrive, h, Bool.false_or, decide_eq_true_eq]
  rfl

theorem Seqr.admitNext_of_drop {q : Seqr} {e : Ev} {d : Drop} {ds : List Drop} (side time : Nat) (he : firstWaiting q.waiting = some e)
    (hd : q.drops = d :: ds) : (q.admitNext side time).journal.head? =
      some { seq := q.seqLast + 1, ev := if e.cls = .diag then overflowEvent side time d else e } := by
  simp only [Seqr.admitNext, he, hd, beq_iff_eq]
  split <;> rw [Seqr.number_journal, List.head?_cons]

theorem overflowEvent_source (side time : Nat) (d : Drop) : (overflowEvent side time d).source = 5 * 8192 + side % 32 * 256 := by
  simp [Ev.source, overflowEvent, EvClass.code]

/-- R24: the SEQ above `x` is a multiple of 65,536, and none lies between. -/
theorem Seqr.skipAbove_number_seqLast {q : Seqr} {x : Nat} (e : Ev) (h : q.seqLast ≤ x) :
    ((q.skipAbove x).number e).seqLast = (x / 65536 + 1) * 65536 := by
  rw [Seqr.number_seqLast, Seqr.skipAbove_next]
  omega

/-- Settles O6. -/
theorem eventsWaitOrAreCounted : Obligations.EventsWaitOrAreCounted := by
  unfold Obligations.EventsWaitOrAreCounted
  refine ⟨fun q e h => Seqr.arrive_of_kept (e.cls.kept_iff.2 h), fun q e hs hm => ?_, fun q e d ds side time he hd =>
    ⟨Seqr.admitNext_of_drop side time he hd, rfl, rfl, overflowEvent_source side time d⟩, fun q x e h => ?_⟩
  · have hkept : e.cls.kept = false := Bool.eq_false_iff.2 fun h => (e.cls.kept_iff.1 h).elim hs hm
    rw [Seqr.arrive_of_not_kept hkept]
    split <;> exact ⟨rfl, rfl, rfl⟩
  · rw [Seqr.skipAbove_number_seqLast e h]
    refine ⟨Nat.mul_mod_left .., by omega, fun m hm hlt => by omega⟩

end Sys2Proof.Machine
end

section
/-! PROOFS. AccountCells.lean: the account cells are a list that rises in number and names no all-default cell (R336, log entry 41). -/
namespace Sys2Proof.Machine

theorem mem_insertCell {c : Nat} {v : Cell} {l : List (Nat × Cell)} {x : Nat × Cell} (h : x ∈ insertCell c v l) : x = (c, v) ∨ x ∈ l := by
  induction l with
  | nil => simpa [insertCell] using h
  | cons y l ih =>
    simp only [insertCell] at h
    split at h
    · exact List.mem_cons.1 h
    · split at h
      · exact (List.mem_cons.1 h).imp_right (List.mem_cons_of_mem _)
      · rcases List.mem_cons.1 h with rfl | h
        · exact .inr List.mem_cons_self
        · exact (ih h).imp_right (List.mem_cons_of_mem _)

theorem insertCell_pairwise (c : Nat) (v : Cell) {l : List (Nat × Cell)} (h : (l.map (·.1)).Pairwise (· < ·)) :
    ((insertCell c v l).map (·.1)).Pairwise (· < ·) := by
  induction l with
  | nil => simp [insertCell]
  | cons y l ih =>
    obtain ⟨k, w⟩ := y
    obtain ⟨hk, hl⟩ := List.pairwise_cons.1 h
    simp only [insertCell]
    split
    case isTrue hlt =>
      refine List.pairwise_cons.2 ⟨fun a ha => ?_, h⟩
      rcases List.mem_cons.1 ha with rfl | ha
      · exact hlt
      · exact Nat.lt_trans hlt (hk a ha)
    case isFalse hge =>
      split
      case isTrue heq => subst heq; exact h
      case isFalse hne =>
        refine List.pairwise_cons.2 ⟨fun a ha => ?_, ih hl⟩
        obtain ⟨x, hx, rfl⟩ := List.mem_map.1 ha
        rcases mem_insertCell hx with rfl | hx
        · exact Nat.lt_of_le_of_ne (Nat.le_of_not_lt hge) (Ne.symm hne)
        · exact hk _ (List.mem_map_of_mem hx)

theorem find_insertCell (c d : Nat) (v : Cell) (l : List (Nat × Cell)) :
    (insertCell c v l).find? (fun x => x.1 == d) = if d = c then some (c, v) else l.find? fun x => x.1 == d := by
  induction l with
  | nil => simp only [insertCell, List.find?_cons, List.find?_nil]; grind
  | cons y l ih =>
    simp only [insertCell]
    split
    · grind
    · split <;> grind

/-- No pair of a key is left once that key is filtered out. -/
theorem find_filter_key (c d : Nat) (l : List (Nat × Cell)) :
    (l.filter fun x => x.1 != c).find? (fun x => x.1 == d) = if d = c then none else l.find? fun x => x.1 == d := by
  rw [List.find?_filter]
  split
  case isTrue h =>
    subst h
    exact List.find?_eq_none.2 fun x _ => by simp
  case isFalse h =>
    congr 1
    funext x
    grind

theorem State.cell_putCell (s : State) (c d : Nat) (v : Cell) : (s.putCell c v).cell d = if d = c then v else s.cell d := by
  simp only [State.cell, State.putCell]
  split
  case isTrue hv =>
    rw [find_filter_key]
    split
    · exact hv.symm
    · rfl
  case isFalse hv =>
    rw [find_insertCell]
    split <;> rfl

theorem State.putCell_pairwise {s : State} (c : Nat) (v : Cell) (h : (s.ac.cells.map (·.1)).Pairwise (· < ·)) :
    ((s.putCell c v).ac.cells.map (·.1)).Pairwise (· < ·) := by
  simp only [State.putCell]
  split
  · exact h.sublist (List.filter_sublist.map _)
  · exact insertCell_pairwise c v h

theorem State.putCell_ne_default {s : State} (c : Nat) (v : Cell) (h : ∀ x ∈ s.ac.cells, x.2 ≠ {}) :
    ∀ x ∈ (s.putCell c v).ac.cells, x.2 ≠ {} := by
  simp only [State.putCell]
  intro x hx
  split at hx
  case isTrue => exact h x (List.mem_of_mem_filter hx)
  case isFalse hv =>
    rcases mem_insertCell hx with rfl | hx
    · exact hv
    · exact h x hx

/-- Settles O8. -/
theorem accountCellsAreKeptCanonical : Obligations.AccountCellsAreKeptCanonical := by
  unfold Obligations.AccountCellsAreKeptCanonical
  exact ⟨fun s c d v _ => s.cell_putCell c d v, fun _ c v hsorted hne =>
    ⟨State.putCell_pairwise c v hsorted, State.putCell_ne_default c v hne⟩⟩

end Sys2Proof.Machine
end

section
/-! PROOFS. LaneTimers.lean: the entry to a lane state (R83, R84), the hold of an expired timer (R26) and the timers that end a state (R87). -/
namespace Sys2Proof.Machine

/-! ### Entry to a state -/


/-- Settles O11: whatever the entry actions do, they keep the place of every lane (`State.enter_place`). -/
theorem laneEntryMovesOneLane : Obligations.LaneEntryMovesOneLane := by
  unfold Obligations.LaneEntryMovesOneLane
  refine ⟨fun s n st c cls h => ?_, fun s n m st c cls h => ?_⟩
  · have hplace := s.enter_place st c cls h
    simp only [Lane.place, Prod.mk.injEq] at hplace
    obtain ⟨hst, hprev, hcause, hat, hms⟩ := hplace
    exact ⟨hst, hprev, hat, hms, by simpa using hcause⟩
  · have hplace := s.enter_place_ne st c cls h
    simp only [Lane.place, Prod.mk.injEq] at hplace
    obtain ⟨hst, hprev, hcause, hat, hms⟩ := hplace
    exact ⟨hst, hprev, hat, hcause⟩

/-! ### The hold of an expired timer (R26) -/

theorem State.timerEvent_of_running {s : State} {n k e : Nat} (b : Bool) (h : (s.lane n).timer k = some e) (hnow : s.now < e) :
    s.timerEvent n k b = s := by
  simp only [State.timerEvent, h, hnow, if_true]

theorem State.timerEvent_of_held {s : State} {n k e : Nat} (b : Bool) (h : (s.lane n).timer k = some e) (hle : e ≤ s.now) (hlt : s.now < e + 200) :
    s.timerEvent n k b = s.onLane n fun l => { l with holds := (l.holds.filter fun x => x.1 != k) ++ [(k, e)] } := by
  simp only [State.timerEvent, h, Nat.not_lt.2 hle, hlt, if_true, if_false]

theorem State.timerEvent_of_expired {s : State} {n k e : Nat} (b : Bool) (h : (s.lane n).timer k = some e) (hnow : e + 200 ≤ s.now) :
    s.timerEvent n k b = s.expire n k b := by
  have hle : ¬ s.now < e := by omega
  simp only [State.timerEvent, h, hle, Nat.not_lt.2 hnow, if_false]

/-- Settles O12. -/
theorem timersWaitTwoHundredNanoseconds : Obligations.TimersWaitTwoHundredNanoseconds := by
  unfold Obligations.TimersWaitTwoHundredNanoseconds
  exact ⟨fun _ _ _ _ b => State.timerEvent_of_held b, fun _ _ _ _ b => State.timerEvent_of_running b,
    fun _ _ _ => rfl, fun _ _ => rfl, fun _ _ => rfl, fun _ _ => rfl, fun _ _ => rfl, fun _ _ => rfl, fun _ _ => rfl, fun _ _ => rfl,
    fun _ _ => rfl, fun _ _ => rfl, fun _ _ => rfl, fun _ _ => rfl⟩

/-! ### LANE_TIMEOUT (R87) -/

/-- An expiry that moves its lane raises LANE_TIMEOUT, with the state it found, ahead of what it does. -/
theorem State.timerEvent_of_move {s : State} {n k e : Nat} {b : Bool} (h : (s.lane n).timer k = some e) (hnow : e + 200 ≤ s.now)
    (hmove : ((s.expireAct n k b).lane n).st ≠ (s.lane n).st) :
    s.timerEvent n k b = (s.evLane .timer n 0x1005 (leBytes 1 k ++ leBytes 1 (s.lane n).st.code)).expireAct n k b := by
  rw [State.timerEvent_of_expired b h hnow, State.expire, if_neg]
  simp [hmove]

/-- An expiry that takes its lane to a state that nothing follows at once: what the timer does to a lane (`hact`) is told once, for the state
that has raised LANE_TIMEOUT and for the one that has not. -/
theorem State.timerEvent_of_go {s : State} {n k e : Nat} {b : Bool} {old st : LState} {c : Cause} {cls : EvClass} (f : State → State)
    (h : (s.lane n).timer k = some e) (hnow : e + 200 ≤ s.now) (hn : n < s.lanes.length) (hst : (s.lane n).st = old)
    (hact : ∀ t : State, t.lane n = s.lane n → t.expireAct n k b = (f t).go n st c cls)
    (hlen : (f s).lanes.length = s.lanes.length)
    (hrest : st ∈ [LState.offline, .authorise, .precharge, .energy, .openCheck, .unlock, .fault])
    (hne : st ≠ old) :
    s.timerEvent n k b = (f (s.evLane .timer n 0x1005 (leBytes 1 k ++ leBytes 1 old.code))).go n st c cls := by
  have hmove : ((s.expireAct n k b).lane n).st ≠ (s.lane n).st := by
    rw [hact s rfl, State.go_st _ _ _ _ (by rwa [hlen]) hrest, hst]
    exact hne
  rw [State.timerEvent_of_move h hnow hmove, hst]
  exact hact _ rfl

/-- R139: the weld check of a lane fails: WELD_RESULT with the channel it suspects. -/
def State.weldFails (s : State) (n uOut : Nat) : State :=
  (s.onPp n fun p => { p with weld := 2 }).evLane .external n 0x1202
    (leBytes 1 1 ++ leBytes 1 (State.weldSuspect (s.onPp n fun p => { p with weld := 2 }) n) ++ leBytes 2 uOut ++ leBytes 2 0)

theorem State.weldFails_lanes (s : State) (n u : Nat) : (s.weldFails n u).lanes = s.lanes := rfl

section
variable {t : State} {n : Nat} (b : Bool)

theorem State.expireAct_guardWait_of_negotiate (h : (t.lane n).st = .negotiate) :
    t.expireAct n Tm.guardWait b = (t.stopTimer n Tm.guardWait).go n .unlock .energyGuard .timer := by
  simp [State.expireAct, h]
theorem State.expireAct_guardWait_of_isolationTest (h : (t.lane n).st = .isolationTest) :
    t.expireAct n Tm.guardWait b = (t.stopTimer n Tm.guardWait).go n .openCheck .energyGuard .timer := by
  simp [State.expireAct, h]
theorem State.expireAct_guardWait_of_suspended (h : (t.lane n).st = .suspended) :
    t.expireAct n Tm.guardWait b = (t.stopTimer n Tm.guardWait).go n .openCheck .energyGuard .timer := by
  simp [State.expireAct, h]
theorem State.expireAct_cableCheck_of_isolationTest (h : (t.lane n).st = .isolationTest) :
    t.expireAct n Tm.cableCheck b = (t.stopTimer n Tm.cableCheck).go n .openCheck .cablecheckTimeout .timer := by
  simp [State.expireAct, h]
theorem State.expireAct_precharge_of_precharge (h : (t.lane n).st = .precharge) :
    t.expireAct n Tm.precharge b = (t.stopTimer n Tm.precharge).go n .openCheck .prechargeTimeout .timer := by
  simp [State.expireAct, h]
theorem State.expireAct_ramp_of_rampDown (h : (t.lane n).st = .rampDown) :
    t.expireAct n Tm.ramp b =
      ((t.stopTimer n Tm.ramp).onLane n fun l => { l with rampForced := true }).go n .openCheck .none .timer := by
  simp [State.expireAct, h]
theorem State.expireAct_weld : t.expireAct n Tm.weld b =
    ((t.stopTimer n Tm.weld).weldFails n (t.lane n).uOut).go n .fault .weld .timer := by
  simp [State.expireAct, State.weldFails]
theorem State.expireAct_suspend_of_suspended (h : (t.lane n).st = .suspended) :
    t.expireAct n Tm.suspend b =
      (t.stopTimer n Tm.suspend).go n .openCheck (if (t.lane n).suspPolicy then .hostloss else .suspendExpiry) .timer := by
  simp [State.expireAct, h]
end

@[simp] theorem State.stopTimer_lanes_length (s : State) (n k : Nat) : (s.stopTimer n k).lanes.length = s.lanes.length := by
  simp [State.stopTimer, State.onLane]

/-- Settles O13: each timer that is due raises LANE_TIMEOUT and goes to the state of its cause (`State.timerEvent_of_go`). -/
theorem laneTimersThatEndAStateExpire : Obligations.LaneTimersThatEndAStateExpire := by
  unfold Obligations.LaneTimersThatEndAStateExpire
  have hstop := fun (s : State) (n k : Nat) => s.stopTimer_lanes_length n k
  refine ⟨fun s n e hn h hnow hst => congrArg (fin s) ?_, fun s n e hn h hnow hst => congrArg (fin s) ?_,
    fun s n e hn h hnow hst => congrArg (fin s) ?_, fun s n e hn h hnow hst => congrArg (fin s) ?_,
    fun s n e hn h hnow hst => congrArg (fin s) ?_, fun s n e hn h hnow hst => congrArg (fin s) ?_,
    fun s n e hn h hnow hst => congrArg (fin s) ?_, fun s n e hn h hnow hst => congrArg (fin s) ?_⟩
  · exact State.timerEvent_of_go (·.stopTimer n Tm.guardWait) h hnow hn hst
      (fun t ht => State.expireAct_guardWait_of_negotiate false (ht ▸ hst)) (hstop ..) (by decide) (by decide)
  · exact State.timerEvent_of_go (·.stopTimer n Tm.guardWait) h hnow hn hst
      (fun t ht => State.expireAct_guardWait_of_isolationTest false (ht ▸ hst)) (hstop ..) (by decide) (by decide)
  · exact State.timerEvent_of_go (·.stopTimer n Tm.guardWait) h hnow hn hst
      (fun t ht => State.expireAct_guardWait_of_suspended false (ht ▸ hst)) (hstop ..) (by decide) (by decide)
  · exact State.timerEvent_of_go (·.stopTimer n Tm.cableCheck) h hnow hn hst
      (fun t ht => State.expireAct_cableCheck_of_isolationTest false (ht ▸ hst)) (hstop ..) (by decide) (by decide)
  · exact State.timerEvent_of_go (·.stopTimer n Tm.precharge) h hnow hn hst
      (fun t ht => State.expireAct_precharge_of_precharge false (ht ▸ hst)) (hstop ..) (by decide) (by decide)
  · exact State.timerEvent_of_go (fun t => (t.stopTimer n Tm.ramp).onLane n fun l => { l with rampForced := true }) h hnow hn hst
      (fun t ht => State.expireAct_ramp_of_rampDown false (ht ▸ hst)) (by simp [State.onLane, State.stopTimer]) (by decide) (by decide)
  · exact State.timerEvent_of_go (fun t => (t.stopTimer n Tm.weld).weldFails n (s.lane n).uOut) h hnow hn hst
      (fun t ht => ht ▸ State.expireAct_weld false) (hstop ..) (by decide) (by decide)
  · exact State.timerEvent_of_go (·.stopTimer n Tm.suspend) h hnow hn hst
      (fun t ht => ht ▸ State.expireAct_suspend_of_suspended false (ht ▸ hst)) (hstop ..) (by decide) (by decide)

end Sys2Proof.Machine
end

section
/-! PROOFS. Completion.lean: the completion of a request (R71, R74, R78, R79): REQ_COMPLETED, the ticket and the parts of the COMPLETION. -/
namespace Sys2Proof.Machine

/-! ### The COMPLETION's parts (R71) -/

theorem flatMap_sub_range (b : Bytes) (m k : Nat) : ((List.range k).flatMap fun i => sub b (m * i) m) = b.take (m * k) := by
  induction k with
  | zero => simp
  | succ k ih => rw [List.range_succ, List.flatMap_append, ih, List.flatMap_singleton, sub, Nat.mul_succ, List.take_add]

/-- R71: the 20-byte header of part `i` of `k`. -/
def completionHeader (tk status seq len i k : Nat) : Bytes :=
  leBytes 4 tk ++ leBytes 2 status ++ leBytes 1 i ++ leBytes 1 k ++ leBytes 8 seq ++ leBytes 4 len

theorem completionHeader_length (tk status seq len i k : Nat) : (completionHeader tk status seq len i k).length = 20 := by
  simp [completionHeader]

theorem sub_append_left {a : Bytes} (b : Bytes) {off len : Nat} (h : off + len ≤ a.length) : sub (a ++ b) off len = sub a off len := by
  rw [sub, sub, List.drop_append_of_le_length (by omega), List.take_append_of_le_length (by rw [List.length_drop]; omega)]

theorem completionHeader_ticket (tk status seq len i k : Nat) : leNat ((completionHeader tk status seq len i k).take 4) = tk % 2 ^ 32 := by
  simp only [completionHeader, List.append_assoc]
  rw [List.take_left' (leBytes_length 4 tk), leNat_leBytes]
  rfl

theorem completionHeader_seq (tk status seq len i k : Nat) : leNat (sub (completionHeader tk status seq len i k) 8 8) = seq % 2 ^ 64 := by
  have hlen : (leBytes 4 tk ++ leBytes 2 status ++ leBytes 1 i ++ leBytes 1 k).length = 8 := by simp
  rw [completionHeader, List.append_assoc _ _ (leBytes 4 len), sub_append_right _ _ 8 8 hlen, List.take_left' (leBytes_length 8 seq), leNat_leBytes]
  rfl

theorem completionHeader_total (tk status seq len i k : Nat) : leNat (sub (completionHeader tk status seq len i k) 16 4) = len % 2 ^ 32 := by
  have hlen : (leBytes 4 tk ++ leBytes 2 status ++ leBytes 1 i ++ leBytes 1 k ++ leBytes 8 seq).length = 16 := by simp
  rw [completionHeader, sub_append_right _ _ 16 4 hlen, List.take_of_length_le (by simp), leNat_leBytes]
  rfl

theorem completionParts_eq (tk status seq : Nat) (b : Bytes) : completionParts tk status seq b =
    (List.range (max 1 ((b.length + 1379) / 1380))).map fun i =>
      completionHeader tk status seq b.length i (max 1 ((b.length + 1379) / 1380)) ++ sub b (1380 * i) 1380 := rfl

/-- The parts together are the result. -/
theorem completionParts_flatMap (tk status seq : Nat) (b : Bytes) : (completionParts tk status seq b).flatMap (·.drop 20) = b := by
  simp only [completionParts_eq, List.flatMap_map, List.drop_left' (completionHeader_length ..)]
  rw [flatMap_sub_range, List.take_of_length_le]
  omega

theorem completionParts_mem {tk status seq : Nat} {b x : Bytes} (h : x ∈ completionParts tk status seq b) :
    x.length ≤ 1400 ∧ leNat (x.take 4) = tk % 2 ^ 32 ∧ leNat (sub x 8 8) = seq % 2 ^ 64 ∧ leNat (sub x 16 4) = b.length % 2 ^ 32 := by
  rw [completionParts_eq] at h
  obtain ⟨i, -, rfl⟩ := List.mem_map.1 h
  have hlen := completionHeader_length tk status seq b.length i (max 1 ((b.length + 1379) / 1380))
  refine ⟨?_, ?_, ?_, ?_⟩
  · rw [List.length_append, hlen, sub]
    exact Nat.add_le_add_left (List.length_take_le ..) 20
  · rw [List.take_append_of_le_length (by omega), completionHeader_ticket]
  · rw [sub_append_left _ (by omega), completionHeader_seq]
  · rw [sub_append_left _ (by omega), completionHeader_total]

/-! ### What a completion does (R71, R74, R79) -/

/-- An event of up to ten bytes is one record. -/
theorem Ev.records_of_short {e : Ev} (h : e.data.length ≤ 10) : e.records = [e] := by
  have hk : max 1 ((e.data.length + 9) / 10) = 1 := by omega
  have hdata : sub e.data 0 10 = e.data := List.take_of_length_le h
  simp [Ev.records, hk, hdata]

/-- A frame sent leaves what a session holds besides its frame counter and TIME. -/
theorem State.sendFrame_session {α : Type} (g : Session → α) (hg : ∀ (c : Session) k t, g { c with txCtr := k, lastTx := t } = g c)
    (s : State) (p q typ : Nat) (b : Bytes) : ((s.sendFrame p typ b).port q).session.map g = (s.port q).session.map g := by
  rw [State.sendFrame]
  split
  · refine (State.onSess_keeps (fun x => x.session.map g) _ p q _ fun x => ?_).trans
      (State.onPort_keeps (fun x => x.session.map g) s p q _ fun _ => rfl)
    simp [Option.map_map, Function.comp_def, hg]
  · rfl

@[simp] theorem State.onSess_emits (s : State) (p : Nat) (f : Session → Session) : (s.onSess p f).emits = s.emits := by
  rw [State.onSess]
  split <;> rfl

@[simp] theorem State.sendFrame_emits (s : State) (p typ : Nat) (b : Bytes) : (s.sendFrame p typ b).emits = s.emits := by
  rw [State.sendFrame]
  split <;> simp

/-- R79: REQ_COMPLETED of a ticket. -/
def State.reqCompleted (s : State) (t : Ticket) (status : Nat) : Ev :=
  { cls := .host, die := s.rd.active, unit := ticketPort t.id, lane := 0xFF, code := 0x7011,
    data := leBytes 4 t.id ++ leBytes 2 t.opcode ++ leBytes 2 status, time := s.now }

theorem State.complete_of_session_port {s : State} {t : Ticket} (status : Nat) (b : Bytes) (hp : ticketPort t.id < 3) :
    s.complete t status b = (completionParts t.id status (s.seqAsked + 1) b).foldl (fun u x => u.sendFrame (ticketPort t.id) 0x12 x)
      ((s.direct (s.reqCompleted t status)).onSess (ticketPort t.id) fun c => c.ends t.id status) := by
  simp only [State.complete, hp, if_true]
  rfl

theorem State.complete_emits {s : State} {t : Ticket} (status : Nat) (b : Bytes) (hp : ticketPort t.id < 3) :
    (s.complete t status b).emits = s.emits ++ [.direct (s.reqCompleted t status)] := by
  rw [State.complete_of_session_port status b hp]
  refine foldl_keeps (fun u : State => u.emits = _) _ _ _ ?_ fun u hu x _ => (u.sendFrame_emits ..).trans hu
  rw [State.onSess_emits, State.direct_emits, Ev.records_of_short (by simp [State.reqCompleted])]
  rfl

theorem State.complete_session {α : Type} (g : Session → α) (hg : ∀ (c : Session) k t, g { c with txCtr := k, lastTx := t } = g c)
    {s : State} {t : Ticket} {c : Session} (status : Nat) (b : Bytes) (hp : ticketPort t.id < 3) (hs : s.sess (ticketPort t.id) = some c) :
    ((s.complete t status b).sess (ticketPort t.id)).map g = some (g (c.ends t.id status)) := by
  rw [State.complete_of_session_port status b hp]
  refine foldl_keeps (fun u : State => (u.sess (ticketPort t.id)).map g = _) _ _ _ ?_ fun u hu x _ => ?_
  · have hdirect : (s.direct (s.reqCompleted t status)).sess (ticketPort t.id) = some c := hs
    rw [State.sess_onSess _ (Nat.le_of_lt hp) hdirect, Option.map_some]
  · rw [State.sess, if_pos hp] at hu ⊢
    rw [State.sendFrame_session g hg, hu]

/-- R71, R79: REQ_COMPLETED is the event numbered at once. -/
theorem State.after_complete_seqr {s : State} {t : Ticket} (status : Nat) (b : Bytes) (he : s.emits = []) (hp : ticketPort t.id < 3) :
    (s.after (s.complete t status b)).seqr = s.seqr.number (s.reqCompleted t status) := by
  rw [State.after, State.complete_emits status b hp, he]
  rfl

/-- A request command without an outstanding ticket of its opcode changes nothing (log entry 8). -/
theorem State.onTicket_of_none {s : State} {tk op : Nat} (f : Ticket → State) (h : s.ticket tk op = none) : s.onTicket tk op f = s := by
  rw [State.onTicket, h]

theorem State.onTicket_of_some {s : State} {tk op : Nat} {t : Ticket} (f : Ticket → State) (h : s.ticket tk op = some t) :
    s.onTicket tk op f = f t := by
  rw [State.onTicket, h]

/-- Settles O7. -/
theorem completionEndsTheTicket : Obligations.CompletionEndsTheTicket := by
  unfold Obligations.CompletionEndsTheTicket
  refine ⟨fun s c t status b he hp hs => ?_, fun tk status seq b => ⟨?_, completionParts_flatMap .., fun x => completionParts_mem⟩,
    fun s tk op f => State.onTicket_of_none f⟩
  · have hout := State.complete_session Session.outstanding (fun _ _ _ => rfl) status b hp hs
    have hended := State.complete_session (·.ended.head?) (fun _ _ _ => rfl) status b hp hs
    have hseqr := State.after_complete_seqr status b he hp
    have hhost := State.sess_of_host (s := s.complete t status b) (t := s.after (s.complete t status b)) (ticketPort t.id) rfl
    refine ⟨?_, ?_, ?_, ?_⟩
    · rw [hseqr, Seqr.number_seqLast]
    · rw [hseqr, Seqr.number_journal]
      rfl
    · rw [hhost, hout]
      rfl
    · obtain ⟨d, hd, hhead⟩ := Option.map_eq_some_iff.1 hended
      rw [hhost, hd]
      exact hhead
  · simp [completionParts]

end Sys2Proof.Machine
end

section
/-! PROOFS. Permits.lean: the PERMIT balls and the lane gates follow their conditions (R248, R249, R274). -/
namespace Sys2Proof.Machine

/-! ### A bit set or cleared -/

theorem testBit_sub_two_pow {n g : Nat} (h : n.testBit g = true) (i : Nat) : (n - 2 ^ g).testBit i = (decide (i ≠ g) && n.testBit i) := by
  obtain ⟨q, r, hr, hn⟩ : ∃ q r, r < 2 ^ g ∧ n = 2 ^ (g + 1) * q + (2 ^ g + r) := by
    have hdiv : n / 2 ^ g % 2 = 1 := by simpa [Nat.testBit_eq_decide_div_mod_eq] using h
    refine ⟨n / 2 ^ g / 2, n % 2 ^ g, Nat.mod_lt _ (Nat.two_pow_pos g), ?_⟩
    have hodd : n / 2 ^ g = 2 * (n / 2 ^ g / 2) + 1 := by omega
    calc n = 2 ^ g * (n / 2 ^ g) + n % 2 ^ g := (Nat.div_add_mod n (2 ^ g)).symm
      _ = 2 ^ g * (2 * (n / 2 ^ g / 2) + 1) + n % 2 ^ g := by rw [← hodd]
      _ = 2 ^ (g + 1) * (n / 2 ^ g / 2) + (2 ^ g + n % 2 ^ g) := by ring
  have hsub : n - 2 ^ g = 2 ^ (g + 1) * q + r := by omega
  have hpow : 2 ^ (g + 1) = 2 * 2 ^ g := by ring
  rw [hsub, hn, Nat.testBit_two_pow_mul_add q (by omega), Nat.testBit_two_pow_mul_add q (by omega)]
  rcases Nat.lt_trichotomy i g with hlt | rfl | hgt
  · simp [Nat.lt_succ_of_lt hlt, Nat.testBit_two_pow_add_gt hlt, Nat.ne_of_lt hlt]
  · simp [Nat.testBit_lt_two_pow hr]
  · simp [Nat.not_lt.2 (Nat.succ_le_of_lt hgt), Nat.ne_of_gt hgt]

theorem bit_setBit (n g i : Nat) (b : Bool) : bit (setBit n g b) i = if i = g then b else bit n i := by
  simp only [bit, setBit, Nat.one_shiftLeft]
  split
  case isTrue hb =>
    rw [Nat.testBit_or, Nat.testBit_two_pow, hb]
    by_cases h : i = g <;> simp [h, Ne.symm]
  case isFalse hb =>
    simp only [Bool.not_eq_true] at hb
    split
    case isTrue h => rw [testBit_sub_two_pow h]; by_cases hi : i = g <;> simp [hi, hb]
    case isFalse h => by_cases hi : i = g <;> simp_all

/-! ### The settling of the PERMIT balls (R248, R274) -/

/-- R248, R274: a PERMIT ball takes the level its conditions give. -/
def State.settlePermit (s : State) (g : Nat) : State :=
  if s.permit g == (s.permitLow g == 0) then s
  else (s.onGrv fun v => { v with permit := setBit v.permit g (s.permitLow g == 0) }).evMod .safety 8 g 0x2002
    (leBytes 1 g ++ leBytes 1 (b2n (s.permitLow g == 0)) ++ leBytes 2 (s.permitLow g))

theorem State.settlePermits_eq (s : State) : s.settlePermits = ((List.range 16).foldl State.settlePermit s).driveGated := rfl

/-- What a PERMIT ball follows is not written by its settling. -/
theorem State.settlePermit_permitLow (s : State) (g i : Nat) : (s.settlePermit g).permitLow i = s.permitLow i := by
  rw [State.settlePermit]
  split <;> rfl

theorem State.settlePermit_permit (s : State) (g i : Nat) :
    (s.settlePermit g).permit i = if i = g then s.permitLow g == 0 else s.permit i := by
  rw [State.settlePermit]
  split
  case isTrue h =>
    split
    case isTrue hi => rw [hi]; exact eq_of_beq h
    case isFalse hi => rfl
  case isFalse h => exact bit_setBit ..

theorem State.settlePermit_fold_permit (l : List Nat) (s : State) (i : Nat) :
    (l.foldl State.settlePermit s).permit i = if i ∈ l then s.permitLow i == 0 else s.permit i := by
  induction l generalizing s with
  | nil => rfl
  | cons g l ih =>
    rw [List.foldl_cons, ih, State.settlePermit_permitLow, State.settlePermit_permit]
    by_cases hl : i ∈ l <;> by_cases hg : i = g <;> simp [hl, hg]

theorem State.drive_sf (s : State) (k : Nat) : (s.drive k).sf = s.sf := by
  simp only [State.drive]
  split
  · rfl
  · split <;> rfl

theorem State.driveGated_sf (s : State) : s.driveGated.sf = s.sf := by
  refine foldl_keeps (fun t : State => t.sf = s.sf) _ _ _ rfl fun t ht o _ => ?_
  split
  · rw [State.drive_sf, ht]
  · exact ht

theorem State.driveGated_lanes (s : State) : s.driveGated.lanes = s.lanes := by
  refine foldl_lanes _ (fun t o => ?_) _ s
  split
  · exact t.drive_lanes _
  · rfl

/-- R248: a settled PERMIT ball is high exactly while no reason stands against it. -/
theorem State.settlePermits_permit (s : State) {g : Nat} (h : g < 16) : s.settlePermits.permit g = (s.permitLow g == 0) := by
  rw [State.settlePermits_eq, State.permit, State.driveGated_sf]
  exact (State.settlePermit_fold_permit _ s g).trans (if_pos (List.mem_range.2 h))

theorem State.settlePermits_frame (s : State) : s.settlePermits.sf.grv.latches = s.sf.grv.latches ∧
    s.settlePermits.sf.grv.pairs = s.sf.grv.pairs ∧ s.settlePermits.sf.grv.grants = s.sf.grv.grants ∧
    s.settlePermits.sf.trips = s.sf.trips ∧ s.settlePermits.lanes = s.lanes := by
  rw [State.settlePermits_eq, State.driveGated_sf, State.driveGated_lanes]
  refine foldl_keeps (fun t : State => t.sf.grv.latches = s.sf.grv.latches ∧ t.sf.grv.pairs = s.sf.grv.pairs ∧
    t.sf.grv.grants = s.sf.grv.grants ∧ t.sf.trips = s.sf.trips ∧ t.lanes = s.lanes) _ _ _ ⟨rfl, rfl, rfl, rfl, rfl⟩ fun t ht g _ => ?_
  rw [State.settlePermit]
  split <;> exact ht

/-! ### The reasons against a PERMIT ball and the lane gate (R248, R249, R274) -/

theorem b2n_eq_zero_iff (b : Bool) : b2n b = 0 ↔ b = false := by cases b <;> decide

theorem State.permitLow_eq_zero_iff (s : State) (g : Nat) : s.permitLow g = 0 ↔
    (s.grvStarted = true ∧ bit s.sf.grv.grants g = true) ∧ s.groupLatched g = false ∧
    (bit s.sf.grvPar.estMask g = true → bit s.sf.grv.pairs 0 = true ∧ bit s.sf.grv.pairs 1 = true ∧ s.sf.grv.estFault = false) ∧
    (bit s.sf.grvPar.grdMask g = true → bit s.sf.grv.pairs 2 = true ∧ bit s.sf.grv.pairs 3 = true ∧ s.sf.grv.grdFault = false) ∧
    (∀ x < 4, bit (s.sf.grvPar.xtripMask.getD x 0) g = true → bit s.sf.grv.xtrip x = false) ∧ s.sf.grv.wd = false ∧ s.sf.grv.selfFail = false := by
  simp only [State.permitLow, Nat.or_eq_zero_iff, Nat.mul_eq_zero, OfNat.ofNat_ne_zero, false_or, b2n_eq_zero_iff, Bool.not_eq_eq_eq_not,
    Bool.not_false, Bool.and_eq_true, Bool.and_eq_false_iff, Bool.or_eq_false_iff, List.any_eq_false, List.mem_range]
  grind

theorem State.laneGate_iff (s : State) (n : Nat) : s.laneGate n = true ↔
    s.sf.grv.powered = true ∧ s.sf.grv.loaded = true ∧ s.sf.grv.everTaken = true ∧ bit s.sf.grv.laneGrants n = true ∧ s.sf.grv.wd = false ∧
      bit s.sf.grv.pilotBad n = false ∧ s.sf.grv.selfFail = false := by
  simp only [State.laneGate, State.grvStarted, Bool.and_eq_true, Bool.not_eq_eq_eq_not, Bool.not_true, and_assoc]

/-- Settles O32. -/
theorem permitBallsFollowTheirConditions : Obligations.PermitBallsFollowTheirConditions := by
  unfold Obligations.PermitBallsFollowTheirConditions
  exact ⟨fun s _ => s.settlePermits_permit, State.permitLow_eq_zero_iff, State.laneGate_iff, State.settlePermits_frame⟩

end Sys2Proof.Machine
end

section
/-! PROOFS. PowerPath.lean: the cable check, the contactors and the weld check of a lane (R131-R140), its lock, the direction and the CAN controllers
(R141-R153). What a command answers is its effect by definition, so a clause is that effect evaluated under its hypotheses. -/
namespace Sys2Proof.Machine


/-! ### Requests about a lane (R3, R152) -/

theorem State.chargingReq_of_ok {s : State} {n : Nat} (t : Ticket) (f : State) (hn : n < s.nLanes) (hc : (s.typ n).charges = true) :
    s.chargingReq t n f = f := by
  simp [State.chargingReq, Nat.not_le.2 hn, hc]

/-! ### Contactors and the cable check (R131-R140) -/

theorem State.cableStep_of_phase_one {s : State} {n : Nat} (hst : (s.lane n).st = .isolationTest) (hphase : (s.ppl n).phase = 1)
    (hnow : (s.ppl n).phaseAt + ms 20 ≤ s.now) :
    s.cableStep n = (s.contact n 3 true).onPp n fun p => { p with phase := 2, phaseAt := (s.contact n 3 true).now } := by
  simp [State.cableStep, hst, hphase, hnow]

/-- R140: the unlock guard turns true over a lane that waits for it. -/
theorem State.tryUnlock_of_due {s : State} {n : Nat} (hdue : (s.lane n).unlockDue = true) (hguard : s.unlockGuard n = true)
    (hpulse : (s.lane n).pulsing = false) (hst : (s.lane n).st ≠ .fault) (hpos : (s.ppl n).lockPos = true) :
    s.tryUnlock n = (s.onLane n fun l => { l with unlockDue := false }).lockPulse n 2 1 := by
  simp [State.tryUnlock, hdue, hguard, hpulse, hst, hpos]

/-- Settles O21. -/
theorem contactorsAndCableCheck : Obligations.ContactorsAndCableCheck := by
  unfold Obligations.ContactorsAndCableCheck
  refine ⟨fun s n hst hphase hnow => congrArg (fin s) ?_, fun s n hst hphase hlow => congrArg (fin s) ?_, fun s n e hn hconf hnow hok => ⟨_, rfl, ?_⟩,
    fun s n e hconf hnow hok => congrArg (fin s) ?_, fun s n f e hconf hnow => congrArg (fin s) ?_, fun s n e hdue hnow => congrArg (fin s) ?_,
    fun s n e hdue hnow => congrArg (fin s) ?_, fun s n e hdue hnow => congrArg (fin s) ?_, fun s n hn hweld hbelow hst hcauses => ⟨_, rfl, ?_⟩,
    fun s n hdue hguard hpulse hst hpos => congrArg (fin s) ?_⟩
  · exact State.cableStep_of_phase_one hst hphase hnow
  · rcases hphase with hphase | hphase <;> simp [hst, hphase, hlow]
  · simp [hconf, Nat.not_lt.2 hnow, hok, hn, PpLane.confirm]
  · simp [hconf, Nat.not_lt.2 hnow, hok, PpLane.confirm]
  · simp [hconf, Nat.not_lt.2 hnow]
  · simp [hdue, Nat.not_lt.2 hnow]
  · simp [hdue, Nat.not_lt.2 hnow]
  · simp [hdue, Nat.not_lt.2 hnow]
  · simp only [hweld, hbelow, hst, hcauses, Bool.and_self, if_true, beq_self_eq_true]
    exact State.go_st _ _ _ _ (by simpa using hn) (by decide)
  · exact State.tryUnlock_of_due hdue hguard hpulse hst hpos

/-! ### The lock, the direction and the CAN controllers (R141-R153) -/

/-- Settles O22. -/
theorem lockDirectionAndController : Obligations.LockDirectionAndController := by
  unfold Obligations.LockDirectionAndController
  refine ⟨fun s n e hwin hfit => congrArg (fin s) ?_, fun s n e hwin hfit hnow => congrArg (fin s) ?_,
    fun s n e hdue hnow hst hpulse => congrArg (fin s) ?_, fun s n e hdue hnow hst hpulse hguard => congrArg (fin s) ?_,
    fun s n hin hfb hlock hst hpulse => congrArg (fin s) ?_, fun s n e hdue hnow => congrArg (fin s) ?_, fun _ _ => rfl, fun _ _ => rfl,
    fun s k hfree => congrArg (fin s) ?_, fun s tk t ht hn hc => congrArg (fin s) ?_, fun s tk t ht hn hc hone => congrArg (fin s) ?_,
    fun s tk t ht hall => congrArg (fin s) ?_⟩
  · simp [hwin, hfit]
  · simp [hwin, hfit, Nat.not_lt.2 hnow]
  · simp [hdue, hnow, hst, hpulse]
  · simp [hdue, hnow, hst, hpulse, hguard]
  · simp [hin, hfb, hlock, hst, hpulse]
  · simp [hdue, Nat.not_lt.2 hnow]
  · simp [hfree]
  · rw [State.onTicket_of_some _ ht, State.chargingReq_of_ok _ _ hn hc]
  · rw [State.onTicket_of_some _ ht, if_neg hone, State.chargingReq_of_ok _ _ hn hc]
  · rw [State.onTicket_of_some _ ht, if_pos hall]

end Sys2Proof.Machine
end

section
/-! PROOFS. LaneRequests.lean: the requests about a lane (R95, R101) past the checks of R3 and R50. -/
namespace Sys2Proof.Machine


theorem LaneType.charges_ne {t : LaneType} (h : t.charges = true) : t ≠ .none ∧ t ≠ .paired ∧ t ≠ .meter := by
  cases t <;> simp [LaneType.charges, LaneType.isDc, LaneType.isAc] at h ⊢

theorem LaneType.isLane_ne {t : LaneType} (h : t.isLane = true) : t ≠ .none ∧ t ≠ .paired := by
  cases t <;> simp [LaneType.isLane, LaneType.charges, LaneType.isDc, LaneType.isAc] at h ⊢

/-- R101: a request about a lane that charges and is not pending acts on that lane. -/
theorem State.laneReq_of_charges {s : State} {t : Ticket} {b : Bool} (f : Nat → State) (hn : s.nLanes > t.u 0 1)
    (hp : s.isPending (t.u 0 1) = false) (hc : (s.typ (t.u 0 1)).charges = true) : s.laneReq t b f = f (t.u 0 1) := by
  obtain ⟨hnone, hpaired, hmeter⟩ := LaneType.charges_ne hc
  simp [State.laneReq, Nat.not_le.2 hn, hp, hnone, hpaired, hmeter]

/-- R101: LANE_DISABLE, LANE_ENABLE and LANE_INFO take a METER lane too. -/
theorem State.laneReq_of_isLane {s : State} {t : Ticket} (f : Nat → State) (hn : s.nLanes > t.u 0 1)
    (hp : s.isPending (t.u 0 1) = false) (hl : (s.typ (t.u 0 1)).isLane = true) : s.laneReq t true f = f (t.u 0 1) := by
  obtain ⟨hnone, hpaired⟩ := LaneType.isLane_ne hl
  simp [State.laneReq, Nat.not_le.2 hn, hp, hnone, hpaired]

/-- Settles O15. -/
theorem laneRequestsMoveTheLane : Obligations.LaneRequestsMoveTheLane := by
  unfold Obligations.LaneRequestsMoveTheLane
  refine ⟨fun s tk t ht hn hp hc hst => congrArg (fin s) ?_, fun s tk t ht hn hp hc => congrArg (fin s) ?_,
    fun s tk t ht hn hp hc hans hst hwait hlate hcell => congrArg (fin s) ?_, fun s tk t ht hn hp hc hans hst hwait hlate hcell => congrArg (fin s) ?_,
    fun s tk t ht hn hp hc hst => congrArg (fin s) ?_, fun s tk t ht hn hp hc hsusp => congrArg (fin s) ?_,
    fun s tk t ht hn hp hc hst hweld => congrArg (fin s) ?_, fun s tk t ht hn hp hl hst => congrArg (fin s) ?_,
    fun s tk t ht hn hp hl hst hen => congrArg (fin s) ?_, fun s tk t ht hn hp hl => congrArg (fin s) ?_⟩
  all_goals rw [State.onTicket_of_some _ ht]
  · rw [State.laneReq_of_charges _ hn hp hc]
    simp only [List.mem_cons, List.not_mem_nil, or_false] at hst
    rcases hst with hst | hst | hst | hst <;> rw [hst]
  · rw [State.laneReq_of_charges _ hn hp hc]
  · rw [State.laneReq_of_charges _ hn hp hc]
    rcases hcell with hcell | hcell <;> simp [hans, hst, hwait, hlate, hcell]
  · rw [State.laneReq_of_charges _ hn hp hc]
    rcases hcell with hcell | hcell <;> simp [hans, hst, hwait, hlate, hcell]
  · rw [State.laneReq_of_charges _ hn hp hc]
    rcases hst with hst | hst <;> simp [hst]
  · rw [State.laneReq_of_charges _ hn hp hc, if_pos hsusp]
  · rw [State.laneReq_of_charges _ hn hp hc]
    rcases hweld with hweld | hrole
    · simp only [hst, hweld]
      rfl
    · simp only [hst, hrole, bne_self_eq_false, Bool.and_false, Bool.false_eq_true, if_false]
  · rw [State.laneReq_of_isLane _ hn hp hl]
    rcases hst with hst | hst <;> rw [hst]
  · rw [State.laneReq_of_isLane _ hn hp hl]
    simp [hst, hen]
  · rw [State.laneReq_of_isLane _ hn hp hl]

end Sys2Proof.Machine
end

section
/-! PROOFS. Handshake.lean: the engines, the association window, discovery, TLS and the ends of a vehicle session (R114-R128). -/
namespace Sys2Proof.Machine


@[simp] theorem State.cpS12_now (s : State) (n : Nat) : (s.cpS12 n).now = s.now := rfl

theorem State.hsl_onLink (s : State) {n : Nat} (f : LinkHs → LinkHs) (h : n < s.hs.lanes.length) :
    (s.onLink n f).hsl n = { s.hsl n with l := f (s.hsl n).l } := s.hsl_onHs _ h

/-- Settles O19. -/
theorem handshakeLinkAndSessionEnds : Obligations.HandshakeLinkAndSessionEnds := by
  unfold Obligations.HandshakeLinkAndSessionEnds
  refine ⟨fun s die n e heard hheard hfree => congrArg (fin s) ?_, fun _ _ => rfl,
    fun s n w hwin hassoc hhlc hnow hst hac => congrArg (fin s) ?_, fun s n w hwin hassoc hhlc hnow hst hac hfall => congrArg (fin s) ?_,
    fun s n e hend hnow hst => congrArg (fin s) ?_, fun s n hhlc hassoc hst => congrArg (fin s) ?_, fun s n hhlc hassoc hst => congrArg (fin s) ?_,
    fun s n b hassoc => congrArg (fin s) ?_, fun s n version node hn hassoc horphan hrng hver => ⟨_, rfl, ?_⟩,
    fun s n node a g hassoc horphan => congrArg (fin s) ?_, fun s n e hend hnow => congrArg (fin s) ?_, fun s n e hend hnow => congrArg (fin s) ?_⟩
  · simp only [hheard, hfree]
  · simp [hwin, hassoc, hhlc, Nat.not_lt.2 hnow, hst, hac]
  · simp [hwin, hassoc, hhlc, Nat.not_lt.2 hnow, hst, hac, hfall]
  · simp [hend, Nat.not_lt.2 hnow, hst]
  · simp [hhlc, hassoc, hst]
  · simp [hhlc, hassoc, hst]
  · rw [if_pos hassoc]
  · simp [hassoc, horphan, hver, State.hsl_onLink s.drawn _ hn]
  · simp [hassoc, horphan]
  · simp [hend, hnow]
  · simp [hend, hnow]

end Sys2Proof.Machine
end

section
/-! PROOFS. Measure.lean: the pulse inputs (R214-R218, R530) and the requests about the measurement chain (R207-R219). -/
namespace Sys2Proof.Machine


/-! ### The clearing of a pulse input's fault (R216, R100) -/

theorem State.clearCause_mt (s : State) (n : Nat) (c : Cause) (b : Nat) : (s.clearCause n c b).mt = s.mt := by
  rw [State.clearCause]
  split <;> rfl

theorem State.settleDie_mt (s : State) (n : Nat) : (s.settleDie n).mt = s.mt := by
  rw [State.settleDie]
  split
  · rfl
  · exact s.clearCause_mt ..

theorem State.pls_of_mt {s t : State} (i : Nat) (h : t.mt = s.mt) : t.pls i = s.pls i := by
  rw [State.pls, State.pls, h]

theorem State.typ_of_mx {s t : State} (n : Nat) (h : t.mx = s.mx) : t.typ n = s.typ n := by
  simp [State.typ, State.slot, State.cfg, h]

theorem State.enterEnergy_of_meter {s : State} {n : Nat} (h : s.typ n = .meter) :
    s.enterEnergy n = s.onLane n fun l => { l with energyAt := s.now } := by
  simp [State.enterEnergy, h]

/-- R84: a METER lane that enters ENERGY changes nothing of the measurement chain. -/
theorem State.enter_energy_mt_of_meter {s : State} {n : Nat} (c : Cause) (cls : EvClass) (h : s.typ n = .meter) :
    (s.enter n .energy c cls).mt = s.mt := by
  have henter : ∀ t : State, t.mx = s.mx → t.mt = s.mt → (t.enterEnergy n).mt = s.mt := fun t hmx hmt => by
    rw [State.enterEnergy_of_meter ((State.typ_of_mx n hmx).trans h)]
    exact hmt
  refine henter _ ?_ ?_
  all_goals
    simp only [State.laneState, State.evLane_mx, State.evLane_mt]
    repeat' split
    all_goals rfl

theorem State.settleMeter_mt (s : State) (n : Nat) : (s.settleMeter n).mt = s.mt := by
  rw [State.settleMeter]
  split
  case isTrue h =>
    obtain ⟨htyp, hst⟩ := Bool.and_eq_true_iff.1 h
    have hidle := eq_of_beq hst
    have hn : n < s.lanes.length := by
      by_contra hn
      rw [State.lane, List.getD_eq_default _ _ (Nat.le_of_not_lt hn)] at hidle
      exact absurd hidle (by decide)
    have hgo : (s.go n .energy .none .external).mt = s.mt := by
      rw [State.go_rest _ _ _ _ hn (by decide), State.enter_energy_mt_of_meter _ _ (eq_of_beq htyp)]
    rw [apply_ite State.mt, hgo, ite_self]
  case isFalse => rfl

/-! ### Requests (R208, R219) -/

theorem State.measureReq_of_ok {s : State} {n : Nat} (t : Ticket) (f : State) (hn : n < s.nLanes) (hl : (s.typ n).isLane = true) :
    s.measureReq t n f = f := by
  simp [State.measureReq, Nat.not_le.2 hn, hl]

/-- Settles O29. -/
theorem pulseInputsAndMeasurementRequests : Obligations.PulseInputsAndMeasurementRequests := by
  unfold Obligations.PulseInputsAndMeasurementRequests
  refine ⟨fun s i e d on p hp hmode hpw hnow hd => congrArg (fin s) ?_, fun s i e d on p hi hp hmode hpw hnow hd hlevel hon hfault => ⟨_, rfl, ?_⟩,
    fun _ => rfl, fun _ => rfl, fun s i hi => congrArg (fin s) ?_, fun s i k p hi hk hp hmode => congrArg (fin s) ?_,
    fun s i hi hlen hfault => ⟨_, rfl, ?_⟩, fun s i hfold => congrArg (fin s) ?_, fun s i hfold hnow => congrArg (fin s) ?_,
    fun s tk t ht hn hl hp hone hten hlen hok hsess => congrArg (fin s) ?_, fun s tk t ht hn hl => congrArg (fin s) ?_,
    fun s tk t ht hn hl hone hst hen => congrArg (fin s) ?_, fun s tk t ht hn hl => congrArg (fin s) ?_,
    fun s tk t ht => congrArg (fin s) ?_, fun s tk t ht => congrArg (fin s) ?_⟩
  · simp [hp, hmode, Nat.not_lt.2 hpw, Nat.not_lt.2 hnow, hd]
  · cases howner : ownerLane p.owner <;> by_cases hbit : bit p.flags 0 = true <;>
      simp [hp, hmode, Nat.not_lt.2 hpw, Nat.not_lt.2 hnow, Nat.not_lt.2 hd, hlevel, hon, hfault, howner, hbit, hi]
  · simp [Nat.not_lt.2 (Nat.le_of_lt_succ hi)]
  · rcases hk with rfl | rfl <;> simp [Nat.not_lt.2 (Nat.le_of_lt_succ hi), hp, hmode]
  · rw [if_neg (by simpa [hfault] using Nat.le_of_lt_succ hi)]
    refine foldl_keeps (fun t : State => (t.pls i).fault = 0) _ _ _ ?_ fun t ht n _ => ?_
    · rw [State.pls_of_mt (s := s.onPls i fun x => { x with fault := 0 }), State.pls_onPls _ _ hlen]
      split
      · split <;> rfl
      · rfl
    · rw [State.pls_of_mt i (State.settleMeter_mt ..), State.pls_of_mt i (State.settleDie_mt ..), apply_ite (State.pls · i),
        State.pls_of_onEn, ite_self, ht]
  · simp [hfold]
  · simp [hfold, hnow]
  · rw [State.onTicket_of_some _ ht, State.measureReq_of_ok _ _ hn hl]
    have hempty : t.coeffs.isEmpty = false := by simpa [← List.length_eq_zero_iff] using Nat.ne_of_gt hone
    refine (if_neg (by simp [hp])).trans ((if_neg ?_).trans (if_neg (by simp [hsess])))
    simp only [Bool.or_eq_true, not_or, Bool.not_eq_true]
    exact ⟨⟨⟨hempty, by simp [hten]⟩, by simp [hlen]⟩, hok⟩
  · rw [State.onTicket_of_some _ ht, State.measureReq_of_ok _ _ hn hl]
  · rw [State.onTicket_of_some _ ht, State.measureReq_of_ok _ _ hn hl]
    simp [hone, hst, hen]
  · rw [State.onTicket_of_some _ ht, State.measureReq_of_ok _ _ hn hl]
  · rw [State.onTicket_of_some _ ht]
  · rw [State.onTicket_of_some _ ht]

end Sys2Proof.Machine
end

section
/-! PROOFS. Time.lean: TIME and its replicas, the anchor pairs of legal time (R17-R19) and the faults of the shared dies (R13). -/
namespace Sys2Proof.Machine


/-- R17: a tick adds 20 + 265/768 ns, which is 15625/768 ns. -/
theorem State.tick_clock {s : State} (hpw : s.pw.state ≤ 2) (hfrac : s.clock.frac < 768) :
    768 * s.tick.clock.time + s.tick.clock.frac = 768 * s.clock.time + s.clock.frac + 15625 ∧ s.tick.clock.frac < 768 := by
  simp only [State.tick, hpw, if_true]
  split <;> simp only <;> omega

/-- R17: TIME stands in DORMANT and OFF. -/
theorem State.tick_of_deep {s : State} (h : 2 < s.pw.state) : s.tick = s := by
  rw [State.tick, if_neg (Nat.not_le.2 h)]

theorem State.dieFails_of_bad {s : State} {d : Nat} (h : s.dieBad d = true) : s.dieFails d = s := by
  rw [State.dieFails, if_pos h]

/-- Settles O9. -/
theorem timeAndSharedDies : Obligations.TimeAndSharedDies := by
  unfold Obligations.TimeAndSharedDies
  refine ⟨fun _ => State.tick_clock, fun _ => State.tick_of_deep, fun s h => congrArg (fin s) (if_pos h), fun s d h => ⟨_, rfl, ?_⟩,
    fun s d hd => congrArg (fin s) ?_, fun _ => rfl, fun s d hlo hhi => congrArg (fin s) ?_, fun _ _ => State.dieFails_of_bad⟩
  · rw [if_pos h]
    refine ⟨rfl, rfl, rfl, fun hosc => ?_, rfl⟩
    simp [hosc]
  · obtain ⟨hlo, hhi, height, hswitch⟩ : ¬ d ≤ 1 ∧ ¬ 13 < d ∧ d ≠ 8 ∧ ¬ (9 ≤ d ∧ d ≤ 12) := by omega
    simp [hlo, hhi, height, hswitch]
  · obtain ⟨hone, hthirteen, height⟩ : ¬ d ≤ 1 ∧ ¬ 13 < d ∧ d ≠ 8 := by omega
    simp [hone, hthirteen, height, hlo, hhi]

end Sys2Proof.Machine
end

section
/-! PROOFS. Energy.lean: the mirror and the commit of the energy registers (R230, R231), tamper conditions (R234-R237), session records (R242) and
the power-fail ball (R238). -/
namespace Sys2Proof.Machine


theorem State.onEn_lane_length (s : State) (n : Nat) (f : EnSet → EnSet) : (s.onEn false n f).en.lanes.length = s.en.lanes.length := by
  simp [State.onEn]

theorem State.enr_onEn_lane {s : State} {n : Nat} (f : EnSet → EnSet) (h : n < s.en.lanes.length) :
    (s.onEn false n f).enr false n = f (s.enr false n) := getD_modify_self _ _ _ h

/-- R236, R237: a condition of a lane sets its tamper bit, and what `f` then changes is changed besides. -/
theorem State.enr_setTamper_onEn {s : State} {n : Nat} (b : Nat) (f : EnSet → EnSet) (h : n < s.en.lanes.length) :
    ((s.setTamper false n b).onEn false n f).enr false n =
      f { s.enr false n with tamper := setBit (s.enr false n).tamper b true,
                             sess := (s.enr false n).sess.map fun x => { x with tamper := setBit x.tamper b true } } := by
  rw [State.enr_onEn_lane _ (by rwa [State.setTamper, State.onEn_lane_length]), State.setTamper, State.enr_onEn_lane _ h]

@[simp] theorem State.enr_raise (s : State) (e : Ev) (b : Bool) (n : Nat) : (s.raise e).enr b n = s.enr b n := rfl
@[simp] theorem State.enr_drawn (s : State) (b : Bool) (n : Nat) : s.drawn.enr b n = s.enr b n := rfl
@[simp] theorem State.enr_evLane (s : State) (c : EvClass) (m k : Nat) (d : Bytes) (g : Nat) (b : Bool) (n : Nat) :
    (s.evLane c m k d g).enr b n = s.enr b n := rfl

/-- R379: a signature leaves the registers. -/
@[simp] theorem State.signed_en (s : State) (k : Nat) : (s.signed k).en = s.en := by
  rw [State.signed]
  split <;> rfl

theorem bit_setBit_self (n i : Nat) : bit (setBit n i true) i = true := by
  rw [bit_setBit, if_pos rfl]

/-- Settles O30. -/
theorem registersAreMirroredAndCommitted : Obligations.RegistersAreMirroredAndCommitted := by
  unfold Obligations.RegistersAreMirroredAndCommitted
  refine ⟨fun s htwin => congrArg (fin s) (if_pos htwin), fun s hwarn hphase hcopy => ⟨_, rfl, ?_⟩, fun s hwarn hphase hcopy => ⟨_, rfl, ?_⟩,
    fun s n hn hlane hbidir hfresh hheld => ⟨_, rfl, ?_⟩, fun s n mis larger hn hby => ⟨_, rfl, ?_⟩, fun s n mis larger hby => congrArg (fin s) ?_,
    fun s n vn vp hac hvn hvp => congrArg (fin s) ?_, fun s hpw hcover => congrArg (fin s) ?_, fun s hlo hhi hcover => congrArg (fin s) ?_,
    fun s hpw hcover => congrArg (fin s) ?_, fun s x rest hclosing hseq hdie => ⟨_, rfl, ?_⟩, fun s hpw hpfw => congrArg (fin s) ?_,
    fun s hpw hpfw => congrArg (fin s) ?_, fun s e hwarn hnow => congrArg (fin s) ?_, fun s e hclear hstop hnow => congrArg (fin s) ?_⟩
  · simp [hwarn, hphase, State.commitCopy, hcopy]
  · simp [hwarn, hphase, State.commitCopy, hcopy]
  · simp [hlane, hbidir, hfresh, hheld, State.enr_setTamper_onEn, hn, bit_setBit_self]
  · simp [hby, State.enr_setTamper_onEn, hn, bit_setBit_self]
  · simp [hby]
  · simp [hac, hvn, hvp]
  · simp [hpw, hcover]
  · simp [hcover, show s.pw.state ≠ 4 by omega, show s.pw.state ≠ 0 by omega]
  · exact (if_neg (by simp [hcover])).trans (if_pos hpw)
  · simp [hclosing, hseq, hdie, recordSlots]
  · simp [hpw, hpfw]
  · simp [hpw, hpfw]
  · simp [hwarn, hnow]
  · simp [hclear, hstop, hnow]

end Sys2Proof.Machine
end

section
/-! PROOFS. Frames.lean: the parts of the module that an operation leaves as they were: the state with some parts taken out, and what the shared
operations do to it. -/
namespace Sys2Proof.Machine


/-- Names parts of the state. The sequencer, the monitors and what is asked of the sequencer change with every command, and have no entry. -/
structure Parts where
  clock : Bool := false
  host : Bool := false
  lanes : Bool := false
  hs : Bool := false
  pp : Bool := false
  ps : Bool := false
  ef : Bool := false
  mt : Bool := false
  en : Bool := false
  sf : Bool := false
  po : Bool := false
  rd : Bool := false
  bl : Bool := false
  ac : Bool := false
  cosem : Bool := false
  kv : Bool := false
  kz : Bool := false
  tg : Bool := false
  ds : Bool := false
  mm : Bool := false
  pw : Bool := false
  up : Bool := false
  rs : Bool := false
  draws : Bool := false

/-- The state with the parts named by `m` taken out. -/
def State.without (s : State) (m : Parts) : State :=
  { s with
    clock := cond m.clock {} s.clock
    host := cond m.host {} s.host
    lanes := cond m.lanes [] s.lanes
    hs := cond m.hs {} s.hs
    pp := cond m.pp {} s.pp
    ps := cond m.ps {} s.ps
    ef := cond m.ef {} s.ef
    mt := cond m.mt {} s.mt
    en := cond m.en {} s.en
    sf := cond m.sf {} s.sf
    po := cond m.po {} s.po
    rd := cond m.rd {} s.rd
    bl := cond m.bl {} s.bl
    ac := cond m.ac {} s.ac
    cosem := cond m.cosem {} s.cosem
    kv := cond m.kv {} s.kv
    kz := cond m.kz {} s.kz
    tg := cond m.tg {} s.tg
    ds := cond m.ds {} s.ds
    mm := cond m.mm {} s.mm
    pw := cond m.pw {} s.pw
    up := cond m.up {} s.up
    rs := cond m.rs {} s.rs
    draws := cond m.draws 0 s.draws
    seqr := {}, mon := {}, emits := [], pending := [] }

/-- The state with the parts named by `m`, the sequencer and the monitors taken from `u`, and nothing asked of the sequencer. -/
def State.but (s : State) (m : Parts) (u : State) : State :=
  { s with
    clock := cond m.clock u.clock s.clock
    host := cond m.host u.host s.host
    lanes := cond m.lanes u.lanes s.lanes
    hs := cond m.hs u.hs s.hs
    pp := cond m.pp u.pp s.pp
    ps := cond m.ps u.ps s.ps
    ef := cond m.ef u.ef s.ef
    mt := cond m.mt u.mt s.mt
    en := cond m.en u.en s.en
    sf := cond m.sf u.sf s.sf
    po := cond m.po u.po s.po
    rd := cond m.rd u.rd s.rd
    bl := cond m.bl u.bl s.bl
    ac := cond m.ac u.ac s.ac
    cosem := cond m.cosem u.cosem s.cosem
    kv := cond m.kv u.kv s.kv
    kz := cond m.kz u.kz s.kz
    tg := cond m.tg u.tg s.tg
    ds := cond m.ds u.ds s.ds
    mm := cond m.mm u.mm s.mm
    pw := cond m.pw u.pw s.pw
    up := cond m.up u.up s.up
    rs := cond m.rs u.rs s.rs
    draws := cond m.draws u.draws s.draws
    seqr := u.seqr, mon := u.mon, emits := [] }

theorem eq_cond_of_cond_eq {α : Type} {b : Bool} {d x y : α} (h : cond b d x = cond b d y) : x = cond b x y := by
  cases b
  · exact h
  · rfl

/-- A command that leaves the parts outside `m` answers with a state that differs in `m`, the sequencer and the monitors alone. -/
theorem State.eq_but_of_without (m : Parts) {c : Instr} {s t u : State} (hexec : exec c s = .next u) (hfin : exec c s = fin s t)
    (h : t.without m = s.without m) : u = s.but m u := by
  obtain rfl : s.after t = u := by
    rw [hfin] at hexec
    injection hexec
  simp only [State.without, State.mk.injEq] at h
  simp only [State.but, State.after, State.mk.injEq]
  obtain ⟨hident, hclock, -, hhost, hmx, hlanes, hhs, hpp, hps, hef, hmt, hen, hsf, hpo, hrd, hbl, hac, hcosem, hkv, hkz, htg, hds, hmm, hpw, hup, -, hrs, -, hdraws, -⟩ := h
  exact ⟨hident, eq_cond_of_cond_eq hclock, trivial, eq_cond_of_cond_eq hhost, hmx, eq_cond_of_cond_eq hlanes, eq_cond_of_cond_eq hhs, eq_cond_of_cond_eq hpp, eq_cond_of_cond_eq hps, eq_cond_of_cond_eq hef, eq_cond_of_cond_eq hmt, eq_cond_of_cond_eq hen, eq_cond_of_cond_eq hsf, eq_cond_of_cond_eq hpo, eq_cond_of_cond_eq hrd, eq_cond_of_cond_eq hbl, eq_cond_of_cond_eq hac, eq_cond_of_cond_eq hcosem, eq_cond_of_cond_eq hkv, eq_cond_of_cond_eq hkz, eq_cond_of_cond_eq htg, eq_cond_of_cond_eq hds, eq_cond_of_cond_eq hmm, eq_cond_of_cond_eq hpw, eq_cond_of_cond_eq hup, trivial, eq_cond_of_cond_eq hrs, trivial, eq_cond_of_cond_eq hdraws, trivial⟩

/-! ### The shared operations -/

section
variable {m : Parts} {s u : State}

/-- R57: what is done to a host port leaves the parts outside the host sessions. -/
theorem State.onPort_without (hm : m.host = true) (p : Nat) (f : Port → Port) : (s.onPort p f).without m = s.without m := by
  simp only [State.without, State.onPort, hm, cond_true]

theorem State.onSess_without (hm : m.host = true) (p : Nat) (f : Session → Session) : (s.onSess p f).without m = s.without m := by
  rw [State.onSess]
  split
  · exact State.onPort_without hm ..
  · simp only [State.without, hm, cond_true]

theorem State.sendFrame_without (hm : m.host = true) (p typ : Nat) (b : Bytes) : (s.sendFrame p typ b).without m = s.without m := by
  rw [State.sendFrame]
  split
  · rw [State.onSess_without hm, State.onPort_without hm]
  · rfl

/-- R71: a completion leaves the parts outside the host sessions. -/
theorem State.complete_without (hm : m.host = true) (t : Ticket) (st : Nat) (b : Bytes) (h : u.without m = s.without m) :
    (u.complete t st b).without m = s.without m := by
  rw [State.complete]
  have hends : ((u.direct (u.reqCompleted t st)).onSess (ticketPort t.id) fun c => c.ends t.id st).without m = s.without m :=
    (State.onSess_without hm ..).trans h
  split
  · exact foldl_keeps (fun v : State => v.without m = _) _ _ _ hends fun v hv x _ => (State.sendFrame_without hm ..).trans hv
  · exact hends

/-- A request leaves what it leaves for every ticket. -/
theorem State.onTicket_without {tk op : Nat} {f : Ticket → State} (h : ∀ t, (f t).without m = s.without m) :
    (s.onTicket tk op f).without m = s.without m := by
  rw [State.onTicket]
  split
  · exact h _
  · rfl

end

/-! ### One part of a state that is left -/

theorem State.kv_of_without {m : Parts} {s u : State} (h : u.without m = s.without m) (hm : m.kv = false) : u.kv = s.kv := by
  have hkv := congrArg State.kv h
  simpa only [State.without, hm, cond_false] using hkv

theorem State.clock_of_without {m : Parts} {s u : State} (h : u.without m = s.without m) (hm : m.clock = false) : u.clock = s.clock := by
  have hclock := congrArg State.clock h
  simpa only [State.without, hm, cond_false] using hclock

theorem State.pw_of_without {m : Parts} {s u : State} (h : u.without m = s.without m) (hm : m.pw = false) : u.pw = s.pw := by
  have hpw := congrArg State.pw h
  simpa only [State.without, hm, cond_false] using hpw

theorem State.host_of_without {m : Parts} {s u : State} (h : u.without m = s.without m) (hm : m.host = false) : u.host = s.host := by
  have hhost := congrArg State.host h
  simpa only [State.without, hm, cond_false] using hhost

end Sys2Proof.Machine
end

section
/-! PROOFS. Vault.lean: the requests about the nodes, objects, certificates, anchors and the root of the key vault (R376-R388), and its random
source (R380, R386). -/
namespace Sys2Proof.Machine


/-- R388: a request about a used node in the role the node needs acts on that node. -/
theorem State.vaultReq_of_some {s : State} {t : Ticket} {x : KvNode} (f : KvNode → State) (hx : s.kvNode (t.u 0 2) = some x)
    (hrole : t.vaultRole x.plate = true) : s.vaultReq t f = f x := by
  rw [State.vaultReq, hx]
  exact if_pos hrole

/-- R378: an operation on a node that is not ORPHANED is done. -/
theorem State.keyed_of_not_orphan {s : State} {t : Ticket} {n : Nat} (f : State) (h : s.isOrphan n = false) : s.keyed t n f = f := by
  rw [State.keyed, h]
  rfl

/-- R378, R390: one on a node that is ORPHANED is refused and counted. -/
theorem State.keyed_of_orphan {s : State} {t : Ticket} {n : Nat} (f : State) (h : s.isOrphan n = true) :
    s.keyed t n f = s.orphanRefused.complete t St.orphaned := by
  rw [State.keyed, if_pos h]

theorem satU_succ_sixteen (n : Nat) : satU 16 (n + 1) = if n < 65535 then n + 1 else 65535 := by
  simp only [satU]
  split <;> omega

/-- R379: a signature under a node that is not ORPHANED counts and draws from the DRBG. -/
theorem State.signed_of_not_orphan {s : State} {n : Nat} (h : s.isOrphan n = false) :
    s.signed n = ({ s with kv := { s.kv with signatures := (s.kv.signatures + 1) % 2 ^ 32 } } : State).drawn := by
  rw [State.signed, h]
  rfl

theorem State.signature_of_not_orphan {s : State} {n : Nat} (digest : Bytes) (h : s.isOrphan n = false) :
    s.signature n digest = some (P256.sign (s.nodeScalar n) digest (if s.kv.rngFail then [] else s.freeBytes 32)) := by
  rw [State.signature, h]
  rfl

theorem satU_add_b2n {n : Nat} (h : n < 65535) (b : Bool) : satU 16 (n + b2n b) = n + (if b then 1 else 0) := by
  cases b <;> simp [satU, b2n] <;> omega

/-- Settles O45. -/
theorem vaultNodesAndObjects : Obligations.VaultNodesAndObjects := by
  unfold Obligations.VaultNodesAndObjects
  refine ⟨fun s tk t p x n ht hp hrole husage hdepth hkind hflags hlen hlabel hfresh hrng hfree hx => congrArg (fin s) ?_,
    fun s tk t x ht hroot hx hrole => congrArg (fin s) ?_, fun s tk t x p ht hx hrole hp horphan hparent => congrArg (fin s) ?_,
    fun s tk t x ht hfixed hx hrole hchild => congrArg (fin s) ?_, fun s tk t x ht hx horphan => congrArg (fin s) ?_,
    fun s tk t x ht hx horphan husage => congrArg (fin s) ?_, fun s tk t x k ht hx hrole husage hlen horphan hobj hfree => congrArg (fin s) ?_,
    fun s tk t x k ht hx hrole husage hlen horphan hobj => congrArg (fin s) ?_,
    fun s tk t x ht hx hplate husage hhost hlen horphan => congrArg (fin s) ?_, fun s tk t x ht hx hcert => congrArg (fin s) ?_⟩
  all_goals rw [State.onTicket_of_some _ ht]
  · subst hx
    obtain ⟨hlow, hhigh⟩ := hlen
    have hplate : bit 4 1 = false := rfl
    have hpos : t.u 4 1 ≠ 0 := by omega
    simp only [hp, hflags, hplate, Bool.or_false, hrole, husage, hfresh, hlabel, hrng, hfree]
    simp [Nat.not_le.2 hdepth, Nat.not_lt.2 hkind, Nat.not_lt.2 hhigh, hpos]
    rfl
  · rw [if_neg hroot, State.vaultReq_of_some _ hx hrole]
    rfl
  · rw [State.vaultReq_of_some _ hx hrole]
    simp only [hp, horphan, hparent]
    rfl
  · rw [if_neg (Nat.not_le.2 hfixed), State.vaultReq_of_some _ hx hrole, hchild]
    rfl
  · simp only [hx, State.keyed_of_not_orphan _ horphan]
    simp only [Bool.or_eq_true, decide_eq_true_eq, apply_ite (fun b => s.complete t St.ok b)]
  · simp only [hx, State.keyed_of_orphan _ horphan, State.orphanRefused, satU_succ_sixteen]
    exact if_pos (by simpa using husage)
  · rw [State.vaultReq_of_some _ hx hrole, State.keyed_of_not_orphan _ horphan]
    simp [husage, hobj, hfree, List.ne_nil_of_length_pos hlen.1, Nat.not_lt.2 hlen.2]
    rfl
  · rw [State.vaultReq_of_some _ hx hrole, State.keyed_of_not_orphan _ horphan]
    simp [husage, hobj, List.ne_nil_of_length_pos hlen.1, Nat.not_lt.2 hlen.2]
    rfl
  · simp [hx, hplate, husage, hlen, hhost, State.keyed_of_not_orphan _ horphan, State.signed_of_not_orphan horphan,
      State.signature_of_not_orphan _ horphan]
  · simp [hx, hcert]

/-! ### Certificates, anchors and the root (R383-R385) -/

/-- A completion leaves the vault. -/
@[simp] theorem State.complete_kv (s : State) (t : Ticket) (st : Nat) (b : Bytes) : (s.complete t st b).kv = s.kv :=
  State.kv_of_without (m := { host := true }) (State.complete_without rfl t st b rfl) rfl

@[simp] theorem State.kvNode_complete (s : State) (t : Ticket) (st : Nat) (b : Bytes) (k : Nat) : (s.complete t st b).kvNode k = s.kvNode k := by
  rw [State.kvNode, State.complete_kv, State.kvNode]

theorem State.anchor_complete (s : State) (t : Ticket) (st : Nat) (b : Bytes) (k : Nat) : (s.complete t st b).anchor k = s.anchor k := by
  rw [State.anchor, State.complete_kv, State.anchor]

theorem find?_filter_of_imp {α : Type} {p q : α → Bool} (l : List α) (h : ∀ x, q x = true → p x = true) : (l.filter p).find? q = l.find? q := by
  rw [List.find?_filter]
  congr 1
  funext x
  by_cases hq : q x = true <;> simp [hq, h x]

theorem find?_filter_of_disjoint {α : Type} {p q : α → Bool} (l : List α) (h : ∀ x, q x = true → p x = false) : (l.filter p).find? q = none := by
  rw [List.find?_eq_none]
  intro x hx hq
  exact Bool.false_ne_true ((h x hq).symm.trans (List.mem_filter.1 hx).2)

/-- R385: the slot an anchor key is written to holds it, and every other slot what it held. -/
theorem State.anchor_setAnchor {s : State} {slot : Nat} {key : Bytes} (hkey : key.all (· == 0) = false) (k : Nat) :
    (s.setAnchor slot key).anchor k = if k = slot then some key else s.anchor k := by
  simp only [State.setAnchor, State.anchor, hkey, Bool.false_eq_true, if_false, List.find?_append, List.filter_filter]
  rcases Nat.lt_trichotomy k slot with hlt | rfl | hgt
  · rw [find?_filter_of_imp _ (by simp; omega), find?_filter_of_disjoint _ (by simp; omega)]
    simp [hlt.ne, hlt.ne']
  · rw [find?_filter_of_disjoint _ (by simp), find?_filter_of_disjoint _ (by simp)]
    simp
  · rw [find?_filter_of_disjoint _ (by simp; omega), find?_filter_of_imp _ (by simp; omega)]
    simp [hgt.ne, hgt.ne']

/-- A change of a node that keeps its number is a change of that record alone. -/
theorem State.kvNode_onNode {s : State} {n : Nat} {f : KvNode → KvNode} (hf : ∀ x, (f x).node = x.node) (k : Nat) :
    (s.onNode n f).kvNode k = if k = n then (s.kvNode k).map f else s.kvNode k := by
  have hnode : (fun x : KvNode => x.node == k) ∘ (fun x => if x.node == n then f x else x) = fun x => x.node == k := by
    funext x
    simp only [Function.comp]
    split <;> simp [hf]
  simp only [State.kvNode, State.onNode, List.find?_map, hnode]
  cases hfind : s.kv.nodes.find? fun x => x.node == k with
  | none => simp
  | some x =>
    have hx : x.node = k := by simpa using List.find?_some hfind
    by_cases hk : k = n <;> simp [hx, hk]

/-- R383: a retired root has a new generation and takes node 1 with it; every other node keeps its record. -/
theorem State.kvNode_retireRoot {s : State} {x : KvNode} (hx : s.kvNode 0 = some x) (k : Nat) :
    s.retireRoot.kvNode k = if k = 1 then (s.kvNode 1).map fun y => { y with parentGen := nextGen x.gen, gen := nextGen y.gen, certStale := y.cert }
      else if k = 0 then some { x with gen := nextGen x.gen } else s.kvNode k := by
  have hroot : ∀ u v : State, v.kv = u.kv → v.kvNode k = u.kvNode k := fun u v h => by rw [State.kvNode, State.kvNode, h]
  rw [State.retireRoot, hx]
  refine (hroot ((({ s with kv := { s.kv with rootEpoch := s.kv.rootEpoch + 1, retire := none } } : State).onNode 0 fun x =>
    { x with gen := nextGen _ }).renewNode 1 (nextGen x.gen)) _ rfl).trans ?_
  have hkv : ({ s with kv := { s.kv with rootEpoch := s.kv.rootEpoch + 1, retire := none } } : State).kvNode k = s.kvNode k := rfl
  rw [State.renewNode, State.kvNode_onNode (by simp), State.kvNode_onNode (by simp), hkv]
  by_cases hone : k = 1
  · simp [hone, State.kvNode]
  · by_cases hzero : k = 0
    · simp [hzero, hx]
    · simp [hone, hzero]

theorem State.retireRoot_kv_of_some {s : State} {x : KvNode} (hx : s.kvNode 0 = some x) :
    s.retireRoot.kv.retire = none ∧ s.retireRoot.kv.rootEpoch = s.kv.rootEpoch + 1 := by
  rw [State.retireRoot, hx]
  exact ⟨rfl, rfl⟩

/-- Settles O46. -/
theorem certificatesAnchorsRootAndRandom : Obligations.CertificatesAnchorsRootAndRandom := by
  unfold Obligations.CertificatesAnchorsRootAndRandom
  refine ⟨fun s tk t x ht hx hrole hlen husage horphan => congrArg (fin s) ?_,
    fun s tk t x ht hx hrole hlen husage horphan hone => congrArg (fin s) ?_,
    fun s tk t x ht hx hrole husage hlen horphan hleaf => congrArg (fin s) ?_,
    fun s tk t ht hlt htwo hrole hlen hzero => congrArg (fin s) ?_, fun s tk t ht hlt htwo hrole hlen hkey hcurve => ⟨_, rfl, ?_⟩,
    fun s tk t ht hrng hretire => congrArg (fin s) ?_, fun s tk t r e x ht hrng hretire hrole hnow hx => ⟨_, rfl, ?_⟩,
    fun s r e hretire hnow => congrArg (fin s) ?_, fun s hrng => congrArg (fin s) (if_neg (by simp [hrng])),
    fun s hrng => ⟨congrArg (fin s) (if_pos hrng), fun _ => congrArg (fin s) (if_pos hrng)⟩, fun s late hrng hlate => congrArg (fin s) ?_,
    fun s k hrng => congrArg (fin s) ?_, fun s k hrng hok => congrArg (fin s) ?_, fun s k hrng hok => congrArg (fin s) ?_⟩
  · rw [State.onTicket_of_some _ ht, State.vaultReq_of_some _ hx hrole, State.keyed_of_not_orphan _ horphan]
    simp [husage, Nat.not_lt.2 hlen, State.keyed_of_not_orphan _ horphan]
  · rw [State.onTicket_of_some _ ht, State.vaultReq_of_some _ hx hrole, State.keyed_of_not_orphan _ horphan]
    simp [husage, Nat.not_lt.2 hlen, State.keyed_of_not_orphan _ hone]
  · rw [State.onTicket_of_some _ ht, State.vaultReq_of_some _ hx hrole, State.keyed_of_not_orphan _ horphan, if_pos hleaf]
    rcases husage with husage | husage <;> simp [husage, Nat.not_lt.2 hlen]
  · rw [State.onTicket_of_some _ ht]
    refine (if_neg htwo).trans ((if_neg (by simp [hlt, hlen])).trans ((if_neg (by simp [hrole])).trans ((if_neg (by simp only [hzero]; simp)).trans ?_)))
    rw [if_neg (by simp [hrole]), State.setAnchor, hzero]
    rfl
  · rw [State.onTicket_of_some _ ht, if_neg htwo, if_neg (by simp [hlt, hlen]), if_neg (by simp [hrole]), if_neg (by simp [hcurve])]
    exact ⟨(State.anchor_complete ..).trans ((State.anchor_setAnchor hkey _).trans (if_pos rfl)),
      fun k hk => (State.anchor_complete ..).trans ((State.anchor_setAnchor hkey k).trans (if_neg hk))⟩
  · rw [State.onTicket_of_some _ ht]
    simp [hrng, hretire, State.evKv]
  · rw [State.onTicket_of_some _ ht]
    have hsecond : (r != t.role && decide (s.now ≤ e)) = true := by simp [hrole, hnow]
    simp only [hrng, hretire, hsecond, Bool.false_eq_true, if_false, if_true, State.complete_kv, State.kvNode_complete, State.kvNode_retireRoot hx]
    obtain ⟨hnone, hepoch⟩ := State.retireRoot_kv_of_some hx
    refine ⟨hnone, hepoch, rfl, fun y hy => by simp [hy, nextGen], fun k hk => ?_⟩
    rw [if_neg (by omega), if_neg (by omega)]
  · simp [hretire, hnow]
  · simp only [hrng, Bool.false_eq_true, if_false]
    rw [satU_add_b2n hlate]
  · simp [hrng, State.evRng]
  · simp [hrng, hok, State.evRng]
  · simp [hrng, hok]

end Sys2Proof.Machine
end

section
/-! PROOFS. Kryuz.lean: the frames of the Kryuz link, their acknowledgements and retries (R395-R398, R406, R407), the zero crossings (R391) and the load
of the line (R409). -/
namespace Sys2Proof.Machine


theorem satU_of_le {w n : Nat} (h : n ≤ 2 ^ w - 1) : satU w n = n := Nat.min_eq_left h

/-! ### Frames received (R395, R407) -/

/-- R407: after a frame of it a sender's record carries the frame's COUNTER and address, and at most eight SNRs. -/
theorem State.kzPairOf_kzHeard {s : State} {f : KzFrame} {x : KzPair} (h : (s.kzHeard f).kzPairOf f.eui = some x) :
    x.counter = f.counter ∧ x.addr = f.src ∧ x.snrs.length ≤ 8 := by
  have hold : (s.kz.pairs.filter fun y => y.eui != f.eui && (y.addr != f.src || f.src == 0)).find? (fun y => y.eui == f.eui) = none :=
    find?_filter_of_disjoint _ (by simp +contextual)
  simp only [State.kzPairOf, State.kzHeard, List.find?_append, hold, Option.none_or, List.find?_singleton] at h
  split at h
  · obtain rfl := Option.some.inj h
    refine ⟨rfl, rfl, ?_⟩
    rw [List.length_drop, List.length_append, List.length_singleton]
    omega
  · cases h

/-- R395, R396, R407: a frame that is good, new, for this node and expected is accepted and counted. -/
theorem State.kzReceive_of_good {s : State} {f : KzFrame} (hon : s.kzOn = true) (hhdr : f.hdrOk = true)
    (herased : 4 * f.erased ≤ kzSymbols f.mode (kzLen f.body)) (htag : s.kz.keyEn = true → f.tagOk = true)
    (hnew : ∀ x, s.kzPairOf f.eui = some x → x.counter < f.counter) (hdest : f.dest = 0xFFFF ∨ f.dest = s.kz.address) :
    s.kzReceive f true = (.accepted, { s.kzHeard f with kz := { (s.kzHeard f).kz with rxOk := satU 32 (s.kz.rxOk + 1) } }) := by
  have hcounter : (match s.kzPairOf f.eui with | some x => decide (f.counter ≤ x.counter) | none => false) = false := by
    cases hx : s.kzPairOf f.eui with
    | none => rfl
    | some x => simp [hnew x hx]
  have hbad : (s.kz.keyEn && !f.tagOk) = false := by
    cases hkey : s.kz.keyEn with
    | false => rfl
    | true => simp [htag hkey]
  have hother : (f.dest != 0xFFFF && f.dest != (s.kzHeard f).kz.address) = false := by
    rcases hdest with hdest | hdest <;> simp [hdest, State.kzHeard]
  rw [State.kzReceive, if_neg (by simp [hon]), if_neg (by simp [hhdr]), if_neg (Nat.not_lt.2 herased), if_neg (by simp [hbad])]
  exact (if_neg (ne_true_of_eq_false hcounter)).trans (if_neg (ne_true_of_eq_false hother))

/-! ### Zero crossings (R391) -/

theorem le_foldl_max {l : List Nat} {x : Nat} (a : Nat) (h : x ∈ l ∨ x ≤ a) : x ≤ l.foldl max a := by
  induction l generalizing a with
  | nil => simpa using h
  | cons y l ih =>
    rcases h with h | h
    · rcases List.mem_cons.1 h with rfl | h
      · exact ih _ (.inr (Nat.le_max_right ..))
      · exact ih _ (.inl h)
    · exact ih _ (.inr (le_max_of_le_left h))

theorem foldl_min_le {l : List Nat} {x : Nat} (a : Nat) (h : x ∈ l ∨ a ≤ x) : l.foldl min a ≤ x := by
  induction l generalizing a with
  | nil => simpa using h
  | cons y l ih =>
    rcases h with h | h
    · rcases List.mem_cons.1 h with rfl | h
      · exact ih _ (.inr (Nat.min_le_right ..))
      · exact ih _ (.inl h)
    · exact ih _ (.inr (min_le_of_left_le h))

/-- R391: no two of some periods lie further apart than the longest and the shortest of them. -/
theorem sub_le_foldl {l : List Nat} {x y : Nat} (hx : x ∈ l) (hy : y ∈ l) : x - y ≤ l.foldl max 0 - l.foldl min (l.foldl max 0) :=
  tsub_le_tsub (le_foldl_max 0 (.inl hx)) (foldl_min_le _ (.inl hy))

theorem getLast?_drop_append_singleton {l : List Nat} {x k : Nat} (h : k ≤ l.length) : ((l ++ [x]).drop k).getLast? = some x := by
  rw [List.drop_append_of_le_length h, List.getLast?_append]
  rfl

/-- Settles O47. -/
theorem kryuzFramesAndAcknowledgements : Obligations.KryuzFramesAndAcknowledgements := by
  unfold Obligations.KryuzFramesAndAcknowledgements
  refine ⟨fun s f hon hhdr herased htag hnew hdest => ⟨_, State.kzReceive_of_good hon hhdr herased htag hnew hdest, rfl, rfl, fun x => State.kzPairOf_kzHeard⟩,
    fun s f b x hon hhdr herased htag hx hold => ?_, fun s fsn x hx hon hend hnow hbind => congrArg (fin s) ?_,
    fun s fsn x hx hon hwake hend hatt => congrArg (fin s) ?_, fun s fsn x hx hon hwake hend hatt => ⟨_, rfl, ?_⟩,
    fun s fsn e x hx hon hwake he => ⟨_, rfl, ?_⟩, fun s x hpres hon hmaster hjoined hx => congrArg (fin s) ?_,
    fun s a ha hlen => ⟨_, rfl, ?_⟩, fun s ha => ⟨_, rfl, ?_⟩, fun s busy own hbusy hload => congrArg (fin s) ?_,
    fun s busy own hbusy hown hload => congrArg (fin s) ?_, fun s busy own hlow hhigh hown => congrArg (fin s) ?_,
    fun s tk t ht => congrArg (fin s) ?_, fun s tk t ht hon => congrArg (fin s) ?_, fun s tk t ht => congrArg (fin s) ?_⟩
  · simp [State.kzReceive, hon, hhdr, Nat.not_lt.2 herased, htag, hx, hold]
  · simp only [hx, hon, hend, hnow, kzAckWait, decide_true, Bool.and_self, if_true, State.peerBound, hbind]
    rfl
  · simp [hx, hon, hwake, Nat.not_lt.2 hend, kzAckWait, hatt, satU_succ_sixteen, Nat.succ_lt_succ_iff]
  · simp only [hx, hon, hwake, kzAckWait, if_neg (Nat.not_lt.2 hend), if_neg (Nat.ne_of_lt hatt), Bool.not_true, Bool.false_eq_true, if_false]
    by_cases hfails : x.failsIn = 1 <;> simp [hfails, State.kzRetry, State.kzTransmit]
  · simp only [hx, hon, hwake, if_pos he, Bool.not_true, Bool.false_eq_true, if_false, State.kzRetry, State.kzTransmit, List.length_append, List.length_singleton, true_and,
      List.mem_map]
    rintro y ⟨z, hz, rfl⟩ -
    split
    · exact .inl rfl
    · exact .inr hz
  · simp [hpres, hon, State.presenceSend, hmaster, hjoined, hx]
  · have hlast : ((s.kz.zcPers ++ [s.now - a]).drop (s.kz.zcPers.length - 9)).getLast? = some (s.now - a) :=
      getLast?_drop_append_singleton (by omega)
    simp only [ha, hlast, Option.getD_some, Bool.and_eq_true, decide_eq_true_eq, List.length_drop, List.length_append, List.length_singleton]
    refine ⟨trivial, trivial, by omega, fun ⟨⟨⟨_, hlow⟩, hhigh⟩, hspread⟩ => ⟨hlow, hhigh, fun x hx y hy => ?_⟩⟩
    exact (Nat.mul_le_mul_right 100 (sub_le_foldl hx hy)).trans hspread
  · simp [ha]
  · rw [satU_of_le (by omega), satU_of_le (by omega)]
    simp only [hload, hbusy.1]
    rfl
  · rw [satU_of_le (by omega), satU_of_le (by omega)]
    simp only [hload, hbusy, Bool.not_true, Bool.and_false]
    rfl
  · rw [satU_of_le (by omega), satU_of_le (by omega), if_neg (by simp [hhigh]), if_neg (by simp [hlow])]
  · rw [State.onTicket_of_some _ ht]
    rfl
  · rw [State.onTicket_of_some _ ht, if_pos hon]
    rfl
  · rw [State.onTicket_of_some _ ht]

end Sys2Proof.Machine
end

section
/-! PROOFS. Tags.lean: the dwells of the tag reader, what it presents, its port faults and its replies (R416-R423). -/
namespace Sys2Proof.Machine


/-- R428: without a TG_WRITE no port has one. -/
theorem State.portWrite_of_none {s : State} (p : Nat) (h : s.tg.write = none) : s.portWrite p = none := by
  rw [State.portWrite, h]
  rfl

/-- R421: an adjustment of Q moves Q_fp within its range and leaves what was read. -/
theorem State.adjustQ_tg (s : State) (d : Int) :
    (s.adjustQ d).tg.qfp = max 0 (min 150 (s.tg.qfp + d)) ∧ (s.adjustQ d).tg.write = s.tg.write ∧ (s.adjustQ d).tg.fwd = s.tg.fwd ∧
      (s.adjustQ d).tg.refl = s.tg.refl ∧ (s.adjustQ d).tg.epcs = s.tg.epcs ∧ (s.adjustQ d).tg.collisions = s.tg.collisions := by
  simp only [State.adjustQ, State.tagSend]
  repeat' split
  all_goals exact ⟨rfl, rfl, rfl, rfl, rfl, rfl⟩

/-- R420: the end of a dwell without inventories or a write presents the EPCs of a good length. -/
theorem State.tagDwellEnd_of_free {s : State} (hon : s.tg.carrier = true) (hend : s.tg.dwellAt + ms 40 ≤ s.now) (hwrite : s.tg.write = none)
    (hinv : s.tg.inv = []) :
    execTagDwellEnd s = fin s (State.carrierOff (State.presentTags { s with tg := { s.tg with
      shortEpc := satU 16 (s.tg.shortEpc + (s.tg.epcs.filter fun t => decide (t.epc.length < 12)).length) } } s.tg.port
        (s.tg.epcs.filter fun t => decide (12 ≤ t.epc.length) && decide (t.epc.length ≤ 32)))) := by
  refine congrArg (fin s) ?_
  simp [hon, Nat.not_lt.2 hend, State.portWrite_of_none, hwrite, hinv]

/-- Settles O50. -/
theorem tagDwellsFaultsAndReplies : Obligations.TagDwellsFaultsAndReplies := by
  unfold Obligations.TagDwellsFaultsAndReplies
  refine ⟨fun s o p htwin hpw hlink hcar hoff ho hp hwrite => congrArg (fin s) ?_,
    fun s e hcar hend hwrite hinv hepcs hlen hheld hshort => (State.tagDwellEnd_of_free hcar hend hwrite hinv).trans (congrArg (fin s) ?_),
    fun s a b hcar hend hwrite hinv hepcs ha hb => ⟨_, State.tagDwellEnd_of_free hcar hend hwrite hinv, ?_⟩,
    fun s hcar hend hwrite hinv hepcs => ⟨_, State.tagDwellEnd_of_free hcar hend hwrite hinv, ?_⟩,
    fun s htwin hlink => congrArg (fin s) ?_, fun s htwin hcar hfault => congrArg (fin s) ?_, fun s p e he hnow => congrArg (fin s) ?_,
    fun s htwin hlink hlost => congrArg (fin s) ?_, fun s htwin hlink hlost => congrArg (fin s) ?_,
    fun s rssi fwd refl hcar hlink hwrite hq => ⟨_, rfl, ?_⟩, fun s rssi fwd refl hcar hlink hwrite hq => ⟨_, rfl, ?_⟩,
    fun s e rssi fwd refl hcar hlink hwrite hnew => ⟨_, rfl, ?_⟩, fun s e rssi fwd refl hcar hlink hwrite => ⟨_, rfl, ?_⟩⟩
  · simp [State.tagsOn, htwin, hpw, hlink, hcar, hoff, ho, hp, State.onWrite, hwrite]
  · have hgood : (s.tg.epcs.filter fun t => decide (12 ≤ t.epc.length) && decide (t.epc.length ≤ 32)) = [e] := by simp [hepcs, hlen]
    have hnone : (s.tg.epcs.filter fun t => decide (t.epc.length < 12)).length = 0 := by simp [hepcs, hlen.1]
    rw [hgood, hnone, Nat.add_zero, satU_of_le (by omega)]
    exact congrArg State.carrierOff (if_neg (ne_true_of_eq_false hheld))
  · simp only [hepcs, List.filter_cons, List.filter_nil, ha, hb, decide_true, Bool.and_self, if_true]
    exact ⟨rfl, rfl, rfl, satU_succ_sixteen _, rfl⟩
  · simp [hepcs, State.presentTags, State.carrierOff]
    rfl
  · simp [htwin, hlink, State.carrierOff]
  · simp [htwin, hcar, hfault, State.carrierOff]
  · simp [he, hnow]
  · simp [htwin, hlink, hlost]
  · simp [htwin, hlink, hlost]
  · simp [hcar, hlink, State.portWrite_of_none, State.adjustQ_tg, hwrite]
    omega
  · simp [hcar, hlink, State.portWrite_of_none, State.adjustQ_tg, hwrite]
    omega
  · simp [hcar, hlink, State.portWrite_of_none, hwrite, hnew]
    rfl
  · simp [hcar, hlink, State.portWrite_of_none, hwrite, State.tagSend]

end Sys2Proof.Machine
end

section
/-! PROOFS. Update.lean: transfers of the field update (R473-R477, R483), installation and restore (R480, R481), and the end of a side's boot (R300). -/
namespace Sys2Proof.Machine


/-- R481: a side without an installation boots MAIN as it is. -/
theorem State.bootSide_of_idle {s : State} {side : Nat} (h : (s.ups side).phase = 0) : s.bootSide side = s := by
  simp [State.bootSide, h]

/-- R480: what a side holds of an installation that begins. -/
theorem State.startApply_ups {s : State} (x : Xfer) {side : Nat} (path tk : Nat) (hside : side < s.up.sides.length) :
    let u := (s.startApply x side path tk).ups side
    u.phase = (if path = 0 then 1 else 4) ∧ u.path = path ∧ u.image = x.kind ∧ u.xfer = x.num ∧ u.newRb = imgRollback x.bytes ∧
      u.newMf = imgMirror x.bytes ∧ u.ticket = some tk ∧ u.running = (s.ups side).running := by
  have hups : (s.startApply x side path tk).ups side = _ :=
    getD_modify_self (s.onXfer x.num fun x => { x.setHeld side (List.range x.frags) with inUse := true }).up.sides {} _ hside
  rw [hups]
  exact ⟨rfl, rfl, rfl, rfl, rfl, rfl, rfl, rfl⟩

/-- Settles O54. -/
theorem fieldUpdateTransfersAndInstallation : Obligations.FieldUpdateTransfersAndInstallation := by
  unfold Obligations.FieldUpdateTransfersAndInstallation
  refine ⟨fun s tk t ht hopen hkind hrole hnum => congrArg (fin s) ?_,
    fun s tk t x ht hx hrole hfrag hlen hrest hcrc hheld => congrArg (fin s) ?_,
    fun s tk t x ht hx hrole hfrag hlen hrest hcrc hheld => congrArg (fin s) ?_, fun s num x hx hcomplete hall hhash => ?_,
    fun s side num k x hx htwin hother hside hstandby hlacks hholds hkind => congrArg (fin s) ?_,
    fun s num x hx hexp huse => congrArg (fin s) ?_, fun s tk t x ht hx huse => congrArg (fin s) ?_, fun _ _ _ => rfl,
    fun s tk t x ht hx hall => congrArg (fin s) ?_, fun s tk t x ht hx hcomplete hkind hside hpath hticket happ href himg => congrArg (fin s) ?_,
    fun s x side path tk hside => ?_, fun s side hphase => congrArg (fin s) ?_, fun s side hphase => congrArg (fin s) ?_,
    fun s side hphase => congrArg (fin s) ?_, fun s side hphase hrs hactive => congrArg (fin s) ?_,
    fun s tk t rb mf ht hside hticket happ href harch => congrArg (fin s) ?_, fun s tk t ht hold hrunA htwin hrunB => congrArg (fin s) ?_,
    fun s htwin hstandby hphase hrun hclk hmismatch => ⟨_, rfl, ?_⟩⟩
  · rw [State.onTicket_of_some _ ht]
    have hnext : s.up.nextNum + 1 < 4294967296 := hnum
    simp [hopen, hrole, St.ok, State.openXfer, Nat.not_lt.2 hkind, hnext]
  · rw [State.onTicket_of_some _ ht]
    simp only [hx, hrole, Nat.not_le.2 hfrag, hlen, hrest, hcrc, hheld, decide_false, Bool.false_and, bne_self_eq_false, Bool.or_false,
      Bool.false_eq_true, if_false]
    rfl
  · rw [State.onTicket_of_some _ ht]
    simp only [hx, hrole, Nat.not_le.2 hfrag, hlen, hrest, hcrc, hheld, decide_false, Bool.false_and, bne_self_eq_false, Bool.or_false,
      Bool.false_eq_true, if_false, if_true]
    rfl
  · simp [State.checkXfer, hx, hcomplete, Nat.not_lt.2 hall, hhash]
  · simp only [hx]
    exact if_pos (by simp only [htwin, hside, hstandby, hlacks, hholds, hkind]; simp)
  · simp [hx, hexp, huse]
  · rw [State.onTicket_of_some _ ht]
    simp [hx, huse]
  · rw [State.onTicket_of_some _ ht]
    simp only [hx, hall, b2n, Option.getD_none]
  · rw [State.onTicket_of_some _ ht]
    simp [hx, hcomplete, Nat.not_le.2 (Nat.lt_succ_of_le hkind), Nat.not_lt.2 hside, Nat.not_lt.2 hpath, hticket, happ, href, himg]
  · exact State.startApply_ups x path tk hside
  · simp [hphase, State.loseCopy]
  · simp [hphase]
  · simp [hphase]
  · simp only [hphase]
    exact if_neg (by simp [Nat.not_lt.2 hrs, hactive])
  · rw [State.onTicket_of_some _ ht]
    simp [Nat.not_lt.2 hside, hticket, happ, href, harch]
  · rw [State.onTicket_of_some _ ht]
    simp [hold, hrunA, hrunB]
  · simp [htwin, hstandby, State.bootSide_of_idle hphase, hclk, hrun, hmismatch]
    exact ⟨rfl, rfl, rfl⟩

end Sys2Proof.Machine
end

section
/-! PROOFS. Monitor.lean: the commands of the Twidor monitor and the requests about the monitors (R486-R493). -/
namespace Sys2Proof.Machine


/-! ### What the operations do to a monitor -/

/-- What a change of one monitor leaves of its kind it leaves of every monitor. -/
theorem State.mons_onMons_keeps {α : Type} (g : MonSide → α) (s : State) (k i : Nat) {f : MonSide → MonSide} (hf : ∀ m, g (f m) = g m) :
    g ((s.onMons k f).mons i) = g (s.mons i) := by
  by_cases hk : k = i
  · subst hk
    by_cases hlen : k < s.mon.sides.length
    · rw [State.mons_onMons _ _ hlen, hf]
    · simp only [State.mons, State.onMons, List.modify_eq_self (Nat.le_of_not_lt hlen)]
  · rw [State.mons_onMons_ne _ _ hk]

/-- A line on a monitor changes its output alone. -/
theorem State.mons_monSays {α : Type} (g : MonSide → α) (hg : ∀ (m : MonSide) o, g { m with out := o } = g m) (s : State) (side st : Nat)
    (l : List Bytes) (i : Nat) : g ((s.monSays side st l).mons i) = g (s.mons i) :=
  s.mons_onMons_keeps g side i fun m => hg m _

theorem State.monRole_monSays (s : State) (side st : Nat) (l : List Bytes) (i : Nat) : (s.monSays side st l).monRole i = s.monRole i :=
  s.mons_monSays MonSide.role (fun _ _ => rfl) side st l i

/-- R488: a monitor takes a role, and nothing else of it changes. -/
theorem State.monRole_setMonRole {s : State} {side : Nat} (r : Role) (h : side < s.mon.sides.length) : (s.setMonRole side r).monRole side = r := by
  have hrole : (s.onMons side fun m => { m with role := r }).monRole side = r := congrArg MonSide.role (State.mons_onMons _ _ h)
  rw [State.setMonRole]
  split
  · exact hrole
  · exact hrole

theorem State.monRole_setMonRole_ne {s : State} {side i : Nat} (r : Role) (h : side ≠ i) : (s.setMonRole side r).monRole i = s.monRole i := by
  have hrole : (s.onMons side fun m => { m with role := r }).monRole i = s.monRole i := congrArg MonSide.role (State.mons_onMons_ne _ _ h)
  rw [State.setMonRole]
  split
  · exact hrole
  · exact hrole

@[simp] theorem State.setMonRole_level (s : State) (side : Nat) (r : Role) : (s.setMonRole side r).mon.level = s.mon.level := by
  rw [State.setMonRole]
  split <;> rfl

@[simp] theorem State.setMonRole_passwords (s : State) (side : Nat) (r : Role) : (s.setMonRole side r).mon.passwords = s.mon.passwords := by
  rw [State.setMonRole]
  split <;> rfl

@[simp] theorem State.setMonRole_sides_length (s : State) (side : Nat) (r : Role) :
    (s.setMonRole side r).mon.sides.length = s.mon.sides.length := by
  rw [State.setMonRole]
  split <;> exact s.onMons_length ..

/-- R492: both monitors are returned to PUBLIC. -/
theorem State.monRole_setMonRole_both {s : State} (h : s.mon.sides.length = 2) :
    ((s.setMonRole 0 .pub).setMonRole 1 .pub).monRole 0 = .pub ∧ ((s.setMonRole 0 .pub).setMonRole 1 .pub).monRole 1 = .pub :=
  ⟨(State.monRole_setMonRole_ne .pub (by decide)).trans (State.monRole_setMonRole .pub (by omega)),
    State.monRole_setMonRole .pub (by simp [h])⟩

/-- R488: what a role does not bear on stays. -/
theorem State.mons_setMonRole {α : Type} (g : MonSide → α) (hg : ∀ (m : MonSide) r, g { m with role := r } = g m) (s : State) (side : Nat) (r : Role)
    (i : Nat) : g ((s.setMonRole side r).mons i) = g (s.mons i) := by
  rw [State.setMonRole]
  split
  · exact s.mons_onMons_keeps g side i fun m => hg m r
  · exact s.mons_onMons_keeps g side i fun m => hg m r

/-- A completion changes no more of the monitors than the output of one. -/
theorem State.complete_mon {α : Type} (g : Mon → α) (s : State) (t : Ticket) (st : Nat) (b : Bytes)
    (hg : ∀ (side : Nat) (o : Bytes), g { s.mon with sides := s.mon.sides.modify side fun m => { m with out := m.out ++ [o] } } = g s.mon) : g (s.complete t st b).mon = g s.mon := by
  have hends : ∀ f : Session → Session, ((s.direct (s.reqCompleted t st)).onSess (ticketPort t.id) f).mon = s.mon := fun f => by
    rw [State.onSess]
    split <;> rfl
  rw [State.complete]
  split
  · refine foldl_keeps (fun u : State => g u.mon = g s.mon) _ _ _ (congrArg g (hends _)) fun u hu x _ => ?_
    rw [State.sendFrame]
    split
    · rw [State.onSess]
      split <;> exact hu
    · exact hu
  · have hline : ∀ (u : State) (side : Nat) (o : Bytes), u.mon = s.mon → g (u.monLine side o).mon = g s.mon := fun u side o hu => by
      rw [State.monLine, State.onMons]
      simp only [hu]
      exact hg side _
    exact hline _ _ _ (hends _)

theorem State.monRole_complete (s : State) (t : Ticket) (st : Nat) (b : Bytes) (i : Nat) : (s.complete t st b).monRole i = s.monRole i :=
  s.complete_mon (fun m => (m.sides.getD i {}).role) t st b fun side _ => s.mons_onMons_keeps MonSide.role side i fun _ => rfl

/-! ### Command lines (R486, R490) -/

/-- The time of the last input of a monitor is noted. -/
def State.heardMon (s : State) (side : Nat) : State := s.onMons side fun m => { m with lastIn := s.now }

theorem State.monRole_heardMon (s : State) (side i : Nat) : (s.heardMon side).monRole i = s.monRole i :=
  s.mons_onMons_keeps MonSide.role side i fun _ => rfl

@[simp] theorem State.heardMon_level (s : State) (side : Nat) : (s.heardMon side).mon.level = s.mon.level := rfl

@[simp] theorem State.heardMon_passwords (s : State) (side : Nat) : (s.heardMon side).mon.passwords = s.mon.passwords := rfl

theorem State.lockUntil_heardMon (s : State) (side i : Nat) : ((s.heardMon side).mons i).lockUntil = (s.mons i).lockUntil :=
  s.mons_onMons_keeps MonSide.lockUntil side i fun _ => rfl

/-- R490: a command of the role it needs at the active side's unlocked monitor notes the input and acts. -/
theorem State.monCmd_of_active {s : State} {side len : Nat} {c : MonCmd} (f : State → State) (hmode : s.monMode side = 3) (hlevel : s.mon.level = 0)
    (hlen : len ≤ 256) (hrole : c.least.code ≤ (s.monRole side).code) : s.monCmd side len c f = f (s.heardMon side) := by
  have hheard : ((s.onMons side fun m => { m with lastIn := s.now }).monRole side).code = (s.monRole side).code :=
    congrArg Role.code (s.monRole_heardMon side side)
  have hlocked : (s.onMons side fun m => { m with lastIn := s.now }).mon.level = 0 := hlevel
  simp only [State.monCmd, hmode, hlocked, hheard, Nat.not_lt.2 hlen, Nat.not_lt.2 hrole]
  rfl

/-- R490: a command of too low a role is refused. -/
theorem State.monCmd_of_low {s : State} {side len : Nat} {c : MonCmd} (f : State → State) (hmode : s.monMode side = 3) (hlevel : s.mon.level ≠ 2)
    (hlen : len ≤ 256) (hrole : (s.monRole side).code < c.least.code) : s.monCmd side len c f = (s.heardMon side).monSays side St.refusedRole := by
  have hheard : ((s.onMons side fun m => { m with lastIn := s.now }).monRole side).code = (s.monRole side).code :=
    congrArg Role.code (s.monRole_heardMon side side)
  have hlocked : (s.onMons side fun m => { m with lastIn := s.now }).mon.level ≠ 2 := hlevel
  simp only [State.monCmd, hmode, hlocked, hheard, Nat.not_lt.2 hlen, hrole]
  rfl

/-- R488: what a login of the ADMIN role comes to at a monitor that is not locked: it succeeds with the role's password, and fails without it. -/
theorem execLogin_of_unlocked {s : State} {side len : Nat} (p : Bytes) (hmode : s.monMode side = 3) (hlevel : s.mon.level = 0) (hlen : len ≤ 256)
    (hlock : (s.mons side).lockUntil = none) :
    execLogin side len .admin p s = fin s (if (s.mon.passwords.find? fun x => x.1 == 3).map (·.2) = some p then
      (((s.heardMon side).setMonRole side .admin).monSays side St.ok [asciiBytes Role.admin.name]).evLogin side Role.admin.code 0
    else (s.heardMon side).loginFails side .admin) := by
  refine congrArg (fin s) ?_
  have hfree : ((s.heardMon side).mon.sides.getD side {}).lockUntil = none := (s.lockUntil_heardMon side side).trans hlock
  rw [State.monCmd_of_active _ hmode hlevel hlen (Nat.zero_le _)]
  refine (if_neg (by decide)).trans ((if_neg ?_).trans ((if_neg ?_).trans ?_))
  · rw [hfree]
    exact Bool.false_ne_true
  · simp [hlevel]
  · by_cases hp : (s.mon.passwords.find? fun x => x.1 == 3).map (·.2) = some p
    · rw [if_pos hp]
      exact if_pos (beq_iff_eq.2 hp)
    · rw [if_neg hp]
      exact if_neg fun h => hp (beq_iff_eq.1 h)

/-- R488: the fifth failure within 300 s locks the logins of the monitor for 300 s. -/
theorem State.mons_loginFails_fifth {s : State} {side : Nat} (r : Role) (hside : side < s.mon.sides.length)
    (hfails : ((s.mons side).fails.filter fun x => decide (s.now < x + sec 300)).length = 4) :
    ((s.loginFails side r).mons side).lockUntil = some (s.now + sec 300) ∧ ((s.loginFails side r).mons side).fails = [] ∧
      (s.loginFails side r).monRole side = s.monRole side := by
  have hfive : 5 ≤ (s.now :: (s.mon.sides.getD side {}).fails.filter fun x => decide (s.now < x + sec 300)).length :=
    Nat.le_of_eq (congrArg Nat.succ hfails.symm)
  have hmons : ∀ {α : Type} (g : MonSide → α), (∀ (m : MonSide) o, g { m with out := o } = g m) →
      g ((s.loginFails side r).mons side) = g { s.mons side with fails := [], lockUntil := some (s.now + sec 300) } := fun g hg => by
    rw [State.loginFails, State.evLogin, State.mons_of_evMod, State.mons_monSays g hg, State.mons_onMons _ _ hside]
    simp only [if_pos hfive]
  exact ⟨hmons MonSide.lockUntil fun _ _ => rfl, hmons MonSide.fails fun _ _ => rfl, hmons MonSide.role fun _ _ => rfl⟩

/-- Settles O55. -/
theorem monitorCommandsAnswer : Obligations.MonitorCommandsAnswer := by
  unfold Obligations.MonitorCommandsAnswer
  refine ⟨fun s side len hmode hside hlevel hlen => congrArg (fin s) ?_, fun s side len hmode hside hlevel hlen => congrArg (fin s) ?_,
    fun s side len p hmode hside hlevel hlen hlock hp => ⟨_, execLogin_of_unlocked p hmode hlevel hlen hlock, ?_⟩,
    fun s side len p hmode hside hlevel hlen hlock hp hfails => ⟨_, execLogin_of_unlocked p hmode hlevel hlen hlock, ?_⟩,
    fun s side len hmode hside hlevel hlen => ⟨_, rfl, ?_⟩, fun s side hside hidle => ⟨_, rfl, ?_⟩, fun s side e hside hlock => ⟨_, rfl, ?_⟩,
    fun s side len addr hmode hside hlevel hlen hrole hspan => congrArg (fin s) ?_,
    fun s side len addr x hmode hside hlevel hlen hrole hspan hx => congrArg (fin s) ?_,
    fun s side len count hmode hside hlevel hlen hrole hlow hhigh => congrArg (fin s) ?_,
    fun s side len n hmode hside hlevel hlen hrole hn => congrArg (fin s) ?_,
    fun s side len op arg hmode hside hlevel hlen => congrArg (fin s) ?_,
    fun s side len addr count hmode hside hlevel hlen hrole hlow hhigh haddr => congrArg (fin s) ?_,
    fun s side len fam lanes post hmode hside hlevel hlen hrole hpost => congrArg (fin s) ?_,
    fun s side len hmode hside hlevel hlen hrole => congrArg (fin s) ?_, fun s side len hmode hside hlevel hlen hrole => congrArg (fin s) ?_,
    fun s side len hmode hside hlevel hlen hrole => congrArg (fin s) ?_, fun _ _ _ _ f => State.monCmd_of_low f,
    fun s tk t ht hlen hlow hne hsides => ⟨_, rfl, ?_⟩, fun s tk t ht hr hrest hlen => congrArg (fin s) ?_,
    fun s tk t ht hr hlen hok => congrArg (fin s) ?_, fun s tk t ht => congrArg (fin s) (State.onTicket_of_some _ ht)⟩
  · rw [State.monCmd_of_active _ hmode hlevel hlen (Nat.zero_le _), State.monRole_heardMon]
    rfl
  · rw [State.monCmd_of_active _ hmode hlevel hlen (Nat.zero_le _), State.monRole_heardMon, ← hlevel]
    rfl
  · rw [if_pos hp]
    exact ⟨(State.monRole_monSays ..).trans (State.monRole_setMonRole .admin (by rwa [State.heardMon, State.onMons_length])),
      (State.mons_monSays MonSide.fails (fun _ _ => rfl) ..).trans ((State.mons_setMonRole MonSide.fails (fun _ _ => rfl) ..).trans
        (s.mons_onMons_keeps MonSide.fails side side fun _ => rfl)), State.setMonRole_passwords ..⟩
  · rw [if_neg hp]
    have hfails' : (((s.heardMon side).mons side).fails.filter fun x => decide (s.now < x + sec 300)).length = 4 := by
      have hsame : ((s.heardMon side).mons side).fails = (s.mons side).fails := s.mons_onMons_keeps MonSide.fails side side fun _ => rfl
      rw [hsame]
      exact hfails
    have hside' : side < (s.heardMon side).mon.sides.length := by rwa [State.heardMon, State.onMons_length]
    obtain ⟨hlocked, hnone, hrole⟩ := State.mons_loginFails_fifth .admin hside' hfails'
    exact ⟨hrole.trans (State.monRole_heardMon ..), hlocked, hnone⟩
  · rw [State.monCmd_of_active _ hmode hlevel hlen (Nat.zero_le _)]
    exact ⟨(State.monRole_monSays ..).trans (State.monRole_setMonRole .pub (by rwa [State.heardMon, State.onMons_length])),
      State.setMonRole_passwords .., State.setMonRole_level ..⟩
  · rw [if_pos hidle]
    exact ⟨State.monRole_setMonRole .pub hside, by rw [State.setMonRole]; split <;> rfl⟩
  · refine ⟨(congrArg MonSide.lockUntil (State.mons_onMons _ _ hside)).trans ?_, s.mons_onMons_keeps MonSide.role side side fun _ => rfl⟩
    have hlocked : (s.mons side).lockUntil = some e := hlock
    simp only [hlocked]
  · rw [State.monCmd_of_active _ hmode hlevel hlen hrole, hspan]
    rfl
  · rw [State.monCmd_of_active _ hmode hlevel hlen hrole, State.monRole_heardMon, hspan, if_neg (by simpa using hx)]
    rfl
  · rw [State.monCmd_of_active _ hmode hlevel hlen hrole, if_neg (by simp; omega)]
    rfl
  · rw [State.monCmd_of_active _ hmode hlevel hlen hrole]
    exact if_neg (Nat.not_le.2 hn)
  · rw [State.monCmd_of_active _ hmode hlevel hlen (Nat.zero_le _), State.monRole_heardMon]
    refine (if_neg ?_).trans rfl
    have hmode' : (s.heardMon side).monMode side = 3 := hmode
    simp [hmode']
  · rw [State.monCmd_of_active _ hmode hlevel hlen hrole, if_neg (by simp; omega), if_neg (by simp [haddr])]
    rfl
  · rw [State.monCmd_of_active _ hmode hlevel hlen hrole, if_neg (by simp [hpost])]
    rfl
  · rw [State.monCmd_of_active _ hmode hlevel hlen hrole]
    rfl
  · rw [State.monCmd_of_active _ hmode hlevel hlen hrole]
    rfl
  · rw [State.monCmd_of_active _ hmode hlevel hlen hrole]
    rfl
  · rw [State.onTicket_of_some _ ht, if_neg (by simp [hlen, hlow]), if_neg hne]
    obtain ⟨hzero, hone⟩ := State.monRole_setMonRole_both (s := { s with mon := { s.mon with level := t.u 0 1 } }) hsides
    exact ⟨(State.complete_mon Mon.level _ _ _ _ fun _ _ => rfl).trans (by simp), (State.monRole_complete ..).trans hzero,
      (State.monRole_complete ..).trans hone, (State.complete_mon Mon.passwords _ _ _ _ fun _ _ => rfl).trans (by simp)⟩
  · rw [State.onTicket_of_some _ ht]
    rcases hr with hr | hr | hr | hr <;> simp [hr, hrest, hlen]
  · rw [State.onTicket_of_some _ ht]
    have hne : t.rest 2 ≠ [] := fun h => by simp [h, passwordOk] at hok
    rcases hr with hr | hr | hr | hr <;> simp [hr, hlen, hok, hne]

end Sys2Proof.Machine
end

section
/-! PROOFS. Host.lean: frames, discovery, binding, requests and the end of sessions at the host ports (R57-R73). -/
namespace Sys2Proof.Machine


/-! ### Frames (R59, R60) -/

@[simp] theorem State.frameTaken_session (s : State) (p q : Nat) : ((s.frameTaken p).port q).session = (s.port q).session := by
  rw [State.frameTaken]
  split
  · exact State.onPort_keeps Port.session s 2 q _ fun _ => rfl
  · rfl

@[simp] theorem State.frameTaken_bind (s : State) (p q : Nat) : ((s.frameTaken p).port q).bind = (s.port q).bind := by
  rw [State.frameTaken]
  split
  · exact State.onPort_keeps Port.bind s 2 q _ fun _ => rfl
  · rfl

@[simp] theorem State.frameTaken_lockUntil (s : State) (p q : Nat) : ((s.frameTaken p).port q).lockUntil = (s.port q).lockUntil := by
  rw [State.frameTaken]
  split
  · exact State.onPort_keeps Port.lockUntil s 2 q _ fun _ => rfl
  · rfl

@[simp] theorem State.frameTaken_ports_length (s : State) (p : Nat) : (s.frameTaken p).host.ports.length = s.host.ports.length := by
  rw [State.frameTaken]
  split
  · exact s.onPort_length ..
  · rfl

@[simp] theorem State.frameTaken_now (s : State) (p : Nat) : (s.frameTaken p).now = s.now := by
  rw [State.frameTaken]
  split <;> rfl

theorem State.frameTaken_without {m : Parts} (hm : m.host = true) (s : State) (p : Nat) : (s.frameTaken p).without m = s.without m := by
  rw [State.frameTaken]
  split
  · exact State.onPort_without hm ..
  · rfl

/-- R59, R60: a frame of good form and trailer acts. -/
theorem State.hostFrame_of_good {s : State} {p typ : Nat} {f g : HostFrame} (k : State → HostFrame → State) (hon : s.hostOn = true)
    (hframe : s.frameOf p typ f = some g) (hform : g.form = true) (hok : g.ok = true) : s.hostFrame p typ f k = k (s.frameTaken p) g := by
  simp [State.hostFrame, hon, hframe, hform, hok]

/-- R60, R67: a frame of the session with a fresh counter acts once its counter is remembered. -/
theorem State.sessFrame_of_fresh {s : State} {p typ : Nat} {f g : HostFrame} {c : Session} (k : State → Session → Bytes → State) (hon : s.hostOn = true)
    (hframe : s.frameOf p typ f = some g) (hform : g.form = true) (hok : g.ok = true) (hc : (s.port p).session = some c) (hsid : c.sid = g.sid)
    (hfresh : c.fresh g.counter = true) :
    s.sessFrame p typ f k = k ((s.frameTaken p).onSess p fun c => c.accept g.counter s.now) (c.accept g.counter s.now) g.payload := by
  rw [State.sessFrame, State.hostFrame_of_good _ hon hframe hform hok]
  simp [hc, hsid, hfresh]

/-- R60: one whose counter was accepted before is dropped and counted. -/
theorem State.sessFrame_of_repeated {s : State} {p typ : Nat} {f g : HostFrame} {c : Session} (k : State → Session → Bytes → State)
    (hon : s.hostOn = true) (hframe : s.frameOf p typ f = some g) (hform : g.form = true) (hok : g.ok = true) (hc : (s.port p).session = some c)
    (hseen : g.counter ∈ c.rxWindow) (hlow : g.counter ≤ c.rxHigh) : s.sessFrame p typ f k = (s.frameTaken p).onPort p Port.addDropped := by
  have hstale : c.fresh g.counter = false := by simp [Session.fresh, Nat.not_lt.2 hlow, hseen]
  rw [State.sessFrame, State.hostFrame_of_good _ hon hframe hform hok]
  simp [hc, hstale]

/-! ### The end of a session (R67) -/

/-- R68: the host-loss policies change nothing of the host but their mark. -/
@[simp] theorem State.hostLossStart_host (s : State) : s.hostLossStart.host = { s.host with hostloss := true, hostlossAt := s.now } := by
  rw [State.hostLossStart]
  refine foldl_host _ (fun t n => ?_) _ _
  simp only
  repeat' split
  all_goals simp

theorem State.endHost_session {s : State} {p : Nat} {c : Session} (k : Nat) (hc : (s.port p).session = some c) :
    ((s.endHost p k).port p).session = none := by
  have hlen : p < (s.dropWaits (c.outstanding.map fun x => x.id)).host.ports.length := by
    rw [State.dropWaits_host]
    exact State.port_lt_of_session hc
  have hclosed := congrArg Port.session (State.port_onPort _ (fun q => { q with session := none }) hlen)
  simp only [State.endHost, hc]
  split
  · rw [State.port, State.hostLossStart_host]
    exact hclosed
  · exact hclosed

/-! ### A wake by the host (R463-R466) -/

/-- What neither what is sent nor what a session holds bears on stays at a completion. -/
theorem State.complete_port {α : Type} (g : Port → α) (hout : ∀ q o, g { q with outbox := o } = g q)
    (hsess : ∀ (q : Port) f, g { q with session := q.session.map f } = g q) (s : State) (t : Ticket) (st : Nat) (b : Bytes) (p : Nat) :
    g ((s.complete t st b).port p) = g (s.port p) := by
  have hends := (s.direct (s.reqCompleted t st)).onSess_keeps g (ticketPort t.id) p (fun c => c.ends t.id st) fun q => hsess q _
  rw [State.complete]
  split
  · refine foldl_keeps (fun u : State => g (u.port p) = _) _ _ _ hends fun u hu x _ => Eq.trans ?_ hu
    rw [State.sendFrame]
    split
    · exact (State.onSess_keeps g _ _ p _ fun q => hsess q _).trans (State.onPort_keeps g u _ p _ fun q => hout q _)
    · rfl
  · exact hends

theorem State.complete_ports_length (s : State) (t : Ticket) (st : Nat) (b : Bytes) :
    (s.complete t st b).host.ports.length = s.host.ports.length := by
  have hsess : ∀ (u : State) (p : Nat) (f : Session → Session), (u.onSess p f).host.ports.length = u.host.ports.length := fun u p f => by
    rw [State.onSess]
    split
    · exact u.onPort_length ..
    · rfl
  rw [State.complete]
  split
  · refine foldl_keeps (fun u : State => u.host.ports.length = _) _ _ _ (hsess _ _ _) fun u hu x _ => Eq.trans ?_ hu
    rw [State.sendFrame]
    split
    · exact (hsess _ _ _).trans (u.onPort_length ..)
    · rfl
  · exact hsess _ _ _

/-- R470: what a wake changes. -/
def Parts.ofWake : Parts := { pw := true, rs := true, rd := true, en := true, draws := true }

/-- R466, R470: the module stands in RUN again, and POWER_STATE tells it. -/
def State.runAgain (s : State) (src who : Nat) : State :=
  let us := s.wakeLatency
  let t : State := { s with pw := { s.pw with state := 0, runAt := s.now, lastWake := if src = 0 then s.pw.lastWake else src,
                                              wakeUs := if src = 0 then s.pw.wakeUs else us } }
  t.evMod .diag t.rd.active 0 0x5001 (powerStateData 0 s.pw.state who)

/-- R470: WAKE tells the source of a wake from `old`. -/
def State.wakeTold (s : State) (src lane old us : Nat) : State :=
  let e : Ev := { cls := .external, die := s.rd.active, unit := 0, lane := lane, code := 0x5003,
                  data := leBytes 1 src ++ leBytes 1 old ++ leBytes 4 us, time := s.now }
  if src = 0 then s else (s.raise e).drawn

/-- R300: after DOZE the side's clocks run again. -/
def State.clocksAgain (s : State) (old : Nat) : State := if old = 2 then { s with rs := s.rs.sideClock s.rd.active true } else s

/-- R300: after DOZE the standby side boots. -/
def State.standbyBoots (s : State) (old : Nat) : State := if old = 2 && s.twin then s.setStandby 2 0 0 else s

theorem State.wakes_eq (s : State) (src lane who : Nat) : s.wakes src lane who =
    ((((s.runAgain src who).wakeTold src lane s.pw.state s.wakeLatency).clocksAgain s.pw.state).standbyBoots s.pw.state).raiseCover := rfl

/-- R466, R470: a wake leaves every other part. -/
theorem State.wakes_without (s : State) (src lane who : Nat) : (s.wakes src lane who).without .ofWake = s.without .ofWake := by
  have htold : ∀ (u : State) old us, (u.wakeTold src lane old us).without .ofWake = u.without .ofWake := fun u old us => by
    rw [State.wakeTold]
    split <;> rfl
  have hclocks : ∀ (u : State) old, (u.clocksAgain old).without .ofWake = u.without .ofWake := fun u old => by
    rw [State.clocksAgain]
    split <;> rfl
  have hboots : ∀ (u : State) old, (u.standbyBoots old).without .ofWake = u.without .ofWake := fun u old => by
    rw [State.standbyBoots]
    split <;> rfl
  have hcover : ∀ u : State, u.raiseCover.without .ofWake = u.without .ofWake := fun u => by
    rw [State.raiseCover]
    split <;> rfl
  rw [State.wakes_eq, hcover, hboots, hclocks, htold]
  rfl

@[simp] theorem State.wakes_host (s : State) (src lane who : Nat) : (s.wakes src lane who).host = s.host :=
  State.host_of_without (s.wakes_without src lane who) rfl

@[simp] theorem State.wakes_kv (s : State) (src lane who : Nat) : (s.wakes src lane who).kv = s.kv :=
  State.kv_of_without (s.wakes_without src lane who) rfl

@[simp] theorem State.wakes_clock (s : State) (src lane who : Nat) : (s.wakes src lane who).clock = s.clock :=
  State.clock_of_without (s.wakes_without src lane who) rfl

/-- R463-R466: what a completion of the entry and a wake both leave stays when a wake source fires. -/
theorem State.sourceFires_keeps {α : Type} (g : State → α) (s : State) (src lane : Nat) (hpw : ∀ (u : State) x, g { u with pw := x } = g u)
    (hev : ∀ (u : State) t m, g (u.evRefused t m true) = g u) (hdone : ∀ (u : State) t st b, g (u.complete t st b) = g u)
    (hwake : ∀ u : State, g (u.wakes src lane) = g u) : g (s.sourceFires src lane) = g s := by
  rw [State.sourceFires]
  split
  · rfl
  · split
    · rw [State.entryAborts]
      split
      · rw [State.onTicket]
        split
        · rw [hdone, hev, hpw]
        · rw [hev, hpw]
      · rw [hev, hpw]
    · split
      · exact hwake s
      · rfl

theorem State.sourceFires_port {α : Type} (g : Port → α) (hout : ∀ q o, g { q with outbox := o } = g q)
    (hsess : ∀ (q : Port) f, g { q with session := q.session.map f } = g q) (s : State) (src lane p : Nat) :
    g ((s.sourceFires src lane).port p) = g (s.port p) :=
  s.sourceFires_keeps (fun u => g (u.port p)) src lane (fun _ _ => rfl) (fun _ _ _ => rfl) (fun u t st b => u.complete_port g hout hsess t st b p)
    fun u => congrArg g (State.port_of_host p (u.wakes_host ..))

@[simp] theorem State.sourceFires_ports_length (s : State) (src lane : Nat) :
    (s.sourceFires src lane).host.ports.length = s.host.ports.length :=
  s.sourceFires_keeps (fun u => u.host.ports.length) src lane (fun _ _ => rfl) (fun _ _ _ => rfl) (fun u t st b => u.complete_ports_length t st b)
    fun u => by rw [u.wakes_host]

@[simp] theorem State.sourceFires_kv (s : State) (src lane : Nat) : (s.sourceFires src lane).kv = s.kv :=
  s.sourceFires_keeps (fun u => u.kv) src lane (fun _ _ => rfl) (fun _ _ _ => rfl) (fun u t st b => u.complete_kv t st b) fun u => u.wakes_kv ..

@[simp] theorem State.sourceFires_clock (s : State) (src lane : Nat) : (s.sourceFires src lane).clock = s.clock :=
  s.sourceFires_keeps (fun u => u.clock) src lane (fun _ _ => rfl) (fun _ _ _ => rfl)
    (fun _ t st b => State.clock_of_without (m := { host := true }) (State.complete_without rfl t st b rfl) rfl) fun u => u.wakes_clock ..

theorem State.sourceFires_session_none {s : State} {p : Nat} (src lane : Nat) (h : (s.port p).session = none) :
    ((s.sourceFires src lane).port p).session = none := by
  have hmap := s.sourceFires_port (fun q => q.session.isNone) (fun _ _ => rfl) (fun q f => by cases q.session <;> rfl) src lane p
  simpa [h] using hmap

/-- R463: in RUN without an entry in progress a wake source changes nothing. -/
theorem State.sourceFires_of_run {s : State} (src lane : Nat) (hpw : s.pw.state = 0) (hentry : s.pw.entry = none) : s.sourceFires src lane = s := by
  simp [State.sourceFires, hpw, hentry]

/-! ### Binding (R63-R65) -/

/-- R63: a bind on a port without a session opens one in its role, now. -/
theorem State.bound_of_free {s : State} {p : Nat} (b : Bind) (hc : (s.port p).session = none) (hp : p < s.host.ports.length) :
    (∃ c, ((s.bound p b).port p).session = some c ∧ c.role = b.role ∧ c.lastRx = s.now) ∧ ((s.bound p b).port p).bind = none := by
  have hreplaced : s.replaced p = s := by rw [State.replaced, hc]
  have hopen := State.opened_port b hp
  have hmap := State.sendFrame_session (fun c => (c.role, c.lastRx)) (fun _ _ _ => rfl) (s.opened p b) p p 5
    ((s.opened p b).boundBody St.ok b.role.code b.sid 1)
  rw [hopen, hreplaced] at hmap
  obtain ⟨c, hsession, hpair⟩ := Option.map_eq_some_iff.1 hmap
  rw [s.bound_eq, State.reportBind_port, State.sendFrame_bind, hopen]
  exact ⟨⟨c, hsession, congrArg Prod.fst hpair, congrArg Prod.snd hpair⟩, rfl⟩

/-- R65: what a bind that fails leaves on its port. -/
theorem State.bindFails_port {s : State} {p : Nat} (role : Nat) (hp : p < s.host.ports.length) :
    ∃ o, (s.bindFails p role).port p =
      let l := s.now :: ((s.port p).fails.filter fun t => decide (s.now < t + sec 60))
      { s.port p with bind := none, bindFail := satU 16 ((s.port p).bindFail + 1), fails := if 5 ≤ l.length then [] else l,
                      lockUntil := if 5 ≤ l.length then some (s.now + sec 60) else (s.port p).lockUntil, outbox := o } := by
  simp only [State.bindFails, State.bindAnswer, State.sendProposed, State.port_of_evMod, State.port_of_drawn]
  rw [State.port_onPort _ _ (by rwa [State.onPort_length]), State.port_onPort _ _ hp]
  exact ⟨_, rfl⟩

/-- The module on its way to CHALLENGE: its free values drawn, the signature made and the frame out. -/
def State.challenged (s : State) (p sid : Nat) (b : Bytes) : State := (s.drawn.drawn.drawn.signed 1).sendProposed p 3 sid b

@[simp] theorem State.signed_host (s : State) (n : Nat) : (s.signed n).host = s.host := by
  rw [State.signed]
  split <;> rfl

@[simp] theorem State.signed_now (s : State) (n : Nat) : (s.signed n).now = s.now := by
  rw [State.signed]
  split <;> rfl

theorem State.sendProposed_session (s : State) (p q typ sid : Nat) (b : Bytes) : ((s.sendProposed p typ sid b).port q).session = (s.port q).session :=
  s.onPort_keeps Port.session p q _ fun _ => rfl

theorem State.challenged_session (s : State) (p sid : Nat) (b : Bytes) : ((s.challenged p sid b).port p).session = (s.port p).session :=
  (State.sendProposed_session ..).trans (congrArg Port.session (State.port_of_host p (State.signed_host ..)))

theorem State.challenged_ports_length (s : State) (p sid : Nat) (b : Bytes) :
    (s.challenged p sid b).host.ports.length = s.host.ports.length :=
  (State.onPort_length ..).trans (congrArg (fun h : HostPorts => h.ports.length) (State.signed_host ..))

theorem State.challenged_now (s : State) (p sid : Nat) (b : Bytes) : (s.challenged p sid b).now = s.now := State.signed_now ..

/-- R63: a BIND whose answer can be signed is challenged; a PUBLIC one binds at once. -/
theorem State.challenge_of_signed {s : State} (p : Nat) (role : Role) (key : Nat) (body : Bytes) (h : s.isOrphan 1 = false) :
    ∃ sid out b, s.challenge p role key body =
        (if role == .pub then (s.challenged p sid out).bound p b else (s.challenged p sid out).onPort p fun q => { q with bind := some b }) ∧
      b.role = role ∧ b.keyIndex = key ∧ b.challengeAt = s.now ∧ ∃ rest, b.transcript = body ++ rest := by
  have hsign : ∀ d, s.drawn.drawn.drawn.signature 1 d = some _ := fun d => State.signature_of_not_orphan d h
  simp only [State.challenge]
  rw [hsign]
  exact ⟨_, _, _, rfl, rfl, rfl, State.challenged_now .., _, List.append_assoc ..⟩

/-- R63: the state in which a BIND that has come is answered: on a free port, with the key of the module and TIME as they were. -/
theorem State.bindTaken_of_free {s : State} {p : Nat} (hc : (s.port p).session = none) (horphan : s.isOrphan 1 = false) :
    (((s.frameTaken p).sourceFires 4 0xFF).port p).session = none ∧ ((s.frameTaken p).sourceFires 4 0xFF).isOrphan 1 = false ∧
      ((s.frameTaken p).sourceFires 4 0xFF).now = s.now ∧
      ((s.frameTaken p).sourceFires 4 0xFF).host.ports.length = s.host.ports.length := by
  refine ⟨State.sourceFires_session_none _ _ (by rwa [State.frameTaken_session]), ?_, ?_, ?_⟩
  · rwa [State.isOrphan, State.sourceFires_kv, State.kv_of_without (s.frameTaken_without (m := { host := true }) rfl p) rfl]
  · rw [State.now, State.sourceFires_clock, State.clock_of_without (s.frameTaken_without (m := { host := true }) rfl p) rfl, State.now]
  · rw [State.sourceFires_ports_length, State.frameTaken_ports_length]

/-- R63-R65: a BIND of a role with a key, on a free port that is not locked, is challenged. -/
theorem execBind_of_good {s : State} {p : Nat} {f g : HostFrame} {r : Role} (hon : s.hostOn = true) (hframe : s.frameOf p 2 f = some g)
    (hform : g.form = true) (hok : g.ok = true) (hlen : g.payload.length = 92) (hrole : Role.ofCode (leNat (sub g.payload 0 1)) = some r)
    (hkey : leNat (sub g.payload 1 1) ≤ 3) (hanchor : r = .pub ∨ (s.anchor (hostKeySlot r (leNat (sub g.payload 1 1)))).isSome = true)
    (hc : (s.port p).session = none) (hlock : s.bindLocked p = false) :
    execBind p f s = fin s (((s.frameTaken p).sourceFires 4 0xFF).challenge p r (leNat (sub g.payload 1 1)) g.payload) := by
  refine congrArg (fin s) ?_
  rw [State.hostFrame_of_good _ hon hframe hform hok]
  have hfree : (((s.frameTaken p).sourceFires 4 0xFF).port p).session = none := State.sourceFires_session_none _ _ (by rwa [State.frameTaken_session])
  have hopen : ((s.frameTaken p).sourceFires 4 0xFF).bindLocked p = false := by
    rw [State.bindLocked, (s.frameTaken p).sourceFires_port Port.lockUntil (fun _ _ => rfl) (fun _ _ => rfl), State.now, State.sourceFires_clock,
      State.frameTaken_lockUntil, State.clock_of_without (s.frameTaken_without (m := { host := true }) rfl p) rfl]
    exact hlock
  have hkv : ((s.frameTaken p).sourceFires 4 0xFF).anchor (hostKeySlot r (leNat (sub g.payload 1 1))) =
      s.anchor (hostKeySlot r (leNat (sub g.payload 1 1))) := by
    rw [State.anchor, State.sourceFires_kv, State.kv_of_without (s.frameTaken_without (m := { host := true }) rfl p) rfl, State.anchor]
  refine (if_neg (by simp [hlen])).trans ((if_neg (by simp [hopen])).trans ?_)
  simp only [hfree, hrole]
  refine (if_neg Bool.false_ne_true).trans (if_neg ?_)
  rw [hkv]
  rcases hanchor with hpub | hanchor
  · simp [hpub, Nat.not_lt.2 hkey]
  · simp [Option.isSome_iff_ne_none.1 hanchor, Nat.not_lt.2 hkey]

/-! ### Discovery and requests (R62, R69-R73) -/

/-- R8: the field above two others that fill the bits below it is clear while its value is 0. -/
theorem flagOf_regOf_zero (w v w' v' : Nat) : flagOf (regOf [(0, w, v), (w, w', v'), (w + w', 1, 0)]) (w + w') = false := by
  have hlow : v % 2 ^ w < 2 ^ w := Nat.mod_lt _ (Nat.two_pow_pos w)
  have hhigh : v' % 2 ^ w' + 1 ≤ 2 ^ w' := Nat.mod_lt _ (Nat.two_pow_pos w')
  have hmul := Nat.mul_le_mul_right (2 ^ w) hhigh
  rw [← Nat.pow_add, Nat.succ_mul, Nat.add_comm w'] at hmul
  simp only [regOf, List.foldl, flagOf, Nat.zero_mod, Nat.zero_mul, Nat.add_zero, Nat.zero_add, Nat.pow_zero, Nat.mul_one]
  exact Nat.testBit_lt_two_pow (by omega)

/-- R82: the enable bit of the IPv4 word of a port whose IPv4 is off. -/
theorem Port.flagOf_ip4_of_disabled {q : Port} (h : q.ip4Enable = false) : flagOf q.ip4 38 = false := by
  rw [Port.ip4, h]
  exact flagOf_regOf_zero 32 _ 6 _
/-- What is done to the session of a port is what is done to the session it holds. -/
theorem State.onSess_congr {s : State} {p : Nat} {c : Session} {f g : Session → Session} (hp : p < 3) (hc : s.sess p = some c) (h : f c = g c) :
    s.onSess p f = s.onSess p g := by
  rw [State.sess, if_pos hp] at hc
  have hports : s.host.ports.modify p (fun q => { q with session := q.session.map f }) =
      s.host.ports.modify p (fun q => { q with session := q.session.map g }) := by
    refine List.ext_getElem (by simp) fun i hi _ => ?_
    rw [List.getElem_modify, List.getElem_modify]
    split
    next hip =>
      subst hip
      have hq : (s.host.ports[p]'(by simpa using hi)).session = some c := by
        rwa [State.port, List.getD_eq_getElem _ _ (by simpa using hi)] at hc
      simp [hq, h]
    · rfl
  rw [State.onSess, State.onSess, if_pos hp, if_pos hp, State.onPort, State.onPort, hports]

/-- R72: the session once it has given ticket `k`. -/
def Session.gives (c : Session) (k op tag : Nat) (arg : Bytes) (now seqAt : Nat) : Session :=
  { c with serial := if c.serial = 0x0FFFFFFF then 1 else c.serial + 1,
           outstanding := c.outstanding ++ [{ id := k, opcode := op, tag := tag, role := c.role, acceptTime := now, arg := arg, seqAt := seqAt }] }

/-- R70, R72, R78: an accepted request gets its ticket in the role of its session. -/
theorem State.giveTicket_eq {s : State} {p : Nat} {c : Session} (op tag : Nat) (arg : Bytes) (hp : p < 2) (hc : s.sess p = some c) :
    let k := p <<< 28 ||| c.serial
    s.giveTicket p op tag arg c = ((s.onSess p fun c => c.gives k op tag arg s.now s.seqr.seqLast).evMod .host s.rd.active p 0x7010
      (leBytes 4 k ++ leBytes 2 op ++ leBytes 4 tag), St.accepted, k) := by
  have hgives := State.onSess_congr (f := fun d => { d with serial := nextSerial d.serial, outstanding := d.outstanding ++
    [{ id := p <<< 28 ||| c.serial, opcode := op, tag := tag, role := c.role, acceptTime := s.now, arg := arg, seqAt := s.seqr.seqLast }] })
    (g := fun d => d.gives (p <<< 28 ||| c.serial) op tag arg s.now s.seqr.seqLast) (Nat.lt_succ_of_lt hp) hc rfl
  simp only [State.giveTicket, hgives]
  rw [State.onSess, if_pos (Nat.lt_succ_of_lt hp)]
  rfl

/-- Settles O56. -/
theorem hostSessionsFramesAndRequests : Obligations.HostSessionsFramesAndRequests := by
  unfold Obligations.HostSessionsFramesAndRequests
  refine ⟨fun s p typ f g c k hon hframe hform hok hc hsid hfresh => State.sessFrame_of_fresh k hon hframe hform hok hc hsid hfresh,
    fun s p typ f g c k hon hframe hform hok hc hseen hlow => State.sessFrame_of_repeated k hon hframe hform hok hc hseen hlow,
    fun s p hp hon hc hdue hip4 => congrArg (fin s) ?_, fun s hon hc hdue => congrArg (fin s) ?_,
    fun s p f g hon hframe hform hok hlen hrole hkey hc hlock horphan hp => ?_,
    fun s p f g r hon hframe hform hok hlen hrole hpub hkey hanchor hc hlock horphan hp => ?_,
    fun s p f g b k hon hframe hform hok hb hsid hanchor hnow => congrArg (fin s) ?_,
    fun s p b hb hnow => congrArg (fin s) ?_, fun s p role hp hfails => ?_, fun s p e he hnow => congrArg (fin s) ?_,
    fun s p f g c op tag hon hframe hform hok hc hsid hfresh hp hpw hentry hlen hop hpart hparts htag harg hmax htags => congrArg (fin s) ?_,
    fun s p op tag arg c l hc hroles hl hp hlacks hlen hbusy => ?_, fun s p tag c b hc hb htag hnow => congrArg (fin s) ?_,
    fun s p f g c hon hframe hform hok hc hsid hfresh hp => congrArg (fin s) (State.sessFrame_of_fresh _ hon hframe hform hok hc hsid hfresh),
    fun s p c hc hnow => congrArg (fin s) ?_, fun s p k c hc _ => State.endHost_session k hc, fun s p up hp hlink hpw => congrArg (fin s) ?_⟩
  · simp [Nat.not_lt.2 (Nat.le_of_lt hp), hon, hc, hdue, Port.flagOf_ip4_of_disabled hip4, Nat.ne_of_lt hp]
    rfl
  · simp [hon, hc, hdue]
    rfl
  · refine ⟨_, execBind_of_good (r := .pub) hon hframe hform hok hlen (congrArg Role.ofCode hrole) hkey (.inl rfl) hc hlock, ?_⟩
    obtain ⟨hfree, horphan, hnow, hports⟩ := State.bindTaken_of_free hc horphan
    obtain ⟨sid, out, b, hchallenge, hrole, -, -, -⟩ := State.challenge_of_signed p .pub (leNat (sub g.payload 1 1)) g.payload horphan
    obtain ⟨⟨c, hsession, hpub, hrx⟩, hnone⟩ := State.bound_of_free (s := ((s.frameTaken p).sourceFires 4 0xFF).challenged p sid out) b
      ((State.challenged_session ..).trans hfree) (by rwa [State.challenged_ports_length, hports])
    rw [hchallenge]
    exact ⟨⟨c, hsession, hpub.trans hrole, hrx.trans ((State.challenged_now ..).trans hnow)⟩, hnone⟩
  · refine ⟨_, execBind_of_good hon hframe hform hok hlen hrole hkey (.inr hanchor) hc hlock, ?_⟩
    obtain ⟨hfree, horphan, hnow, hports⟩ := State.bindTaken_of_free hc horphan
    obtain ⟨sid, out, b, hchallenge, hbrole, hbkey, hbat, rest, hrest⟩ :=
      State.challenge_of_signed p r (leNat (sub g.payload 1 1)) g.payload horphan
    rw [hchallenge, if_neg (by simpa using hpub), State.port_onPort _ _ (by rwa [State.challenged_ports_length, hports])]
    exact ⟨⟨b, rfl, hbrole, hbkey, hbat.trans hnow, by rw [hrest, List.take_left' hlen]⟩, (State.challenged_session ..).trans hfree⟩
  · rw [State.hostFrame_of_good _ hon hframe hform hok]
    have hkey : (s.frameTaken p).anchor (hostKeySlot b.role b.keyIndex) = some k := by
      rwa [State.anchor, State.kv_of_without (s.frameTaken_without (m := { host := true }) rfl p) rfl]
    simp [hb, hsid, hkey, hnow]
  · simp [hb, hnow]
  · obtain ⟨o, hport⟩ := State.bindFails_port role hp
    have hfive : 5 ≤ (s.now :: (s.port p).fails.filter fun t => decide (s.now < t + sec 60)).length := Nat.le_of_eq (congrArg Nat.succ hfails.symm)
    simp only [hport, if_pos hfive]
    exact ⟨trivial, trivial, trivial, trivial, trivial⟩
  · simp [he, hnow]
  · rw [State.sessFrame_of_fresh _ hon hframe hform hok hc hsid hfresh]
    subst hop htag
    have hrun : ∀ f : Session → Session, ((s.frameTaken p).onSess p f).sourceFires 4 0xFF = (s.frameTaken p).onSess p f := fun f => by
      have hsame : ((s.frameTaken p).onSess p f).pw = s.pw :=
        State.pw_of_without (m := { host := true }) ((State.onSess_without rfl ..).trans (s.frameTaken_without (m := { host := true }) rfl p)) rfl
      exact State.sourceFires_of_run _ _ (by rw [hsame, hpw]) (by rw [hsame, hentry])
    have hlong : ¬ g.payload.length < 12 := Nat.not_lt.2 hlen
    rw [hrun]
    simp [Session.accept, htags, hlong, hpart, hparts, harg, show ¬ 88832 < g.payload.length - 12 by omega]
  · rw [State.acceptReq_of_may tag arg hc hroles (by simpa using hl) (by omega) (by omega)]
    rw [if_neg (by simp [hlacks]), if_neg (Nat.not_le.2 hlen), if_neg (by simp [hbusy])]
    exact State.giveTicket_eq op tag arg hp hc
  · simp only [hc]
    exact if_pos (List.any_eq_true.2 ⟨b, hb, by simp [htag, hnow]⟩)
  · simp only [hc, hnow, if_true, satU_succ_sixteen, Nat.succ_lt_succ_iff]
  · simp [hlink, Nat.not_lt.2 hp, hpw]

end Sys2Proof.Machine
end

section
/-! PROOFS. Startup.lean: the die temperature (R515, R538). -/
namespace Sys2Proof.Machine


/-- R515: the field of the die temperature keeps a value below zero as the number of its sixteen bits: −0.1 °C reads back as 65535. -/
theorem satS_sixteen_neg_one : satS 16 (-1) = 65535 := rfl

/-- A hot module: reset, with the limit of 135 °C passed before. -/
def hotModule : State := { State.reset with rs := { State.reset.rs with hot := true } }

/-- The die temperature a command leaves. -/
def dieTempAfter : Out → Int
  | .next u => u.rs.dieTemp
  | _ => 0

theorem dieTemp_measured (v : Int) (s : State) : dieTempAfter (exec (.temperatureMeasurement v) s) = satS 16 v := by
  have hfin : ∀ t : State, dieTempAfter (fin s t) = t.rs.dieTemp := fun _ => rfl
  have hev : ∀ (t : State) (b : Bool), (t.evTemp b v).rs = t.rs := fun _ _ => rfl
  refine (hfin _).trans ?_
  dsimp only
  split
  · rw [hev]
  · split
    · rw [hev]
    · rfl

/-- Refutes O59: the clause for a hot module that cools below 125 °C gives the die temperature as the measured value, but the field takes the bits of
a signed sixteen-bit number as a number without sign, so that a measured −1 stands there as 65535. -/
theorem not_suppliesClocksResetsAndStartup : ¬ Obligations.SuppliesClocksResetsAndStartup := by
  unfold Obligations.SuppliesClocksResetsAndStartup
  rintro ⟨-, -, -, -, -, -, -, -, -, -, -, -, -, -, -, -, -, -, hcools, -⟩
  have hclaimed := congrArg dieTempAfter (hcools hotModule (-1) (by decide) (by decide) rfl)
  rw [dieTemp_measured, satS_sixteen_neg_one] at hclaimed
  exact absurd hclaimed (by decide)

end Sys2Proof.Machine
end

section
/-! PROOFS. Answers.lean: the requests and monitor commands that only answer, and the host sessions (R47-R76, R486-R493). -/
namespace Sys2Proof.Machine


section
variable {m : Parts} {s u : State}

/-- A request leaves the parts outside `m` when what it does for each ticket leaves them. -/
theorem State.eq_but_of_request (m : Parts) {c : Instr} {tk op : Nat} {f : Ticket → State} (hexec : exec c s = .next u)
    (hfin : exec c s = fin s (s.onTicket tk op f)) (h : ∀ t, (f t).without m = s.without m) : u = s.but m u :=
  State.eq_but_of_without m hexec hfin (State.onTicket_without h)

/-- R71: an answer leaves the parts outside the host sessions. -/
theorem State.answer_without (hm : m.host = true) (t : Ticket) (st : Nat) (b : Bytes) : (s.complete t st b).without m = s.without m :=
  State.complete_without hm t st b rfl

/-- A choice leaves the parts that both of its ways leave. -/
theorem State.ite_without {c : Prop} [Decidable c] {a b w : State} (ha : a.without m = w) (hb : b.without m = w) :
    (if c then a else b).without m = w := by
  split
  · exact ha
  · exact hb

/-! ### The checks a request begins with -/

theorem State.chargingReq_without (hm : m.host = true) {t : Ticket} {n : Nat} {f : State} (h : f.without m = s.without m) :
    (s.chargingReq t n f).without m = s.without m :=
  State.ite_without (State.answer_without hm ..) (State.ite_without (State.answer_without hm ..) h)

theorem State.measureReq_without (hm : m.host = true) {t : Ticket} {n : Nat} {f : State} (h : f.without m = s.without m) :
    (s.measureReq t n f).without m = s.without m :=
  State.ite_without (State.answer_without hm ..) (State.ite_without (State.answer_without hm ..) h)

theorem State.energyReq_without (hm : m.host = true) {t : Ticket} {kind n : Nat} {f : State} (h : f.without m = s.without m) :
    (s.energyReq t kind n f).without m = s.without m :=
  State.ite_without (State.answer_without hm ..) (State.ite_without (State.answer_without hm ..) h)

theorem State.laneReq_without (hm : m.host = true) {t : Ticket} {meterOk : Bool} {f : Nat → State} (h : ∀ n, (f n).without m = s.without m) :
    (s.laneReq t meterOk f).without m = s.without m :=
  State.ite_without (State.answer_without hm ..)
    (State.ite_without (State.answer_without hm ..) (State.ite_without (State.answer_without hm ..) (h _)))

theorem State.efReq_without (hm : m.host = true) {t : Ticket} {f : Nat → State} (h : ∀ n, (f n).without m = s.without m) :
    (s.efReq t f).without m = s.without m := by
  rw [State.efReq]
  split
  · exact State.ite_without (State.answer_without hm ..) (h _)
  · exact State.answer_without hm ..

/-! ### Host frames and their sessions -/

theorem State.respond_without (hm : m.host = true) (p tag st tk : Nat) : (s.respond p tag st tk).without m = s.without m :=
  (State.onSess_without hm ..).trans (State.sendFrame_without hm ..)

/-- R74: an ACK of events changes the session, and completes a replay that ends. -/
theorem State.acked_without (hm : m.host = true) (p a : Nat) : (s.acked p a).without m = s.without m := by
  rw [State.acked]
  split
  · rfl
  · refine State.ite_without rfl ?_
    have hsess : ∀ (v : State) f, (v.onSess p f).without m = v.without m := fun v f => State.onSess_without hm p f
    split
    · refine State.ite_without ((State.onTicket_without fun t => ?_).trans ((hsess ..).trans (hsess ..))) (hsess ..)
      exact State.complete_without hm _ _ _ ((hsess ..).trans (hsess ..).symm)
    · exact hsess ..

theorem State.sendEvents_without (hm : m.host = true) (p : Nat) (c : Session) : (s.sendEvents p c).without m = s.without m :=
  State.ite_without rfl ((State.onSess_without hm ..).trans (State.sendFrame_without hm ..))

/-- R59, R60: a frame leaves the parts outside the host sessions when what it does leaves them. -/
theorem State.hostFrame_without (hm : m.host = true) {p typ : Nat} {f : HostFrame} {k : State → HostFrame → State}
    (hk : ∀ v g, (k v g).without m = v.without m) : (s.hostFrame p typ f k).without m = s.without m := by
  have htaken : (s.frameTaken p).without m = s.without m := s.frameTaken_without hm p
  refine State.ite_without rfl ?_
  split
  · rfl
  · exact State.ite_without ((State.onPort_without hm ..).trans htaken)
      (State.ite_without ((State.onPort_without hm ..).trans htaken) ((hk ..).trans htaken))

theorem State.sessFrame_without (hm : m.host = true) {p typ : Nat} {f : HostFrame} {k : State → Session → Bytes → State}
    (hk : ∀ v c b, (k v c b).without m = v.without m) : (s.sessFrame p typ f k).without m = s.without m := by
  refine State.hostFrame_without hm fun v g => ?_
  split
  · exact State.onPort_without hm ..
  · exact State.ite_without (State.onPort_without hm ..) ((hk ..).trans (State.onSess_without hm ..))

theorem State.acceptReq_without (hm : m.host = true) (p op tag : Nat) (arg : Bytes) : (s.acceptReq p op tag arg).1.without m = s.without m := by
  rw [State.acceptReq]
  split
  · rfl
  · rfl
  · simp only [apply_ite Prod.fst]
    refine State.ite_without rfl (State.ite_without rfl (State.ite_without rfl (State.ite_without rfl ?_)))
    exact State.onSess_without hm ..

/-! ### The monitors -/

theorem State.setMonRole_without (hm : m.host = true) (side : Nat) (r : Role) : (s.setMonRole side r).without m = s.without m := by
  refine State.ite_without ?_ rfl
  simp only [State.without, State.onMons, hm, cond_true]

/-- R486: a command of the monitor leaves the parts outside `m` when what it does leaves them. -/
theorem State.monCmd_without {side len : Nat} {c : MonCmd} {f : State → State} (hf : ∀ v, (f v).without m = v.without m) :
    (s.monCmd side len c f).without m = s.without m :=
  State.ite_without rfl (State.ite_without rfl (State.ite_without rfl (State.ite_without rfl (State.ite_without rfl (hf _)))))

theorem State.onMons_without (side : Nat) (f : MonSide → MonSide) : (s.onMons side f).without m = s.without m := rfl

theorem State.monSays_without (side st : Nat) (l : List Bytes) : (s.monSays side st l).without m = s.without m := rfl

theorem State.evMod_without (cls : EvClass) (die unit code : Nat) (b : Bytes) (flags : Nat) :
    (s.evMod cls die unit code b flags).without m = s.without m := rfl

/-- R488: a login that fails changes the monitors alone. -/
theorem State.loginFails_without (side : Nat) (r : Role) : (s.loginFails side r).without m = s.without m :=
  (State.evMod_without ..).trans ((State.monSays_without ..).trans (State.onMons_without ..))

end

/-- R65-R69, R76: commands of the host sessions. -/
theorem sessionCommands_leave {s u : State}
    (h : (∃ a, exec (.bindLockoutEnd a) s = .next u) ∨ (∃ a b, exec (.requestPartsTimeout a b) s = .next u) ∨ (∃ a b, exec (.keepalive a b) s = .next u) ∨
     (∃ a, exec (.keepaliveSend a) s = .next u) ∨ (∃ a, exec (.events a) s = .next u) ∨ (∃ a, exec (.eventResend a) s = .next u)) :
    u = s.but { host := true } u := by
  obtain ⟨_, h⟩ | ⟨_, _, h⟩ | ⟨_, _, h⟩ | ⟨_, h⟩ | ⟨_, h⟩ | ⟨_, h⟩ := h
  all_goals refine State.eq_but_of_without _ h rfl ?_
  · split
    · exact State.ite_without (State.onPort_without rfl ..) rfl
    · rfl
  · split
    · exact State.ite_without ((State.respond_without rfl ..).trans (State.onSess_without rfl ..)) rfl
    · rfl
  · exact State.sessFrame_without rfl fun _ _ _ => State.ite_without (State.onPort_without rfl ..) (State.acked_without rfl ..)
  · split
    · exact State.ite_without (State.sendFrame_without rfl ..) rfl
    · rfl
  · split
    · exact State.ite_without (State.sendEvents_without rfl ..) rfl
    · rfl
  · split
    · exact State.ite_without (State.onSess_without rfl ..) rfl
    · rfl

/-- R71: requests that read the sessions, the lanes and their measurement. -/
theorem laneReads_leave {s u : State}
    (h : (∃ a, exec (.ticketQuery a) s = .next u) ∨ (∃ a, exec (.eventReplay a) s = .next u) ∨ (∃ a, exec (.eventFilter a) s = .next u) ∨
     (∃ a, exec (.matrixInfo a) s = .next u) ∨ (∃ a, exec (.laneInfo a) s = .next u) ∨ (∃ a, exec (.hsCertFetch a) s = .next u) ∨
     (∃ a, exec (.ppLaneRead a) s = .next u) ∨ (∃ a, exec (.psRead a) s = .next u) ∨ (∃ a, exec (.efRead a) s = .next u) ∨
     (∃ a, exec (.mtCalRead a) s = .next u) ∨ (∃ a, exec (.mtTestRead a) s = .next u) ∨ (∃ a, exec (.mtPulseRead a) s = .next u)) :
    u = s.but { host := true } u := by
  obtain ⟨_, h⟩ | ⟨_, h⟩ | ⟨_, h⟩ | ⟨_, h⟩ | ⟨_, h⟩ | ⟨_, h⟩ | ⟨_, h⟩ | ⟨_, h⟩ | ⟨_, h⟩ | ⟨_, h⟩ | ⟨_, h⟩ | ⟨_, h⟩ := h
  all_goals refine State.eq_but_of_request _ h rfl fun t => ?_
  · split
    · rfl
    · refine State.ite_without (State.answer_without rfl ..) (State.ite_without (State.answer_without rfl ..) ?_)
      split <;> exact State.answer_without rfl ..
  · dsimp only
    split
    · rfl
    · refine State.ite_without (State.answer_without rfl ..) (State.ite_without (State.answer_without rfl ..) ?_)
      split
      · exact State.ite_without rfl (State.answer_without rfl ..)
      · exact State.ite_without (State.complete_without rfl _ _ _ ((State.onSess_without rfl ..).trans (State.onSess_without rfl ..)))
          (State.onSess_without rfl ..)
  · exact State.ite_without (State.answer_without rfl ..) (State.complete_without rfl _ _ _ (State.onSess_without rfl ..))
  · exact State.answer_without rfl ..
  · exact State.laneReq_without rfl fun _ => State.answer_without rfl ..
  · split <;> exact State.answer_without rfl ..
  · exact State.chargingReq_without rfl (State.answer_without rfl ..)
  · exact State.answer_without rfl ..
  · exact State.efReq_without rfl fun _ => State.answer_without rfl ..
  · exact State.measureReq_without rfl (State.answer_without rfl ..)
  · exact State.measureReq_without rfl (State.answer_without rfl ..)
  · exact State.answer_without rfl ..

/-- R71: requests that read the registers, records and parameters. -/
theorem registerReads_leave {s u : State}
    (h : (∃ a, exec (.enRead a) s = .next u) ∨ (∃ a, exec (.enRecordRead a) s = .next u) ∨ (∃ a, exec (.enImpressionRead a) s = .next u) ∨
     (∃ a, exec (.sfRead a) s = .next u) ∨ (∃ a, exec (.spRead a) s = .next u) ∨ (∃ a, exec (.spLogRead a) s = .next u) ∨
     (∃ a, exec (.poRead a) s = .next u) ∨ (∃ a, exec (.rdRead a) s = .next u) ∨ (∃ a, exec (.calRead a) s = .next u) ∨
     (∃ a, exec (.tmRead a) s = .next u) ∨ (∃ a, exec (.blHistoryRead a) s = .next u) ∨ (∃ a, exec (.blRateRead a) s = .next u)) :
    u = s.but { host := true } u := by
  obtain ⟨_, h⟩ | ⟨_, h⟩ | ⟨_, h⟩ | ⟨_, h⟩ | ⟨_, h⟩ | ⟨_, h⟩ | ⟨_, h⟩ | ⟨_, h⟩ | ⟨_, h⟩ | ⟨_, h⟩ | ⟨_, h⟩ | ⟨_, h⟩ := h
  all_goals refine State.eq_but_of_request _ h rfl fun t => ?_
  · exact State.energyReq_without rfl (State.answer_without rfl ..)
  · dsimp only
    split <;> exact State.answer_without rfl ..
  · exact State.ite_without (State.answer_without rfl ..) (State.answer_without rfl ..)
  · exact State.answer_without rfl ..
  · refine State.ite_without (State.answer_without rfl ..) ?_
    split <;> exact State.answer_without rfl ..
  · exact State.ite_without (State.answer_without rfl ..) (State.answer_without rfl ..)
  · exact State.ite_without (State.answer_without rfl ..) (State.answer_without rfl ..)
  · exact State.answer_without rfl ..
  · split <;> exact State.answer_without rfl ..
  · exact State.answer_without rfl ..
  · refine State.energyReq_without rfl ?_
    dsimp only
    split <;> exact State.answer_without rfl ..
  · exact State.energyReq_without rfl (State.answer_without rfl ..)

/-- R71: requests that read the accounts, the vault, the links, the displays and the module's own state. -/
theorem moduleReads_leave {s u : State}
    (h : (∃ a, exec (.acCellRead a) s = .next u) ∨ (∃ a, exec (.acCredFetch a) s = .next u) ∨ (∃ a, exec (.acStatus a) s = .next u) ∨
     (∃ a, exec (.kvCertRead a) s = .next u) ∨ (∃ a, exec (.kzRead a) s = .next u) ∨ (∃ a, exec (.kzNodeRead a) s = .next u) ∨
     (∃ a, exec (.tgRead a) s = .next u) ∨ (∃ a, exec (.dsRead a) s = .next u) ∨ (∃ a, exec (.mmRead a) s = .next u) ∨
     (∃ a, exec (.pwRead a) s = .next u) ∨ (∃ a, exec (.upStatus a) s = .next u)) :
    u = s.but { host := true } u := by
  obtain ⟨_, h⟩ | ⟨_, h⟩ | ⟨_, h⟩ | ⟨_, h⟩ | ⟨_, h⟩ | ⟨_, h⟩ | ⟨_, h⟩ | ⟨_, h⟩ | ⟨_, h⟩ | ⟨_, h⟩ | ⟨_, h⟩ := h
  all_goals refine State.eq_but_of_request _ h rfl fun t => ?_
  · exact State.ite_without (State.answer_without rfl ..) (State.answer_without rfl ..)
  · split <;> exact State.answer_without rfl ..
  · exact State.answer_without rfl ..
  · split
    · exact State.ite_without (State.answer_without rfl ..) (State.answer_without rfl ..)
    · exact State.answer_without rfl ..
  · exact State.answer_without rfl ..
  · exact State.ite_without (State.answer_without rfl ..)
      (State.ite_without (State.answer_without rfl ..) (State.answer_without rfl ..))
  · exact State.ite_without (State.answer_without rfl ..) (State.answer_without rfl ..)
  · exact State.answer_without rfl ..
  · exact State.answer_without rfl ..
  · exact State.answer_without rfl ..
  · split <;> exact State.answer_without rfl ..

/-- R487-R493: commands and requests of the monitors. -/
theorem monitorCommands_leave {s u : State}
    (h : (∃ a b c d, exec (.login a b c d) s = .next u) ∨ (∃ a b, exec (.logout a b) s = .next u) ∨ (∃ a b c d, exec (.req a b c d) s = .next u) ∨
     (∃ a, exec (.monitorIdleTimeout a) s = .next u) ∨ (∃ a, exec (.monLock a) s = .next u) ∨ (∃ a, exec (.monPasswordSet a) s = .next u) ∨
     (∃ a, exec (.monRead a) s = .next u)) :
    u = s.but { host := true } u := by
  obtain ⟨_, _, _, _, h⟩ | ⟨_, _, h⟩ | ⟨_, _, _, _, h⟩ | ⟨_, h⟩ | ⟨_, h⟩ | ⟨_, h⟩ | ⟨_, h⟩ := h
  all_goals refine State.eq_but_of_without _ h rfl ?_
  · exact State.monCmd_without fun v => State.ite_without rfl (State.ite_without rfl (State.ite_without rfl
      (State.ite_without (v.setMonRole_without rfl ..) (v.loginFails_without ..))))
  · exact State.monCmd_without fun v => v.setMonRole_without rfl ..
  · exact State.monCmd_without fun v => State.ite_without rfl (State.acceptReq_without (m := { host := true }) rfl ..)
  · exact State.ite_without (s.setMonRole_without rfl ..) rfl
  · refine State.onTicket_without fun t => State.ite_without (State.answer_without rfl ..) (State.ite_without (State.answer_without rfl ..) ?_)
    exact State.complete_without rfl _ _ _ ((State.setMonRole_without rfl ..).trans (State.setMonRole_without rfl ..))
  · exact State.onTicket_without fun t => State.ite_without (State.answer_without rfl ..) (State.complete_without rfl _ _ _ rfl)
  · exact State.onTicket_without fun t => State.answer_without rfl ..

end Sys2Proof.Machine
end

section
/-! PROOFS. LaneFrames.lean: what the commands on time, lanes, handshake, power path, sharing, earth fault and measurement leave as it was. -/
namespace Sys2Proof.Machine


section
variable {m : Parts}

/-- A fold leaves the parts each of its steps leaves. -/
theorem State.foldl_without {β : Type} {f : State → β → State} (h : ∀ v x, (f v x).without m = v.without m) (l : List β) (s : State) :
    (l.foldl f s).without m = s.without m :=
  foldl_keeps (fun v : State => v.without m = s.without m) f l s rfl fun v hv x _ => (h v x).trans hv

section
variable (s : State)

theorem State.evLane_without (cls : EvClass) (n code : Nat) (b : Bytes) (flags : Nat) : (s.evLane cls n code b flags).without m = s.without m := rfl

theorem State.onHs_without (hm : m.hs = true) (n : Nat) (f : HsLane → HsLane) : (s.onHs n f).without m = s.without m := by
  simp only [State.without, State.onHs, hm, cond_true]

theorem State.onLink_without (hm : m.hs = true) (n : Nat) (f : LinkHs → LinkHs) : (s.onLink n f).without m = s.without m := s.onHs_without hm ..

theorem State.onCnt_without (hm : m.hs = true) (n : Nat) (f : CntHs → CntHs) : (s.onCnt n f).without m = s.without m := s.onHs_without hm ..

theorem State.tell_without (hm : m.hs = true) (n kind : Nat) (b : Bytes) : (s.tell n kind b).without m = s.without m := s.onHs_without hm ..

theorem State.onRun_without (hm : m.hs = true) (id : Nat) (f : Slac → Slac) : (s.onRun id f).without m = s.without m := by
  simp only [State.without, State.onRun, hm, cond_true]

theorem State.endRun_without (hm : m.hs = true) (id : Nat) : (s.endRun id).without m = s.without m := by
  simp only [State.without, State.endRun, hm, cond_true]

theorem State.drawn_without (hm : m.draws = true) : s.drawn.without m = s.without m := by
  simp only [State.without, State.drawn, hm, cond_true]

end

theorem State.clearCause_without (hm : m.lanes = true) (s : State) (n : Nat) (c : Cause) (by_ : Nat) :
    (s.clearCause n c by_).without m = s.without m := by
  refine State.ite_without ?_ rfl
  simp only [State.without, State.onLane, State.evLane, State.raise, hm, cond_true]

/-- R124, R128: an association that is ambiguous changes the handshake alone. -/
theorem State.ambiguous_without (hm : m.hs = true) (s : State) (r : Slac) (reason : Nat) : (s.ambiguous r reason).without m = s.without m := by
  refine (State.endRun_without _ hm _).trans (State.foldl_without (fun v n => ?_) _ s)
  exact (State.onCnt_without _ hm ..).trans (State.onLink_without _ hm ..)

/-- R124, R125: the decision of a run draws once and changes the handshake. -/
theorem State.decideRun_without (s : State) (r : Slac) :
    (s.decideRun r).without { hs := true, draws := true } = s.without { hs := true, draws := true } := by
  have hdrawn : s.drawn.without { hs := true, draws := true } = s.without { hs := true, draws := true } := s.drawn_without rfl
  have hamb : ∀ q k, (s.drawn.ambiguous q k).without { hs := true, draws := true } = s.without { hs := true, draws := true } := fun q k =>
    (State.ambiguous_without rfl ..).trans hdrawn
  refine State.ite_without (hamb ..) (State.ite_without (hamb ..) (State.ite_without (hamb ..) ?_))
  refine (State.tell_without _ rfl ..).trans ((State.foldl_without (fun v n => ?_) _ _).trans ((State.onRun_without _ rfl ..).trans hdrawn))
  exact v.onLink_without rfl ..

theorem State.onPp_without (hm : m.pp = true) (s : State) (n : Nat) (f : PpLane → PpLane) : (s.onPp n f).without m = s.without m := by
  simp only [State.without, State.onPp, hm, cond_true]

/-- R195: a change of the insulation state changes the insulation monitoring alone. -/
theorem State.isoState_without (hm : m.ef = true) (s : State) (g new : Nat) : (s.isoState g new).without m = s.without m := by
  refine State.ite_without rfl ?_
  simp only [State.without, State.onEfg, State.evGroup, State.evMod, State.raise, hm, cond_true]

end

/-- R18, R19, R327: commands on time. -/
theorem timeCommands_leave {s u : State}
    (h : exec .timeReplicaRealign s = .next u ∨ (∃ a, exec (.legalAnchor a) s = .next u) ∨ exec .slewEnd s = .next u) :
    u = s.but { clock := true } u := by
  obtain h | ⟨_, h⟩ | h := h
  all_goals refine State.eq_but_of_without _ h rfl ?_
  · exact State.ite_without rfl rfl
  · exact State.ite_without rfl rfl
  · split
    · exact State.ite_without rfl rfl
    · rfl

/-- R100, R109, R185, R543: commands on the lanes. -/
theorem laneCommands_leave {s u : State}
    (h : (∃ a, exec (.laneClear a) s = .next u) ∨ (∃ a, exec (.dutyChange a) s = .next u) ∨ (∃ a, exec (.isolationCauseClear a) s = .next u) ∨
     (∃ a, exec (.pilotFaultClear a) s = .next u)) :
    u = s.but { lanes := true, host := true } u := by
  obtain ⟨_, h⟩ | ⟨_, h⟩ | ⟨_, h⟩ | ⟨_, h⟩ := h
  all_goals refine State.eq_but_of_without _ h rfl ?_
  · refine State.onTicket_without fun t => State.laneReq_without rfl fun n => ?_
    refine State.ite_without (State.answer_without rfl ..) (State.ite_without (State.answer_without rfl ..) ?_)
    exact State.complete_without rfl _ _ _ (State.foldl_without (fun v c => v.clearCause_without rfl ..) ..)
  · split
    · exact State.ite_without rfl rfl
    · rfl
  · split
    · exact State.ite_without (s.clearCause_without rfl ..) rfl
    · rfl
  · exact State.ite_without (s.clearCause_without rfl ..) rfl

/-- R105-R130: commands on the handshake. -/
theorem handshakeCommands_leave {s u : State}
    (h : (∃ a b c, exec (.pilotStateChange a b c) s = .next u) ∨ (∃ a, exec (.pilotFoldback a) s = .next u) ∨ (∃ a b, exec (.foldbackTest a b) s = .next u) ∨
     (∃ a b, exec (.preambleDetected a b) s = .next u) ∨ (∃ a, exec (.hpavFrameReceived a) s = .next u) ∨ (∃ a b c, exec (.cmSlacParmReq a b c) s = .next u) ∨
     (∃ a, exec (.cmStartAttenCharInd a) s = .next u) ∨ (∃ a b, exec (.cmMnbcSound a b) s = .next u) ∨ (∃ a b c d, exec (.cmValidate a b c d) s = .next u) ∨
     (∃ a b, exec (.seccDiscovery a b) s = .next u) ∨ (∃ a b c, exec (.certificateRequest a b c) s = .next u) ∨ (∃ a, exec (.hsCountClear a) s = .next u)) :
    u = s.but { hs := true, host := true } u := by
  obtain ⟨_, _, _, h⟩ | ⟨_, h⟩ | ⟨_, _, h⟩ | ⟨_, _, h⟩ | ⟨_, h⟩ | ⟨_, _, _, h⟩ | ⟨_, h⟩ | ⟨_, _, h⟩ | ⟨_, _, _, _, h⟩ | ⟨_, _, h⟩ | ⟨_, _, _, h⟩ | ⟨_, h⟩ := h
  all_goals refine State.eq_but_of_without _ h rfl ?_
  · exact State.ite_without rfl rfl
  · exact State.ite_without rfl rfl
  · exact State.ite_without rfl rfl
  · split
    · rfl
    · split
      · rfl
      · exact State.ite_without rfl rfl
  · rfl
  · refine State.ite_without rfl ((State.foldl_without (fun v n => ?_) _ _).trans ?_)
    · exact (State.tell_without _ rfl ..).trans ((State.onCnt_without _ rfl ..).trans (State.onLink_without _ rfl ..))
    · rfl
  · split
    · rfl
    · refine State.ite_without rfl ((State.foldl_without (fun v n => ?_) _ _).trans (State.onRun_without _ rfl ..))
      exact v.onLink_without rfl ..
  · split
    · rfl
    · split
      · rfl
      · exact State.ite_without rfl rfl
  · split
    · rfl
    · refine State.ite_without (State.ite_without ?_ ((State.ambiguous_without rfl ..).trans ?_)) rfl
      · exact State.tell_without _ rfl ..
      · exact State.tell_without _ rfl ..
  · exact State.ite_without rfl rfl
  · exact State.ite_without rfl rfl
  · refine State.onTicket_without fun t => State.ite_without ?_ (State.chargingReq_without rfl (State.complete_without rfl _ _ _ rfl))
    exact State.complete_without rfl _ _ _ (State.foldl_without (fun v n => v.onCnt_without rfl ..) _ _)

/-- R124, R380: the commands of the handshake that draw from the random source. -/
theorem drawingHandshakeCommands_leave {s u : State}
    (h : (∃ a, exec (.soundingEnd a) s = .next u) ∨ (∃ a b, exec (.cmSlacMatchReq a b) s = .next u)) :
    u = s.but { hs := true, draws := true } u := by
  obtain ⟨_, h⟩ | ⟨_, _, h⟩ := h
  all_goals refine State.eq_but_of_without _ h rfl ?_
  · split
    · rfl
    · split
      · rfl
      · exact State.ite_without (s.decideRun_without _) rfl
  · split
    · rfl
    · refine State.ite_without ((State.endRun_without _ rfl _).trans ?_) rfl
      simp only [State.evLane_without, State.tell_without, State.onCnt_without, State.drawn_without, State.onLink_without]

/-- R145, R152, R153: commands on the CAN controllers and the counters of the power path. -/
theorem powerPathCommands_leave {s u : State}
    (h : (∃ a, exec (.canBusOffRecovery a) s = .next u) ∨ (∃ a, exec (.ppCanApply a) s = .next u) ∨ (∃ a, exec (.ppCountClear a) s = .next u) ∨
     (∃ a, exec (.canBusOff a) s = .next u)) :
    u = s.but { pp := true, host := true } u := by
  obtain ⟨_, h⟩ | ⟨_, h⟩ | ⟨_, h⟩ | ⟨_, h⟩ := h
  all_goals refine State.eq_but_of_without _ h rfl ?_
  · rfl
  · exact State.ite_without rfl rfl
  · refine State.onTicket_without fun t => State.ite_without ?_ (State.chargingReq_without rfl (State.complete_without rfl _ _ _ rfl))
    exact State.complete_without rfl _ _ _ (State.foldl_without (fun v n => v.onPp_without rfl ..) _ _)
  · rfl

/-- R162-R171: commands on power sharing. -/
theorem sharingCommands_leave {s u : State}
    (h : (∃ a b, exec (.releaseHoldEnd a b) s = .next u) ∨ (∃ a, exec (.curtailExpiry a) s = .next u) ∨ exec .dispatchExpiry s = .next u ∨
     (∃ a, exec (.moduleReportLoss a) s = .next u) ∨ (∃ a, exec (.psCurtailClear a) s = .next u) ∨ (∃ a, exec (.psDispatch a) s = .next u) ∨
     (∃ a, exec (.psLaneCap a) s = .next u) ∨ (∃ a, exec (.psHubLimit a) s = .next u)) :
    u = s.but { ps := true, host := true } u := by
  obtain ⟨_, _, h⟩ | ⟨_, h⟩ | h | ⟨_, h⟩ | ⟨_, h⟩ | ⟨_, h⟩ | ⟨_, h⟩ | ⟨_, h⟩ := h
  all_goals refine State.eq_but_of_without _ h rfl ?_
  · split
    · exact State.ite_without rfl rfl
    · rfl
  · split
    · exact State.ite_without rfl rfl
    · rfl
  · split
    · exact State.ite_without rfl rfl
    · rfl
  · split
    · exact State.ite_without rfl rfl
    · rfl
  · refine State.onTicket_without fun t => ?_
    dsimp only
    split
    · exact State.complete_without rfl _ _ _ rfl
    · exact State.answer_without rfl ..
  · exact State.onTicket_without fun t => State.ite_without (State.answer_without rfl ..) (State.ite_without rfl rfl)
  · exact State.onTicket_without fun t => State.ite_without (State.answer_without rfl ..) (State.ite_without rfl rfl)
  · exact State.onTicket_without fun t => State.ite_without (State.answer_without rfl ..) (State.ite_without rfl rfl)

/-- R187, R194: commands on insulation monitoring. -/
theorem earthFaultCommands_leave {s u : State}
    (h : (∃ a, exec (.currentSenseTest a) s = .next u) ∨ (∃ a b, exec (.currentSenseTestEnd a b) s = .next u) ∨ (∃ a, exec (.efSelftest a) s = .next u) ∨
     (∃ a, exec (.efGroupClear a) s = .next u) ∨ (∃ a, exec (.efCountClear a) s = .next u)) :
    u = s.but { ef := true, host := true } u := by
  obtain ⟨_, h⟩ | ⟨g, _, h⟩ | ⟨_, h⟩ | ⟨_, h⟩ | ⟨_, h⟩ := h
  all_goals refine State.eq_but_of_without _ h rfl ?_
  · exact State.ite_without rfl rfl
  · refine State.ite_without rfl ?_
    have hiso : ∀ (v : State) k, (v.isoState g k).without { ef := true, host := true } = v.without { ef := true, host := true } := fun v k => v.isoState_without rfl ..
    have hchoice : ∀ {c : Prop} [Decidable c] (v : State) k, v.without { ef := true, host := true } = s.without { ef := true, host := true } →
        (if c then v.isoState g k else v).without { ef := true, host := true } = s.without { ef := true, host := true } :=
      fun v k h => State.ite_without ((hiso v k).trans h) h
    dsimp only
    cases (s.efg g).testTicket with
    | some tk => exact (State.onTicket_without fun t => State.answer_without rfl ..).trans (hchoice _ _ rfl)
    | none => exact hchoice _ _ rfl
  · exact State.onTicket_without fun t => State.efReq_without rfl fun g => State.ite_without (State.answer_without rfl ..)
      (State.ite_without (State.ite_without rfl (State.answer_without rfl ..)) rfl)
  · exact State.onTicket_without fun t => State.efReq_without rfl fun g => State.ite_without (State.answer_without rfl ..)
      (State.complete_without rfl _ _ _ ((State.isoState_without rfl _ _ _).trans rfl))
  · exact State.onTicket_without fun t => State.complete_without rfl _ _ _ rfl

/-- R204, R213, R219, R530: commands on measurement. -/
theorem measurementCommands_leave {s u : State}
    (h : (∃ a, exec (.clipTimeout a) s = .next u) ∨ (∃ a, exec (.testModeExpiry a) s = .next u) ∨ (∃ a, exec (.pulseFoldback a) s = .next u) ∨
     (∃ a, exec (.pulseFoldbackRestore a) s = .next u) ∨ (∃ a, exec (.mtTest a) s = .next u) ∨ (∃ a, exec (.mtCountClear a) s = .next u)) :
    u = s.but { mt := true, host := true } u := by
  obtain ⟨_, h⟩ | ⟨_, h⟩ | ⟨_, h⟩ | ⟨_, h⟩ | ⟨_, h⟩ | ⟨_, h⟩ := h
  all_goals refine State.eq_but_of_without _ h rfl ?_
  · split
    · exact State.ite_without rfl rfl
    · rfl
  · split
    · exact State.ite_without rfl rfl
    · rfl
  · exact State.ite_without rfl rfl
  · exact State.ite_without rfl rfl
  · exact State.onTicket_without fun t => State.measureReq_without rfl (State.ite_without (State.answer_without rfl ..)
      (State.ite_without (State.complete_without rfl _ _ _ rfl) (State.ite_without (State.answer_without rfl ..) (State.complete_without rfl _ _ _ rfl))))
  · exact State.onTicket_without fun t => State.complete_without rfl _ _ _ rfl

end Sys2Proof.Machine
end

section
/-! PROOFS. EnergyFrames.lean: what the commands on the energy registers and on billing leave as it was. -/
namespace Sys2Proof.Machine


section
variable {m : Parts} (s : State)

theorem State.onEn_without (hm : m.en = true) (cust : Bool) (n : Nat) (f : EnSet → EnSet) : (s.onEn cust n f).without m = s.without m := by
  refine State.ite_without ?_ ?_
  all_goals simp only [State.without, hm, cond_true]

theorem State.setTamper_without (hm : m.en = true) (cust : Bool) (n b : Nat) : (s.setTamper cust n b).without m = s.without m :=
  s.onEn_without hm ..

theorem State.pushImpr_without (hm : m.en = true) (b : Bytes) : (s.pushImpr b).without m = s.without m := by
  simp only [State.without, State.pushImpr, hm, cond_true]

/-- R240: an impression changes the energy part alone. -/
theorem State.impress_without (hm : m.en = true) (cust : Bool) (n reason flags legal : Nat) :
    (s.impress cust n reason flags legal).without m = s.without m := by
  have hpush : ∀ (v : State) b, (v.pushImpr b).without m = v.without m := fun v b => v.pushImpr_without hm b
  exact State.ite_without ((hpush ..).trans ((hpush ..).trans (hpush ..))) (hpush ..)

end

/-- R230-R247: commands on the energy registers. -/
theorem energyCommands_leave {s u : State}
    (h : exec .accumulatorMirror s = .next u ∨ (∃ a b c, exec (.missingNeutral a b c) s = .next u) ∨ exec .coverOpen s = .next u ∨
     (∃ a, exec (.enCableWrite a) s = .next u) ∨ (∃ a, exec (.enTamperClear a) s = .next u) ∨ (∃ a, exec (.enImpress a) s = .next u) ∨
     exec .coverClosed s = .next u) :
    u = s.but { en := true, host := true } u := by
  obtain h | ⟨_, _, _, h⟩ | h | ⟨_, h⟩ | ⟨_, h⟩ | ⟨_, h⟩ | h := h
  all_goals refine State.eq_but_of_without _ h rfl ?_
  · exact State.ite_without rfl rfl
  · exact State.ite_without ((State.onEn_without _ rfl ..).trans (State.setTamper_without _ rfl ..)) (State.onEn_without _ rfl ..)
  · exact State.ite_without rfl (State.ite_without rfl rfl)
  · refine State.onTicket_without fun t => State.energyReq_without rfl (State.ite_without (State.answer_without rfl ..)
      (State.ite_without (State.answer_without rfl ..) (State.complete_without rfl _ _ _ ?_)))
    exact (State.onEn_without _ rfl ..).trans (State.impress_without _ rfl ..)
  · refine State.onTicket_without fun t => State.ite_without (State.complete_without rfl _ _ _ rfl)
      (State.energyReq_without rfl (State.complete_without rfl _ _ _ ?_))
    exact (State.onEn_without _ rfl ..).trans (State.impress_without _ rfl ..)
  · refine State.onTicket_without fun t => State.ite_without (State.answer_without rfl ..) (State.ite_without ?_ ?_)
    · exact State.complete_without rfl _ _ _ (State.foldl_without (fun v n => v.impress_without rfl ..) _ _)
    · exact State.energyReq_without rfl (State.complete_without rfl _ _ _ (s.impress_without rfl ..))
  · exact State.ite_without rfl (State.ite_without rfl rfl)

/-! ### Billing (R310-R324) -/

/-- The parts billing changes. -/
def Parts.ofBilling : Parts := { bl := true, en := true }

section
variable (s : State)

theorem State.imprAll_without (reason flags at_ : Nat) : (s.imprAll reason flags at_).without .ofBilling = s.without .ofBilling := by
  refine (State.foldl_without (fun v n => ?_) _ _).trans (State.foldl_without (fun v n => ?_) _ _)
  all_goals
    have himpr : ∀ c, (v.impress c n reason flags at_).without .ofBilling = v.without .ofBilling := fun c => v.impress_without rfl ..
    exact State.ite_without (himpr _) (himpr _)

theorem State.imprDemand_without (flags at_ : Nat) : (s.imprDemand flags at_).without .ofBilling = s.without .ofBilling :=
  (State.foldl_without (fun v _ => v.impress_without rfl ..) _ _).trans (State.foldl_without (fun v _ => v.impress_without rfl ..) _ _)

/-- What is written to the billing and energy parts alone leaves the rest. -/
theorem State.billed_without {v : State} (bl : Bl) (en : En) (h : v.without .ofBilling = s.without .ofBilling) :
    ({ v with bl := bl, en := en } : State).without .ofBilling = s.without .ofBilling := h

theorem State.evBound_without {v : State} (typ flags i run : Nat) (h : v.without .ofBilling = s.without .ofBilling) :
    (v.evBound typ flags i run).without .ofBilling = s.without .ofBilling := h

theorem State.evCalendar_without {v : State} (kind i : Nat) (h : v.without .ofBilling = s.without .ofBilling) :
    (v.evCalendar kind i).without .ofBilling = s.without .ofBilling := h

theorem State.closeIntervals_without (at_ : Nat) : (s.closeIntervals at_).without .ofBilling = s.without .ofBilling := rfl

theorem State.demandClose_without (typ flags at_ run : Nat) (told : Bool) :
    (s.demandClose typ flags at_ run told).without .ofBilling = s.without .ofBilling :=
  s.billed_without _ _ (State.ite_without (s.evBound_without _ _ _ _ ((State.imprDemand_without ..).trans (s.closeIntervals_without at_)))
    (s.closeIntervals_without at_))

theorem State.tariffSwitch_without (rate flags i run : Nat) (told : Bool) :
    (s.tariffSwitch rate flags i run told).without .ofBilling = s.without .ofBilling :=
  State.ite_without (s.evBound_without _ _ _ _ ((State.imprAll_without ..).trans (s.billed_without _ _ rfl))) (s.billed_without _ _ rfl)

theorem State.periodClose_without (flags i : Nat) : (s.periodClose flags i).without .ofBilling = s.without .ofBilling :=
  s.billed_without _ _ (s.evBound_without _ _ _ _ ((State.imprAll_without ..).trans (s.billed_without _ _ rfl)))

theorem State.activate_without (flags i : Nat) : (s.activate flags i).without .ofBilling = s.without .ofBilling := by
  rw [State.activate]
  split
  · rfl
  · exact s.evCalendar_without _ _ (s.evBound_without _ _ _ _ ((State.imprAll_without ..).trans (s.billed_without _ _ rfl)))

end

/-- R310-R324: the commands of the calendar. -/
theorem billingCommands_leave {s u : State}
    (h : exec .demandClose s = .next u ∨ exec .tariffSwitch s = .next u ∨ exec .billingPeriodClose s = .next u ∨
     exec .calendarActivation s = .next u ∨ exec .daylightSavingChange s = .next u) :
    u = s.but .ofBilling u := by
  obtain h | h | h | h | h := h
  all_goals refine State.eq_but_of_without _ h rfl ?_
  · split
    · exact s.billed_without _ _ (s.demandClose_without ..)
    · rfl
    · rfl
  · split
    · exact s.tariffSwitch_without ..
    · rfl
    · rfl
  · split
    · exact s.periodClose_without ..
    · rfl
    · rfl
  · split
    · exact s.activate_without ..
    · rfl
    · rfl
  · have hswitch : ∀ (v : State) jump, (match v.dueBound with
        | some (i, .switch r) => if i = jump then v.tariffSwitch r 0 i 1 true else v
        | some _ | none => v).without .ofBilling = v.without .ofBilling := fun v jump => by
      split
      · exact State.ite_without (v.tariffSwitch_without ..) rfl
      · rfl
      · rfl
    have hperiod : ∀ (v : State) jump, (match v.dueBound with
        | some (i, .period) => if i = jump then v.periodClose 0 i else v
        | some _ | none => v).without .ofBilling = v.without .ofBilling := fun v jump => by
      split
      · exact State.ite_without (v.periodClose_without ..) rfl
      · rfl
      · rfl
    exact State.ite_without rfl ((hperiod _ _).trans ((hswitch _ _).trans (s.billed_without _ _ rfl)))

end Sys2Proof.Machine
end

section
/-! PROOFS. SafetyFrames.lean: what the commands on the safety parameters, the outputs and the sides leave as it was. -/
namespace Sys2Proof.Machine


section
variable {m : Parts} (s : State)

theorem State.logParam_without (hm : m.sf = true) (role : Role) (key old new : Nat) : (s.logParam role key old new).without m = s.without m := by
  simp only [State.without, State.logParam, State.evMod, State.raise, hm, cond_true]

theorem State.pwFail_without (hsf : m.sf = true) (hhost : m.host = true) (t : Ticket) : (s.pwFail t).without m = s.without m := by
  refine State.complete_without hhost _ _ _ ?_
  simp only [State.without, State.evMod, State.raise, hsf, cond_true]

theorem State.onGrv_without (hm : m.sf = true) (f : Graver → Graver) : (s.onGrv f).without m = s.without m := by
  simp only [State.without, State.onGrv, hm, cond_true]

/-- R270: a parameter block that is taken changes the safety part alone. -/
theorem State.spCommit_without (role : Role) (b : SpBlock) :
    (s.spCommit role b).without { sf := true, host := true } = s.without { sf := true, host := true } := by
  have hlog : ∀ l : List (Nat × Nat), (l.foldl (fun (s : State) x => s.logParam role x.1 ((s.sf.block.value x.1).getD 0) x.2) s).without
      { sf := true, host := true } = s.without { sf := true, host := true } := fun l => State.foldl_without (fun v x => v.logParam_without rfl ..) _ _
  exact State.ite_without ((State.logParam_without _ rfl ..).trans ((State.onGrv_without _ rfl _).trans (hlog _)))
    ((State.onGrv_without _ rfl _).trans (hlog _))

theorem State.onStip_without (hm : m.sf = true) (kind i : Nat) (f : Stip → Stip) : (s.onStip kind i f).without m = s.without m := by
  refine State.ite_without ?_ ?_
  all_goals simp only [State.without, hm, cond_true]

theorem State.onCh_without (hm : m.po = true) (k : Nat) (f : PoCh → PoCh) : (s.onCh k f).without m = s.without m := by
  simp only [State.without, State.onCh, hm, cond_true]

/-- R279: a channel that is driven changes the outputs alone. -/
theorem State.drive_without (hm : m.po = true) (k : Nat) : (s.drive k).without m = s.without m :=
  State.ite_without (s.onCh_without hm ..) (State.ite_without (s.onCh_without hm ..) (s.onCh_without hm ..))

theorem State.restart_without (hm : m.po = true) (k : Nat) : (s.restart k).without m = s.without m :=
  (State.drive_without _ hm k).trans (s.onCh_without hm k _)

theorem State.evOpen_without (hm : m.po = true) (k check cur : Nat) (old new : Bool) : (s.evOpen k check cur old new).without m = s.without m :=
  State.ite_without (State.ite_without rfl (s.onCh_without hm k _)) (State.ite_without rfl rfl)

theorem State.evUv_without (d st vsw : Nat) : (s.evUv d st vsw).without m = s.without m := rfl

theorem State.onDie_without (hm : m.po = true) (d : Nat) (f : PoDie → PoDie) : (s.onDie d f).without m = s.without m := by
  simp only [State.without, State.onDie, hm, cond_true]

theorem State.driveDie_without (hm : m.po = true) (d : Nat) :
    ((List.range 32).foldl (fun (s : State) i => s.drive (32 * d + i)) s).without m = s.without m :=
  State.foldl_without (fun v _ => v.drive_without hm _) _ _

end

/-- R267-R274: commands on the guard test, the passwords and the safety parameters. -/
theorem safetyCommands_leave {s u : State}
    (h : (∃ a b, exec (.suspectClearHold a b) s = .next u) ∨ exec .guardTestHold s = .next u ∨ (∃ a, exec (.spWrite a) s = .next u) ∨
     (∃ a, exec (.spPasswordSet a) s = .next u) ∨ exec .passwordLockEnd s = .next u ∨ exec .passwordReplaceWindowEnd s = .next u) :
    u = s.but { sf := true, host := true } u := by
  obtain ⟨_, _, h⟩ | h | ⟨_, h⟩ | ⟨_, h⟩ | h | h := h
  all_goals refine State.eq_but_of_without _ h rfl ?_
  · exact State.ite_without (s.onStip_without rfl ..) rfl
  · dsimp only
    split
    · exact State.ite_without rfl rfl
    · exact State.ite_without rfl rfl
    · exact State.ite_without rfl rfl
    · rfl
  · refine State.onTicket_without fun t => State.ite_without (State.answer_without rfl ..) ?_
    split
    · exact State.answer_without rfl ..
    · refine State.ite_without (s.pwFail_without rfl rfl t) (State.ite_without (State.answer_without rfl ..) ?_)
      dsimp only
      split
      · exact State.answer_without rfl ..
      · split
        · exact State.answer_without rfl ..
        · exact State.ite_without (State.answer_without rfl ..) (State.complete_without rfl _ _ _ (s.spCommit_without ..))
  · refine State.onTicket_without fun t => State.ite_without (State.answer_without rfl ..) (State.ite_without (State.answer_without rfl ..) ?_)
    have hset : ∀ v w, (State.complete (State.logParam { s with sf := { s.sf with password := v, replace := w } } t.role 0xFFFF 0 0) t St.ok).without
        { sf := true, host := true } = s.without { sf := true, host := true } := fun v w =>
      State.complete_without rfl _ _ _ (State.logParam_without _ rfl ..)
    have hfail : (s.pwFail t).without { sf := true, host := true } = s.without { sf := true, host := true } := s.pwFail_without rfl rfl t
    split
    · exact State.ite_without (hset _ _) hfail
    · refine State.ite_without (State.ite_without (hset _ _) hfail) (State.ite_without (hset _ _) ?_)
      split
      · exact State.ite_without (hset _ _) hfail
      · exact hfail
  · exact State.ite_without rfl rfl
  · split
    · exact State.ite_without rfl rfl
    · rfl

/-- R279-R288: commands on the outputs. -/
theorem outputCommands_leave {s u : State}
    (h : (∃ a, exec (.blankingEnd a) s = .next u) ∨ (∃ a b, exec (.retryDelayEnd a b) s = .next u) ∨ (∃ a, exec (.usedReset a) s = .next u) ∨
     (∃ a b, exec (.offStateTest a b) s = .next u) ∨ (∃ a b, exec (.vswUndervoltage a b) s = .next u) ∨ (∃ a b, exec (.vswRestored a b) s = .next u) ∨
     (∃ a b, exec (.vswRise a b) s = .next u)) :
    u = s.but { po := true } u := by
  obtain ⟨_, h⟩ | ⟨_, _, h⟩ | ⟨_, h⟩ | ⟨_, _, h⟩ | ⟨_, _, h⟩ | ⟨_, _, h⟩ | ⟨_, _, h⟩ := h
  all_goals refine State.eq_but_of_without _ h rfl ?_
  · exact State.ite_without rfl rfl
  · exact State.ite_without (State.ite_without ((State.restart_without _ rfl _).trans (s.onCh_without rfl ..)) (s.onCh_without rfl ..)) rfl
  · split
    · exact State.ite_without rfl rfl
    · rfl
  · exact State.ite_without rfl ((State.evOpen_without _ rfl ..).trans (s.onCh_without rfl ..))
  · refine State.ite_without rfl ((State.evUv_without _ _ _ _).trans ((State.driveDie_without _ ?_ _).trans (State.onDie_without _ ?_ _ _))) <;> rfl
  · refine State.ite_without rfl ((State.evUv_without _ _ _ _).trans ((State.driveDie_without _ ?_ _).trans (State.onDie_without _ ?_ _ _))) <;> rfl
  · refine State.ite_without rfl ((State.foldl_without (fun v k => ?_) _ _).trans (State.onDie_without _ rfl _ _))
    exact (State.drive_without _ rfl _).trans (v.onCh_without rfl ..)

/-- R293-R306: commands on the sides and their change. -/
theorem sideCommands_leave {s u : State}
    (h : (∃ a b, exec (.heartbeat a b) s = .next u) ∨ (∃ a, exec (.holderLatchLost a) s = .next u) ∨ exec .counterproofDue s = .next u ∨
     exec .swapPostpone s = .next u ∨ exec .revertDelayEnd s = .next u ∨ exec .swapConditionsMet s = .next u ∨
     exec .protectedTicketWaitEnd s = .next u ∨ (∃ a, exec (.rdSwap a) s = .next u) ∨ exec .rdSwapTimeout s = .next u ∨
     exec .standbyRestartTimeout s = .next u) :
    u = s.but { rd := true, host := true } u := by
  obtain ⟨_, _, h⟩ | ⟨_, h⟩ | h | h | h | h | h | ⟨_, h⟩ | h | h := h
  all_goals refine State.eq_but_of_without _ h rfl ?_
  · exact State.ite_without (State.ite_without rfl rfl) (State.ite_without rfl (State.ite_without (State.ite_without rfl rfl) (State.ite_without rfl rfl)))
  · exact State.ite_without rfl rfl
  · exact State.ite_without rfl rfl
  · split
    · exact State.ite_without rfl rfl
    · rfl
  · exact State.ite_without rfl rfl
  · split
    · refine State.ite_without ?_ rfl
      dsimp only
      split
      · exact (State.onTicket_without fun t => State.answer_without rfl ..).trans rfl
      · rfl
    · rfl
  · split
    · exact State.ite_without rfl rfl
    · rfl
  · refine State.onTicket_without fun t => State.ite_without (State.answer_without rfl ..) (State.ite_without (State.answer_without rfl ..) ?_)
    split
    · exact State.ite_without rfl (State.ite_without (State.answer_without rfl ..) rfl)
    · rfl
  · split
    · split
      · exact State.ite_without ((State.onTicket_without fun t => State.answer_without rfl ..).trans rfl) rfl
      · rfl
    · rfl
  · split
    · exact State.ite_without ((State.onTicket_without fun t => State.answer_without rfl ..).trans rfl) rfl
    · rfl

/-! ### The standby side -/

theorem State.setStandby_without {m : Parts} (hrd : m.rd = true) (hrs : m.rs = true) (s : State) (code kind mismatch : Nat) :
    (s.setStandby code kind mismatch).without m = s.without m := by
  simp only [State.without, State.setStandby, State.evStandby, State.evMod, State.raise, hrd, hrs, cond_true]

/-- R294-R306, R522: commands on the standby side and on the holder latch. -/
theorem standbyCommands_leave {s u : State}
    (h : (∃ a, exec (.linkFault a) s = .next u) ∨ exec .failedSideRelease s = .next u ∨ (∃ a, exec (.rdStandbyRestart a) s = .next u) ∨
     (∃ a, exec (.rdRelease a) s = .next u) ∨ exec .holderLatchClaim s = .next u) :
    u = s.but { rd := true, rs := true, host := true } u := by
  obtain ⟨_, h⟩ | h | ⟨_, h⟩ | ⟨_, h⟩ | h := h
  all_goals refine State.eq_but_of_without _ h rfl ?_
  · exact State.ite_without rfl (State.ite_without ((State.setStandby_without rfl rfl _ _ _ _).trans rfl) rfl)
  · split
    · exact State.ite_without (s.setStandby_without rfl rfl ..) rfl
    · rfl
  · refine State.onTicket_without fun t => State.ite_without (State.answer_without rfl ..) (State.ite_without (State.answer_without rfl ..) ?_)
    split
    · exact State.ite_without rfl (State.answer_without rfl ..)
    · exact (State.setStandby_without rfl rfl _ _ _ _).trans rfl
  · exact State.onTicket_without fun t => State.ite_without (State.answer_without rfl ..)
      (State.ite_without (State.complete_without rfl _ _ _ (s.setStandby_without rfl rfl ..)) (State.answer_without rfl ..))
  · exact State.ite_without rfl rfl

end Sys2Proof.Machine
end

section
/-! PROOFS. AccountFrames.lean: what the commands on accounts and on COSEM leave as it was. -/
namespace Sys2Proof.Machine


section
variable {m : Parts} (s : State)

theorem State.putCell_without (hm : m.ac = true) (c : Nat) (v : Cell) : (s.putCell c v).without m = s.without m := by
  simp only [State.without, State.putCell, hm, cond_true]

theorem State.evAt_without (cls : EvClass) (n code : Nat) (b : Bytes) (flags : Nat) : (s.evAt cls n code b flags).without m = s.without m :=
  State.ite_without rfl rfl

/-- R337: a cell that is written changes the accounts alone. -/
theorem State.writeCell_without (hm : m.ac = true) (c : Nat) (v : Cell) (n : Nat) : (s.writeCell c v n).without m = s.without m := by
  have hput : ∀ w x, ((s.putCell c w).putCell c x).without m = s.without m := fun w x =>
    (State.putCell_without _ hm ..).trans (s.putCell_without hm ..)
  exact State.ite_without ((State.evAt_without ..).trans (hput _ _)) (hput _ _)

theorem State.accounted_without (hm : m.ac = true) (ac : Ac) : ({ s with ac := ac } : State).without m = s.without m := by
  simp only [State.without, hm, cond_true]

/-- R346: a debit changes the accounts alone. -/
theorem State.debit_without (hm : m.ac = true) (n : Nat) (c : Charge) (d : Int) (f : Cell → Cell) : (s.debit n c d f).1.without m = s.without m :=
  (State.writeCell_without _ hm ..).trans (s.accounted_without hm _)

theorem State.debitSecond_without (hm : m.ac = true) (n : Nat) (c : Charge) : (s.debitSecond n c).1.without m = s.without m :=
  s.debit_without hm ..

theorem State.credCommit_without (hm : m.ac = true) (l : List CredEnt) : (s.credCommit l).without m = s.without m :=
  s.accounted_without hm _

end

/-- R341-R357, R452: commands on the accounts. -/
theorem accountCommands_leave {s u : State}
    (h : exec .accountDebit s = .next u ∨ exec .friendlyStart s = .next u ∨ exec .priceActivation s = .next u ∨
     exec .bulkApplyEnd s = .next u ∨ (∃ a, exec (.acCellWrite a) s = .next u) ∨ (∃ a, exec (.acCredit a) s = .next u) ∨
     (∃ a, exec (.acCredWrite a) s = .next u) ∨ (∃ a, exec (.acClassWrite a) s = .next u) ∨ (∃ a, exec (.acPriceLoad a) s = .next u) ∨
     (∃ a, exec (.acFriendlyWrite a) s = .next u) ∨ (∃ a, exec (.acCustodyBind a) s = .next u) ∨ exec .credentialIndexRebuild s = .next u) :
    u = s.but { ac := true, host := true } u := by
  obtain h | h | h | h | ⟨_, h⟩ | ⟨_, h⟩ | ⟨_, h⟩ | ⟨_, h⟩ | ⟨_, h⟩ | ⟨_, h⟩ | ⟨_, h⟩ | h := h
  all_goals refine State.eq_but_of_without _ h rfl ?_
  · refine (State.foldl_without (fun v n => ?_) _ _).trans (State.foldl_without (fun v n => ?_) _ _)
    all_goals
      split
      · exact State.ite_without ((State.accounted_without _ rfl _).trans (v.debitSecond_without rfl ..)) rfl
      · rfl
  · exact State.ite_without rfl rfl
  · split
    · exact State.ite_without rfl rfl
    · rfl
  · split
    · exact State.ite_without rfl rfl
    · rfl
  · refine State.onTicket_without fun t => ?_
    dsimp only
    split
    · exact State.ite_without (State.answer_without rfl ..) (State.complete_without rfl _ _ _ (s.writeCell_without rfl ..))
    · exact State.answer_without rfl ..
    · exact State.answer_without rfl ..
  · refine State.onTicket_without fun t => State.ite_without (State.answer_without rfl ..) (State.ite_without (State.answer_without rfl ..) ?_)
    split
    · exact State.complete_without rfl _ _ _ rfl
    · refine State.ite_without (State.answer_without rfl ..) (State.complete_without rfl _ _ _ ((State.accounted_without _ rfl _).trans ?_))
      exact State.writeCell_without _ rfl ..
  · refine State.onTicket_without fun t => ?_
    dsimp only
    split
    · exact State.answer_without rfl ..
    · have hput : ∀ l b, ((s.credCommit l).complete t St.ok b).without { ac := true, host := true } = s.without { ac := true, host := true } :=
        fun l b => State.complete_without rfl _ _ _ (s.credCommit_without rfl l)
      split
      · exact State.ite_without (State.answer_without rfl ..) (State.ite_without (State.answer_without rfl ..) (hput _ _))
      · exact State.ite_without (State.answer_without rfl ..) (hput _ _)
      · exact State.ite_without (State.answer_without rfl ..) (hput _ _)
      · exact hput _ _
      · exact State.answer_without rfl ..
  · exact State.onTicket_without fun t => State.ite_without (State.answer_without rfl ..) (State.complete_without rfl _ _ _ rfl)
  · exact State.onTicket_without fun t => State.ite_without (State.answer_without rfl ..) (State.ite_without (State.answer_without rfl ..)
      (State.ite_without (State.answer_without rfl ..) (State.ite_without (State.answer_without rfl ..) (State.complete_without rfl _ _ _ rfl))))
  · exact State.onTicket_without fun t => State.ite_without (State.answer_without rfl ..) (State.ite_without (State.answer_without rfl ..)
      (State.complete_without rfl _ _ _ rfl))
  · refine State.onTicket_without fun t => State.ite_without (State.answer_without rfl ..) (State.ite_without (State.answer_without rfl ..)
      (State.complete_without rfl _ _ _ ((State.accounted_without _ rfl _).trans ?_)))
    split
    · exact s.debit_without rfl ..
    · rfl
  · rfl

/-! ### COSEM (R360-R375) -/

section
variable {m : Parts} (s : State)

theorem State.metered_without (hm : m.cosem = true) (c : Cosem) : ({ s with cosem := c } : State).without m = s.without m := by
  simp only [State.without, hm, cond_true]

theorem State.releaseAssoc_without (hm : m.cosem = true) (a : Assoc) (reason : Nat) : (s.releaseAssoc a reason).without m = s.without m :=
  s.metered_without hm _

theorem State.cosemReply_without (hm : m.cosem = true) (transport client : Nat) (b : Bytes) :
    (s.cosemReply transport client b).without m = s.without m := s.metered_without hm _

theorem State.onAssoc_without (hm : m.cosem = true) (transport client : Nat) (f : Assoc → Assoc) :
    (s.onAssoc transport client f).without m = s.without m := s.metered_without hm _

theorem State.cosemBlock_without (hm : m.cosem = true) (transport client room : Nat) (b : Bytes) :
    (s.cosemBlock transport client room b).without m = s.without m :=
  State.ite_without ((State.cosemReply_without _ hm ..).trans (s.onAssoc_without hm ..))
    ((State.cosemReply_without _ hm ..).trans (s.onAssoc_without hm ..))

/-- R363: an APDU leaves the parts outside COSEM and the host sessions when what it asks leaves them. -/
theorem State.cosemApdu_without (hm : m.cosem = true) (hhost : m.host = true) {transport client ctr : Nat} {ok : Bool} {f : State → Assoc → State}
    (hf : ∀ v a, (f v a).without m = v.without m) : (s.cosemApdu transport client ctr ok f).without m = s.without m := by
  rw [State.cosemApdu]
  split
  · rfl
  · refine State.ite_without rfl (State.ite_without (State.onPort_without hhost ..) ((hf _ _).trans ?_))
    have hassoc : ∀ g, (s.onAssoc transport client g).without m = s.without m := fun g => s.onAssoc_without hm ..
    have hlink : ∀ {c : Prop} [Decidable c] g x, (if c then { s.onAssoc transport client g with cosem := x }
        else s.onAssoc transport client g).without m = s.without m := fun g x =>
      State.ite_without ((State.metered_without _ hm _).trans (hassoc g)) (hassoc g)
    exact State.ite_without (hlink _ _) ((State.metered_without _ hm _).trans (hlink _ _))

end

/-- R360-R375: commands on the COSEM associations. -/
theorem cosemCommands_leave {s u : State}
    (h : (∃ a, exec (.hdlcSnrm a) s = .next u) ∨ exec .hdlcLinkTimeout s = .next u ∨ (∃ a b c d e, exec (.get a b c d e) s = .next u) ∨
     (∃ a b, exec (.releaseRequest a b) s = .next u) ∨ (∃ a b, exec (.associationInactivity a b) s = .next u) ∨ exec .cosemLockoutEnd s = .next u) :
    u = s.but { cosem := true, host := true } u := by
  obtain ⟨_, h⟩ | h | ⟨_, _, _, _, _, h⟩ | ⟨_, _, h⟩ | ⟨_, _, h⟩ | h := h
  all_goals refine State.eq_but_of_without _ h rfl ?_
  · rfl
  · exact State.ite_without ((State.foldl_without (fun v a => v.releaseAssoc_without rfl ..) _ _).trans (s.metered_without rfl _)) rfl
  · refine s.cosemApdu_without rfl rfl fun v a => ?_
    split
    · exact v.cosemBlock_without rfl ..
    · split
      · exact v.cosemBlock_without rfl ..
      · exact v.cosemReply_without rfl ..
  · split
    · exact State.ite_without (s.releaseAssoc_without rfl ..) rfl
    · rfl
  · split
    · exact State.ite_without (s.releaseAssoc_without rfl ..) rfl
    · rfl
  · rfl

end Sys2Proof.Machine
end

section
/-! PROOFS. VaultFrames.lean: what the commands on the key vault and the Kryuz link leave as it was. -/
namespace Sys2Proof.Machine


section
variable {m : Parts} (s : State)

theorem State.vaulted_without (hm : m.kv = true) (kv : Kv) : ({ s with kv := kv } : State).without m = s.without m := by
  simp only [State.without, hm, cond_true]

theorem State.vaultReq_without (hm : m.host = true) {t : Ticket} {f : KvNode → State} (h : ∀ x, (f x).without m = s.without m) :
    (s.vaultReq t f).without m = s.without m := by
  rw [State.vaultReq]
  split
  · exact State.answer_without hm ..
  · exact State.ite_without (h _) (State.answer_without hm ..)

/-- R378, R390: a request on a node answers ORPHANED and counts, or does what it asks. -/
theorem State.keyed_without (hkv : m.kv = true) (hm : m.host = true) {t : Ticket} {n : Nat} {f : State} (h : f.without m = s.without m) :
    (s.keyed t n f).without m = s.without m :=
  State.ite_without (State.complete_without hm _ _ _ (s.vaulted_without hkv _)) h

theorem State.onNode_without (hm : m.kv = true) (n : Nat) (f : KvNode → KvNode) : (s.onNode n f).without m = s.without m :=
  s.vaulted_without hm _

theorem State.renewNode_without (hm : m.kv = true) (n g : Nat) : (s.renewNode n g).without m = s.without m := s.vaulted_without hm _

theorem State.evKv_without (code : Nat) (b : Bytes) (flags : Nat) : (s.evKv code b flags).without m = s.without m := rfl

theorem State.setAnchor_without (hm : m.kv = true) (slot : Nat) (key : Bytes) : (s.setAnchor slot key).without m = s.without m :=
  s.vaulted_without hm _

/-- R379: a signature changes the vault and draws. -/
theorem State.signed_without (hm : m.kv = true) (hdraws : m.draws = true) (n : Nat) : (s.signed n).without m = s.without m :=
  State.ite_without (s.vaulted_without hm _) ((State.drawn_without _ hdraws).trans (s.vaulted_without hm _))

/-- R383: a root that is retired changes the vault and draws. -/
theorem State.retireRoot_without (hm : m.kv = true) (hdraws : m.draws = true) : s.retireRoot.without m = s.without m := by
  rw [State.retireRoot]
  split
  · rfl
  · refine (State.drawn_without _ hdraws).trans ((State.evKv_without _ _ _ _).trans ((State.renewNode_without _ hm ..).trans ?_))
    exact (State.onNode_without _ hm ..).trans (s.vaulted_without hm _)

end

/-- R376-R388: commands on the nodes, the anchors, the objects and the health of the random source. -/
theorem vaultCommands_leave {s u : State}
    (h : (∃ a, exec (.kvNodeCreate a) s = .next u) ∨ (∃ a, exec (.kvNodeInvalidate a) s = .next u) ∨ (∃ a, exec (.kvNodeRenew a) s = .next u) ∨
     (∃ a, exec (.kvNodeDelete a) s = .next u) ∨ (∃ a, exec (.kvNodeRead a) s = .next u) ∨ (∃ a, exec (.kvCertStore a) s = .next u) ∨
     (∃ a, exec (.kvAnchorSet a) s = .next u) ∨ exec .rootRetireWindowEnd s = .next u ∨ (∃ a, exec (.kvObjectStore a) s = .next u) ∨
     (∃ a b, exec (.healthTest a b) s = .next u)) :
    u = s.but { kv := true, host := true } u := by
  obtain ⟨_, h⟩ | ⟨_, h⟩ | ⟨_, h⟩ | ⟨_, h⟩ | ⟨_, h⟩ | ⟨_, h⟩ | ⟨_, h⟩ | h | ⟨_, h⟩ | ⟨_, _, h⟩ := h
  all_goals refine State.eq_but_of_without _ h rfl ?_
  · refine State.onTicket_without fun t => ?_
    dsimp only
    split
    · exact State.answer_without rfl ..
    · refine State.ite_without (State.answer_without rfl ..) (State.ite_without (State.answer_without rfl ..)
        (State.ite_without (State.answer_without rfl ..) ?_))
      split
      · exact State.answer_without rfl ..
      · exact State.complete_without rfl _ _ _ ((State.evKv_without _ _ _ _).trans (s.vaulted_without rfl _))
  · refine State.onTicket_without fun t => State.ite_without (State.answer_without rfl ..) (s.vaultReq_without rfl fun x => ?_)
    exact State.complete_without rfl _ _ _ ((State.evKv_without _ _ _ _).trans (s.onNode_without rfl ..))
  · refine State.onTicket_without fun t => s.vaultReq_without rfl fun x => ?_
    split
    · exact State.ite_without (State.answer_without rfl ..)
        (State.complete_without rfl _ _ _ ((State.evKv_without _ _ _ _).trans (s.renewNode_without rfl ..)))
    · exact State.answer_without rfl ..
  · exact State.onTicket_without fun t => State.ite_without (State.answer_without rfl ..) (s.vaultReq_without rfl fun x =>
      State.ite_without (State.answer_without rfl ..) (State.complete_without rfl _ _ _ (s.vaulted_without rfl _)))
  · refine State.onTicket_without fun t => ?_
    split
    · exact State.answer_without rfl ..
    · exact State.ite_without (s.keyed_without rfl rfl (State.answer_without rfl ..)) (State.answer_without rfl ..)
  · exact State.onTicket_without fun t => s.vaultReq_without rfl fun x => State.ite_without (State.answer_without rfl ..)
      (s.keyed_without rfl rfl (State.ite_without (State.complete_without rfl _ _ _ (s.onNode_without rfl ..)) (State.answer_without rfl ..)))
  · exact State.onTicket_without fun t => State.ite_without (State.answer_without rfl ..) (State.ite_without (State.answer_without rfl ..)
      (State.ite_without (State.answer_without rfl ..) (State.ite_without (State.answer_without rfl ..)
        (State.complete_without rfl _ _ _ ((State.evKv_without _ _ _ _).trans (s.setAnchor_without rfl ..))))))
  · split
    · exact State.ite_without rfl rfl
    · rfl
  · refine State.onTicket_without fun t => s.vaultReq_without rfl fun x => State.ite_without (State.answer_without rfl ..)
      (s.keyed_without rfl rfl ?_)
    have hslot : ∀ o : Option Nat, (match o with
        | none => s.complete t St.noResource
        | some k => ({ s.onNode x.node fun x => { x with object := some k } with
            kv := { (s.onNode x.node fun x => { x with object := some k }).kv with
              objects := (k, x.node, t.rest 2) :: (s.onNode x.node fun x => { x with object := some k }).kv.objects.filter fun o => o.1 != k } } :
              State).complete t St.ok (leBytes 1 k)).without
        { kv := true, host := true } = s.without { kv := true, host := true } := fun o => by
      split
      · exact State.answer_without rfl ..
      · exact State.complete_without rfl _ _ _ ((State.vaulted_without _ rfl _).trans (s.onNode_without rfl ..))
    exact hslot _
  · exact State.ite_without (State.ite_without rfl rfl) (State.ite_without rfl (State.ite_without rfl rfl))

/-- R379-R388: the commands on the vault that draw from the random source. -/
theorem drawingVaultCommands_leave {s u : State}
    (h : (∃ a, exec (.kvCsr a) s = .next u) ∨ (∃ a, exec (.kvRootRetire a) s = .next u) ∨ (∃ a, exec (.kvSign a) s = .next u) ∨
     exec .drbgReseed s = .next u ∨ (∃ a, exec (.maskRotation a) s = .next u)) :
    u = s.but { kv := true, draws := true, host := true } u := by
  obtain ⟨_, h⟩ | ⟨_, h⟩ | ⟨_, h⟩ | h | ⟨_, h⟩ := h
  all_goals refine State.eq_but_of_without _ h rfl ?_
  · exact State.onTicket_without fun t => s.vaultReq_without rfl fun x => State.ite_without (State.answer_without rfl ..)
      (s.keyed_without rfl rfl (s.keyed_without rfl rfl (State.complete_without rfl _ _ _ (s.signed_without rfl rfl _))))
  · refine State.onTicket_without fun t => State.ite_without (State.answer_without rfl ..) (State.ite_without ?_ ?_)
    · exact State.complete_without rfl _ _ _ (s.retireRoot_without rfl rfl)
    · exact State.complete_without rfl _ _ _ ((State.evKv_without _ _ _ _).trans (s.vaulted_without rfl _))
  · refine State.onTicket_without fun t => ?_
    split
    · exact State.answer_without rfl ..
    · exact State.ite_without (State.answer_without rfl ..) (State.ite_without (State.answer_without rfl ..)
        (State.ite_without (State.answer_without rfl ..)
          (s.keyed_without rfl rfl (State.complete_without rfl _ _ _ (s.signed_without rfl rfl _)))))
  · exact State.ite_without rfl rfl
  · exact State.ite_without rfl rfl

/-! ### The Kryuz link (R391-R412) -/

section
variable {m : Parts} (s : State)

theorem State.linked_without (hm : m.kz = true) (kz : Kz) : ({ s with kz := kz } : State).without m = s.without m := by
  simp only [State.without, hm, cond_true]

theorem State.kzAck_without (hm : m.kz = true) (dest : Nat) : (s.kzAck dest).without m = s.without m := s.linked_without hm _

theorem State.kzAcked_without (hm : m.kz = true) (p : KzTx → Bool) : (s.kzAcked p).without m = s.without m := s.linked_without hm _

theorem State.kzRetry_without (hm : m.kz = true) (x y : KzTx) : (s.kzRetry x y).without m = s.without m :=
  (State.linked_without _ hm _).trans (s.linked_without hm _)

theorem State.kzRelease_without (hm : m.kz = true) (addr : Nat) : (s.kzRelease addr).without m = s.without m :=
  State.foldl_without (fun v _ => v.kzRetry_without hm ..) _ _

theorem State.onKzNode_without (hm : m.kz = true) (eui : Nat) (f : KzNode → KzNode) : (s.onKzNode eui f).without m = s.without m :=
  s.linked_without hm _

theorem State.evKz_without (cls : EvClass) (code : Nat) (b : Bytes) : (s.evKz cls code b).without m = s.without m := rfl

theorem State.nodeSector_without (hm : m.kz = true) (eui sector : Nat) : (s.nodeSector eui sector).without m = s.without m := by
  rw [State.nodeSector]
  split
  · exact State.ite_without rfl ((State.evKz_without _ _ _ _).trans (s.onKzNode_without hm ..))
  · rfl

/-- R395: a frame that is received changes the link alone. -/
theorem State.kzReceive_without (hm : m.kz = true) (f : KzFrame) (expected : Bool) : (s.kzReceive f expected).2.without m = s.without m := by
  have hheard : (s.kzHeard f).without m = s.without m := s.linked_without hm _
  rw [State.kzReceive]
  simp only [apply_ite Prod.snd]
  refine State.ite_without rfl (State.ite_without (s.linked_without hm _) (State.ite_without (s.linked_without hm _)
    (State.ite_without (s.linked_without hm _) (State.ite_without (s.linked_without hm _) ?_))))
  exact State.ite_without hheard (State.ite_without ((State.linked_without _ hm _).trans hheard) ((State.linked_without _ hm _).trans hheard))

/-- R395, R396: a frame leaves the parts outside the link when what it does leaves them. -/
theorem State.kzFrame_without (hm : m.kz = true) {f : KzFrame} {expected ack : Bool} {act : State → State}
    (hact : ∀ v, (act v).without m = v.without m) : (s.kzFrame f expected ack act).without m = s.without m := by
  have hrx : ∀ {r v}, s.kzReceive f expected = (r, v) → v.without m = s.without m := fun h => by
    simpa only [h] using s.kzReceive_without hm f expected
  rw [State.kzFrame]
  split
  · next h => exact (hact _).trans (State.ite_without ((State.kzAck_without _ hm _).trans (hrx h)) (hrx h))
  · next h => exact hrx h

theorem State.peerBound_without (hm : m.kz = true) (hhost : m.host = true) (x : KzTx) : (s.peerBound x).without m = s.without m := by
  refine State.ite_without rfl ?_
  split
  · exact (State.onTicket_without fun t => State.answer_without hhost ..).trans (s.linked_without hm _)
  · rfl

end

/-- R391-R412: commands on the Kryuz link. -/
theorem linkCommands_leave {s u : State}
    (h : (∃ a, exec (.ack a) s = .next u) ∨ (∃ a, exec (.ackTimeout a) s = .next u) ∨ exec .joinRetryWaitEnd s = .next u ∨
     (∃ a, exec (.presence a) s = .next u) ∨ (∃ a, exec (.nodeDeparture a) s = .next u) ∨ (∃ a b, exec (.kryuzLoadMeasure a b) s = .next u) ∨
     (∃ a, exec (.distStatus a) s = .next u) ∨ (∃ a, exec (.kzCountClear a) s = .next u) ∨ exec .peerBindTimeout s = .next u ∨
     exec .zcEdge s = .next u) :
    u = s.but { kz := true, host := true } u := by
  obtain ⟨_, h⟩ | ⟨_, h⟩ | h | ⟨f, h⟩ | ⟨_, h⟩ | ⟨_, _, h⟩ | ⟨_, h⟩ | ⟨_, h⟩ | h | h := h
  all_goals refine State.eq_but_of_without _ h rfl ?_
  · split
    · refine State.ite_without ((State.peerBound_without _ rfl rfl _).trans ((State.kzAcked_without _ rfl _).trans ?_)) rfl
      exact s.linked_without rfl _
    · rfl
  · split
    · refine State.ite_without rfl ?_
      split
      · exact State.ite_without (s.kzRetry_without rfl ..) rfl
      · exact State.ite_without rfl (State.ite_without (s.linked_without rfl _)
          (State.ite_without (s.kzRetry_without rfl ..) (s.kzRetry_without rfl ..)))
    · rfl
  · split
    · exact State.ite_without rfl rfl
    · rfl
  · have hrx := s.kzReceive_without (m := { kz := true, host := true }) rfl f (s.kz.master && s.kzLive.any fun x => x.eui == f.eui)
    dsimp only
    generalize s.kzReceive f (s.kz.master && s.kzLive.any fun x => x.eui == f.eui) = q at hrx ⊢
    obtain ⟨r, t⟩ := q
    have hpairs : ∀ {c d : Prop} [Decidable c] [Decidable d] (kz : Kz),
        (if c then t else if d then { t with kz := kz } else ({ t with kz := kz } : State).kzRelease f.src).without { kz := true, host := true } =
          s.without { kz := true, host := true } := fun kz =>
      State.ite_without hrx (State.ite_without ((t.linked_without rfl kz).trans hrx)
        ((State.kzRelease_without _ rfl _).trans ((t.linked_without rfl kz).trans hrx)))
    refine State.ite_without ((State.onKzNode_without _ rfl _ _).trans ?_) (hpairs _)
    exact (State.nodeSector_without _ rfl _ _).trans ((State.kzAck_without _ rfl _).trans (hpairs _))
  · split
    · exact State.ite_without ((State.evKz_without _ _ _ _).trans (s.onKzNode_without rfl ..)) rfl
    · rfl
  · exact State.ite_without rfl (State.ite_without rfl rfl)
  · refine s.kzFrame_without rfl fun v => ?_
    dsimp only
    split
    · refine State.ite_without (v.kzAcked_without rfl _) ((State.linked_without _ rfl _).trans (v.kzAcked_without rfl _))
    · exact v.kzAcked_without rfl _
  · exact State.onTicket_without fun t => State.complete_without rfl _ _ _ rfl
  · split
    · exact State.ite_without ((State.onTicket_without fun t => State.answer_without rfl ..).trans (s.linked_without rfl _)) rfl
    · rfl
  · rfl

end Sys2Proof.Machine
end

section
/-! PROOFS. ModuleFrames.lean: what the commands on tags, displays, power, update and memory leave as it was, and the clauses together. -/
namespace Sys2Proof.Machine


section
variable {m : Parts} (s : State)

theorem State.tagged_without (hm : m.tg = true) (tg : Tg) : ({ s with tg := tg } : State).without m = s.without m := by
  simp only [State.without, hm, cond_true]

theorem State.carrierOff_without (hm : m.tg = true) : s.carrierOff.without m = s.without m := s.tagged_without hm _

theorem State.onTgp_without (hm : m.tg = true) (p : Nat) (f : TgPort → TgPort) : (s.onTgp p f).without m = s.without m := s.tagged_without hm _

theorem State.onPanel_without (hm : m.ds = true) (p : Nat) (f : Panel → Panel) : (s.onPanel p f).without m = s.without m := by
  simp only [State.without, State.onPanel, hm, cond_true]

theorem State.proof_without (hm : m.ds = true) (p result : Nat) : (s.proof p result).without m = s.without m :=
  State.ite_without (s.onPanel_without hm p _) (s.onPanel_without hm p _)

/-- R464: an entry that starts, or is refused, changes the power part and answers. -/
theorem State.entryStarts_without (hpw : m.pw = true) (hm : m.host = true) (target port : Nat) (t : Option Ticket) :
    (s.entryStarts target port t).without m = s.without m := by
  have hpower : ∀ pw : Pw, ({ s with pw := pw } : State).without m = s.without m := fun pw => by simp only [State.without, hpw, cond_true]
  refine State.ite_without (hpower _) ?_
  split
  · exact State.complete_without hm _ _ _ (hpower _)
  · exact hpower _

theorem State.updated_without (hm : m.up = true) (up : Up) : ({ s with up := up } : State).without m = s.without m := by
  simp only [State.without, hm, cond_true]

theorem State.onXfer_without (hm : m.up = true) (num : Nat) (f : Xfer → Xfer) : (s.onXfer num f).without m = s.without m := s.updated_without hm _

theorem State.onUps_without (hm : m.up = true) (x : Nat) (f : UpSide → UpSide) : (s.onUps x f).without m = s.without m := s.updated_without hm _

theorem State.evUp_without (code : Nat) (b : Bytes) : (s.evUp code b).without m = s.without m := rfl

theorem State.closeXfer_without (hm : m.up = true) (num reason : Nat) : (s.closeXfer num reason).without m = s.without m :=
  s.updated_without hm _

/-- R476: the check of a transfer changes the transfers alone. -/
theorem State.checkXfer_without (hm : m.up = true) (num : Nat) : (s.checkXfer num).without m = s.without m := by
  rw [State.checkXfer]
  split
  · exact State.ite_without rfl (State.ite_without ((State.evUp_without _ _ _).trans (s.onXfer_without hm ..))
      ((State.evUp_without _ _ _).trans (s.onXfer_without hm ..)))
  · rfl

theorem State.openXfer_without (hm : m.up = true) (kind size : Nat) (hash : Bytes) : (s.openXfer kind size hash).without m = s.without m := by
  refine (State.evUp_without _ _ _).trans ((State.updated_without _ hm _).trans ?_)
  have hclosed : ∀ {c : Prop} [Decidable c] (o : Option Xfer), (if c then (match o with
      | some y => s.closeXfer y.num 4
      | none => s) else s).without m = s.without m := fun o => by
    refine State.ite_without ?_ rfl
    split
    · exact s.closeXfer_without hm ..
    · rfl
  exact State.ite_without ((State.updated_without _ hm _).trans (hclosed _)) (hclosed _)

theorem State.startApply_without (hm : m.up = true) (x : Xfer) (side path tk : Nat) : (s.startApply x side path tk).without m = s.without m :=
  (State.onUps_without _ hm ..).trans (s.onXfer_without hm ..)

end

/-- R416-R428: commands on the tag reader. -/
theorem tagCommands_leave {s u : State}
    (h : exec .carrierOffEnd s = .next u ∨ (∃ a, exec (.tagPortFault a) s = .next u) ∨ (∃ a, exec (.portFaultEnd a) s = .next u) ∨
     (∃ a, exec (.tgInventory a) s = .next u) ∨ (∃ a, exec (.tgWrite a) s = .next u) ∨ (∃ a, exec (.tgCountClear a) s = .next u) ∨
     exec .receiveFramesReturn s = .next u) :
    u = s.but { tg := true, host := true } u := by
  obtain h | ⟨_, h⟩ | ⟨_, h⟩ | ⟨_, h⟩ | ⟨_, h⟩ | ⟨_, h⟩ | h := h
  all_goals refine State.eq_but_of_without _ h rfl ?_
  · refine State.ite_without ?_ rfl
    split
    · rfl
    · rfl
  · have hoff : s.carrierOff.without { tg := true, host := true } = s.without { tg := true, host := true } := s.carrierOff_without rfl
    exact State.ite_without rfl (State.ite_without
      (State.ite_without ((State.evMod_without ..).trans ((State.tagged_without _ rfl _).trans hoff)) rfl)
      (State.ite_without ((State.evMod_without ..).trans ((State.onTgp_without _ rfl ..).trans hoff)) rfl))
  · split
    · exact State.ite_without rfl rfl
    · rfl
  · exact State.onTicket_without fun t => State.ite_without (State.answer_without rfl ..) (State.ite_without rfl
      (State.ite_without (State.answer_without rfl ..) rfl))
  · exact State.onTicket_without fun t => State.ite_without (State.answer_without rfl ..) (State.ite_without rfl
      (State.ite_without (State.answer_without rfl ..) (State.ite_without (State.answer_without rfl ..) rfl)))
  · exact State.onTicket_without fun t => State.ite_without (State.answer_without rfl ..) (State.complete_without rfl _ _ _ rfl)
  · exact State.ite_without rfl (State.ite_without rfl rfl)

/-- R433-R444: commands on the displays. -/
theorem displayCommands_leave {s u : State}
    (h : exec .railOffDelay s = .next u ∨ (∃ a b, exec (.ntcRead a b) s = .next u) ∨ (∃ a, exec (.dsDraw a) s = .next u) ∨
     (∃ a b, exec (.dsProof a b) s = .next u)) :
    u = s.but { ds := true, host := true } u := by
  obtain h | ⟨_, _, h⟩ | ⟨_, h⟩ | ⟨_, _, h⟩ := h
  all_goals refine State.eq_but_of_without _ h rfl ?_
  · split
    · exact State.ite_without rfl rfl
    · rfl
  · refine State.ite_without rfl ?_
    split
    · rfl
    · exact State.ite_without rfl rfl
  · exact State.onTicket_without fun t => State.ite_without rfl (State.ite_without (State.answer_without rfl ..)
      (State.ite_without (State.answer_without rfl ..) (State.ite_without (State.answer_without rfl ..)
        (State.ite_without (State.answer_without rfl ..) (State.ite_without (State.answer_without rfl ..) (s.onPanel_without rfl ..))))))
  · exact State.onTicket_without fun t => State.ite_without (State.answer_without rfl ..) (State.ite_without (State.answer_without rfl ..)
      (State.ite_without (State.answer_without rfl ..) (State.complete_without rfl _ _ _
        (State.foldl_without (fun v x => v.proof_without rfl ..) _ _))))

/-- R462-R469: commands on the power states. -/
theorem powerCommands_leave {s u : State}
    (h : exec .automaticPark s = .next u ∨ (∃ a, exec (.padholdRelease a) s = .next u) ∨ (∃ a, exec (.pwAlarmSet a) s = .next u) ∨
     (∃ a, exec (.pwCountClear a) s = .next u)) :
    u = s.but { pw := true, host := true } u := by
  obtain h | ⟨_, h⟩ | ⟨_, h⟩ | ⟨_, h⟩ := h
  all_goals refine State.eq_but_of_without _ h rfl ?_
  · exact State.ite_without (s.entryStarts_without rfl rfl ..) rfl
  · rfl
  · exact State.onTicket_without fun t => State.ite_without (State.answer_without rfl ..) (State.ite_without (State.answer_without rfl ..)
      (State.ite_without (State.answer_without rfl ..) (State.complete_without rfl _ _ _ rfl)))
  · exact State.onTicket_without fun t => State.complete_without rfl _ _ _ rfl

/-- R473-R483: commands on the field update. -/
theorem updateCommands_leave {s u : State}
    (h : (∃ a, exec (.upOpen a) s = .next u) ∨ (∃ a, exec (.upFragment a) s = .next u) ∨ (∃ a b c, exec (.fragmentBackgroundCopy a b c) s = .next u) ∨
     (∃ a, exec (.transferExpiry a) s = .next u) ∨ (∃ a, exec (.upCancel a) s = .next u) ∨ (∃ a b, exec (.upApply a b) s = .next u) ∨
     (∃ a, exec (.upRestore a) s = .next u) ∨ (∃ a, exec (.upCommit a) s = .next u)) :
    u = s.but { up := true, host := true } u := by
  obtain ⟨_, h⟩ | ⟨_, h⟩ | ⟨_, _, _, h⟩ | ⟨_, h⟩ | ⟨_, h⟩ | ⟨_, _, h⟩ | ⟨_, h⟩ | ⟨_, h⟩ := h
  all_goals refine State.eq_but_of_without _ h rfl ?_
  · exact State.onTicket_without fun t => State.ite_without (State.answer_without rfl ..) (State.ite_without (State.answer_without rfl ..)
      (State.complete_without rfl _ _ _ (s.openXfer_without rfl ..)))
  · refine State.onTicket_without fun t => ?_
    dsimp only
    split
    · exact State.answer_without rfl ..
    · refine State.ite_without (State.answer_without rfl ..) (State.ite_without (State.answer_without rfl ..)
        (State.ite_without (State.answer_without rfl ..) (State.ite_without (State.answer_without rfl ..) ?_)))
      exact (State.checkXfer_without _ rfl _).trans (State.complete_without rfl _ _ _ (s.onXfer_without rfl ..))
  · split
    · exact State.ite_without ((State.checkXfer_without _ rfl _).trans (s.onXfer_without rfl ..)) rfl
    · rfl
  · split
    · exact State.ite_without (s.closeXfer_without rfl ..) rfl
    · rfl
  · refine State.onTicket_without fun t => ?_
    split
    · exact State.answer_without rfl ..
    · exact State.ite_without (State.answer_without rfl ..) (State.complete_without rfl _ _ _ (s.closeXfer_without rfl ..))
  · refine State.onTicket_without fun t => ?_
    dsimp only
    split
    · exact State.answer_without rfl ..
    · exact State.ite_without (State.answer_without rfl ..) (State.ite_without rfl (State.ite_without (State.answer_without rfl ..)
        (State.ite_without (State.answer_without rfl ..) (State.ite_without (State.answer_without rfl ..) (s.startApply_without rfl ..)))))
  · refine State.onTicket_without fun t => State.ite_without (State.answer_without rfl ..) (State.ite_without rfl
      (State.ite_without (State.answer_without rfl ..) (State.ite_without (State.answer_without rfl ..) ?_)))
    split
    · exact State.answer_without rfl ..
    · exact s.onUps_without rfl ..
  · exact State.onTicket_without fun t => State.ite_without (State.complete_without rfl _ _ _ (s.updated_without rfl _)) (State.answer_without rfl ..)

/-- R451, R458: commands on the memories. -/
theorem memoryCommands_leave {s u : State}
    (h : (∃ a, exec (.mmCountClear a) s = .next u) ∨ (∃ a b, exec (.dramHot a b) s = .next u)) :
    u = s.but { mm := true, host := true } u := by
  obtain ⟨_, h⟩ | ⟨_, _, h⟩ := h
  all_goals refine State.eq_but_of_without _ h rfl ?_
  · exact State.onTicket_without fun t => State.complete_without rfl _ _ _ rfl
  · exact State.ite_without rfl rfl

/-- Settles O60: every clause is the frame of one part's commands. -/
theorem commandsLeaveTheOtherPartsUnchanged : Obligations.CommandsLeaveTheOtherPartsUnchanged := by
  unfold Obligations.CommandsLeaveTheOtherPartsUnchanged
  have hhost := fun (s u : State) h => Or.elim (by simpa only [or_assoc] using h) (sessionCommands_leave (s := s) (u := u)) fun h =>
    Or.elim h laneReads_leave fun h => Or.elim h registerReads_leave fun h => Or.elim h moduleReads_leave monitorCommands_leave
  exact ⟨hhost, fun _ _ => timeCommands_leave, fun _ _ => laneCommands_leave, fun _ _ => handshakeCommands_leave,
    fun _ _ => drawingHandshakeCommands_leave, fun _ _ => powerPathCommands_leave, fun _ _ => sharingCommands_leave,
    fun _ _ => earthFaultCommands_leave, fun _ _ => measurementCommands_leave, fun _ _ => energyCommands_leave, fun _ _ => safetyCommands_leave,
    fun _ _ => outputCommands_leave, fun _ _ => sideCommands_leave, fun _ _ => billingCommands_leave, fun _ _ => accountCommands_leave,
    fun _ _ => cosemCommands_leave, fun _ _ => vaultCommands_leave, fun _ _ => drawingVaultCommands_leave, fun _ _ => linkCommands_leave,
    fun _ _ => tagCommands_leave, fun _ _ => displayCommands_leave, fun _ _ => powerCommands_leave, fun _ _ => updateCommands_leave,
    fun _ _ => memoryCommands_leave, fun _ _ => standbyCommands_leave⟩

end Sys2Proof.Machine
end
